-- ==== Sys2Proof/Word.lean ====
section
/-! DEFINITION. The word types of the KG88H model: bytes and the 16, 32 and 64 bit words of its registers and of the structures it shares with the host (12_memory_formats.md). -/

namespace Sys2Proof

/-- A u8 of Memory Formats. -/
abbrev Byte := BitVec 8
/-- A u16 of Memory Formats. -/
abbrev Word16 := BitVec 16
/-- A u32 of Memory Formats, a register, a clock or a counter of 32 bits. -/
abbrev Word32 := BitVec 32
/-- A u64 of Memory Formats, a host address. -/
abbrev Word64 := BitVec 64

end Sys2Proof
end

