-- ==== Sys2Proof/Syntax.lean ====
section
/-! DEFINITION. The commands of the KG88H: one constructor for each row of spec/opcode_table.json, with the operands that the rule of the row makes it carry, and the types of those operands. -/

namespace Sys2Proof

/-- The levels of the input pins of Table 0-1 that no protocol carries. A footswitch level is true when HIGH (R53); every
other field is true when the input is ACTIVE, that is low (00_scope.md, Names). -/
structure Pins where
  fs1High : Bool
  fs2High : Bool
  jackLow : Bool
  home : Bool
  limNear : Bool
  limFar : Bool
  seated : Bool
  drvFault : Bool
  deriving DecidableEq, Repr

/-- What a device's reply to a management exchange carries (R3): a register value, or the acknowledgement of a write. How
the bytes of a reply spell it is not stated, so the content stands beside the bytes (log 11). -/
inductive ReplyContent where
  | value (v : Word16)
  | acknowledge
  deriving DecidableEq, Repr

/-- How a read of host memory ends on the link (R192): its completion brings the bytes read, or an error status. -/
inductive ReadOutcome where
  | data (bytes : List Byte)
  | error
  deriving DecidableEq, Repr

/-- A command of the block. A request row carries its board slot, its tag and its 24 argument bytes (R182, R201); an
arrival row carries the number of the read that arrives (log 5). -/
inductive Instr where
  /-- R193: Applying VSTBY gives every standby-domain and main-domain field its initial value and leaves the part DETACHED. -/
  | powerOnReset
  /-- R199: RESET_N going active or VMAIN returning resets the main domain, keeps the standby domain as Table 11-2 gives, ends any standby and starts the part up on its own. -/
  | mainReset
  /-- R199: Removing VMAIN during standby stops the main domain while the standby domain keeps scanning, waking and pulsing. -/
  | vmainRemoved
  /-- R178: A PCIe link reset or hot reset returns every register to its reset value, detaches the part if it was attached, exits standby, and ends in DETACHED. -/
  | portReset
  /-- R4: When the 1.5 ms reset hold expires, the lane reset line is released and the probe script starts with the IDENT read. -/
  | resetHoldEnd (lane : Fin 9)
  /-- R3: A device reply to a management exchange is CRC-checked and advances the probe script (IDENT check, LED write, STATUS poll, START); a late or abandoned reply is discarded. -/
  | managementReply (lane : Fin 9) (exchange : Nat) (content : ReplyContent) (body : List Byte) (crc : Byte)
  /-- R3: A management exchange with no good reply within 100 µs is sent again, and after the third attempt the probe step fails. -/
  | exchangeTimeout (lane : Fin 9)
  /-- R6: Every 250 µs a further STATUS read is made until READY is shown or 20 reads have been made. -/
  | statusPoll (lane : Fin 9)
  /-- R7: If 2 ms pass after the START write without a valid frame, the fourth probe step fails. -/
  | firstFrameTimeout (lane : Fin 9)
  /-- R9: A frame arriving on a lane is checked by CRC and sequence; a valid frame is counted, stamped and handed to the key tracker or the pedal block, and an erroneous one enters the error window. -/
  | laneFrame (lane : Fin 9) (bytes : List Byte)
  /-- R11: At the end of each 125 µs frame period an ACTIVE lane without a valid frame raises its silence count and enters RECOVERING at 16, and old periods leave the error window. -/
  | framePeriodEnd (lane : Fin 9)
  /-- R12: A lane's retry window closes 10 s after it opened and its recovery attempts return to 0. -/
  | retryWindowClose (lane : Fin 9)
  /-- R16: The request enables, disables, reprobes or queries one lane and returns its lane record. -/
  | laneControl (slot : Fin 32) (tag : Word16) (args : List Byte)
  /-- R34: The request sets key masks and lane LED levels, or only reports them. -/
  | senseConfig (slot : Fin 32) (tag : Word16) (args : List Byte)
  /-- R37: The request opens a calibration window over a key range, forcing up open notes and sending the keys to CALIBRATING. -/
  | calibrateKeys (slot : Fin 32) (tag : Word16) (args : List Byte)
  /-- R40: When the window's duration has passed, keys with enough travel are recalibrated, the records are written out, the request completes and a CALIB DONE record is handed. -/
  | calibWindowEnd
  /-- R41: The request ends an open calibration window without any change, and CALIBRATE_KEYS completes ABORTED. -/
  | calibAbort (slot : Fin 32) (tag : Word16) (args : List Byte)
  /-- R43: The request starts loading the velocity curve, the calibration table or the key map from host memory, or is refused. -/
  | tableLoad (slot : Fin 32) (tag : Word16) (args : List Byte)
  /-- R43: A CURVE or CALIB read arrives or fails; when all reads are in, the table is validated and applied. -/
  | tableReadArrival (read : Nat) (outcome : ReadOutcome)
  /-- R53: A change on FS1 or FS2 starts or drops a pending change against the accepted level, and is accepted at once when the debounce time is 0. -/
  | footswitchInputChange (switch : Fin 2) (high : Bool)
  /-- R53: A pending footswitch change held for its debounce time is accepted as an edge and passed through the edge selector. -/
  | footswitchDebounceExpiry (switch : Fin 2)
  /-- R56: A change on JACK_N starts or drops a pending change of the accepted jack state. -/
  | jackInputChange (low : Bool)
  /-- R56: A jack change held for 32 ms is accepted, handed to the output block and journaled as a JACK record. -/
  | jackDebounceExpiry
  /-- R57: The request sets pedal calibrations, damper thresholds, the pedal step and the footswitch settings, or only reports them. -/
  | pedalConfig (slot : Fin 32) (tag : Word16) (args : List Byte)
  /-- R62: A KEYMAP read arrives or fails; when all 44 are in, the table is validated and replaces the key map. -/
  | keymapReadArrival (read : Nat) (outcome : ReadOutcome)
  /-- R77: The request sets the polyphony target, live-sound policy, DAMP_FULL and playback gain, or only reports them. -/
  | voiceConfig (slot : Fin 32) (tag : Word16) (args : List Byte)
  /-- R78: The request cuts every voice of the named sources and removes their pending entries. -/
  | voiceCut (slot : Fin 32) (tag : Word16) (args : List Byte)
  /-- R86: Each 48 kHz sample period moves voice levels and cursors, mixes voices and click, applies volume, clipping and mute gain, and sends the value to I2S. -/
  | outputSamplePeriod
  /-- R66: A CUTTING voice goes FREE when its 240-period fade ends. -/
  | cutFadeEnd (voice : Fin 96)
  /-- R79: A voice read arrives or fails, filling its half and starting the voice at its first fill, or freeing the voice with FETCH_FAIL. -/
  | voiceReadArrival (read : Nat) (outcome : ReadOutcome)
  /-- R89: The request sets the master volume and the mute flag, or only reports the output state. -/
  | outputConfig (slot : Fin 32) (tag : Word16) (args : List Byte)
  /-- R96: The request sets the metronome settings and on flag, starting or stopping its grid, or only reports them. -/
  | metronome (slot : Fin 32) (tag : Word16) (args : List Byte)
  /-- R92: When the sample clock reaches the next FREE-mode beat time, the beat is given. -/
  | freeBeatDue
  /-- R93: When the score clock reaches the next FOLLOW-mode beat position while the player is PLAYING, the beat is given. -/
  | followBeatDue
  /-- R91: A click ends when its remaining periods reach 0. -/
  | clickEnd
  /-- R100: The request replaces the rail configuration while the rail is at rest with an empty next slot. -/
  | railConfig (slot : Fin 32) (tag : Word16) (args : List Byte)
  /-- R100: The request returns the rail record, input levels and lamp pattern. -/
  | railQuery (slot : Fin 32) (tag : Word16) (args : List Byte)
  /-- R103: The request makes a move active, queues it in the next slot, or is refused. -/
  | railMove (slot : Fin 32) (tag : Word16) (args : List Byte)
  /-- R117: 1 ms after DRV_EN goes active, step pulses may begin and the driver-fault watch starts. -/
  | drvEnSettle
  /-- R105: Each STEP pulse moves the position, follows the profile, checks limits and stall, and detects arrival, rest after a deceleration, and homing counts. -/
  | stepPulse (limitNear : Bool) (limitFar : Bool)
  /-- R108: When the quiet-held time reaches QUIET_HOLD, a GATED move starts its motion and a PAUSED move at rest resumes. -/
  | quietHoldReached
  /-- R108: A move still GATED when GATE_LIMIT expires ends with GATE_TIMEOUT. -/
  | gateTimeout
  /-- R110: A move still PAUSED when PAUSE_LIMIT expires ends with HAMMER_TIMEOUT once the rail is at rest. -/
  | pauseTimeout
  /-- R102: A change on SEATED_N starts the 2 ms filter, and a shorter excursion is dropped. -/
  | seatedInputChange (active : Bool)
  /-- R102: A SEATED_N level held for 2 ms becomes the seated level, completing seating or handing SEAT_LOST or SEAT_RESTORED. -/
  | seatedFilterExpiry
  /-- R112: A move still in SEATING when SEAT_LIMIT expires ends with NOT_SEATED. -/
  | seatTimeout
  /-- R113: HOME_N changing ends the homing escape, or starts the index search at the end of the return. -/
  | homeSensorChange (active : Bool)
  /-- R116: An INDEX pulse during stepping satisfies a stall check, sets the index phase, stops the homing index search, or signals a stall. -/
  | indexPulse
  /-- R117: DRV_FAULT_N going active while watched stops the rail, disables the driver and makes the rail FAULTED. -/
  | driverFault (active : Bool)
  /-- R119: The request decelerates or ends the active move with STOP_REQUEST and may discard the next slot. -/
  | railStop (slot : Fin 32) (tag : Word16) (args : List Byte)
  /-- R120: The request stops the rail at once with HALT_REQUEST and may discard the next slot. -/
  | railHalt (slot : Fin 32) (tag : Word16) (args : List Byte)
  /-- R117: The request takes a FAULTED rail with no driver fault to UNKNOWN and enables the driver. -/
  | railClear (slot : Fin 32) (tag : Word16) (args : List Byte)
  /-- R122: The request settles the next slot and makes the queued move active if no move is active. -/
  | railSettle (slot : Fin 32) (tag : Word16) (args : List Byte)
  /-- R122: The request clears the next slot's settled flag. -/
  | railUnsettle (slot : Fin 32) (tag : Word16) (args : List Byte)
  /-- R125: The lamp's blink or fade period advances the LAMP output of the pattern shown. -/
  | lampPhaseTick
  /-- R129: The request starts a take in LOADING and reads its block 0. -/
  | playStart (slot : Fin 32) (tag : Word16) (args : List Byte)
  /-- R131: A player block read arrives or fails; a complete block is checked and made VALID, starting play, ending a starve, advancing a scan, or faulting the take. -/
  | blockReadArrival (read : Nat) (outcome : ReadOutcome)
  /-- R133: When the score clock reaches the next group, the group is checked and dispatched, begins a wait, or leaves the player STARVED. -/
  | scoreGroupDue
  /-- R142: A wait still WAITING when the follow timeout expires is skipped with a WAIT_SKIPPED record. -/
  | waitTimeout
  /-- R151: The request puts a take record in the next-take slot, and starts it at once if settled with no take in progress. -/
  | playNext (slot : Fin 32) (tag : Word16) (args : List Byte)
  /-- R151: The request settles the next-take slot, starting the take or its read-ahead. -/
  | playSettle (slot : Fin 32) (tag : Word16) (args : List Byte)
  /-- R151: The request clears the next-take slot's settled flag and discards any read-ahead. -/
  | playUnsettle (slot : Fin 32) (tag : Word16) (args : List Byte)
  /-- R136: The request changes the score clock's tempo percentage. -/
  | playTempo (slot : Fin 32) (tag : Word16) (args : List Byte)
  /-- R137: The request changes the part modes, releasing notes of parts leaving SOUND and recomputing a wait. -/
  | playParts (slot : Fin 32) (tag : Word16) (args : List Byte)
  /-- R144: The request starts a silent scan of the take from block 0 toward a marker. -/
  | playSeek (slot : Fin 32) (tag : Word16) (args : List Byte)
  /-- R146: The request pauses play, releasing open notes and holding the clock. -/
  | playPause (slot : Fin 32) (tag : Word16) (args : List Byte)
  /-- R146: The request resumes a paused take, beginning a held wait afresh or returning to PLAYING. -/
  | playResume (slot : Fin 32) (tag : Word16) (args : List Byte)
  /-- R147: The request stops any take, releases notes and pedals, and may discard the next-take slot. -/
  | playStop (slot : Fin 32) (tag : Word16) (args : List Byte)
  /-- R156: The request arms the recorder and reads the block list. -/
  | recordStart (slot : Fin 32) (tag : Word16) (args : List Byte)
  /-- R156: The block list read arrives or fails, is checked, and starts recording or leaves the recorder ARMED. -/
  | listReadArrival (read : Nat) (outcome : ReadOutcome)
  /-- R157: At least once a second while recording, the recorder reads the tracking clock into the take clock. -/
  | takeClockTick
  /-- R161: The request appends a MARK with a given or automatic marker number. -/
  | recordMark (slot : Fin 32) (tag : Word16) (args : List Byte)
  /-- R162: The request ends arming, or closes a recording with forced NOTE_OFFs and END and writes the last block. -/
  | recordStop (slot : Fin 32) (tag : Word16) (args : List Byte)
  /-- R169: A page header read arrives or fails, claiming a FREE page and writing records, or entering WAITING. -/
  | pageHeaderReadArrival (read : Nat) (outcome : ReadOutcome)
  /-- R171: A page open for the seal period since its fill start is sealed. -/
  | sealPeriodExpiry
  /-- R173: Each seal period in WAITING re-reads the header of the page at the cursor. -/
  | waitRereadExpiry
  /-- R174: The request writes what the open page has room for and seals it, or only reports the writer. -/
  | journalFlush (slot : Fin 32) (tag : Word16) (args : List Byte)
  /-- R177: A write to REGION_LO, REGION_HI or an unused offset is stored or ignored. -/
  | registerWrite (offset : Nat) (value : Word32)
  /-- R178: Writing RUN 1 begins an attach from DETACHED or REJECTED, or exits standby. -/
  | runSet (value : Word32)
  /-- R178: Writing RUN 0 abandons a validation or detaches an attached part. -/
  | runClear (value : Word32)
  /-- R188: Writing the interrupt master enable and cause enables re-evaluates the interrupt summary and may send an MSI. -/
  | controlEnableWrite (value : Word32)
  /-- R186: A NOTIFY write with BOARD makes a board sweep fall due. -/
  | notifyBoard
  /-- R186: A NOTIFY write with PAGES makes a WAITING journal writer re-read its page header. -/
  | notifyPages
  /-- R187: A write of 1 bits to CAUSE clears those flags, and an MSI follows if the summary is still true. -/
  | causeClear (value : Word32)
  /-- R179: The region header read arrives or fails and is checked, rejecting the attach or making the part ATTACHED. -/
  | headerReadArrival (read : Nat) (outcome : ReadOutcome)
  /-- R183: Every 10 ms while attached a board sweep falls due. -/
  | sweepTimerExpiry
  /-- R183: When all four board reads are in, the sweep visits the slots; a failed read abandons the sweep. -/
  | boardReadArrival (read : Nat) (outcome : ReadOutcome)
  /-- R189: Every 10 ms while attached a snapshot falls due and its HOLD read is issued. -/
  | snapshotTimerExpiry
  /-- R189: The request asks for a snapshot and completes when the next one to begin is published. -/
  | snapshotNow (slot : Fin 32) (tag : Word16) (args : List Byte)
  /-- R190: The HOLD word arrives and the snapshot is captured, written to a free buffer and published through LATEST, or abandoned on failure. -/
  | holdReadArrival (read : Nat) (outcome : ReadOutcome)
  /-- R192: A read with no completion 2 ms after its issue fails, setting CAUSE.FETCH and telling its requester. -/
  | readTimeout (read : Nat)
  /-- R194: The request is checked, taken with its wake codes, and begins the shutdown sequence. -/
  | standbyEnter (slot : Fin 32) (tag : Word16) (args : List Byte)
  /-- R195: When the awaited recorder close or journal seal is done, the entry proceeds: it completes the request, detaches and enters STANDBY. -/
  | standbyShutdownStep
  /-- R196: A low-rate key frame in standby is checked, and a key newly reaching PRESS becomes a wake event. -/
  | wakeScanFrame (lane : Fin 8) (bytes : List Byte)
  /-- R197: When the wake delay is due, WAKE_N goes low for the pulse width and the state becomes WOKEN. -/
  | wakeDelayExpiry
  /-- R197: When the pulse width has passed, WAKE_N returns high and the pulse timer becomes IDLE. -/
  | wakePulseEnd
  /-- R1: When RESET_N returns inactive, or a POWER-ON reset finishes, the reset ends. The part then releases the lane reset lines, starts the lane probes and the I2S clocks, and takes the footswitch accepted levels from their inputs. -/
  | mainResetEnd (inputs : Pins)
  deriving DecidableEq, Repr

end Sys2Proof
end

