-- ==== Sys2Proof/Config.lean ====
section
/-! DEFINITION. What the implementation or the part's surroundings fix: the free values, which nothing in Lean can evaluate, and the times of the manual that no host setting changes. -/

namespace Sys2Proof

/-- FREE VALUE (log 6). R188 sends an interrupt message only while the function's MSI capability is enabled in its
PCIe configuration space, which lies outside the manual's register window: whether it is enabled at the n-th time a
message falls due is not constrained. -/
opaque Config.msiCapabilityEnabled : Nat → Bool

/-- R4: the reset hold, 1.5 ms, in µs. -/
abbrev Config.resetHold : Nat := 1500
/-- R3: the limit of one management exchange attempt, 100 µs. -/
abbrev Config.exchangeLimit : Nat := 100
/-- R6: the spacing of STATUS reads, 250 µs. -/
abbrev Config.statusPeriod : Nat := 250
/-- R6: the number of STATUS reads made before the step fails. -/
abbrev Config.statusReads : Nat := 20
/-- R7: the wait for the first valid frame after START, 2 ms. -/
abbrev Config.firstFrameLimit : Nat := 2000
/-- R8: the frame period, 125 µs. -/
abbrev Config.framePeriod : Nat := 125
/-- R10: the frame periods the error window covers. -/
abbrev Config.errorWindow : Nat := 256
/-- R12: a retry window closes 10 s after it opened. -/
abbrev Config.retryWindow : Nat := 10000000
/-- R56: the debounce time of the jack sense, 32 ms. -/
abbrev Config.jackDebounce : Nat := 32000
/-- R66: the output sample periods of a CUTTING fade. -/
abbrev Config.cutPeriods : Nat := 240
/-- One centibel in the model's level units: every level the rules produce is a whole number of 1/11,520,000 cB
(48,000 sample periods a second times the 240 periods of a fade), so R66 is computed exactly. -/
abbrev Config.levelUnit : Nat := 11520000
/-- The silence floor of 960 cB (00_scope.md, Levels) in level units. -/
abbrev Config.levelFloor : Nat := 960 * 11520000
/-- R102: the seated filter, 2 ms. -/
abbrev Config.seatedFilter : Nat := 2000
/-- Table 6-2: SEAT_LIMIT, fixed at 200 ms. -/
abbrev Config.seatLimit : Nat := 200000
/-- R104, R117: the settling time of DRV_EN, 1 ms. -/
abbrev Config.drvSettle : Nat := 1000
/-- R180, R183, R189: the period of the sweep and snapshot timers, 10 ms. -/
abbrev Config.boardPeriod : Nat := 10000
/-- R192: a read fails 2 ms after its issue. -/
abbrev Config.readLimit : Nat := 2000
/-- R191: a read that has waited more than 1 ms comes first. -/
abbrev Config.readAging : Nat := 1000
/-- R191: the reads that may be outstanding on the link at once. -/
abbrev Config.maxOutstanding : Nat := 4
/-- R184: the requests that may be in flight at once. -/
abbrev Config.maxInFlight : Nat := 8
/-- R168: the entries of the journal queue. -/
abbrev Config.journalDepth : Nat := 128
/-- R170: the records of a journal page. -/
abbrev Config.pageRecords : Nat := 63
/-- R73: the entries of the pending-start queue. -/
abbrev Config.pendingDepth : Nat := 8
/-- Table 12-8: the events of a score block. -/
abbrev Config.blockEvents : Nat := 508

end Sys2Proof
end

