-- ==== Sys2Proof/Machine/State.lean ====
section
/-! DEFINITION. The state of the KG88H as plain data: every piece of state that spec/ gives the part, block by block, the waiting commands, and the state after reset. INVENTORY.md lists every field with its rule. -/

namespace Sys2Proof.Machine

/-! ### Exchange controller (10_the_exchange_region.md) -/

/-- The request result codes of Table 0-3, in its order. -/
inductive ResultCode where
  | ok | busy | invalid | unknownKind | state | aborted | failed | timeout | notFound | railBusy
  deriving DecidableEq, Repr

/-- The request kinds of Table 12-3, in its order. -/
inductive RequestKind where
  | laneControl | senseConfig | calibrateKeys | calibAbort | tableLoad | pedalConfig | voiceConfig | voiceCut
  | outputConfig | metronome | railConfig | railQuery | railMove | railStop | railHalt | railClear | railSettle
  | railUnsettle | playStart | playNext | playSettle | playUnsettle | playTempo | playParts | playSeek | playPause
  | playResume | playStop | recordStart | recordStop | recordMark | journalFlush | snapshotNow | standbyEnter
  deriving DecidableEq, Repr

/-- Table 10-3. -/
inductive AttachState where
  | detached | validating | attached | rejected | standby | woken
  deriving DecidableEq, Repr

/-- Table 10-2, reject reason. -/
inductive RejectReason where
  | none | magic | version | pages | layout | readFail
  deriving DecidableEq, Repr

/-- The eight flags of CAUSE (R177). -/
inductive CauseFlag where
  | board | journal | rail | practice | sense | fetch | region | wake
  deriving DecidableEq, Repr

/-- The host registers of Tables 10-1 and 10-2 that hold a value of their own. RUN and the attach state are read from the
attach state. -/
structure Registers where
  regionLo : Word32
  regionHi : Word32
  reject : RejectReason
  master : Bool
  enables : BitVec 8
  cause : BitVec 8
  deriving DecidableEq, Repr

/-- The writers of R192 and the kind of each posted write. -/
inductive Writer where
  | exchange | journal | recorder | tracker
  deriving DecidableEq, Repr

/-- One write the part has issued to host memory. -/
structure PostedWrite where
  writer : Writer
  address : Word64
  data : List Byte
  deriving DecidableEq, Repr

/-- The exchange region in use since the attach (R180); `base` is taken when an attach begins (R177). -/
structure Region where
  base : Word64
  board : Nat
  ring : Nat
  triplet : Nat
  pages : Nat
  deriving DecidableEq, Repr

/-- The blocks that own requests (R184). -/
inductive Owner where
  | laneController | keyTracker | pedalBlock | voiceEngine | outputBlock | railController | player | recorder
  | journalWriter | exchangeController | standbyController
  deriving DecidableEq, Repr

/-- An entry of the table of requests in flight (R184). -/
structure InFlight where
  slot : Fin 32
  kind : RequestKind
  tag : Word16
  owner : Owner
  deriving DecidableEq, Repr

/-- R183: the sweep in progress with the parts of the board copy read so far, the held sweep and the sweep timer. -/
structure Sweep where
  parts : Option (List (Option (List Byte)))
  held : Bool
  timer : Option Nat
  deriving DecidableEq, Repr

/-- R189, R190: the snapshot triplet state. `serving` are the SNAPSHOT_NOW slots the snapshot in progress serves, `waiting`
those the next one to begin will serve. -/
structure Snapshot where
  sequence : Word32
  latest : Option (Fin 3)
  inProgress : Bool
  held : Bool
  serving : List (Fin 32)
  waiting : List (Fin 32)
  timer : Option Nat
  deriving DecidableEq, Repr

/-- What a voice read fills: the first fill of both halves (R79), or the refill of half A (false) or B (true) (R80). -/
inductive FillTarget where
  | first
  | half (b : Bool)
  deriving DecidableEq, Repr

/-- The requester of a memory read, with what it needs to place the data. -/
inductive ReadTag where
  | voice (rec : Fin 96) (start : Word16) (target : FillTarget) (part : Fin 2)
  | block (buffer : Fin 2) (part : Fin 8)
  | table (part : Fin 4)
  | keymap (part : Fin 44)
  | list
  | board (part : Fin 4)
  | pageHeader
  | hold
  | regionHeader
  deriving DecidableEq, Repr

/-- A read of the memory read scheduler (R191). `deadline` is on the sample clock and serves voice reads alone. -/
structure Read where
  id : Nat
  tag : ReadTag
  address : Word64
  length : Nat
  deadline : Nat
  requestedAt : Nat
  issuedAt : Nat
  discarded : Bool
  deriving DecidableEq, Repr

/-- R191: the reads waiting, in the order requested, and the reads outstanding. -/
structure Scheduler where
  waiting : List Read
  outstanding : List Read
  nextReadId : Nat
  deriving DecidableEq, Repr

/-! ### Event journal (09_the_event_journal.md) -/

/-- Table 9-1, in its order (Table 12-4). -/
inductive RecordKind where
  | keyDown | keyUp | pedal | footswitch | jack | lane | calib | voice | beat | rail | player | recorder | playNoteOn | playNoteOff
  deriving DecidableEq, Repr

/-- The four flags of a journal record (R165). -/
structure RecordFlags where
  rep : Bool := false
  forced : Bool := false
  ignored : Bool := false
  playback : Bool := false
  deriving DecidableEq, Repr

/-- A journal record (R165, Table 12-6); the source is PLAYBACK when its flag is set. -/
structure JournalRecord where
  timestamp : Word32
  kind : RecordKind
  flags : RecordFlags
  subject : Nat
  detail : Nat
  value : Nat
  item : Nat
  deriving DecidableEq, Repr

/-- Table 9-3. -/
inductive WriterState where
  | off | idle | claiming | filling | waiting
  deriving DecidableEq, Repr

/-- Table 9-2, and the counts of R175 (handed, recordsWritten, gapsWritten; log 38). -/
structure Journal where
  state : WriterState
  pages : Nat
  sealPeriod : Nat
  cursor : Nat
  sequence : Word32
  queue : List (JournalRecord × Word32)
  runningGap : Word32
  pageGap : Word32
  pageRecords : Nat
  firstTimestamp : Word32
  fillStart : Nat
  sealed : Word32
  gapTotal : Word32
  waitStart : Nat
  handed : Word32
  recordsWritten : Word32
  gapsWritten : Word32
  deriving DecidableEq, Repr

/-- What every block reaches: the clocks, the exchange controller, the scheduler and the journal writer. -/
structure Hub where
  now : Nat
  tracking : Word32
  performance : Word32
  regs : Registers
  attach : AttachState
  region : Region
  inFlight : List InFlight
  cursor : Fin 32
  sweep : Sweep
  snapshot : Snapshot
  sched : Scheduler
  journal : Journal
  posted : List PostedWrite
  msiDue : Nat
  msiSent : Nat
  deriving DecidableEq, Repr

/-! ### Lane controller (01_sensor_lanes.md) -/

/-- Table 1-2. -/
inductive LaneState where
  | off | probing | active | recovering | absent
  deriving DecidableEq, Repr

/-- Table 1-1, absent reason. -/
inductive AbsentReason where
  | none | probeFail | position | retries
  deriving DecidableEq, Repr

/-- The management exchanges of the probe script (R5, R6) and of the wake scanner (R196). -/
inductive ExchangeStep where
  | ident
  | led
  | status (readsMade : Nat)
  | start
  | startLowRate
  deriving DecidableEq, Repr

/-- A management exchange outstanding on a lane (R3): its step, the value its request carries for a write, its number, its
attempt 1 to 3, the time of the attempt and of the first attempt. -/
structure LaneExchange where
  step : ExchangeStep
  value : Option Word16
  number : Nat
  attempt : Nat
  sentAt : Nat
  firstSentAt : Nat
  deriving DecidableEq, Repr

/-- Where a lane stands in its probe (R4 to R7). `inReset` is the time before the reset's end (R1). -/
inductive ProbePhase where
  | idle
  | inReset
  | hold (until_ : Nat)
  | exchanging (e : LaneExchange)
  | statusWait (readsMade due : Nat)
  | awaitFrame (since : Nat)
  deriving DecidableEq, Repr

/-- Table 1-1. The error window holds the ages, in frame periods, of the periods with a frame error (R10). -/
structure Lane where
  state : LaneState
  enabled : Bool
  identity : Option Word16
  ledLevel : Nat
  expected : Option (BitVec 4)
  errorWindow : List Nat
  silence : Nat
  attempts : Nat
  retryOpened : Option Nat
  lastValid : Option Word32
  frames : Word32
  errors : Word32
  absentReason : AbsentReason
  phase : ProbePhase
  periodEnd : Nat
  validInPeriod : Bool
  exchangeNumber : Nat
  deriving DecidableEq, Repr

/-! ### Key tracker (02_key_and_hammer_tracking.md) -/

/-- Table 2-2, in its order. -/
inductive KeyState where
  | rest | pressed | rising | missed | sounding | rearmed | restriking | returning | waitRest | calibrating | disabled
  deriving DecidableEq, Repr

/-- A calibration record (Table 2-1, R20). -/
structure Calibration where
  keyRest : Nat
  keyBottom : Nat
  hammerRest : Nat
  hammerTop : Nat
  press : Nat
  damper : Nat
  rearm : Nat
  clear : Nat
  gateLow : Nat
  gateHigh : Nat
  deriving DecidableEq, Repr

/-- The lowest and highest raw readings of a calibration window (Table 2-1). -/
structure Extremes where
  keyLow : Nat
  keyHigh : Nat
  hammerLow : Nat
  hammerHigh : Nat
  deriving DecidableEq, Repr

/-- A key record (Table 2-1) but for its calibration record, which stands in `State.calibration`. -/
structure Key where
  state : KeyState
  masked : Bool
  openNote : Bool
  lastRaw : Option (Nat × Nat)
  gateLowStamp : Option Word32
  rearmStamp : Option Word32
  lastVelocity : Nat
  extremes : Option Extremes
  deriving DecidableEq, Repr

/-- An open calibration window (R37, R38). -/
structure CalibWindow where
  first : Nat
  last : Nat
  address : Word64
  endsAt : Nat
  slot : Fin 32
  deriving DecidableEq, Repr

/-- A TABLE_LOAD in progress: whether it is CALIB (else CURVE), its slot and its reads' data (R43). -/
structure TableLoad where
  calib : Bool
  slot : Fin 32
  chunks : List (Option (List Byte))
  deriving DecidableEq, Repr

/-- What the key tracker keeps beside the key table. -/
structure Tracker where
  window : Option CalibWindow
  load : Option TableLoad
  deriving DecidableEq, Repr

/-! ### Pedal and input block (03_pedals_footswitches_and_jack_sense.md) -/

/-- The part of Table 3-1 that changes with the frames. -/
structure Pedals where
  laneFlag : Bool
  level : Vector Nat 3
  emitted : Vector Nat 3
  sostenuto : Bool
  soft : Bool
  capture : List (Fin 88)
  deriving DecidableEq, Repr

/-- A pedal's calibration (R47). -/
structure PedalCalibration where
  rest : Nat
  full : Nat
  deriving DecidableEq, Repr

/-- The settings of Table 3-1 (the pedal group of PEDAL_CONFIG, R57). -/
structure PedalSettings where
  calibration : Vector PedalCalibration 3
  damperFree : Nat
  damperHold : Nat
  step : Nat
  deriving DecidableEq, Repr

/-- R53: the debounce times, in the order of their codes. -/
inductive Debounce where
  | ms0 | ms2 | ms8 | ms32
  deriving DecidableEq, Repr

/-- R54: the edge selections, in the order of their codes. -/
inductive EdgeSelection where
  | off | falling | rising | both
  deriving DecidableEq, Repr

/-- R54: the footswitch actions, in the order of their codes. -/
inductive SwitchAction where
  | none | playToggle | metronomeToggle | mark | railToggle
  deriving DecidableEq, Repr

/-- A footswitch input stage (R53), of the standby domain. `pendingSince` is the time a pending change began. -/
structure SwitchStage where
  high : Bool
  pendingSince : Option Nat
  debounce : Debounce
  edges : EdgeSelection
  wake : Bool
  deriving DecidableEq, Repr

/-- The headphone jack sense (R56). -/
structure Jack where
  inserted : Bool
  pendingSince : Option Nat
  deriving DecidableEq, Repr

/-! ### Voice engine (04_the_voice_engine.md) -/

/-- Sources of notes and voices (00_scope.md). -/
inductive Source where
  | live | playback
  deriving DecidableEq, Repr

/-- A used zone entry (Table 4-1). -/
structure Zone where
  address : Word64
  length : Nat
  loopStart : Nat
  loopLength : Nat
  decay : Nat
  top : Nat
  deriving DecidableEq, Repr

/-- A key's normal and una-corda sets: their used entries, in order (R59). -/
structure KeyZones where
  normal : List Zone
  unaCorda : List Zone
  deriving DecidableEq, Repr

/-- Table 4-3. -/
inductive VoicePhase where
  | free | sounding | damping | cutting
  deriving DecidableEq, Repr

/-- Table 4-2, fetch window. -/
inductive HalfState where
  | empty | filling | full
  deriving DecidableEq, Repr

/-- A half of a fetch window: its state, its valid bytes, and the reads of the fill in progress. -/
structure WindowHalf where
  state : HalfState
  data : List Byte
  parts : List (Option (List Byte))
  deriving DecidableEq, Repr

/-- A voice record (Table 4-2). Levels are in units of 1/11,520,000 cB (Config.levelUnit). `playB` and `playPos` are the
half being played and the place in it (R80), `leftBehind` marks a voice a detach has cut (R84), and `cutNumber` is the model's
own: the number of the cut of a CUTTING voice, for the order in which fades end (4.8; log 52). -/
structure Voice where
  phase : VoicePhase
  key : Fin 88
  source : Source
  velocity : Nat
  zone : Zone
  keyDown : Bool
  sostenutoHeld : Bool
  level : Nat
  startTime : Nat
  halfA : WindowHalf
  halfB : WindowHalf
  firstFill : Bool
  cursor : Nat
  fetch : Nat
  cutTime : Nat
  cutLevel : Nat
  cutNumber : Nat
  startNumber : Word16
  playB : Bool
  playPos : Nat
  leftBehind : Bool
  deriving DecidableEq, Repr

/-- An entry of the pending-start queue (R73). -/
structure PendingStart where
  key : Fin 88
  source : Source
  velocity : Nat
  deriving DecidableEq, Repr

/-- A source's pedals as the voice engine sees them (R67). -/
structure PedalSet where
  damper : Nat
  soft : Bool
  deriving DecidableEq, Repr

/-- R70. -/
inductive LivePolicy where
  | silentOnly | always | never
  deriving DecidableEq, Repr

/-- A KEYMAP load in progress (R61). -/
structure KeymapLoad where
  slot : Fin 32
  chunks : List (Option (List Byte))
  deriving DecidableEq, Repr

/-- The voice engine's state. `cuts` is the model's own: the cuts made so far (log 52). -/
structure VoiceEngine where
  voices : Vector Voice 96
  queue : List PendingStart
  keyMap : Vector KeyZones 88
  sampleClock : Word64
  livePedals : PedalSet
  playbackPedals : PedalSet
  capture : List (Fin 88)
  damperFree : Nat
  damperHold : Nat
  policy : LivePolicy
  atSilent : Bool
  target : Nat
  limit : Nat
  dampFull : Nat
  gain : Nat
  cuts : Nat
  steals : Word32
  drops : Word32
  underruns : Word32
  load : Option KeymapLoad
  deriving DecidableEq, Repr

/-! ### Output block and metronome (05_headphone_output_and_metronome.md) -/

/-- Table 5-1, and the I2S output (R88): the time its clocks started, or none, and the word of both slots. -/
structure Output where
  setting : Nat
  current : Nat
  mute : Bool
  jackInserted : Bool
  standby : Bool
  gain : Nat
  clips : Word32
  i2sSince : Option Nat
  i2sWord : BitVec 24
  deriving DecidableEq, Repr

/-- R92, R93. -/
inductive MetronomeMode where
  | free | follow
  deriving DecidableEq, Repr

/-- A sounding click (R91): the periods left, its pitch code, its volume, and the periods already sounded. -/
structure Click where
  remaining : Nat
  pitch : Nat
  volume : Nat
  elapsed : Nat
  deriving DecidableEq, Repr

/-- The settings of METRONOME (R96, Table 5-2). -/
structure MetronomeSettings where
  on : Bool
  mode : MetronomeMode
  tempo : Nat
  beats : Nat
  pitch : Nat
  accent : Nat
  clickLength : Nat
  volume : Nat
  journalBeats : Bool
  snapshotBeats : Bool
  deriving DecidableEq, Repr

/-- Table 5-2. `gridTempo` and `reanchor` carry a tempo change to the next beat (R92); `gridSet` says that the FOLLOW grid
has a meaning (R93). -/
structure Metronome where
  settings : MetronomeSettings
  beat : Nat
  bar : Nat
  anchor : Nat
  index : Nat
  gridTempo : Nat
  reanchor : Bool
  followAnchor : Word32
  followIndex : Nat
  gridSet : Bool
  followTempo : Nat
  click : Option Click
  deriving DecidableEq, Repr

/-! ### Hammer-stop rail (06_the_hammer_stop_rail.md) -/

/-- Table 6-3, in its order. -/
inductive RailState where
  | unknown | homing | idle | gated | moving | paused | seating | faulted
  deriving DecidableEq, Repr

/-- Table 6-4, with the codes of Table 12-4. -/
inductive PositionClass where
  | clear | crossing | nearSilent | silent
  deriving DecidableEq, Repr

/-- Table 6-5. -/
inductive MoveKind where
  | home | engage | park | goto | jog
  deriving DecidableEq, Repr

/-- Table 6-6, with the codes of Table 12-4. -/
inductive StopCause where
  | none | complete | stopRequest | haltRequest | limitNear | limitFar | stall | driverFault | hammerTimeout | gateTimeout
  | notSeated | homeNotFound
  deriving DecidableEq, Repr

/-- R125: the lamp patterns. -/
inductive LampPattern where
  | off | on | blink05 | blink1 | blink2 | blink4 | fade
  deriving DecidableEq, Repr

/-- Table 6-2, lamp mode. -/
inductive LampMode where
  | auto
  | show (p : LampPattern)
  deriving DecidableEq, Repr

/-- Table 6-2, standby lamp choice. -/
inductive StandbyLamp where
  | keep | fade | off
  deriving DecidableEq, Repr

/-- The profile values that govern a motion (R105). -/
structure Profile where
  fl : Nat
  fh : Nat
  accel : Nat
  decel : Nat
  sCurve : Bool
  rampOffset : Nat
  deriving DecidableEq, Repr

/-- The rail configuration (Table 6-2; SEAT_LIMIT is Config.seatLimit). QUIET_HOLD is in ms, GATE_LIMIT and PAUSE_LIMIT in
units of 100 ms. -/
structure RailConfig where
  span : Nat
  park : Nat
  crossStart : Nat
  crossEnd : Nat
  silent : Nat
  profile : Profile
  homeIndexCount : Nat
  quietHold : Nat
  gateLimit : Nat
  pauseLimit : Nat
  autoNext : Bool
  lampMode : LampMode
  activeLow : Bool
  standbyLamp : StandbyLamp
  deriving DecidableEq, Repr

/-- A rail move as asked for (R103): a value 0 of an override asks for the configuration's; `shape` is 0 for the
configuration's, 1 LINEAR, 2 S_CURVE. An internal move has no slot. -/
structure MoveRequest where
  kind : MoveKind
  argument : Int
  fl : Nat
  fh : Nat
  accel : Nat
  decel : Nat
  rampOffset : Nat
  shape : Nat
  slot : Option (Fin 32)
  deriving DecidableEq, Repr

/-- The active move (Table 6-1). `homing` is set once a HOME move has entered HOMING (R118). -/
structure ActiveMove where
  kind : MoveKind
  target : Int
  profile : Profile
  slot : Option (Fin 32)
  before : RailState
  homing : Bool
  deriving DecidableEq, Repr

/-- The next slot (R121). -/
structure NextMove where
  move : MoveRequest
  settled : Bool
  deriving DecidableEq, Repr

/-- A change of rate in progress (R105, R106): from `v0` to `v1`, in millionths of a microstep per second, begun at `since`,
at the acceleration `acc` and the shape given. -/
structure RateChange where
  since : Nat
  v0 : Nat
  v1 : Nat
  acc : Nat
  sCurve : Bool
  deriving DecidableEq, Repr

/-- What a motion is doing: a profile toward its target (R105; `falling` once it has turned down), a deceleration to rest
(R109, R119), or a step of the HOME sequence (R113, R114). -/
inductive MotionPhase where
  | run (falling : Bool)
  | decelerate
  | escape
  | escapeTail (left : Nat)
  | homeReturn
  | homeSearch (indexes steps : Nat)
  deriving DecidableEq, Repr

/-- A motion in progress. `started` is set by its first pulse, `rate` is the rate at the last pulse, `travel` counts the
pulses of the present step of HOME. -/
structure Motion where
  outward : Bool
  phase : MotionPhase
  change : RateChange
  started : Bool
  lastPulse : Nat
  rate : Nat
  travel : Nat
  deriving DecidableEq, Repr

/-- The rail record (Table 6-1) and what the rules of chapter 6 imply of it. `awaitOut` and `awaitIn` are the expected index
positions on whose near side the rail has been since the last INDEX (R116), for a motion outward and for one inward (log 21). -/
structure Rail where
  state : RailState
  position : Int
  homed : Bool
  indexPhase : Option Nat
  awaitOut : Option Int
  awaitIn : Option Int
  active : Option ActiveMove
  next : Option NextMove
  motion : Option Motion
  quiet : Bool
  quietSince : Nat
  seated : Bool
  seatedPending : Option Nat
  drvEn : Bool
  drvEnSince : Nat
  drvSettled : Bool
  lastCause : StopCause
  gateSince : Nat
  pauseSince : Nat
  seatSince : Nat
  pauseExpired : Bool
  stopping : Bool
  deriving DecidableEq, Repr

/-- The mode lamp (R125): the pattern shown, its start, and the brightness last driven, in thousandths. -/
structure Lamp where
  shown : LampPattern
  since : Nat
  brightness : Nat
  deriving DecidableEq, Repr

/-! ### Player (07_practice_playback.md) -/

/-- The modes of a part. -/
inductive PartMode where
  | sound | mute | guide
  deriving DecidableEq, Repr

/-- Table 7-3, in its order. -/
inductive PlayerState where
  | idle | loading | playing | waiting | starved | paused | seeking | ended | faulted
  deriving DecidableEq, Repr

/-- Table 7-2. -/
structure TakeRecord where
  firstBlock : Word64
  takeId : Word32
  startMarker : Option Nat
  tempo : Nat
  parts : Vector PartMode 4
  follow : Bool
  followTimeout : Nat
  earlyWindow : Nat
  loopA : Option Nat
  loopB : Option Nat
  loopCount : Nat
  journalNotes : Bool
  deriving DecidableEq, Repr

/-- A score event (Table 12-9). -/
structure ScoreEvent where
  delta : Nat
  kind : Nat
  target : Nat
  value : Nat
  part : Nat
  aux : Nat
  deriving DecidableEq, Repr

/-- A score block as it arrived (Table 12-8). -/
structure ScoreBlock where
  magic : Nat
  takeId : Word32
  index : Nat
  count : Nat
  last : Bool
  next : Word64
  tempo : Nat
  events : List ScoreEvent
  deriving DecidableEq, Repr

/-- Table 7-1, block buffers. -/
inductive BufferState where
  | empty | reading | valid
  deriving DecidableEq, Repr

/-- A block buffer: while READING the parts of the block that have arrived, while VALID the block. -/
structure BlockBuffer where
  state : BufferState
  address : Word64
  index : Nat
  nextTake : Bool
  chunks : List (Option (List Byte))
  block : Option ScoreBlock
  deriving DecidableEq, Repr

/-- Table 7-1, playback pedal set. -/
structure PlaybackPedals where
  damper : Nat
  soft : Nat
  softPressed : Bool
  deriving DecidableEq, Repr

/-- Table 7-1, loop anchor. -/
structure LoopAnchor where
  address : Word64
  blockIndex : Nat
  event : Nat
  time : Word32
  pedals : PlaybackPedals
  followTempo : Nat
  deriving DecidableEq, Repr

/-- An event of a group, with the buffer and the event index it stands at. -/
structure GroupEvent where
  event : ScoreEvent
  buffer : Fin 2
  index : Nat
  deriving DecidableEq, Repr

/-- The events of one score time (R132), held back by a wait or a pause. -/
structure Group where
  time : Word32
  events : List GroupEvent
  deriving DecidableEq, Repr

/-- An entry of the recent-strike list (R138). -/
structure Strike where
  key : Fin 88
  stamp : Word32
  used : Bool
  deriving DecidableEq, Repr

/-- The next-take slot (R151). -/
structure NextTake where
  take : TakeRecord
  settled : Bool
  deriving DecidableEq, Repr

/-- The player record (Table 7-1), with the scan in progress (its marker; R130, R144), the loop re-read in progress and the
restart it owes (R143), the header tempo of block 0, and whether the take is a chained one (R152). The score position is
the whole part of the score clock, 32 bits and wrapping, `positionPart` its fraction in ten-thousandths; lastTime is the
score time of the last event taken, which wraps with it (log 25). -/
structure Player where
  state : PlayerState
  take : Option TakeRecord
  expectedIndex : Nat
  buffers : Vector BlockBuffer 2
  currentBuffer : Fin 2
  currentEvent : Nat
  lastTime : Word32
  position : Word32
  positionPart : Nat
  tempo : Nat
  parts : Vector PartMode 4
  followTempo : Nat
  openKeys : List (Fin 88 × Nat)
  pedals : PlaybackPedals
  anchor : Option LoopAnchor
  loopsRemaining : Nat
  endless : Bool
  held : Option Group
  expected : List (Fin 88)
  struck : List (Fin 88)
  waitStart : Word32
  misses : Word32
  strikes : List Strike
  returnToPlaying : Bool
  pendingSlot : Option (Fin 32)
  next : Option NextTake
  scan : Option Nat
  loopReread : Bool
  restartOwed : Bool
  headerTempo : Nat
  chained : Bool
  deriving DecidableEq, Repr

/-! ### Recorder (08_take_recording.md) -/

/-- Table 8-1, in its order. -/
inductive RecorderState where
  | idle | armed | recording | closing
  deriving DecidableEq, Repr

/-- The recorder record (Table 8-1). -/
structure Recorder where
  state : RecorderState
  takeId : Word32
  headerTempo : Nat
  splitKey : Nat
  onFirstKey : Bool
  includePedals : Bool
  blockCount : Nat
  list : List Word64
  listRead : Bool
  currentBlock : Nat
  buffer : List ScoreEvent
  openKeys : List (Fin 88)
  origin : Word32
  takeClock : Word64
  lastReading : Word32
  lastScoreTime : Nat
  nextMark : Nat
  blocksUsed : Nat
  eventsWritten : Nat
  pendingSlot : Option (Fin 32)
  deriving DecidableEq, Repr

/-! ### Standby controller (11_standby_wake_and_start_up.md) -/

/-- Table 11-1, wake thresholds of one key. -/
structure WakeThreshold where
  rest : Nat
  bottom : Nat
  press : Nat
  deriving DecidableEq, Repr

/-- A lane with the wake scanner: the START exchange still outstanding, the expected sequence and the last readings. -/
structure ScannerLane where
  exchange : Option LaneExchange
  expected : Option (BitVec 4)
  last : Option (List Nat)
  deriving DecidableEq, Repr

/-- Table 11-1, pulse timer. -/
inductive PulseTimer where
  | idle
  | delay (due : Nat)
  | pulsing (until_ : Nat)
  deriving DecidableEq, Repr

/-- Table 11-1, wake cause. -/
inductive WakeCause where
  | none
  | key (k : Fin 88)
  | footswitch (switch : Fin 2)
  deriving DecidableEq, Repr

/-- R195: what a standby entry in progress waits for. -/
inductive EntryStage where
  | recorderClose
  | journalSeal
  deriving DecidableEq, Repr

/-- The standby record (Table 11-1). -/
structure Standby where
  delay : Nat
  width : Nat
  thresholds : Vector (Option WakeThreshold) 88
  scanner : Vector (Option ScannerLane) 8
  pulse : PulseTimer
  lastPulse : Option Nat
  cause : WakeCause
  deriving DecidableEq, Repr

/-- The reset kinds that hold the part in reset (R1, Table 11-2). -/
inductive ResetKind where
  | powerOn | main
  deriving DecidableEq, Repr

/-- The whole state of the block and its queue of waiting commands, first in first out. -/
structure State where
  pending : List Instr
  mainOn : Bool
  resetHeld : Option ResetKind
  pins : Pins
  hub : Hub
  lanes : Vector Lane 9
  keys : Vector Key 88
  calibration : Vector Calibration 88
  curve : Vector Nat 127
  tracker : Tracker
  pedals : Pedals
  pedalSettings : PedalSettings
  switches : Vector SwitchStage 2
  actions : Vector SwitchAction 2
  jack : Jack
  voice : VoiceEngine
  output : Output
  metronome : Metronome
  rail : Rail
  railConfig : RailConfig
  lamp : Lamp
  player : Player
  recorder : Recorder
  standby : Standby
  entry : Option (Fin 32 × EntryStage)
  deriving DecidableEq, Repr

/-- The reasons a step can stop the machine. The spec names none: no command of the part faults (log 35). -/
inductive Fault where
  deriving DecidableEq, Repr

/-- The reasons a command can be refused. -/
inductive Refusal where
  /-- Raised by exec's arm of a command that has no meaning yet; safe, for the model then says nothing of it. No arm raises it. -/
  | notModelled (mnemonic : String)
  deriving DecidableEq, Repr

/-! ### Reset values -/

/-- Table 10-1: every register after a POWER-ON, MAIN or PORT reset. -/
def Registers.reset : Registers :=
  { regionLo := 0, regionHi := 0, reject := .none, master := false, enables := 0, cause := 0 }

/-- R181, R180: no sweep, no timer. -/
def Sweep.off : Sweep := { parts := none, held := false, timer := none }

/-- R180: the snapshot triplet with nothing in progress. -/
def Snapshot.off : Snapshot :=
  { sequence := 0, latest := none, inProgress := false, held := false, serving := [], waiting := [], timer := none }

/-- Table 9-2; log 7 names the fields the table marks with a dash. -/
def Journal.reset : Journal :=
  { state := .off, pages := 4, sealPeriod := 5, cursor := 0, sequence := 0, queue := [], runningGap := 0, pageGap := 0
    pageRecords := 0, firstTimestamp := 0, fillStart := 0, sealed := 0, gapTotal := 0, waitStart := 0, handed := 0
    recordsWritten := 0, gapsWritten := 0 }

/-- The clocks, exchange controller, scheduler and journal writer after a POWER-ON reset. -/
def Hub.reset : Hub :=
  { now := 0, tracking := 0, performance := 0, regs := .reset, attach := .detached
    region := { base := 0, board := 0, ring := 0, triplet := 0, pages := 0 }
    inFlight := [], cursor := 0, sweep := .off, snapshot := .off
    sched := { waiting := [], outstanding := [], nextReadId := 0 }
    journal := .reset, posted := [], msiDue := 0, msiSent := 0 }

/-- Table 1-1. -/
def Lane.reset : Lane :=
  { state := .probing, enabled := true, identity := none, ledLevel := 8, expected := none, errorWindow := [], silence := 0
    attempts := 0, retryOpened := none, lastValid := none, frames := 0, errors := 0, absentReason := .none
    phase := .inReset, periodEnd := 0, validInPeriod := false, exchangeNumber := 0 }

/-- R20: the default calibration record. -/
def Calibration.default : Calibration :=
  { keyRest := 100, keyBottom := 900, hammerRest := 100, hammerTop := 900, press := 80, damper := 350, rearm := 650
    clear := 250, gateLow := 700, gateHigh := 900 }

/-- Table 2-1. -/
def Key.reset : Key :=
  { state := .disabled, masked := false, openNote := false, lastRaw := none, gateLowStamp := none, rearmStamp := none
    lastVelocity := 0, extremes := none }

/-- R31: the default velocity curve; entry i is CURVE[i + 1]. -/
def defaultCurve : Vector Nat 127 := Vector.ofFn fun i : Fin 127 => 40000 - i.val * 310

/-- Table 3-1. -/
def Pedals.reset : Pedals :=
  { laneFlag := false, level := Vector.replicate 3 0, emitted := Vector.replicate 3 0, sostenuto := false, soft := false
    capture := [] }

/-- Table 3-1. -/
def PedalSettings.reset : PedalSettings :=
  { calibration := Vector.replicate 3 { rest := 80, full := 940 }, damperFree := 16, damperHold := 100, step := 4 }

/-- R53: a footswitch input stage at the end of a POWER-ON reset, its input at the level given. -/
def SwitchStage.reset (high : Bool) : SwitchStage :=
  { high := high, pendingSince := none, debounce := .ms8, edges := .falling, wake := false }

/-- A zone with no meaning, held by FREE voice records (log 7). -/
def Zone.blank : Zone := { address := 0, length := 0, loopStart := 0, loopLength := 0, decay := 0, top := 0 }

/-- Table 4-2, fetch window. -/
def WindowHalf.blank : WindowHalf := { state := .empty, data := [], parts := [] }

/-- Table 4-2; log 7 names the fields with no reset value. -/
def Voice.reset : Voice :=
  { phase := .free, key := 0, source := .live, velocity := 0, zone := .blank, keyDown := false, sostenutoHeld := false
    level := 0, startTime := 0, halfA := .blank, halfB := .blank, firstFill := false, cursor := 0, fetch := 0, cutTime := 0
    cutLevel := 0, cutNumber := 0, startNumber := 0, playB := false, playPos := 0, leftBehind := false }

/-- R59: the empty key map. -/
def emptyKeyMap : Vector KeyZones 88 := Vector.replicate 88 { normal := [], unaCorda := [] }

/-- The voice engine after a POWER-ON or MAIN reset (R59, R63, R67, R70, R76, R77, R83). -/
def VoiceEngine.reset : VoiceEngine :=
  { voices := Vector.replicate 96 Voice.reset, queue := [], keyMap := emptyKeyMap, sampleClock := 0
    livePedals := { damper := 0, soft := false }, playbackPedals := { damper := 0, soft := false }, capture := []
    damperFree := 16, damperHold := 100, policy := .silentOnly, atSilent := false, target := 96, limit := 96
    dampFull := 3000, gain := 100, cuts := 0, steals := 0, drops := 0, underruns := 0, load := none }

/-- Table 5-1. -/
def Output.reset : Output :=
  { setting := 80, current := 80, mute := false, jackInserted := false, standby := false, gain := 0, clips := 0
    i2sSince := none, i2sWord := 0 }

/-- Table 5-2. -/
def Metronome.reset : Metronome :=
  { settings := { on := false, mode := .free, tempo := 120, beats := 4, pitch := 23, accent := 11, clickLength := 20
                  volume := 100, journalBeats := false, snapshotBeats := false }
    beat := 0, bar := 0, anchor := 0, index := 0, gridTempo := 120, reanchor := false, followAnchor := 0, followIndex := 0
    gridSet := false, followTempo := 1200, click := none }

/-- Table 6-2, the defaults. -/
def RailConfig.default : RailConfig :=
  { span := 14000, park := 400, crossStart := 4000, crossEnd := 11000, silent := 12800
    profile := { fl := 400, fh := 16000, accel := 40000, decel := 40000, sCurve := false, rampOffset := 0 }
    homeIndexCount := 1, quietHold := 40, gateLimit := 20, pauseLimit := 30, autoNext := true, lampMode := .auto
    activeLow := false, standbyLamp := .fade }

/-- Table 6-1, the column of the POWER-ON reset. -/
def Rail.reset : Rail :=
  { state := .unknown, position := 0, homed := false, indexPhase := none, awaitOut := none, awaitIn := none, active := none, next := none
    motion := none, quiet := false, quietSince := 0, seated := false, seatedPending := none, drvEn := false
    drvEnSince := 0, drvSettled := false, lastCause := .none, gateSince := 0, pauseSince := 0, seatSince := 0
    pauseExpired := false, stopping := false }

/-- Table 7-1, an EMPTY buffer. -/
def BlockBuffer.blank : BlockBuffer :=
  { state := .empty, address := 0, index := 0, nextTake := false, chunks := [], block := none }

/-- Table 7-1. -/
def Player.reset : Player :=
  { state := .idle, take := none, expectedIndex := 0, buffers := Vector.replicate 2 .blank, currentBuffer := 0
    currentEvent := 0, lastTime := 0, position := 0, positionPart := 0, tempo := 100
    parts := Vector.replicate 4 .sound, followTempo := 1200, openKeys := []
    pedals := { damper := 0, soft := 0, softPressed := false }, anchor := none, loopsRemaining := 0, endless := false
    held := none, expected := [], struck := [], waitStart := 0, misses := 0, strikes := [], returnToPlaying := true
    pendingSlot := none, next := none, scan := none, loopReread := false, restartOwed := false, headerTempo := 1200
    chained := false }

/-- Table 8-1. -/
def Recorder.reset : Recorder :=
  { state := .idle, takeId := 0, headerTempo := 0, splitKey := 0, onFirstKey := false, includePedals := false
    blockCount := 0, list := [], listRead := false, currentBlock := 0, buffer := [], openKeys := [], origin := 0
    takeClock := 0, lastReading := 0, lastScoreTime := 0, nextMark := 0, blocksUsed := 0, eventsWritten := 0
    pendingSlot := none }

/-- R196, R198: no thresholds and no lane with the wake scanner. -/
def noThresholds : Vector (Option WakeThreshold) 88 := Vector.replicate 88 none

/-- R196, R198: no lane with the wake scanner. -/
def noScanner : Vector (Option ScannerLane) 8 := Vector.replicate 8 none

/-- Table 11-1. -/
def Standby.reset : Standby :=
  { delay := 5, width := 5, thresholds := noThresholds, scanner := noScanner, pulse := .idle, lastPulse := none
    cause := .none }

/-- The inputs all inactive, both footswitch inputs high (log 8). -/
def quietPins : Pins :=
  { fs1High := true, fs2High := true, jackLow := false, home := false, limNear := false, limFar := false, seated := false
    drvFault := false }

/-- Every field as a POWER-ON reset gives it, at the end of that reset: the lanes have begun their reset holds (R1, R4),
the I2S clocks run (R88), and the inputs are inactive (log 8). -/
def State.reset : State :=
  { pending := [], mainOn := true, resetHeld := none, pins := quietPins, hub := .reset
    lanes := Vector.replicate 9 { Lane.reset with phase := .hold Config.resetHold }
    keys := Vector.replicate 88 .reset, calibration := Vector.replicate 88 .default, curve := defaultCurve
    tracker := { window := none, load := none }, pedals := .reset, pedalSettings := .reset
    switches := Vector.replicate 2 (.reset true), actions := Vector.replicate 2 .none
    jack := { inserted := false, pendingSince := none }, voice := .reset
    output := { Output.reset with i2sSince := some 0 }, metronome := .reset, rail := .reset, railConfig := .default
    lamp := { shown := .blink4, since := 0, brightness := 1000 }, player := .reset, recorder := .reset
    standby := .reset, entry := none }

end Sys2Proof.Machine
end

