-- ==== Sys2Proof/Machine/Operands.lean ====
section
/-! DEFINITION. The layouts of 12_memory_formats.md: reading and writing little-endian fields, the codes of every list, the argument areas of the requests, and the score block, zone, calibration, curve, frame and header formats; and the CRC of R3. -/

namespace Sys2Proof.Machine

/-! ### Fields (R200) -/

/-- The u8 at offset `i`; bytes past the end read as 0. -/
def u8At (bs : List Byte) (i : Nat) : Nat := (bs.getD i 0).toNat
/-- The little-endian u16 at offset `i` (R200). -/
def u16At (bs : List Byte) (i : Nat) : Nat := u8At bs i + 256 * u8At bs (i + 1)
/-- The little-endian u32 at offset `i` (R200). -/
def u32At (bs : List Byte) (i : Nat) : Nat := u16At bs i + 65536 * u16At bs (i + 2)
/-- The little-endian u64 at offset `i` (R200). -/
def u64At (bs : List Byte) (i : Nat) : Nat := u32At bs i + 4294967296 * u32At bs (i + 4)
/-- The two's-complement i32 at offset `i`. -/
def i32At (bs : List Byte) (i : Nat) : Int := (BitVec.ofNat 32 (u32At bs i)).toInt
/-- Bits `lo` to `lo + width - 1` of a field. -/
def bitsOf (n lo width : Nat) : Nat := n / 2 ^ lo % 2 ^ width
/-- Bit `k` of a field. -/
def bitOf (n k : Nat) : Bool := bitsOf n k 1 == 1

/-- The `width` bytes of a field, least significant first (R200). -/
def leBytes : Nat → Nat → List Byte
  | 0, _ => []
  | width + 1, n => BitVec.ofNat 8 n :: leBytes width (n / 256)
/-- A u8 field. -/
def le8 (n : Nat) : List Byte := leBytes 1 n
/-- A u16 field. -/
def le16 (n : Nat) : List Byte := leBytes 2 n
/-- A u32 field. -/
def le32 (n : Nat) : List Byte := leBytes 4 n
/-- A u64 field. -/
def le64 (n : Nat) : List Byte := leBytes 8 n
/-- An i32 field, two's complement. -/
def lei32 (n : Int) : List Byte := le32 (BitVec.ofInt 32 n).toNat
/-- A flag as a u8, or a bit's weight. -/
def flagBit (b : Bool) : Nat := if b then 1 else 0
/-- A list of bytes filled up with zeros to `n` bytes (R185, R203), and cut there. -/
def padded (n : Nat) (bs : List Byte) : List Byte := (bs ++ List.replicate (n - bs.length) 0).take n
/-- Bytes `lo` to `lo + n - 1`, zeros standing for bytes past the end. -/
def slice (bs : List Byte) (lo n : Nat) : List Byte := padded n (bs.drop lo)
/-- An optional u8 code: 0xFF when absent (R200). -/
def optional8 (o : Option Nat) : Nat := o.getD 0xFF
/-- An optional u16: 0xFFFF when absent (R200). -/
def optional16 (o : Option Nat) : Nat := o.getD 0xFFFF
/-- A mask of flags, item k in byte k/8 at bit k mod 8. -/
def maskBytes (flags : List Bool) : List Byte :=
  (List.range ((flags.length + 7) / 8)).map fun j =>
    BitVec.ofNat 8 ((List.range 8).foldl (fun n b => n + flagBit (flags.getD (8 * j + b) false) * 2 ^ b) 0)
/-- Item `k` of a mask that begins at offset `i`. -/
def maskBit (bs : List Byte) (i k : Nat) : Bool := bitOf (u8At bs (i + k / 8)) (k % 8)

/-- R3: CRC-8 with polynomial x^8 + x^2 + x + 1, initial value 0xFF, most significant bit first, nothing reflected or XORed
into the result. -/
def crc8 (bs : List Byte) : Byte :=
  bs.foldl (fun crc b => (List.range 8).foldl
    (fun c _ => if c.getLsbD 7 then (c <<< 1) ^^^ (0x07 : Byte) else c <<< 1) (crc ^^^ b)) (0xFF : Byte)

/-! ### Codes (Table 12-4 and the tables it names) -/

/-- Table 0-3 order. -/
def ResultCode.code : ResultCode → Nat
  | .ok => 0 | .busy => 1 | .invalid => 2 | .unknownKind => 3 | .state => 4 | .aborted => 5 | .failed => 6
  | .timeout => 7 | .notFound => 8 | .railBusy => 9

/-- Table 12-3: the kind of a code, none for 0 and above 34. -/
def RequestKind.ofCode : Nat → Option RequestKind
  | 1 => some .laneControl | 2 => some .senseConfig | 3 => some .calibrateKeys | 4 => some .calibAbort
  | 5 => some .tableLoad | 6 => some .pedalConfig | 7 => some .voiceConfig | 8 => some .voiceCut
  | 9 => some .outputConfig | 10 => some .metronome | 11 => some .railConfig | 12 => some .railQuery
  | 13 => some .railMove | 14 => some .railStop | 15 => some .railHalt | 16 => some .railClear
  | 17 => some .railSettle | 18 => some .railUnsettle | 19 => some .playStart | 20 => some .playNext
  | 21 => some .playSettle | 22 => some .playUnsettle | 23 => some .playTempo | 24 => some .playParts
  | 25 => some .playSeek | 26 => some .playPause | 27 => some .playResume | 28 => some .playStop
  | 29 => some .recordStart | 30 => some .recordStop | 31 => some .recordMark | 32 => some .journalFlush
  | 33 => some .snapshotNow | 34 => some .standbyEnter
  | _ => none

/-- Table 10-2. -/
def AttachState.code : AttachState → Nat
  | .detached => 0 | .validating => 1 | .attached => 2 | .rejected => 3 | .standby => 4 | .woken => 5

/-- Table 10-2. -/
def RejectReason.code : RejectReason → Nat
  | .none => 0 | .magic => 1 | .version => 2 | .pages => 3 | .layout => 4 | .readFail => 5

/-- Table 1-2 order. -/
def LaneState.code : LaneState → Nat
  | .off => 0 | .probing => 1 | .active => 2 | .recovering => 3 | .absent => 4

/-- Table 12-4. -/
def AbsentReason.code : AbsentReason → Nat
  | .none => 0 | .probeFail => 1 | .position => 2 | .retries => 3

/-- Table 2-2. -/
def KeyState.code : KeyState → Nat
  | .rest => 0 | .pressed => 1 | .rising => 2 | .missed => 3 | .sounding => 4 | .rearmed => 5 | .restriking => 6
  | .returning => 7 | .waitRest => 8 | .calibrating => 9 | .disabled => 10

/-- Table 6-3. -/
def RailState.code : RailState → Nat
  | .unknown => 0 | .homing => 1 | .idle => 2 | .gated => 3 | .moving => 4 | .paused => 5 | .seating => 6 | .faulted => 7

/-- Table 12-4. -/
def PositionClass.code : PositionClass → Nat
  | .clear => 0 | .crossing => 1 | .nearSilent => 2 | .silent => 3

/-- Table 6-5. -/
def MoveKind.code : MoveKind → Nat
  | .home => 0 | .engage => 1 | .park => 2 | .goto => 3 | .jog => 4

/-- Table 6-5. -/
def MoveKind.ofCode : Nat → Option MoveKind
  | 0 => some .home | 1 => some .engage | 2 => some .park | 3 => some .goto | 4 => some .jog | _ => none

/-- Table 12-4. -/
def StopCause.code : StopCause → Nat
  | .none => 0 | .complete => 1 | .stopRequest => 2 | .haltRequest => 3 | .limitNear => 4 | .limitFar => 5 | .stall => 6
  | .driverFault => 7 | .hammerTimeout => 8 | .gateTimeout => 9 | .notSeated => 10 | .homeNotFound => 11

/-- The pattern codes of RAIL_QUERY and of the lamp-mode field (after Table 12-3). -/
def LampPattern.code : LampPattern → Nat
  | .off => 1 | .on => 2 | .blink05 => 3 | .blink1 => 4 | .blink2 => 5 | .blink4 => 6 | .fade => 7

/-- The lamp-mode field: AUTO is 0. -/
def LampMode.code : LampMode → Nat
  | .auto => 0
  | .show p => p.code

/-- The lamp-mode field; its three bits have no other value. -/
def LampMode.ofCode : Nat → LampMode
  | 1 => .show .off | 2 => .show .on | 3 => .show .blink05 | 4 => .show .blink1 | 5 => .show .blink2
  | 6 => .show .blink4 | 7 => .show .fade | _ => .auto

/-- KEEP 0, FADE 1, OFF 2. -/
def StandbyLamp.code : StandbyLamp → Nat
  | .keep => 0 | .fade => 1 | .off => 2

/-- KEEP 0, FADE 1, OFF 2; 3 names none. -/
def StandbyLamp.ofCode : Nat → Option StandbyLamp
  | 0 => some .keep | 1 => some .fade | 2 => some .off | _ => none

/-- Table 7-3 order. -/
def PlayerState.code : PlayerState → Nat
  | .idle => 0 | .loading => 1 | .playing => 2 | .waiting => 3 | .starved => 4 | .paused => 5 | .seeking => 6
  | .ended => 7 | .faulted => 8

/-- SOUND, MUTE, GUIDE in the order of Table 7-2. Chapter 12 numbers no part mode: the codes are the model's own reading (log 76). -/
def PartMode.code : PartMode → Nat
  | .sound => 0 | .mute => 1 | .guide => 2

/-- The part mode of a code (log 76); 3 names none (Table 12-3). -/
def PartMode.ofCode : Nat → Option PartMode
  | 0 => some .sound | 1 => some .mute | 2 => some .guide | _ => none

/-- Table 8-1 order. -/
def RecorderState.code : RecorderState → Nat
  | .idle => 0 | .armed => 1 | .recording => 2 | .closing => 3

/-- Table 9-3 order. -/
def WriterState.code : WriterState → Nat
  | .off => 0 | .idle => 1 | .claiming => 2 | .filling => 3 | .waiting => 4

/-- Table 9-1 order, KEY_DOWN 0 to PLAY_NOTE_OFF 13. -/
def RecordKind.code : RecordKind → Nat
  | .keyDown => 0 | .keyUp => 1 | .pedal => 2 | .footswitch => 3 | .jack => 4 | .lane => 5 | .calib => 6 | .voice => 7
  | .beat => 8 | .rail => 9 | .player => 10 | .recorder => 11 | .playNoteOn => 12 | .playNoteOff => 13

/-- Table 12-4. -/
def LivePolicy.code : LivePolicy → Nat
  | .silentOnly => 0 | .always => 1 | .never => 2

/-- Table 12-4. -/
def LivePolicy.ofCode : Nat → Option LivePolicy
  | 0 => some .silentOnly | 1 => some .always | 2 => some .never | _ => none

/-- FREE 0, FOLLOW 1. -/
def MetronomeMode.code : MetronomeMode → Nat
  | .free => 0 | .follow => 1

/-- FREE 0, FOLLOW 1. -/
def MetronomeMode.ofCode : Nat → Option MetronomeMode
  | 0 => some .free | 1 => some .follow | _ => none

/-- R54, R57: the order of the debounce times. -/
def Debounce.code : Debounce → Nat
  | .ms0 => 0 | .ms2 => 1 | .ms8 => 2 | .ms32 => 3

/-- R54, R57: two bits, every value named. -/
def Debounce.ofCode : Nat → Debounce
  | 0 => .ms0 | 1 => .ms2 | 2 => .ms8 | _ => .ms32

/-- R53: the debounce times, in µs. -/
def Debounce.micros : Debounce → Nat
  | .ms0 => 0 | .ms2 => 2000 | .ms8 => 8000 | .ms32 => 32000

/-- R54. -/
def EdgeSelection.code : EdgeSelection → Nat
  | .off => 0 | .falling => 1 | .rising => 2 | .both => 3

/-- R54: two bits, every value named. -/
def EdgeSelection.ofCode : Nat → EdgeSelection
  | 0 => .off | 1 => .falling | 2 => .rising | _ => .both

/-- R54. -/
def SwitchAction.code : SwitchAction → Nat
  | .none => 0 | .playToggle => 1 | .metronomeToggle => 2 | .mark => 3 | .railToggle => 4

/-- R54; 5 to 7 name none. -/
def SwitchAction.ofCode : Nat → Option SwitchAction
  | 0 => some .none | 1 => some .playToggle | 2 => some .metronomeToggle | 3 => some .mark | 4 => some .railToggle
  | _ => none

/-- Table 12-4: NONE 0, KEY 1, FOOTSWITCH 2. -/
def WakeCause.code : WakeCause → Nat
  | .none => 0 | .key _ => 1 | .footswitch _ => 2

/-- Table 12-7: the wake key or switch, 1 or 2 for a switch, 0xFF when absent. -/
def WakeCause.which : WakeCause → Nat
  | .none => 0xFF | .key k => k.val | .footswitch i => i.val + 1

/-! ### Region header, journal pages and records -/

/-- Table 12-6: the 16 bytes of a journal record. -/
def JournalRecord.bytes (r : JournalRecord) : List Byte :=
  le32 r.timestamp.toNat ++ le8 r.kind.code ++
    le8 (flagBit r.flags.rep + 2 * flagBit r.flags.forced + 4 * flagBit r.flags.ignored + 8 * flagBit r.flags.playback) ++
    le8 r.subject ++ le8 r.detail ++ le16 r.value ++ le8 r.item ++ List.replicate 5 0

/-- The region header (Table 12-1). -/
structure RegionHeader where
  magic : Nat
  version : Nat
  pages : Nat
  size : Nat
  board : Nat
  ring : Nat
  triplet : Nat
  sealPeriod : Nat
  deriving DecidableEq, Repr

/-- Table 12-1. -/
def RegionHeader.parse (bs : List Byte) : RegionHeader :=
  { magic := u32At bs 0, version := u16At bs 4, pages := u16At bs 6, size := u64At bs 8, board := u32At bs 16
    ring := u32At bs 20, triplet := u32At bs 24, sealPeriod := u16At bs 28 }

/-- Two areas, each a start and a length, do not overlap. -/
def disjointAreas (a b : Nat × Nat) : Bool := a.1 + a.2 ≤ b.1 || b.1 + b.2 ≤ a.1

/-- R179, Table 10-4: the reason of the first check that fails, in order, or none. -/
def RegionHeader.reject (base : Word64) (h : RegionHeader) : RejectReason :=
  let areas := [(0, 64), (h.board, 2048), (h.ring, h.pages * 1024), (h.triplet, 1544)]
  if h.magic ≠ 0x4B475848 then .magic
  else if h.version ≠ 1 then .version
  else if h.pages < 4 || 64 < h.pages then .pages
  else if h.board % 64 ≠ 0 || h.ring % 64 ≠ 0 || h.triplet % 64 ≠ 0 then .layout
  else if 100 < h.sealPeriod then .layout
  else if areas.any (fun a => h.size < a.1 + a.2) then .layout
  else if !(disjointAreas (0, 64) (h.board, 2048) && disjointAreas (0, 64) (h.ring, h.pages * 1024)
      && disjointAreas (0, 64) (h.triplet, 1544) && disjointAreas (h.board, 2048) (h.ring, h.pages * 1024)
      && disjointAreas (h.board, 2048) (h.triplet, 1544) && disjointAreas (h.ring, h.pages * 1024) (h.triplet, 1544)) then
    .layout
  else if 2 ^ 64 < base.toNat + h.size then .layout
  else .none

/-! ### Lane frames (R8) -/

/-- A frame's sequence number and raw readings (R8). -/
structure Frame where
  sequence : BitVec 4
  readings : List Nat
  deriving DecidableEq, Repr

/-- R8: the readings of a lane's frame: 11 key and 11 hammer readings, or three pedal readings. -/
def frameReadings (lane : Fin 9) : Nat := if lane = 8 then 3 else 22

/-- R8, R196: what arrived on a lane whose frames carry `n` readings: none when too short; otherwise the frame, and whether
its CRC is right. Bytes past the frame are disregarded (log 12). -/
def parseFrame (n : Nat) (bytes : List Byte) : Option (Frame × Bool) :=
  if bytes.length < 2 * n + 2 then none
  else
    let frame : Frame :=
      { sequence := BitVec.ofNat 4 (u8At bytes 0)
        readings := (List.range n).map fun j => u16At bytes (1 + 2 * j) % 1024 }
    some (frame, crc8 (bytes.take (2 * n + 1)) == bytes.getD (2 * n + 1) 0)

/-! ### Tables (R204) -/

/-- R204: a calibration record of ten u16 fields at offset `i`. -/
def Calibration.parse (bs : List Byte) (i : Nat) : Calibration :=
  { keyRest := u16At bs i, keyBottom := u16At bs (i + 2), hammerRest := u16At bs (i + 4), hammerTop := u16At bs (i + 6)
    press := u16At bs (i + 8), damper := u16At bs (i + 10), rearm := u16At bs (i + 12), clear := u16At bs (i + 14)
    gateLow := u16At bs (i + 16), gateHigh := u16At bs (i + 18) }

/-- R204: the 20 bytes of a calibration record. -/
def Calibration.bytes (c : Calibration) : List Byte :=
  le16 c.keyRest ++ le16 c.keyBottom ++ le16 c.hammerRest ++ le16 c.hammerTop ++ le16 c.press ++ le16 c.damper ++
    le16 c.rearm ++ le16 c.clear ++ le16 c.gateLow ++ le16 c.gateHigh

/-- The distance of two raw values. -/
def distance (a b : Nat) : Nat := (a - b) + (b - a)

/-- R20: a calibration record is valid. -/
def Calibration.valid (c : Calibration) : Bool :=
  c.keyRest ≤ 1023 && c.keyBottom ≤ 1023 && c.hammerRest ≤ 1023 && c.hammerTop ≤ 1023 &&
  c.press < c.damper && c.damper < c.rearm && c.rearm ≤ 1000 &&
  c.clear < c.gateLow && c.gateLow < c.gateHigh && c.gateHigh ≤ 1000 &&
  200 ≤ distance c.keyRest c.keyBottom && 200 ≤ distance c.hammerRest c.hammerTop

/-- R204: CURVE[i + 1] of a curve table. -/
def curveEntry (bs : List Byte) (i : Nat) : Nat := u16At bs (2 * i)

/-- R44: the first v from 2 to 127 with CURVE[v] above CURVE[v - 1], or none. -/
def curveFault (bs : List Byte) : Option Nat :=
  ((List.range 126).find? fun i => curveEntry bs i < curveEntry bs (i + 1)).map (· + 2)

/-- Table 4-1, R204: the zone record of 32 bytes at offset `i`. -/
def Zone.parse (bs : List Byte) (i : Nat) : Zone :=
  { address := BitVec.ofNat 64 (u64At bs i), length := u32At bs (i + 8), loopStart := u32At bs (i + 12)
    loopLength := u32At bs (i + 16), decay := u16At bs (i + 20), top := u8At bs (i + 22) }

/-- R60: what a used entry must satisfy by itself. -/
def Zone.valid (z : Zone) : Bool :=
  z.address ≠ 0 && z.address.toNat % 4 == 0 && z.length ≠ 0 && z.length % 2 == 0 &&
  (if z.loopLength = 0 then z.loopStart == 0
   else 512 ≤ z.loopLength && z.loopStart % 2 == 0 && z.loopLength % 2 == 0 && z.loopStart + z.loopLength ≤ z.length)

/-- The four entries of the zone set at offset `i`. -/
def zoneEntries (bs : List Byte) (i : Nat) : List Zone := (List.range 4).map fun e => Zone.parse bs (i + 32 * e)

/-- The used entries of a set (R59). -/
def usedZones (entries : List Zone) : List Zone := entries.filter fun z => z.top ≠ 0

/-- R60: the first entry at which a set fails, or none for a valid set. An entry used after an unused one is the one at which
the set fails, which is the model's own choice (log 42); the entry that must have the velocity limit 127 is the last used
one of the whole set. -/
def zoneSetFault (entries : List Zone) : Option Nat :=
  (List.range 4).find? fun e =>
    let z := entries.getD e .blank
    let before := entries.getD (e - 1) .blank
    let lastUsed := (entries.drop (e + 1)).all fun z => z.top == 0
    z.top ≠ 0 &&
      ((e ≠ 0 && (before.top == 0 || z.top ≤ before.top)) || !z.valid || (lastUsed && z.top ≠ 127))

/-- R204: the two sets of key `k` of a key map table. -/
def KeyZones.parse (bs : List Byte) (k : Nat) : KeyZones :=
  { normal := usedZones (zoneEntries bs (256 * k)), unaCorda := usedZones (zoneEntries bs (256 * k + 128)) }

/-- R62: the first set that is not valid, keys ascending and the normal set first: key, set and entry. -/
def keyMapFault (bs : List Byte) : Option (Nat × Nat × Nat) :=
  (List.range 176).findSome? fun j =>
    (zoneSetFault (zoneEntries bs (128 * j))).map fun e => (j / 2, j % 2, e)

/-! ### Score blocks (Tables 12-8, 12-9) -/

/-- Table 12-9: the event at offset `i`. -/
def ScoreEvent.parse (bs : List Byte) (i : Nat) : ScoreEvent :=
  { delta := u16At bs i, kind := u8At bs (i + 2), target := u8At bs (i + 3), value := u16At bs (i + 4)
    part := u8At bs (i + 6), aux := u8At bs (i + 7) }

/-- Table 12-9: the 8 bytes of an event. -/
def ScoreEvent.bytes (e : ScoreEvent) : List Byte :=
  le16 e.delta ++ le8 e.kind ++ le8 e.target ++ le16 e.value ++ le8 e.part ++ le8 e.aux

/-- Table 12-8: a score block of 4,096 bytes. -/
def ScoreBlock.parse (bs : List Byte) : ScoreBlock :=
  { magic := u32At bs 0, takeId := BitVec.ofNat 32 (u32At bs 4), index := u16At bs 8, count := u16At bs 10
    last := bitOf (u8At bs 12) 0, next := BitVec.ofNat 64 (u64At bs 16), tempo := u16At bs 24
    events := (List.range (min (u16At bs 10) Config.blockEvents)).map fun e => ScoreEvent.parse bs (32 + 8 * e) }

/-- Table 12-8: the 32 bytes of a score block header. -/
def scoreHeaderBytes (takeId : Word32) (index count : Nat) (last : Bool) (next : Word64) (tempo : Nat) : List Byte :=
  le32 0x4B475342 ++ le32 takeId.toNat ++ le16 index ++ le16 count ++ le8 (flagBit last) ++ List.replicate 3 0 ++
    le64 next.toNat ++ le16 tempo ++ List.replicate 6 0

/-- R133, Table 7-1: a score position has reached a score time. Both are 32 bits and wrap, and a time stands at or behind the
position when it lies less than half of them back (log 25). -/
def reached (time position : Word32) : Bool := (position - time).toNat < 2147483648

/-- A TEMPO value taken into 300 to 3,000 (R93, R130, R134). -/
def clampTempo (t : Nat) : Nat := min 3000 (max 300 t)

/-! ### Argument areas (Table 12-3, R201) -/

/-- R99: a rail configuration is valid. -/
def RailConfig.valid (c : RailConfig) : Bool :=
  1 ≤ c.span && c.park < c.crossStart && c.crossStart < c.crossEnd && c.crossEnd ≤ c.silent && c.silent ≤ c.span &&
  c.span ≤ 32000 && 50 ≤ c.profile.fl && c.profile.fl ≤ 2000 && c.profile.fl ≤ c.profile.fh && c.profile.fh ≤ 40000 &&
  100 ≤ c.profile.accel && c.profile.accel ≤ 200000 && 100 ≤ c.profile.decel && c.profile.decel ≤ 200000 &&
  c.profile.rampOffset ≤ 2000 && c.homeIndexCount ≤ 15 && 10 ≤ c.quietHold && c.quietHold ≤ 200 &&
  1 ≤ c.gateLimit && c.gateLimit ≤ 100 && 5 ≤ c.pauseLimit && c.pauseLimit ≤ 100

/-- The arguments of RAIL_CONFIG: none when the standby choice is 3. -/
def RailConfig.parse (a : List Byte) : Option RailConfig :=
  let options := u8At a 23
  (StandbyLamp.ofCode (bitsOf options 3 2)).map fun lamp =>
    { span := u16At a 0, park := u16At a 2, crossStart := u16At a 4, crossEnd := u16At a 6, silent := u16At a 8
      profile := { fl := u16At a 10, fh := u16At a 12, accel := 100 * u16At a 14, decel := 100 * u16At a 16
                   sCurve := bitOf options 0, rampOffset := bitsOf (u16At a 18) 0 12 }
      homeIndexCount := bitsOf (u16At a 18) 12 4, quietHold := u8At a 20, gateLimit := u8At a 21, pauseLimit := u8At a 22
      autoNext := bitOf options 1, lampMode := LampMode.ofCode (bitsOf options 5 3), activeLow := bitOf options 2
      standbyLamp := lamp }

/-- The result area of RAIL_CONFIG: the configuration as the arguments lay it out. -/
def RailConfig.bytes (c : RailConfig) : List Byte :=
  le16 c.span ++ le16 c.park ++ le16 c.crossStart ++ le16 c.crossEnd ++ le16 c.silent ++ le16 c.profile.fl ++
    le16 c.profile.fh ++ le16 (c.profile.accel / 100) ++ le16 (c.profile.decel / 100) ++
    le16 (c.profile.rampOffset + 4096 * c.homeIndexCount) ++ le8 c.quietHold ++ le8 c.gateLimit ++ le8 c.pauseLimit ++
    le8 (flagBit c.profile.sCurve + 2 * flagBit c.autoNext + 4 * flagBit c.activeLow + 8 * c.standbyLamp.code +
      32 * c.lampMode.code)

/-- The arguments of RAIL_MOVE: none for an unknown kind. -/
def MoveRequest.parse (slot : Fin 32) (a : List Byte) : Option MoveRequest :=
  (MoveKind.ofCode (u8At a 4)).map fun kind =>
    { kind := kind, argument := i32At a 0, fl := u16At a 6, fh := u16At a 8, accel := 100 * u16At a 10
      decel := 100 * u16At a 12, rampOffset := u16At a 14, shape := u8At a 16, slot := some slot }

/-- The part modes of a byte, part p in bits 2p+1 to 2p: none when a pair is 3. -/
def parseParts (n : Nat) : Option (Vector PartMode 4) :=
  match PartMode.ofCode (bitsOf n 0 2), PartMode.ofCode (bitsOf n 2 2), PartMode.ofCode (bitsOf n 4 2),
    PartMode.ofCode (bitsOf n 6 2) with
  | some a, some b, some c, some d => some #v[a, b, c, d]
  | _, _, _, _ => none

/-- The part modes as a byte. -/
def partsByte (p : Vector PartMode 4) : Nat :=
  p[0].code + 4 * p[1].code + 16 * p[2].code + 64 * p[3].code

/-- Table 7-2: the take record of PLAY_START and PLAY_NEXT; none when R129 refuses it INVALID. -/
def TakeRecord.parse (a : List Byte) : Option TakeRecord :=
  let flags := u8At a 14
  let address := u64At a 0
  let loopA := if bitOf flags 3 then some (u8At a 18) else none
  let loopB := if bitOf flags 4 then some (u8At a 19) else none
  match parseParts (u8At a 13) with
  | none => none
  | some parts =>
    if address = 0 || address % 4096 ≠ 0 || u8At a 12 < 25 || 200 < u8At a 12 || 60 < u8At a 15 || 250 < u8At a 16
        || (loopA.isSome && loopA == loopB) then
      none
    else
      some
        { firstBlock := BitVec.ofNat 64 address, takeId := BitVec.ofNat 32 (u32At a 8)
          startMarker := if bitOf flags 2 then some (u8At a 17) else none
          tempo := u8At a 12, parts := parts, follow := bitOf flags 0, followTimeout := u8At a 15
          earlyWindow := u8At a 16, loopA := loopA, loopB := loopB, loopCount := u8At a 20
          journalNotes := bitOf flags 1 }

/-- The FS1 or FS2 byte of PEDAL_CONFIG: the stage's settings and the action; none for the actions 5 to 7. -/
def parseSwitch (n : Nat) : Option (Debounce × EdgeSelection × SwitchAction × Bool) :=
  (SwitchAction.ofCode (bitsOf n 4 3)).map fun action =>
    (Debounce.ofCode (bitsOf n 0 2), EdgeSelection.ofCode (bitsOf n 2 2), action, bitOf n 7)

/-- The FS1 or FS2 byte of the PEDAL_CONFIG result. -/
def switchByte (stage : SwitchStage) (action : SwitchAction) : Nat :=
  stage.debounce.code + 4 * stage.edges.code + 16 * action.code + 128 * flagBit stage.wake

/-- R47: a pedal calibration is valid. -/
def PedalCalibration.valid (c : PedalCalibration) : Bool :=
  c.rest ≤ 1023 && c.full ≤ 1023 && 64 ≤ distance c.rest c.full

/-- R46, R57: pedal settings in their ranges. -/
def PedalSettings.valid (p : PedalSettings) : Bool :=
  p.calibration[0].valid && p.calibration[1].valid && p.calibration[2].valid &&
  p.damperFree < p.damperHold && p.damperHold ≤ 127 && 1 ≤ p.step && p.step ≤ 16

/-- The pedal group of PEDAL_CONFIG. -/
def PedalSettings.parse (a : List Byte) : PedalSettings :=
  { calibration := #v[{ rest := u16At a 6, full := u16At a 8 }, { rest := u16At a 10, full := u16At a 12 },
      { rest := u16At a 14, full := u16At a 16 }]
    damperFree := u8At a 1, damperHold := u8At a 2, step := u8At a 3 }

/-- The settings of METRONOME in their ranges (Table 5-2); none when R96 refuses them. -/
def MetronomeSettings.parse (a : List Byte) : Option MetronomeSettings :=
  match MetronomeMode.ofCode (u8At a 2) with
  | none => none
  | some mode =>
    let flags := u8At a 1
    if u16At a 4 < 30 || 300 < u16At a 4 || u8At a 3 < 1 || 16 < u8At a 3 || u8At a 6 < 6 || 63 < u8At a 6
        || u8At a 7 < 6 || 63 < u8At a 7 || u8At a 8 < 10 || 50 < u8At a 8 || 127 < u8At a 9 then
      none
    else
      some
        { on := bitOf flags 0, mode := mode, tempo := u16At a 4, beats := u8At a 3, pitch := u8At a 6
          accent := u8At a 7, clickLength := u8At a 8, volume := u8At a 9, journalBeats := bitOf flags 1
          snapshotBeats := bitOf flags 2 }

/-- The METRONOME result area's settings: the 10 argument bytes with apply 0. -/
def MetronomeSettings.bytes (m : MetronomeSettings) : List Byte :=
  le8 0 ++ le8 (flagBit m.on + 2 * flagBit m.journalBeats + 4 * flagBit m.snapshotBeats) ++ le8 m.mode.code ++
    le8 m.beats ++ le16 m.tempo ++ le8 m.pitch ++ le8 m.accent ++ le8 m.clickLength ++ le8 m.volume

end Sys2Proof.Machine
end

