-- ==== Sys2Proof/Machine/Flags.lean ====
section
/-! DEFINITION. The flags of the CAUSE register, the interrupt summary and the interrupt messages (R187, R188). -/

namespace Sys2Proof.Machine

/-- The bit of a flag in CAUSE and in the cause enables (Table 10-1). -/
def CauseFlag.index : CauseFlag → Nat
  | .board => 0 | .journal => 1 | .rail => 2 | .practice => 3 | .sense => 4 | .fetch => 5 | .region => 6 | .wake => 7

/-- The flag as a one-bit word of CAUSE. -/
def CauseFlag.mask (f : CauseFlag) : BitVec 8 := 1#8 <<< f.index

/-- R188: the interrupt summary. -/
def Registers.summary (r : Registers) : Bool := r.master && (r.cause &&& r.enables) != 0#8

/-- R188: an interrupt message falls due; it is sent only while the MSI capability is enabled (log 6). -/
def Hub.messageDue (h : Hub) : Hub :=
  { h with msiDue := h.msiDue + 1, msiSent := h.msiSent + flagBit (Config.msiCapabilityEnabled h.msiDue) }

/-- R188: the registers take new values, and a message falls due when the summary goes from false to true. -/
def Hub.setRegisters (r : Registers) (h : Hub) : Hub :=
  let h' : Hub := { h with regs := r }
  if r.summary && !h.regs.summary then h'.messageDue else h'

/-- R187: a cause flag is set, whatever the attach state. -/
def Hub.setFlag (f : CauseFlag) (h : Hub) : Hub :=
  h.setRegisters { h.regs with cause := h.regs.cause ||| f.mask }

/-- R187: a condition arises; it sets its flag while the part is ATTACHED. -/
def Hub.raise (f : CauseFlag) (h : Hub) : Hub := if h.attach = .attached then h.setFlag f else h

/-- R187, R188: a write to CAUSE clears the flags with a 1, and a message falls due if the summary is still true. -/
def Hub.clearCause (value : Word32) (h : Hub) : Hub :=
  let h' : Hub := { h with regs := { h.regs with cause := h.regs.cause &&& ~~~(value.setWidth 8) } }
  if h'.regs.summary then h'.messageDue else h'

/-- R178, R188, Table 10-2: the enable fields of a CONTROL write take effect. -/
def Hub.writeEnables (value : Word32) (h : Hub) : Hub :=
  h.setRegisters { h.regs with master := value.getLsbD 8, enables := (value >>> 16).setWidth 8 }

end Sys2Proof.Machine
end

