-- ==== Sys2Proof/Machine/Ops.lean ====
section
/-! DEFINITION. The shared operations: posted writes, the memory read scheduler (R191, R192), the life of a request (R184, R185), the journal writer (R165 to R176), and the falling due of sweeps and snapshots (R183, R189). Each acts on the hub alone. -/

namespace Sys2Proof.Machine

/-- The state with its hub changed. -/
def State.mapHub (f : Hub → Hub) (s : State) : State := { s with hub := f s.hub }

/-- R199, R1: the main domain is powered and out of reset (log 34). -/
def State.mainUp (s : State) : Bool := s.mainOn && s.resetHeld.isNone

/-- An effect of the main domain; it does not happen while the domain is without power or in reset (log 34). -/
def State.whenUp (f : State → State) (s : State) : State := if s.mainUp then f s else s

/-! ### Posted writes (R192) -/

/-- The part issues a write; no memory access is made while it is not ATTACHED (Table 10-3). -/
def Hub.post (writer : Writer) (address : Word64) (data : List Byte) (h : Hub) : Hub :=
  if h.attach = .attached then { h with posted := h.posted ++ [{ writer, address, data }] } else h

/-- The host address of a byte of the region in use (log 33: addresses wrap). -/
def Hub.regionAddress (offset : Nat) (h : Hub) : Word64 := h.region.base + BitVec.ofNat 64 offset

/-! ### The memory read scheduler (R191, R192) -/

/-- R191: the class of a read, 0 the first. -/
def ReadTag.priority : ReadTag → Nat
  | .voice .. => 0
  | .block .. => 1
  | .table _ | .keymap _ | .list => 2
  | .board _ | .pageHeader | .hold | .regionHeader => 3

/-- R191: read `a` is chosen before the later requested read `b`. -/
def Read.goesBefore (a b : Read) : Bool :=
  a.tag.priority < b.tag.priority ||
    (a.tag.priority == b.tag.priority && (a.tag.priority ≠ 0 || a.deadline ≤ b.deadline))

/-- R191: the next read to issue of those waiting, which stand in the order requested. -/
def chooseRead (now : Nat) : List Read → Option Read
  | [] => none
  | r :: rest =>
    match (r :: rest).find? fun q => q.requestedAt + Config.readAging < now with
    | some aged => some aged
    | none => some (rest.foldl (fun best q => if best.goesBefore q then best else q) r)

/-- R191: one waiting read is issued if a place is free. -/
def Hub.issueOne (h : Hub) : Hub :=
  if h.sched.outstanding.length < Config.maxOutstanding then
    match chooseRead h.now h.sched.waiting with
    | none => h
    | some r =>
      { h with sched := { h.sched with
          waiting := h.sched.waiting.filter fun q => q.id ≠ r.id
          outstanding := h.sched.outstanding ++ [{ r with issuedAt := h.now }] } }
  else h

/-- R191: reads are issued while a place is free and a read waits. -/
def Hub.issueReads (h : Hub) : Hub := h.issueOne.issueOne.issueOne.issueOne

/-- R191: a block requests a read. -/
def Hub.requestRead (tag : ReadTag) (address : Word64) (length : Nat) (deadline : Nat) (h : Hub) : Hub :=
  let r : Read :=
    { id := h.sched.nextReadId, tag, address, length, deadline, requestedAt := h.now, issuedAt := 0, discarded := false }
  Hub.issueReads
    { h with sched := { h.sched with waiting := h.sched.waiting ++ [r], nextReadId := h.sched.nextReadId + 1 } }

/-- The `n` reads of `size` bytes that cover a structure at `address`, the k-th with the tag `tag k`. -/
def Hub.requestParts {n : Nat} (tag : Fin n → ReadTag) (address : Word64) (size : Nat) (h : Hub) : Hub :=
  (List.finRange n).foldl (fun h k => h.requestRead (tag k) (address + BitVec.ofNat 64 (k.val * size)) size 0) h

/-- R191, R192: a requester withdraws its waiting reads and discards those already issued. -/
def Hub.dropReads (which : ReadTag → Bool) (h : Hub) : Hub :=
  { h with sched := { h.sched with
      waiting := h.sched.waiting.filter fun r => !which r.tag
      outstanding := h.sched.outstanding.map fun r => if which r.tag then { r with discarded := true } else r } }

/-- The outstanding read of a number. -/
def Hub.outstandingRead (id : Nat) (h : Hub) : Option Read := h.sched.outstanding.find? fun r => r.id == id

/-- R192: a read gives up its place, and the next is issued. -/
def Hub.retireRead (id : Nat) (h : Hub) : Hub :=
  Hub.issueReads { h with sched := { h.sched with outstanding := h.sched.outstanding.filter fun r => r.id ≠ id } }

/-- R192: what an arrival brings to its requester: the tag and the bytes of the length asked for (log 33), or a failure.
None when it reaches no requester: no such read is outstanding, the completion came after its 2 ms, or the read was
discarded. The outstanding place is given up in the hub answered; the flag of a failure is set in it. -/
def Hub.arrive (id : Nat) (outcome : ReadOutcome) (h : Hub) : Hub × Option (ReadTag × Option (List Byte)) :=
  match h.outstandingRead id with
  | none => (h, none)
  | some r =>
    if r.issuedAt + Config.readLimit < h.now then (h, none)
    else if r.discarded then (h.retireRead id, none)
    else
      match outcome with
      | .data bytes => (h.retireRead id, some (r.tag, some (padded r.length bytes)))
      | .error => ((h.retireRead id).raise .fetch, some (r.tag, none))

/-- R192: a read has been outstanding for 2 ms. -/
def Hub.timedOut (id : Nat) (h : Hub) : Hub × Option ReadTag :=
  match h.outstandingRead id with
  | none => (h, none)
  | some r =>
    if h.now < r.issuedAt + Config.readLimit then (h, none)
    else ((h.retireRead id).raise .fetch, if r.discarded then none else some r.tag)

/-- R192: an arrival row acts on the outstanding read it names when that read's tag is one of the row's. -/
def State.onArrival (rows : ReadTag → Bool) (id : Nat) (outcome : ReadOutcome)
    (handle : ReadTag → Option (List Byte) → State → State) (s : State) : State :=
  match s.hub.outstandingRead id with
  | none => s
  | some r =>
    if rows r.tag then
      match s.hub.arrive id outcome with
      | (hub, none) => { s with hub := hub }
      | (hub, some (tag, bytes)) => handle tag bytes { s with hub := hub }
    else s

/-! ### Pieces of a structure read in parts -/

/-- `n` parts, none of which has arrived. -/
def noChunks (n : Nat) : List (Option (List Byte)) := List.replicate n none

/-- Part `k` has arrived. -/
def putChunk (chunks : List (Option (List Byte))) (k : Nat) (bytes : List Byte) : List (Option (List Byte)) :=
  chunks.set k (some bytes)

/-- All the bytes when every part has arrived. -/
def allChunks (chunks : List (Option (List Byte))) : Option (List Byte) :=
  if chunks.all Option.isSome then some (chunks.flatMap fun c => c.getD []) else none

/-! ### The request board (R182, R184, R185) -/

/-- The address of a byte of a request slot (Table 12-2). -/
def Hub.slotAddress (slot : Fin 32) (offset : Nat) (h : Hub) : Word64 :=
  h.regionAddress (h.region.board + 64 * slot.val + offset)

/-- R185: the four writes of a finished request, and CAUSE.BOARD. `final` is DONE (3) or REFUSED (4). -/
def Hub.writeResult (slot : Fin 32) (tag : Word16) (code : ResultCode) (data : List Byte) (final : Nat) (h : Hub) : Hub :=
  Hub.raise .board <|
  Hub.post .exchange (h.slotAddress slot 0) (le8 final) <|
  Hub.post .exchange (h.slotAddress slot 0x20) (padded 32 data) <|
  Hub.post .exchange (h.slotAddress slot 4) (le8 code.code) <|
  Hub.post .exchange (h.slotAddress slot 2) (le16 tag.toNat) h

/-- R184: the block that owns a request, as the chapter of each kind gives it; a TABLE_LOAD is the key tracker's for CURVE
and CALIB and the voice engine's for KEYMAP (R43, R61). -/
def RequestKind.ownerFor (args : List Byte) : RequestKind → Owner
  | .laneControl => .laneController
  | .senseConfig | .calibrateKeys | .calibAbort => .keyTracker
  | .tableLoad => if u8At args 8 = 2 then .voiceEngine else .keyTracker
  | .pedalConfig => .pedalBlock
  | .voiceConfig | .voiceCut => .voiceEngine
  | .outputConfig | .metronome => .outputBlock
  | .railConfig | .railQuery | .railMove | .railStop | .railHalt | .railClear | .railSettle | .railUnsettle => .railController
  | .playStart | .playNext | .playSettle | .playUnsettle | .playTempo | .playParts | .playSeek | .playPause | .playResume
  | .playStop => .player
  | .recordStart | .recordStop | .recordMark => .recorder
  | .journalFlush => .journalWriter
  | .snapshotNow => .exchangeController
  | .standbyEnter => .standbyController

/-- The entry a slot has in the table of requests in flight. -/
def Hub.inFlightEntry (slot : Fin 32) (h : Hub) : Option InFlight := h.inFlight.find? fun e => e.slot == slot

/-- R184: the table of requests in flight holds the slot. -/
def Hub.holdsSlot (slot : Fin 32) (h : Hub) : Bool := h.inFlight.any fun e => e.slot == slot

/-- R184 step 5: a request is taken. -/
def Hub.takeRequest (slot : Fin 32) (kind : RequestKind) (tag : Word16) (owner : Owner) (h : Hub) : Hub :=
  Hub.post .exchange (h.slotAddress slot 0) (le8 2) { h with inFlight := h.inFlight ++ [{ slot, kind, tag, owner }] }

/-- R184 steps 2 and 4: a request is refused. -/
def Hub.refuseRequest (slot : Fin 32) (tag : Word16) (code : ResultCode) (h : Hub) : Hub :=
  h.writeResult slot tag code [] 4

/-- R185: an owner completes a request; a completion for a request the table does not hold is discarded (R181). -/
def Hub.completeRequest (slot : Fin 32) (code : ResultCode) (data : List Byte) (h : Hub) : Hub :=
  match h.inFlightEntry slot with
  | none => h
  | some e =>
    let h1 : Hub := { h with inFlight := h.inFlight.filter fun q => q.slot ≠ slot }
    h1.writeResult slot e.tag code data 3

/-- A completion for the request that an optional slot names. -/
def Hub.completeOptional (slot : Option (Fin 32)) (code : ResultCode) (data : List Byte) (h : Hub) : Hub :=
  match slot with
  | none => h
  | some k => h.completeRequest k code data

/-- R184: the sweep visits a POSTED slot. `args` are the request's arguments, `refuse` is the owner's refusal, `act` what it
does on taking the request. No slot is visited while a standby entry is under way (R194). -/
def State.visitSlot (slot : Fin 32) (kind : RequestKind) (tag : Word16) (args : List Byte) (refuse : Option ResultCode)
    (act : State → State) (s : State) : State :=
  if s.hub.attach ≠ .attached || s.entry.isSome || !s.mainUp || s.hub.holdsSlot slot then s
  else if Config.maxInFlight ≤ s.hub.inFlight.length then { s with hub := { s.hub with cursor := slot } }
  else
    match refuse with
    | some code =>
      s.mapHub fun h => { h.refuseRequest slot tag code with cursor := slot + 1 }
    | none => act (s.mapHub fun h => { h.takeRequest slot kind tag (kind.ownerFor args) with cursor := slot + 1 })

/-! ### The journal writer (R165 to R176) -/

/-- The address of a byte of the page at the cursor (Tables 12-1, 12-5). -/
def Hub.pageAddress (offset : Nat) (h : Hub) : Word64 :=
  h.regionAddress (h.region.ring + 1024 * h.journal.cursor + offset)

/-- R169, R173: the writer enters CLAIMING and reads the header of the page at the cursor. -/
def Hub.claimPage (h : Hub) : Hub :=
  Hub.requestRead .pageHeader (h.pageAddress 0) 16 0 { h with journal := { h.journal with state := .claiming } }

/-- R171: the page at the cursor is sealed. -/
def Hub.sealPage (h : Hub) : Hub :=
  let j := h.journal
  let header := le8 j.pageRecords ++ [0, 0] ++ le32 j.sequence.toNat ++ le32 j.pageGap.toNat ++ le32 j.firstTimestamp.toNat
  let h1 := Hub.post .journal (h.pageAddress 0) (le8 2) (Hub.post .journal (h.pageAddress 1) header h)
  let h2 := h1.raise .journal
  let h3 : Hub := { h2 with journal := { j with
      state := .idle, sequence := j.sequence + 1, sealed := j.sealed + 1, gapsWritten := j.gapsWritten + j.pageGap
      cursor := if j.cursor + 1 < j.pages then j.cursor + 1 else 0, pageGap := 0, pageRecords := 0 } }
  if j.queue.isEmpty then h3 else h3.claimPage

/-- R170: the oldest record of the queue is written into the page being filled. -/
def Hub.writeRecord (r : JournalRecord) (tag : Word32) (rest : List (JournalRecord × Word32)) (h : Hub) : Hub :=
  let j := h.journal
  let first := j.pageRecords == 0
  let h1 := Hub.post .journal (h.pageAddress (16 + 16 * j.pageRecords)) r.bytes h
  { h1 with journal := { j with
      queue := rest, pageRecords := j.pageRecords + 1, recordsWritten := j.recordsWritten + 1
      pageGap := if first then tag else j.pageGap
      firstTimestamp := if first then r.timestamp else j.firstTimestamp
      fillStart := if first then h.now else j.fillStart } }

/-- R170, R172: the writer in FILLING takes the queue's records, given as `records`, until it seals the page or the queue
is empty. -/
def Hub.fillFrom : List (JournalRecord × Word32) → Hub → Hub
  | [], h => h
  | (r, tag) :: rest, h =>
    if tag ≠ 0 && h.journal.pageRecords ≠ 0 then h.sealPage
    else
      let h1 := h.writeRecord r tag rest
      if h1.journal.pageRecords = Config.pageRecords then h1.sealPage else fillFrom rest h1

/-- The writer acts on its queue: it claims a page in IDLE (R169) and writes records in FILLING (R170). -/
def Hub.runWriter (h : Hub) : Hub :=
  match h.journal.state with
  | .idle => if h.journal.queue.isEmpty then h else h.claimPage
  | .filling => h.fillFrom h.journal.queue
  | _ => h

/-- R167, R168: a record is handed to the journal writer. -/
def Hub.hand (r : JournalRecord) (h : Hub) : Hub :=
  let j := h.journal
  if j.state = .off then h
  else if Config.journalDepth ≤ j.queue.length then
    { h with journal := { j with
        handed := j.handed + 1, runningGap := j.runningGap + 1, gapTotal := j.gapTotal + 1 } }
  else
    Hub.runWriter { h with journal := { j with
        handed := j.handed + 1, queue := j.queue ++ [(r, j.runningGap)], runningGap := 0 } }

/-- R165: a record with the performance clock of the event, which is now. -/
def Hub.note (kind : RecordKind) (subject value detail item : Nat) (flags : RecordFlags) (h : Hub) : Hub :=
  h.hand { timestamp := h.performance, kind, flags, subject, detail, value, item }

/-- R167: the writer at the attach. -/
def Journal.attached (pages sealPeriod : Nat) (j : Journal) : Journal :=
  { j with
    state := .idle, pages := pages, sealPeriod := if sealPeriod = 0 then 5 else sealPeriod, cursor := 0, sequence := 0
    queue := [], runningGap := 0, pageGap := 0, pageRecords := 0, sealed := 0, gapTotal := 0, handed := 0
    recordsWritten := 0, gapsWritten := 0 }

/-- The sum of the gap tags of a queue. -/
def gapTags (queue : List (JournalRecord × Word32)) : Word32 := queue.foldl (fun n e => n + e.2) 0

/-- R176: the writer at a detach. R176 does not name the page record count, which R167 sets to 0 at the next attach: that it is 0
from the detach on is the model's own choice (log 69). -/
def Hub.journalDetach (h : Hub) : Hub :=
  let j := h.journal
  let left : Word32 := BitVec.ofNat 32 j.queue.length
  Hub.dropReads (fun t => t == .pageHeader)
    { h with journal := { j with
        state := .off, queue := [], pageGap := 0, pageRecords := 0
        runningGap := j.runningGap + gapTags j.queue + j.pageGap + left, gapTotal := j.gapTotal + left } }

/-- R174, R176: the writer, in FILLING, writes what the open page has room for and seals it; in any other state it seals
nothing. It answers whether a page was sealed, with its sequence and its record count. -/
def Hub.flush (h : Hub) : Hub × Option (Word32 × Nat) :=
  if h.journal.state = .filling then
    let h1 := h.runWriter
    let h2 := if h1.journal.state = .filling then h1.sealPage else h1
    (h2, some (h.journal.sequence, h.journal.pageRecords + (h1.journal.recordsWritten - h.journal.recordsWritten).toNat))
  else (h, none)

/-! ### Sweeps and snapshots falling due (R183, R189) -/

/-- R183: a sweep begins by reading the board in four reads. -/
def Hub.beginSweep (h : Hub) : Hub :=
  Hub.requestParts (n := 4) .board (h.regionAddress h.region.board) 512
    { h with sweep := { h.sweep with parts := some (noChunks 4), held := false } }

/-- R183: a board sweep falls due. -/
def Hub.sweepDue (h : Hub) : Hub :=
  if h.attach ≠ .attached then h
  else if h.sweep.parts.isSome then { h with sweep := { h.sweep with held := true } }
  else h.beginSweep

/-- R189, R190: a snapshot begins by reading the HOLD word; it serves the SNAPSHOT_NOW requests taken before it. -/
def Hub.beginSnapshot (h : Hub) : Hub :=
  Hub.requestRead .hold (h.regionAddress (h.region.triplet + 1540)) 4 0
    { h with snapshot := { h.snapshot with
        inProgress := true, held := false, serving := h.snapshot.waiting, waiting := [] } }

/-- R189: a snapshot falls due. -/
def Hub.snapshotDue (h : Hub) : Hub :=
  if h.attach ≠ .attached then h
  else if h.snapshot.inProgress then { h with snapshot := { h.snapshot with held := true } }
  else h.beginSnapshot

/-- R189: the snapshot in progress is published or abandoned, and a held one begins. -/
def Hub.endSnapshot (h : Hub) : Hub :=
  let h1 : Hub := { h with snapshot := { h.snapshot with inProgress := false, serving := [] } }
  if h1.snapshot.held then h1.beginSnapshot else h1

end Sys2Proof.Machine
end

