-- ==== Sys2Proof/Machine/Clock.lean ====
section
/-! DEFINITION. The passage of time: one microsecond, which a step takes when no command waits (log 1). -/

namespace Sys2Proof.Machine

/-- R133, R136: the score clock over one microsecond. It runs while the player is PLAYING, at its tempo percentage; a unit is
100 µs, so one microsecond at 100 % is a hundredth of it. -/
def Player.tick (p : Player) : Player :=
  if p.state = .playing then
    let part := p.positionPart + p.tempo
    { p with position := p.position + BitVec.ofNat 32 (part / 10000), positionPart := part % 10000 }
  else p

/-- The clocks of the main domain over one microsecond: the tracking clock (R19) and the performance clock. -/
def Hub.tick (h : Hub) : Hub := { h with tracking := h.tracking + 1, performance := h.performance + 1 }

/-- One microsecond passes. The main domain's clocks stand still while it is without power or in reset (log 34). -/
def State.tick (s : State) : State :=
  let s1 : State := { s with hub := { s.hub with now := s.hub.now + 1 } }
  s1.whenUp fun s => { s with hub := s.hub.tick, player := s.player.tick }

end Sys2Proof.Machine
end

