-- ==== Sys2Proof/Machine/Journal.lean ====
section
/-! DEFINITION. The commands of the journal writer (09_the_event_journal.md): claiming pages, the seal period, waiting for returned pages, and JOURNAL_FLUSH. The writer's operations stand in Ops. -/

namespace Sys2Proof.Machine

/-- The page header read. -/
def ReadTag.isPageHeader : ReadTag → Bool
  | .pageHeader => true
  | _ => false

/-- R173: the writer enters WAITING. -/
def Hub.waitForPage (h : Hub) : Hub :=
  Hub.raise .journal { h with journal := { h.journal with state := .waiting, waitStart := h.now } }

/-- R169: the page at the cursor is claimed, and the queue's records are written into it. -/
def Hub.takePage (h : Hub) : Hub :=
  let h1 := h.post .journal (h.pageAddress 0) (le8 1)
  Hub.runWriter { h1 with journal := { h1.journal with state := .filling, pageRecords := 0 } }

/-- R169: a page header arrives, or its read fails (none). -/
def Hub.pageHeaderRead (bytes : Option (List Byte)) (h : Hub) : Hub :=
  if h.journal.state = .claiming then
    match bytes with
    | some bs => if u8At bs 0 = 0 then h.takePage else h.waitForPage
    | none => h.waitForPage
  else h

/-- R173: a writer in WAITING re-reads the header of the page at the cursor. -/
def Hub.rereadPage (h : Hub) : Hub := if h.journal.state = .waiting then h.claimPage else h

/-- PAGE_HEADER_READ_ARRIVAL (R169). -/
def execPageHeaderReadArrival (read : Nat) (outcome : ReadOutcome) (s : State) : Host.Outcome State Fault Refusal :=
  .next (s.whenUp fun s => s.onArrival ReadTag.isPageHeader read outcome fun _ bytes s => s.mapHub (Hub.pageHeaderRead bytes))

/-- R171: the seal period has passed since the fill start. -/
def Hub.sealDue (h : Hub) : Bool :=
  h.journal.state == .filling && h.journal.fillStart + h.journal.sealPeriod * 1000 ≤ h.now

/-- SEAL_PERIOD_EXPIRY (R171). -/
def execSealPeriodExpiry (s : State) : Host.Outcome State Fault Refusal :=
  .next (s.whenUp fun s => s.mapHub fun h => if h.sealDue then h.sealPage else h)

/-- R173: the seal period has passed since the entry to WAITING. -/
def Hub.rereadDue (h : Hub) : Bool :=
  h.journal.state == .waiting && h.journal.waitStart + h.journal.sealPeriod * 1000 ≤ h.now

/-- WAIT_REREAD_EXPIRY (R173). -/
def execWaitRereadExpiry (s : State) : Host.Outcome State Fault Refusal :=
  .next (s.whenUp fun s => s.mapHub fun h => if h.rereadDue then h.rereadPage else h)

/-- R174: the result data of JOURNAL_FLUSH; with no page sealed the record count is 0xFF and the sequence 0 (log 28). -/
def Hub.flushResult (page : Option (Word32 × Nat)) (h : Hub) : List Byte :=
  let j := h.journal
  le8 (flagBit page.isSome) ++ le8 j.state.code ++ le8 (optional8 (page.map Prod.snd)) ++ le8 j.queue.length ++
    le32 ((page.map fun p => p.1.toNat).getD 0) ++ le32 j.runningGap.toNat ++ le32 j.sealed.toNat ++ le32 j.gapTotal.toNat

/-- R174: JOURNAL_FLUSH is taken. -/
def actJournalFlush (slot : Fin 32) (s : State) : State :=
  s.mapHub fun h =>
    let f := h.flush
    f.1.completeRequest slot .ok (f.1.flushResult f.2)

/-- JOURNAL_FLUSH (R174). -/
def execJournalFlush (slot : Fin 32) (tag : Word16) (a : List Byte) (s : State) : Host.Outcome State Fault Refusal :=
  .next (s.visitSlot slot .journalFlush tag a none (actJournalFlush slot))

end Sys2Proof.Machine
end

