-- ==== Sys2Proof/Machine/Voices.lean ====
section
/-! DEFINITION. The voice engine (04_the_voice_engine.md): starting, damping, cutting and ending voices, the pending-start queue, stealing and the polyphony limit, the streaming of samples, and the engine's requests. Its operations act on the hub and the engine alone. -/

namespace Sys2Proof.Machine

/-- The hub and the voice engine, which is all that the engine's operations read and change. -/
abbrev Engine := Hub × VoiceEngine

/-- The state with an engine operation applied. -/
def State.mapVoice (f : Engine → Engine) (s : State) : State :=
  let e := f (s.hub, s.voice)
  { s with hub := e.1, voice := e.2 }

/-- An operation on the hub, in the engine. -/
def Engine.onHub (f : Hub → Hub) (e : Engine) : Engine := (f e.1, e.2)

/-! ### The voice table (R63, R64) -/

/-- The record of a voice. -/
def VoiceEngine.get (k : Fin 96) (ve : VoiceEngine) : Voice := ve.voices[k]

/-- The record of a voice takes a value. -/
def VoiceEngine.put (k : Fin 96) (v : Voice) (ve : VoiceEngine) : VoiceEngine := { ve with voices := ve.voices.set k v }

/-- The number of voice records with a property. -/
def VoiceEngine.count (p : Voice → Bool) (ve : VoiceEngine) : Nat := ve.voices.toList.countP p

/-- R64: every phase but FREE is in use. -/
def Voice.inUse (v : Voice) : Bool := v.phase ≠ .free

/-- The voices in use, against the polyphony limit (R76). -/
def VoiceEngine.inUse (ve : VoiceEngine) : Nat := ve.count Voice.inUse

/-- The voices in a phase. -/
def VoiceEngine.inPhase (p : VoicePhase) (ve : VoiceEngine) : Nat := ve.count fun v => v.phase == p

/-- The pair of a voice is the key and source given. -/
def Voice.ofPair (key : Fin 88) (source : Source) (v : Voice) : Bool := v.key == key && v.source == source

/-- A voice that sounds or is being damped. -/
def Voice.alive (v : Voice) : Bool := v.phase == .sounding || v.phase == .damping

/-- R65: the lowest-numbered FREE record. -/
def VoiceEngine.firstFree (ve : VoiceEngine) : Option (Fin 96) :=
  (List.finRange 96).find? fun k => (ve.get k).phase == .free

/-! ### Levels (R65, R66) -/

/-- R65: the start level of a velocity, in level units. -/
def startLevel (velocity : Nat) : Nat := (127 - velocity) * 4 * Config.levelUnit

/-- The pedal set of a source (R67). -/
def VoiceEngine.pedalsOf (source : Source) (ve : VoiceEngine) : PedalSet :=
  match source with
  | .live => ve.livePedals
  | .playback => ve.playbackPedals

/-- R66: the damping rate of a source, in cB/s. -/
def VoiceEngine.dampingRate (source : Source) (ve : VoiceEngine) : Nat :=
  let level := (ve.pedalsOf source).damper
  if level ≤ ve.damperFree then ve.dampFull
  else if ve.damperHold ≤ level then 0
  else ve.dampFull * (ve.damperHold - level) / (ve.damperHold - ve.damperFree)

/-- R66: a voice's level after one more output sample period, at sample clock `clock`. A rate of 1 cB/s is 240 level units a
period. -/
def VoiceEngine.nextLevel (clock : Nat) (v : Voice) (ve : VoiceEngine) : Nat :=
  match v.phase with
  | .free => v.level
  | .sounding => v.level + v.zone.decay * 240
  | .damping => v.level + (v.zone.decay + ve.dampingRate v.source) * 240
  | .cutting => v.cutLevel + (Config.levelFloor - v.cutLevel) * min Config.cutPeriods (clock - v.cutTime) / Config.cutPeriods

/-- 2^64 × 10^(−2^b / 2,304,000,000) for b from 0 to 33: the factor of a level of 2^b units (R86; log 14). -/
def attenuationFactors : List Nat :=
  [18446744055274135862, 18446744036838720126, 18446743999967888711, 18446743926226226100,
   18446743778742901763, 18446743483776256627, 18446742893842980504, 18446741713976484857,
   18446739354243719959, 18446734634779095743, 18446725195853469633, 18446706318016706694,
   18446668562401137867, 18446593051401827864, 18446442030330514035, 18446139991897075658] ++
  [18445535929866672607, 18444327865149494006, 18441911973071509459, 18437081138195949985,
   18427423264406106591, 18408122691393177034, 18369582169480463250, 18292743030040676896,
   18140027650733834680, 17838411041782051394, 17250139494757002354, 16131156338460330327,
   14106240308646568904, 10787053522842641992, 6307916629607812990, 2157010041831260192,
   252222956092937260, 3448653015733351]

/-- R86: 2^64 × 10^(−a/200) for a level in units (log 14). -/
def attenuation (level : Nat) : Nat :=
  ((List.range 34).zip attenuationFactors).foldl
    (fun g f => if bitOf level f.1 then g * f.2 / 2 ^ 64 else g) (2 ^ 64)

/-! ### Ending and cutting voices (R64, R76, R81) -/

/-- A voice goes FREE: its reads are withdrawn or discarded (R81), and the limit in force falls while it is above the target
(R76). The start number is kept (R65). The slot is not handed on here: `settle` follows. -/
def Engine.freeVoice (k : Fin 96) (e : Engine) : Engine :=
  let v := e.2.get k
  if v.inUse then
    (e.1.dropReads fun t => match t with
        | .voice rec _ _ _ => rec == k
        | _ => false,
      { e.2.put k { Voice.reset with startNumber := v.startNumber } with
        limit := if e.2.target < e.2.limit then e.2.limit - 1 else e.2.limit })
  else e

/-- R64: a voice goes to CUTTING, or to FREE while it awaits its first fill. The cuts are numbered (log 52). -/
def Engine.cutVoice (k : Fin 96) (e : Engine) : Engine :=
  let v := e.2.get k
  if v.alive then
    if v.firstFill then e.freeVoice k
    else
      (e.1, { e.2.put k { v with
        phase := .cutting, keyDown := false, sostenutoHeld := false, cutTime := e.2.sampleClock.toNat, cutLevel := v.level
        cutNumber := e.2.cuts } with cuts := e.2.cuts + 1 })
  else e

/-- R71, R78, R84, R195: every voice with a property is cut. The rules name no order: that the cuts are made, and numbered, in
ascending record order is the model's own choice (log 52). -/
def Engine.cutAll (p : Voice → Bool) (e : Engine) : Engine :=
  (List.finRange 96).foldl (fun e k => if p (e.2.get k) then e.cutVoice k else e) e

/-! ### The gate and the zones (R65, R70) -/

/-- R70: a note-on of the source is allowed. -/
def VoiceEngine.gateAllows (source : Source) (ve : VoiceEngine) : Bool :=
  match source, ve.policy with
  | .playback, _ => true
  | .live, .always => true
  | .live, .silentOnly => ve.atSilent
  | .live, .never => false

/-- R65 step 1: the zone set of a key for a source. -/
def VoiceEngine.zoneSet (key : Fin 88) (source : Source) (ve : VoiceEngine) : List Zone :=
  let zones := ve.keyMap[key]
  if (ve.pedalsOf source).soft && !zones.unaCorda.isEmpty then zones.unaCorda else zones.normal

/-- R65 step 2: the zone of a set for a velocity. -/
def chooseZone (set : List Zone) (velocity : Nat) : Zone := (set.find? fun z => velocity ≤ z.top).getD .blank

/-! ### Reading samples (R79, R80) -/

/-- The offset at which play of a zone turns back or ends: the loop end or the sample end. -/
def Zone.playEnd (z : Zone) : Nat := if z.loopLength = 0 then z.length else z.loopStart + z.loopLength

/-- The offset that follows in play order: at the loop end it is the loop start. -/
def Zone.wrap (z : Zone) (offset : Nat) : Nat :=
  if z.loopLength ≠ 0 && z.playEnd ≤ offset then z.loopStart + (offset - z.playEnd) else offset

/-- R79: the reads, each an offset and a length, that cover the next `n` bytes in play order from `fetch`. -/
def Zone.fillReads (z : Zone) (fetch n : Nat) : List (Nat × Nat) :=
  if fetch + n ≤ z.playEnd then [(fetch, n)]
  else if z.loopLength = 0 then [(fetch, z.playEnd - fetch)]
  else [(fetch, z.playEnd - fetch), (z.loopStart, n - (z.playEnd - fetch))]

/-- R79: the fetch point after a fill of `n` bytes. -/
def Zone.fetchAfter (z : Zone) (fetch n : Nat) : Nat :=
  if z.loopLength = 0 then min z.length (fetch + n) else z.wrap (fetch + n)

/-- R79: the reads of a fill are requested, in their order. -/
def Hub.requestFill (k : Fin 96) (start : Word16) (target : FillTarget) (deadline : Nat) (address : Word64)
    (reads : List (Nat × Nat)) (h : Hub) : Hub :=
  match reads with
  | [(o, n)] => h.requestRead (.voice k start target 0) (address + BitVec.ofNat 64 o) n deadline
  | [(o, n), (o', n')] =>
    Hub.requestRead (.voice k start target 1) (address + BitVec.ofNat 64 o') n' deadline
      (h.requestRead (.voice k start target 0) (address + BitVec.ofNat 64 o) n deadline)
  | _ => h

/-- A half being filled by `n` reads. -/
def WindowHalf.fillingBy (n : Nat) : WindowHalf := { state := .filling, data := [], parts := noChunks n }

/-- R65: a note starts in record `k`. -/
def Engine.startIn (k : Fin 96) (key : Fin 88) (source : Source) (velocity : Nat) (e : Engine) : Engine :=
  let ve := e.2
  let zone := chooseZone (ve.zoneSet key source) velocity
  let start := (ve.get k).startNumber + 1
  let reads := zone.fillReads 0 512
  let voice : Voice :=
    { phase := .sounding, key, source, velocity, zone, keyDown := true
      sostenutoHeld := source == .live && ve.capture.contains key
      level := startLevel velocity, startTime := ve.sampleClock.toNat
      halfA := .fillingBy reads.length, halfB := .fillingBy reads.length
      firstFill := true, cursor := 0, fetch := zone.fetchAfter 0 512, cutTime := 0, cutLevel := 0, cutNumber := 0
      startNumber := start, playB := false, playPos := 0, leftBehind := false }
  (e.1.requestFill k start .first ve.sampleClock.toNat zone.address reads, ve.put k voice)

/-! ### The pending-start queue and stealing (R72 to R76) -/

/-- R83: a VOICE record. Details: DROPPED 0 with its reason in `item`, UNDERRUN 1, FETCH_FAIL 2 (log 31). -/
def Hub.noteVoice (key : Fin 88) (velocity : Nat) (source : Source) (detail item : Nat) (h : Hub) : Hub :=
  h.note .voice key.val velocity detail item { playback := source == .playback }

/-- R72, R74, R83: a note is dropped or discarded: QUEUE_FULL 0, GATED 1, NO_ZONE 2. -/
def Engine.drop (key : Fin 88) (source : Source) (velocity reason : Nat) (e : Engine) : Engine :=
  (e.1.noteVoice key velocity source 0 reason, { e.2 with drops := e.2.drops + 1 })

/-- R74, R72: a FREE record exists and the count is below the limit. -/
def VoiceEngine.room (ve : VoiceEngine) : Bool := ve.firstFree.isSome && ve.inUse < ve.limit

/-- R74: the oldest entry is taken: discarded or started. A LIVE entry that the gate does not allow and whose zone set is empty too
is discarded as GATED, the reason R74 names first: the model's own choice (log 78). -/
def Engine.serveOne (e : Engine) : Engine :=
  match e.2.queue, e.2.firstFree with
  | p :: rest, some k =>
    let e1 : Engine := (e.1, { e.2 with queue := rest })
    if !e.2.gateAllows p.source then e1.drop p.key p.source p.velocity 1
    else if (e.2.zoneSet p.key p.source).isEmpty then e1.drop p.key p.source p.velocity 2
    else e1.startIn k p.key p.source p.velocity
  | _, _ => e

/-- The first record, in record order, that no other beats, of those with a property. -/
def VoiceEngine.best (p : Voice → Bool) (beats : Voice → Voice → Bool) (ve : VoiceEngine) : Option (Fin 96) :=
  (List.finRange 96).foldl (fun found k =>
    if p (ve.get k) then
      match found with
      | none => some k
      | some b => if beats (ve.get k) (ve.get b) then some k else some b
    else found) none

/-- R75: the order of levels, the quieter first, ties by the earlier start. -/
def Voice.quieter (a b : Voice) : Bool := b.level < a.level || (a.level == b.level && a.startTime < b.startTime)

/-- R75: the voice to steal. -/
def VoiceEngine.victim (ve : VoiceEngine) : Option (Fin 96) :=
  match ve.best (fun v => v.phase == .damping) Voice.quieter with
  | some k => some k
  | none =>
    match ve.best (fun v => v.phase == .sounding && !v.keyDown) Voice.quieter with
    | some k => some k
    | none => ve.best (fun v => v.phase == .sounding) fun a b => a.startTime < b.startTime

/-- R75: one voice is stolen. -/
def Engine.steal (k : Fin 96) (e : Engine) : Engine :=
  let e1 := e.cutVoice k
  (e1.1, { e1.2 with steals := e1.2.steals + 1 })

/-- R74, R75: entries are served while there is room, and voices are stolen while fewer are CUTTING than wait. With `joined`
false no voice is stolen while the limit in force is above the target (R76; log 18). -/
def Engine.settleFor (joined : Bool) : Nat → Engine → Engine
  | 0, e => e
  | n + 1, e =>
    if e.2.queue.isEmpty then e
    else if e.2.room then settleFor joined n e.serveOne
    else if !joined && e.2.target < e.2.limit then e
    else if e.2.inPhase .cutting < e.2.queue.length then
      match e.2.victim with
      | none => e
      | some k => settleFor joined n (e.steal k)
    else e

/-- R74, R75: the engine serves its queue. Each turn starts or drops an entry or steals a voice: 256 turns cover 8 entries
and 96 voices. -/
def Engine.settle (joined : Bool) (e : Engine) : Engine := e.settleFor joined 256

/-- A voice goes FREE and its slot is handed on (R74). -/
def Engine.release (k : Fin 96) (e : Engine) : Engine := (e.freeVoice k).settle false

/-! ### Notes, pedals and the gate -/

/-- R65: a playback velocity is scaled by the playback gain. -/
def VoiceEngine.scaleVelocity (source : Source) (velocity : Nat) (ve : VoiceEngine) : Nat :=
  match source with
  | .live => velocity
  | .playback => min 127 (max 1 (velocity * ve.gain / 100))

/-- R71: what a note-on does to the voices and the entry of its own pair. A voice of the pair that R75 steals while the second
step hands slots on goes on fading. Fading voices of the pair go FREE in ascending record order, and the slot of each is handed on
before the next goes: the model's own choice (log 52). -/
def Engine.supersede (key : Fin 88) (source : Source) (e : Engine) : Engine :=
  let pair (v : Voice) : Bool := v.ofPair key source
  let e1 : Engine := (e.1, { e.2 with queue := e.2.queue.filter fun p => !(p.key == key && p.source == source) })
  let fading := (List.finRange 96).filter fun k => pair (e1.2.get k) && (e1.2.get k).phase == .cutting
  let e2 := fading.foldl (fun e k => e.release k) e1
  (e2.cutAll fun v => pair v && v.alive).settle false

/-- R71, R72: a note-on, its velocity before playback scaling. -/
def Engine.noteOn (key : Fin 88) (source : Source) (velocity : Nat) (e : Engine) : Engine :=
  if !e.2.gateAllows source || (e.2.zoneSet key source).isEmpty then e
  else
    let scaled := e.2.scaleVelocity source velocity
    let e1 := e.supersede key source
    match e1.2.firstFree with
    | some k =>
      if e1.2.inUse < e1.2.limit && e1.2.queue.isEmpty then e1.startIn k key source scaled
      else if Config.pendingDepth ≤ e1.2.queue.length then e1.drop key source scaled 0
      else Engine.settle true (e1.1, { e1.2 with queue := e1.2.queue ++ [{ key, source, velocity := scaled }] })
    | none =>
      if Config.pendingDepth ≤ e1.2.queue.length then e1.drop key source scaled 0
      else Engine.settle true (e1.1, { e1.2 with queue := e1.2.queue ++ [{ key, source, velocity := scaled }] })

/-- Every voice record changed by a function. -/
def VoiceEngine.eachVoice (f : Voice → Voice) (ve : VoiceEngine) : VoiceEngine :=
  { ve with voices := Vector.ofFn fun k : Fin 96 => f (ve.get k) }

/-- R68: what a note-off does to a voice of its pair. -/
def Voice.noteOff (v : Voice) : Voice :=
  { v with
    keyDown := false
    phase := if v.phase == .sounding && !v.sostenutoHeld then .damping else v.phase }

/-- R68: a note-off. -/
def VoiceEngine.noteOff (key : Fin 88) (source : Source) (ve : VoiceEngine) : VoiceEngine :=
  let ve1 := ve.eachVoice fun v => if v.inUse && v.ofPair key source then v.noteOff else v
  { ve1 with queue := ve.queue.filter fun p => !(p.key == key && p.source == source) }

/-- R69: what the capture set says of a voice. -/
def Voice.capture (captured : Bool) (v : Voice) : Voice :=
  if v.source == .live && v.alive then
    if captured then { v with sostenutoHeld := true, phase := .sounding }
    else if v.sostenutoHeld then
      { v with
        sostenutoHeld := false
        phase := if v.phase == .sounding && !v.keyDown then .damping else v.phase }
    else v
  else v

/-- R67, R69: the LIVE capture set takes a value. -/
def VoiceEngine.setCapture (keys : List (Fin 88)) (ve : VoiceEngine) : VoiceEngine :=
  { ve.eachVoice (fun v => v.capture (keys.contains v.key)) with capture := keys }

/-- R67: a source's damper level. -/
def VoiceEngine.setDamper (source : Source) (level : Nat) (ve : VoiceEngine) : VoiceEngine :=
  match source with
  | .live => { ve with livePedals := { ve.livePedals with damper := level } }
  | .playback => { ve with playbackPedals := { ve.playbackPedals with damper := level } }

/-- R67: a source's soft pressed state. -/
def VoiceEngine.setSoft (source : Source) (pressed : Bool) (ve : VoiceEngine) : VoiceEngine :=
  match source with
  | .live => { ve with livePedals := { ve.livePedals with soft := pressed } }
  | .playback => { ve with playbackPedals := { ve.playbackPedals with soft := pressed } }

/-- R67: DAMPER_FREE and DAMPER_HOLD. -/
def VoiceEngine.setDamperLimits (free hold : Nat) (ve : VoiceEngine) : VoiceEngine :=
  { ve with damperFree := free, damperHold := hold }

/-- An engine operation that does not reach the hub. -/
def State.updateVoice (f : VoiceEngine → VoiceEngine) (s : State) : State := { s with voice := f s.voice }

/-! ### The limit, the cut and the detach (R76, R78, R84) -/

/-- `n` voices are cut in the order of R75. -/
def Engine.cutExcess : Nat → Engine → Engine
  | 0, e => e
  | n + 1, e =>
    match e.2.victim with
    | none => e
    | some k => cutExcess n (e.cutVoice k)

/-- R76: the polyphony target takes a value. -/
def Engine.setTarget (target : Nat) (e : Engine) : Engine :=
  let used := e.2.inUse
  if used ≤ target then Engine.settle false (e.1, { e.2 with target := target, limit := target })
  else (Engine.cutExcess (used - target) (e.1, { e.2 with target := target, limit := used })).settle false

/-- A source is named by a VOICE_CUT mask (Table 12-3). -/
def Source.inMask (mask : Nat) : Source → Bool
  | .live => bitOf mask 0
  | .playback => bitOf mask 1

/-- R78: the voices and the entries of the sources of a mask are cut and removed. -/
def Engine.cutSources (mask : Nat) (e : Engine) : Engine :=
  let e1 : Engine := (e.1, { e.2 with queue := e.2.queue.filter fun p => !p.source.inMask mask })
  (e1.cutAll fun v => v.source.inMask mask && v.alive).settle false

/-- R84: the engine at a detach. The reads themselves are withdrawn by R181. -/
def Engine.detach (e : Engine) : Engine :=
  let e1 := Engine.cutAll Voice.alive (e.1, { e.2 with queue := [], keyMap := emptyKeyMap, load := none })
  (e1.1.dropReads fun t => match t with
      | .voice .. | .keymap _ => true
      | _ => false,
    e1.2.eachVoice fun v => if v.inUse then { v with leftBehind := true } else v)

/-- R83: the totals at an attach. -/
def VoiceEngine.clearTotals (ve : VoiceEngine) : VoiceEngine := { ve with steals := 0, drops := 0, underruns := 0 }

/-! ### One output sample period (R66, R80, R81) -/

/-- The half a voice plays and the other one. -/
def Voice.halves (v : Voice) : WindowHalf × WindowHalf := if v.playB then (v.halfB, v.halfA) else (v.halfA, v.halfB)

/-- A half of a voice takes a value: A for false, B for true. -/
def Voice.setHalf (b : Bool) (w : WindowHalf) (v : Voice) : Voice :=
  if b then { v with halfB := w } else { v with halfA := w }

/-- The sample at a voice's cursor (log 15: signed, low byte first). -/
def Voice.sample (v : Voice) : Int := (BitVec.ofNat 16 (u16At v.halves.1.data v.playPos)).toInt

/-- R81: a voice's window is empty. -/
def Engine.underrun (k : Fin 96) (e : Engine) : Engine :=
  let v := e.2.get k
  if v.leftBehind then e.release k
  else
    Engine.release k
      (e.1.noteVoice v.key v.velocity v.source 1 0, { e.2 with underruns := e.2.underruns + 1 })

/-- R80: the half just left is consumed, and its refill requested. -/
def Engine.refill (k : Fin 96) (e : Engine) : Engine :=
  let v := e.2.get k
  let left := v.playB
  let v1 : Voice := { v with playB := !left, playPos := 0 }
  if v.leftBehind || (v.zone.loopLength = 0 && v.zone.length ≤ v.fetch) then (e.1, e.2.put k (v1.setHalf left .blank))
  else
    let reads := v.zone.fillReads v.fetch 256
    let deadline := e.2.sampleClock.toNat + v.halves.2.data.length / 2
    (e.1.requestFill k v.startNumber (.half left) deadline v.zone.address reads,
      e.2.put k { v1.setHalf left (.fillingBy reads.length) with fetch := v.zone.fetchAfter v.fetch 256 })

/-- R66, R80, R81: a voice in use whose first fill has arrived, after its sample of this period has been handed over: the
cursor moves, the level moves, and the voice ends, changes halves or runs out where it must (log 15). A CUTTING voice whose
level reaches the floor has handed over its 240th sample: it neither reads on nor runs out, and its fade ends next (R66; log
16). -/
def Engine.advance (k : Fin 96) (e : Engine) : Engine :=
  let v := e.2.get k
  let level := e.2.nextLevel e.2.sampleClock.toNat v
  let cursor := v.zone.wrap (v.cursor + 2)
  let e1 : Engine := (e.1, e.2.put k { v with level := level, cursor := cursor, playPos := v.playPos + 2 })
  if Config.levelFloor ≤ level then (if v.phase = .cutting then e1 else e1.release k)
  else if v.zone.loopLength = 0 && v.zone.length ≤ cursor then e1.release k
  else if v.playPos + 2 < v.halves.1.data.length then e1
  else if v.halves.2.state = .full then e1.refill k
  else e1.underrun k

/-- R66: the 240 periods of a CUTTING voice are over, at sample clock `clock`. -/
def Voice.fadeOver (clock : Nat) (v : Voice) : Bool := v.phase == .cutting && v.cutTime + Config.cutPeriods ≤ clock

/-- R66: the fade of a voice ends, if its time has come. -/
def Engine.endFade (k : Fin 96) (e : Engine) : Engine :=
  if (e.2.get k).fadeOver e.2.sampleClock.toNat then e.release k else e

/-- The voice that was cut first of those whose fades are over. -/
def VoiceEngine.firstOver (ve : VoiceEngine) : Option (Fin 96) :=
  ve.best (Voice.fadeOver ve.sampleClock.toNat) fun a b => a.cutNumber < b.cutNumber

/-- R66, R74: at most `n` fades that are over end, the voice cut first the first (4.8: the voice that was cut first frees first;
log 52). -/
def Engine.endFades : Nat → Engine → Engine
  | 0, e => e
  | n + 1, e =>
    match e.2.firstOver with
    | none => e
    | some k => endFades n (e.release k)

/-- R66, R86: one voice's part in a sample period: the sum so far, in units of 2^−64, takes its attenuated sample. -/
def Engine.playVoice (k : Fin 96) (p : Engine × Int) : Engine × Int :=
  let v := p.1.2.get k
  if v.inUse && !v.firstFill then (p.1.advance k, p.2 + v.sample * attenuation v.level) else p

/-- R63, R66: the voice engine in one output sample period. Fades whose 240 periods are over, and whose rows have not come, end
before it begins (log 16); the sample clock counts it, and every voice hands over its sample. The sum is in units of 2^−64. The
rules give no order for voices that end in one period, whose slots go to the oldest entries (R74): that the fades end first, and
the other voices in ascending record order, is the model's own choice (log 52). -/
def Engine.period (e : Engine) : Engine × Int :=
  let e1 := e.endFades 96
  let e2 : Engine := (e1.1, { e1.2 with sampleClock := e1.2.sampleClock + 1 })
  (List.finRange 96).foldl (fun p k => Engine.playVoice k p) (e2, 0)

/-! ### Voice reads and the key map load (R61, R62, R79, R82) -/

/-- R79: a half whose fill has arrived. -/
def WindowHalf.filled (bytes : List Byte) : WindowHalf :=
  if bytes.isEmpty then .blank else { state := .full, data := bytes, parts := [] }

/-- R79: the first fill has arrived, half A first. -/
def Voice.firstFilled (bytes : List Byte) (v : Voice) : Voice :=
  { v with
    halfA := .filled (bytes.take 256), halfB := .filled (bytes.drop 256), firstFill := false, playB := false, playPos := 0 }

/-- R80: a read of a refill has arrived. -/
def WindowHalf.receive (part : Nat) (bytes : List Byte) (w : WindowHalf) : WindowHalf :=
  let parts := putChunk w.parts part bytes
  match allChunks parts with
  | some all => .filled all
  | none => { w with parts := parts }

/-- R79, R80, R82: a voice read arrives, or fails (none), for the voice that asked for it. -/
def Engine.voiceRead (tag : ReadTag) (bytes : Option (List Byte)) (e : Engine) : Engine :=
  match tag with
  | .voice k start target part =>
    let v := e.2.get k
    if v.inUse && v.startNumber == start then
      match bytes, target with
      | none, _ => Engine.release k (e.onHub fun h => h.noteVoice v.key v.velocity v.source 2 0)
      | some bs, .first => (e.1, e.2.put k (v.firstFilled bs))
      | some bs, .half false => (e.1, e.2.put k { v with halfA := v.halfA.receive part.val bs })
      | some bs, .half true => (e.1, e.2.put k { v with halfB := v.halfB.receive part.val bs })
    else e
  | _ => e

/-- The reads of the key map load. -/
def ReadTag.isKeymap : ReadTag → Bool
  | .keymap _ => true
  | _ => false

/-- The voice reads. -/
def ReadTag.isVoice : ReadTag → Bool
  | .voice .. => true
  | _ => false

/-- R62: all 44 reads have arrived: the table is validated and replaces the key map, or it does not. -/
def Engine.applyKeymap (slot : Fin 32) (table : List Byte) (e : Engine) : Engine :=
  match keyMapFault table with
  | some (key, set, entry) =>
    (e.1.completeRequest slot .invalid (le8 key ++ le8 set ++ le8 entry), { e.2 with load := none })
  | none =>
    let map : Vector KeyZones 88 := Vector.ofFn fun k : Fin 88 => KeyZones.parse table k.val
    let normal := map.toList.countP fun z => !z.normal.isEmpty
    let unaCorda := map.toList.countP fun z => !z.unaCorda.isEmpty
    (e.1.completeRequest slot .ok (le8 normal ++ le8 unaCorda), { e.2 with load := none, keyMap := map })

/-- R61, R62: a KEYMAP read arrives, or fails (none): then the load's other reads that still wait are withdrawn, and those
issued are discarded, which is the model's own choice (log 62). -/
def Engine.keymapRead (tag : ReadTag) (bytes : Option (List Byte)) (e : Engine) : Engine :=
  match tag, e.2.load with
  | .keymap part, some load =>
    match bytes with
    | none =>
      ((e.1.dropReads ReadTag.isKeymap).completeRequest load.slot .failed [], { e.2 with load := none })
    | some bs =>
      let chunks := putChunk load.chunks part.val bs
      match allChunks chunks with
      | none => (e.1, { e.2 with load := some { load with chunks := chunks } })
      | some table => e.applyKeymap load.slot table
  | _, _ => e

/-- R61: a KEYMAP load is refused. INVALID before BUSY where both hold is the model's own choice (log 54). -/
def refuseKeymapLoad (address : Nat) (s : State) : Option ResultCode :=
  if address = 0 || address % 4 ≠ 0 then some .invalid
  else if s.voice.load.isSome then some .busy
  else none

/-- R61: a KEYMAP load is taken: 44 reads of 512 bytes. -/
def Engine.startKeymapLoad (slot : Fin 32) (address : Nat) (e : Engine) : Engine :=
  (e.1.requestParts (n := 44) .keymap (BitVec.ofNat 64 address) 512, { e.2 with load := some { slot, chunks := noChunks 44 } })

/-! ### The commands -/

/-- R77: the ranges of VOICE_CONFIG. -/
def refuseVoiceConfig (a : List Byte) : Option ResultCode :=
  if bitOf (u8At a 0) 0 && (u8At a 2 < 16 || 96 < u8At a 2 || (LivePolicy.ofCode (u8At a 1)).isNone || u8At a 3 < 50
      || 150 < u8At a 3 || u16At a 4 < 100 || 20000 < u16At a 4) then
    some .invalid
  else none

/-- R77: the settings of VOICE_CONFIG are applied. R77 names no order among them: the policy, the gain and DAMP_FULL are in force
before the target makes room, so that the entries served into that room meet the new policy, the model's own choice (log 72). -/
def Engine.configure (a : List Byte) (e : Engine) : Engine :=
  if bitOf (u8At a 0) 0 then
    Engine.setTarget (u8At a 2) (e.1, { e.2 with
      policy := (LivePolicy.ofCode (u8At a 1)).getD e.2.policy, gain := u8At a 3, dampFull := u16At a 4 })
  else e

/-- R77: the result data of VOICE_CONFIG. -/
def VoiceEngine.configResult (ve : VoiceEngine) : List Byte :=
  le8 ve.target ++ le8 ve.policy.code ++ le8 ve.gain ++ le8 ve.limit ++ le16 ve.dampFull ++ le8 (ve.inPhase .sounding) ++
    le8 (ve.inPhase .damping) ++ le8 (ve.inPhase .cutting) ++ le8 ve.queue.length ++ le8 (flagBit ve.atSilent) ++ [0] ++
    le32 ve.steals.toNat ++ le32 ve.drops.toNat ++ le32 ve.underruns.toNat

/-- R77: VOICE_CONFIG is taken. -/
def actVoiceConfig (slot : Fin 32) (a : List Byte) (s : State) : State :=
  s.mapVoice fun e =>
    let e1 := e.configure a
    (e1.1.completeRequest slot .ok e1.2.configResult, e1.2)

/-- R78: a mask that names neither source or holds anything else (log 40). -/
def refuseVoiceCut (a : List Byte) : Option ResultCode := if u8At a 0 = 0 || 3 < u8At a 0 then some .invalid else none

/-- R78: VOICE_CUT is taken. -/
def actVoiceCut (slot : Fin 32) (a : List Byte) (s : State) : State :=
  s.mapVoice fun e =>
    let mask := u8At a 0
    let voices := e.2.count fun v => v.source.inMask mask && v.alive
    let entries := e.2.queue.countP fun p => p.source.inMask mask
    (e.cutSources mask).onHub fun h => h.completeRequest slot .ok (le8 voices ++ le8 entries)

/-- VOICE_CONFIG (R77). -/
def execVoiceConfig (slot : Fin 32) (tag : Word16) (a : List Byte) (s : State) : Host.Outcome State Fault Refusal :=
  .next (s.visitSlot slot .voiceConfig tag a (refuseVoiceConfig a) (actVoiceConfig slot a))

/-- VOICE_CUT (R78). -/
def execVoiceCut (slot : Fin 32) (tag : Word16) (a : List Byte) (s : State) : Host.Outcome State Fault Refusal :=
  .next (s.visitSlot slot .voiceCut tag a (refuseVoiceCut a) (actVoiceCut slot a))

/-- KEYMAP_READ_ARRIVAL (R61, R62). -/
def execKeymapReadArrival (read : Nat) (outcome : ReadOutcome) (s : State) : Host.Outcome State Fault Refusal :=
  .next (s.whenUp fun s => s.onArrival ReadTag.isKeymap read outcome fun tag bytes s => s.mapVoice (Engine.keymapRead tag bytes))

/-- VOICE_READ_ARRIVAL (R79, R80, R82). -/
def execVoiceReadArrival (read : Nat) (outcome : ReadOutcome) (s : State) : Host.Outcome State Fault Refusal :=
  .next (s.whenUp fun s => s.onArrival ReadTag.isVoice read outcome fun tag bytes s => s.mapVoice (Engine.voiceRead tag bytes))

/-- CUT_FADE_END (R66): acts when the voice is CUTTING and its 240 periods are over (log 16). -/
def execCutFadeEnd (voice : Fin 96) (s : State) : Host.Outcome State Fault Refusal :=
  .next (s.whenUp fun s => s.mapVoice (Engine.endFade voice))

end Sys2Proof.Machine
end

