-- ==== Sys2Proof/Machine/Output.lean ====
section
/-! DEFINITION. The output block and the metronome (05_headphone_output_and_metronome.md): the mix, the volume and mute ramps, the beat grids and the click, and the block's requests. -/

namespace Sys2Proof.Machine

/-! ### The output path (R85 to R89) -/

/-- R87: the output is to be muted. -/
def Output.toBeMuted (o : Output) : Bool := o.mute || !o.jackInserted || o.standby

/-- R87: the mute state's code, in the order of the table. -/
def Output.muteState (o : Output) : Nat :=
  if o.toBeMuted then (if o.gain = 0 then 0 else 3) else if o.gain = 960 then 2 else 1

/-- R86 step 3: the current volume moves one step toward the setting. -/
def Output.stepVolume (o : Output) : Nat :=
  if o.current < o.setting then o.current + 1 else if o.setting < o.current then o.current - 1 else o.current

/-- R87: the mute gain of the next period. -/
def Output.stepGain (o : Output) : Nat := if o.toBeMuted then o.gain - 1 else min 960 (o.gain + 1)

/-- R86 step 4: the value limited to 16 bits. -/
def clip16 (x : Int) : Int := min 32767 (max (-32768) x)

/-- R88: the 24-bit word of a slot. -/
def slotWord (value : Int) : BitVec 24 := BitVec.ofInt 24 (value * 256)

/-- R86, R88: the output of one period from the sum of the voices (in units of 2^−64) and the click sample. -/
def Output.period (voices : Int) (click : Int) (o : Output) : Output :=
  let current := o.stepVolume
  let gain := o.stepGain
  let scaled := ((voices + click * 2 ^ 64) * current).tdiv (127 * 2 ^ 64)
  let clipped := clip16 scaled
  { o with
    current := current, gain := gain
    clips := if clipped ≠ scaled then o.clips + 1 else o.clips
    i2sWord := slotWord ((clipped * gain).tdiv 960) }

/-- The levels of the I2S outputs, true for high: HP_MCLK, HP_BCLK, HP_LRCK and HP_SDO. -/
structure I2sLevels where
  mclk : Bool
  bclk : Bool
  lrck : Bool
  sdo : Bool
  deriving DecidableEq, Repr

/-- R88: all four outputs are held low. -/
def I2sLevels.low : I2sLevels := { mclk := false, bclk := false, lrck := false, sdo := false }

/-- R88: the bit on HP_SDO in bit clock `n`, from 0 to 31, of a slot: the word follows the HP_LRCK edge by one bit clock, most
significant bit first, and 7 bit clocks of zero follow it. Low in the bit clock before the word (log 43). -/
def slotBit (word : BitVec 24) (n : Nat) : Bool := 1 ≤ n && word.getMsbD (n - 1)

/-- R88: the outputs in half period `t` of HP_MCLK, from 0 to 511, of a frame that carries a word: 256 periods of HP_MCLK and
64 of HP_BCLK, HP_LRCK low for the left slot. A period begins with the falling edge (log 43), where HP_LRCK and HP_SDO
change. -/
def i2sFrame (word : BitVec 24) (t : Nat) : I2sLevels :=
  { mclk := t % 2 == 1, bclk := t % 8 / 4 == 1, lrck := t / 256 % 2 == 1, sdo := slotBit word (t / 8 % 32) }

/-- R88: the I2S outputs at this moment. HP_MCLK has 24,576 half periods in a millisecond. R88 gives no levels for an interval
without VMAIN: that the lines go on then as R88 gives them is the model's own choice (log 59). -/
def State.i2sLevels (s : State) : I2sLevels :=
  match s.output.i2sSince with
  | none => .low
  | some since => i2sFrame s.output.i2sWord ((s.hub.now - since) * 24576 / 1000 % 512)

/-! ### The metronome (R90 to R97) -/

/-- The hub and the metronome. -/
abbrev Beater := Hub × Metronome

/-- The state with a metronome operation applied. -/
def State.mapMetronome (f : Beater → Beater) (s : State) : State :=
  let b := f (s.hub, s.metronome)
  { s with hub := b.1, metronome := b.2 }

/-- R97, Table 10-3: the part is in STANDBY or WOKEN, and the metronome gives no beats. -/
def AttachState.asleep : AttachState → Bool
  | .standby | .woken => true
  | _ => false

/-- R91: the click of a beat. -/
def Metronome.startClick (one : Bool) (m : Metronome) : Click :=
  { remaining := m.settings.clickLength * 48, pitch := if one then m.settings.accent else m.settings.pitch
    volume := m.settings.volume, elapsed := 0 }

/-- R91: the click sample of this period. -/
def Metronome.clickSample (m : Metronome) : Int :=
  match m.click with
  | none => 0
  | some c =>
    if c.remaining = 0 then 0
    else if c.elapsed / (c.pitch + 1) % 2 = 0 then c.volume * 256 else -(c.volume * 256 : Nat)

/-- R91: the click after its sample of this period has been handed to the mix. -/
def Metronome.stepClick (m : Metronome) : Metronome :=
  { m with click := m.click.map fun c => { c with remaining := c.remaining - 1, elapsed := c.elapsed + 1 } }

/-- R91: a click with no period left ends. -/
def Metronome.endClick (m : Metronome) : Metronome :=
  match m.click with
  | some c => if c.remaining = 0 then { m with click := none } else m
  | none => m

/-- R95: the bar count raised, wrapping from 65,535 to 1. -/
def nextBar (bar : Nat) : Nat := if 65535 ≤ bar then 1 else bar + 1

/-- R95: a beat is given. `one` says that it is given as beat 1, `first` that the bar count becomes 1 with it. -/
def Beater.beat (one first : Bool) (b : Beater) : Beater :=
  let m := b.2
  let number := if one || m.beat = 0 || m.settings.beats ≤ m.beat then 1 else m.beat + 1
  let bar := if first then 1 else if number = 1 then nextBar m.bar else m.bar
  let m1 : Metronome := { m with beat := number, bar := bar, click := some (m.startClick (number == 1)) }
  let h1 :=
    if m.settings.journalBeats then
      b.1.note .beat number bar m.settings.mode.code 0 { playback := m.settings.mode == .follow }
    else b.1
  (if m.settings.snapshotBeats then h1.snapshotDue else h1, m1)

/-- R92: the due time of the next FREE beat, on the sample clock. -/
def Metronome.freeDue (m : Metronome) : Nat := m.anchor + 2880000 * m.index / m.gridTempo

/-- R92: the beat that is due in FREE mode is given; a tempo change takes its place in the grid. -/
def Beater.freeBeat (b : Beater) : Beater :=
  let due := b.2.freeDue
  let b1 := b.beat false false
  (b1.1,
    if b.2.reanchor then { b1.2 with anchor := due, index := 1, gridTempo := b.2.settings.tempo, reanchor := false }
    else { b1.2 with index := b.2.index + 1 })

/-- R93: the score position at which the next FOLLOW beat is due. -/
def Metronome.followDue (m : Metronome) : Word32 := m.followAnchor + BitVec.ofNat 32 (6000000 * m.followIndex / m.followTempo)

/-- R93: the beat that is due in FOLLOW mode is given. -/
def Beater.followBeat (b : Beater) : Beater :=
  let b1 := b.beat false false
  (b1.1, { b1.2 with followIndex := b.2.followIndex + 1 })

/-- R94: a restart at a score position; `begin_` is set at the beginning of play. -/
def Beater.restart (position : Word32) (tempo : Nat) (begin_ playing : Bool) (b : Beater) : Beater :=
  let b1 : Beater := (b.1, { b.2 with
    followAnchor := position, followTempo := clampTempo tempo, followIndex := 1, gridSet := true })
  if b.2.settings.on && b.2.settings.mode == .follow && playing && !b.1.attach.asleep then b1.beat true begin_ else b1

/-- R96: the first index of the FOLLOW grid whose beat is due at or after a position (log 19). -/
def followIndexAt (anchor : Word32) (tempo : Nat) (position : Word32) : Nat :=
  if reached anchor position then ((position - anchor).toNat * tempo + 5999999) / 6000000 else 0

/-- R96: the metronome is switched on, or changes its mode: the grid starts. -/
def Beater.switchOn (sampleClock : Nat) (position : Word32) (b : Beater) : Beater :=
  let m : Metronome := { b.2 with beat := 0, bar := 0 }
  match m.settings.mode with
  | .free =>
    Beater.beat true true (b.1, { m with anchor := sampleClock, index := 1, gridTempo := m.settings.tempo, reanchor := false })
  | .follow => (b.1, { m with followIndex := followIndexAt m.followAnchor m.followTempo position })

/-- R96: the metronome is switched off. -/
def Metronome.switchOff (m : Metronome) : Metronome := { m with beat := 0, click := none }

/-- R96: the settings take new values, with their effect on the running state. -/
def Beater.configure (new : MetronomeSettings) (sampleClock : Nat) (position : Word32) (b : Beater) : Beater :=
  let old := b.2.settings
  let m : Metronome := { b.2 with settings := new }
  if !new.on then (b.1, if old.on then m.switchOff else m)
  else if !old.on || old.mode ≠ new.mode then Beater.switchOn sampleClock position (b.1, m)
  else (b.1, if new.mode = .free && old.tempo ≠ new.tempo then { m with reanchor := true } else m)

/-- R97: METRONOME_TOGGLE. -/
def Beater.toggle (sampleClock : Nat) (position : Word32) (b : Beater) : Beater :=
  let b1 := b.configure { b.2.settings with on := !b.2.settings.on } sampleClock position
  (b1.1.raise .practice, b1.2)

/-- The metronome of the state carries out METRONOME_TOGGLE (R97). -/
def State.metronomeToggle (s : State) : State :=
  s.mapMetronome (Beater.toggle s.voice.sampleClock.toNat s.player.position)

/-- R96: the result data of METRONOME. -/
def Metronome.result (m : Metronome) : List Byte :=
  m.settings.bytes ++ le8 m.beat ++ [0] ++ le16 m.bar ++ le16 m.followTempo

/-! ### The commands -/

/-- R88: the next output sample period is over: 1,000,000 / 48,000 µs after the one before it. That the sample
of a period is formed when the period is over, and carried by the next frame, is the model's own choice (log 64). -/
def State.samplePeriodDue (s : State) : Bool :=
  match s.output.i2sSince with
  | none => false
  | some since => 1000 * (s.voice.sampleClock.toNat + 1) ≤ 48 * (s.hub.now - since)

/-- R63, R66, R86, R91: one output sample period. A click and fades that are over end first (log 16). The sample formed
here is the one of the next frame, and the first frame carries 0 (log 64). -/
def State.samplePeriod (s : State) : State :=
  let m := s.metronome.endClick
  let p := Engine.period (s.hub, s.voice)
  { s with
    hub := p.1.1, voice := p.1.2, metronome := m.stepClick, output := s.output.period p.2 m.clickSample }

/-- OUTPUT_SAMPLE_PERIOD (R86). -/
def execOutputSamplePeriod (s : State) : Host.Outcome State Fault Refusal :=
  .next (s.whenUp fun s => if s.samplePeriodDue then s.samplePeriod else s)

/-- R89: the ranges of OUTPUT_CONFIG. -/
def refuseOutputConfig (a : List Byte) : Option ResultCode :=
  if (bitOf (u8At a 0) 0 && 127 < u8At a 1) || (bitOf (u8At a 0) 1 && 1 < u8At a 2) then some .invalid else none

/-- R89: the settings of OUTPUT_CONFIG are applied. -/
def Output.configure (a : List Byte) (o : Output) : Output :=
  { o with
    setting := if bitOf (u8At a 0) 0 then u8At a 1 else o.setting
    mute := if bitOf (u8At a 0) 1 then u8At a 2 == 1 else o.mute }

/-- R89: the result data of OUTPUT_CONFIG. -/
def Output.result (o : Output) : List Byte :=
  le8 o.setting ++ le8 o.current ++ le8 (flagBit o.mute) ++ le8 (flagBit o.jackInserted) ++ le8 o.muteState ++ [0, 0, 0] ++
    le32 o.clips.toNat

/-- R89: OUTPUT_CONFIG is taken. -/
def actOutputConfig (slot : Fin 32) (a : List Byte) (s : State) : State :=
  let o := s.output.configure a
  { s with output := o, hub := s.hub.completeRequest slot .ok o.result }

/-- OUTPUT_CONFIG (R89). -/
def execOutputConfig (slot : Fin 32) (tag : Word16) (a : List Byte) (s : State) : Host.Outcome State Fault Refusal :=
  .next (s.visitSlot slot .outputConfig tag a (refuseOutputConfig a) (actOutputConfig slot a))

/-- R96: the ranges of METRONOME. -/
def refuseMetronome (a : List Byte) : Option ResultCode :=
  if bitOf (u8At a 0) 0 && (MetronomeSettings.parse a).isNone then some .invalid else none

/-- R96: METRONOME is taken. -/
def actMetronome (slot : Fin 32) (a : List Byte) (s : State) : State :=
  s.mapMetronome fun b =>
    let b1 :=
      match bitOf (u8At a 0) 0, MetronomeSettings.parse a with
      | true, some new => b.configure new s.voice.sampleClock.toNat s.player.position
      | _, _ => b
    (b1.1.completeRequest slot .ok b1.2.result, b1.2)

/-- METRONOME (R96). -/
def execMetronome (slot : Fin 32) (tag : Word16) (a : List Byte) (s : State) : Host.Outcome State Fault Refusal :=
  .next (s.visitSlot slot .metronome tag a (refuseMetronome a) (actMetronome slot a))

/-- R92: a FREE beat is due now. -/
def State.freeBeatDue (s : State) : Bool :=
  s.metronome.settings.on && s.metronome.settings.mode == .free && !s.hub.attach.asleep &&
    s.metronome.freeDue ≤ s.voice.sampleClock.toNat

/-- FREE_BEAT_DUE (R92). -/
def execFreeBeatDue (s : State) : Host.Outcome State Fault Refusal :=
  .next (s.whenUp fun s => if s.freeBeatDue then s.mapMetronome Beater.freeBeat else s)

/-- CLICK_END (R91). -/
def execClickEnd (s : State) : Host.Outcome State Fault Refusal :=
  .next (s.whenUp fun s => { s with metronome := s.metronome.endClick })

end Sys2Proof.Machine
end

