-- ==== Sys2Proof/Machine/Playback.lean ====
section
/-! DEFINITION. The player (07_practice_playback.md): block buffers, groups and their dispatch, waits, loops, scans, the next-take slot, and the player's requests. Its operations act on the hub, the voice engine, the metronome and the player alone. -/

namespace Sys2Proof.Machine

/-- All that the player's operations read and change. -/
structure Stage where
  hub : Hub
  voice : VoiceEngine
  metronome : Metronome
  player : Player

/-- The part of the state that the player's operations act on. -/
def State.stage (s : State) : Stage := { hub := s.hub, voice := s.voice, metronome := s.metronome, player := s.player }

/-- The state with a player operation applied. -/
def State.mapStage (f : Stage → Stage) (s : State) : State :=
  let p := f s.stage
  { s with hub := p.hub, voice := p.voice, metronome := p.metronome, player := p.player }

/-- An operation on the hub. -/
def Stage.onHub (f : Hub → Hub) (p : Stage) : Stage := { p with hub := f p.hub }

/-- An operation on the voice engine. -/
def Stage.onEngine (f : Engine → Engine) (p : Stage) : Stage :=
  let e := f (p.hub, p.voice)
  { p with hub := e.1, voice := e.2 }

/-- An operation on the player record. -/
def Stage.onPlayer (f : Player → Player) (p : Stage) : Stage := { p with player := f p.player }

/-- A take is in progress (after Table 7-3). -/
def PlayerState.inProgress : PlayerState → Bool
  | .loading | .playing | .waiting | .starved | .paused | .seeking => true
  | .idle | .ended | .faulted => false

/-! ### Records and results (R153) -/

/-- R153: a PLAYER record, which also sets CAUSE.PRACTICE. The details stand in the order of Table 7-5 (log 31). -/
def Stage.report (detail subject item : Nat) (p : Stage) : Stage :=
  let id := match p.player.take with
    | some t => t.takeId.toNat % 65536
    | none => 0
  p.onHub fun h => Hub.raise .practice (h.note .player subject id detail item { playback := true })

/-- R153: a PLAY_NOTE_ON or PLAY_NOTE_OFF record, with the journal-notes flag on. -/
def Stage.reportNote (kind : RecordKind) (key value part : Nat) (forced : Bool) (p : Stage) : Stage :=
  match p.player.take with
  | some t => if t.journalNotes then p.onHub fun h => h.note kind key value part 0 { forced := forced, playback := true } else p
  | none => p

/-- Table 12-4: the next slot state, EMPTY 0, UNSETTLED 1, SETTLED 2. -/
def slotState (settled : Option Bool) : Nat :=
  match settled with
  | none => 0
  | some false => 1
  | some true => 2

/-- R153: the player status. -/
def Player.status (p : Player) : List Byte :=
  let id := match p.take with
    | some t => t.takeId.toNat
    | none => 0
  le8 p.state.code ++ le8 p.tempo ++ le8 (partsByte p.parts) ++ le8 p.loopsRemaining ++ le8 (flagBit p.endless) ++
    le8 p.expected.length ++ le8 (slotState (p.next.map NextTake.settled)) ++ [0] ++ le32 id ++ le32 p.position.toNat ++
    le32 p.misses.toNat ++ le16 p.followTempo

/-- The pending request completes with the player status. -/
def Stage.completePending (code : ResultCode) (p : Stage) : Stage :=
  { p with
    hub := p.hub.completeOptional p.player.pendingSlot code p.player.status
    player := { p.player with pendingSlot := none } }

/-! ### Buffers (R131) -/

/-- The other block buffer. -/
def otherBuffer (b : Fin 2) : Fin 2 := if b = 0 then 1 else 0

/-- The block reads of a buffer. -/
def ReadTag.isBlockOf (b : Fin 2) : ReadTag → Bool
  | .block b' _ => b' == b
  | _ => false

/-- The block reads of the player. -/
def ReadTag.isBlock : ReadTag → Bool
  | .block .. => true
  | _ => false

/-- A buffer is emptied, and its reads are discarded. Reads that still wait in the scheduler are withdrawn and never issued
(R191), where R131 speaks of discarding them when they arrive: the model's own choice (log 62). -/
def Stage.emptyBuffer (b : Fin 2) (p : Stage) : Stage :=
  { p with hub := p.hub.dropReads (ReadTag.isBlockOf b)
           player := { p.player with buffers := p.player.buffers.set b .blank } }

/-- Both buffers are emptied. -/
def Stage.emptyBuffers (p : Stage) : Stage := (p.emptyBuffer 0).emptyBuffer 1

/-- R131: a block is read into a buffer in eight reads of 512 bytes. -/
def Stage.readBlock (b : Fin 2) (address : Word64) (index : Nat) (nextTake : Bool) (p : Stage) : Stage :=
  { p with
    hub := p.hub.requestParts (n := 8) (.block b) address 512
    player := { p.player with
      expectedIndex := if nextTake then p.player.expectedIndex else index
      buffers := p.player.buffers.set b
        { state := .reading, address, index, nextTake, chunks := noChunks 8, block := none } } }

/-- The block in a VALID buffer. -/
def BlockBuffer.valid? (b : BlockBuffer) : Option ScoreBlock := if b.state = .valid then b.block else none

/-- The current block, when it is VALID. -/
def Player.currentBlock (p : Player) : Option ScoreBlock := p.buffers[p.currentBuffer].valid?

/-- The block that follows the current one, when it is VALID. -/
def Player.successor (p : Player) : Option ScoreBlock :=
  let b := p.buffers[otherBuffer p.currentBuffer]
  if b.nextTake then none else b.valid?

/-- R152: the settled take of the slot is read ahead while the current block is LAST. -/
def Stage.readAhead (p : Stage) : Stage :=
  match p.player.currentBlock, p.player.next with
  | some block, some next =>
    let b := otherBuffer p.player.currentBuffer
    if p.player.state.inProgress && block.last && next.settled && !p.player.buffers[b].nextTake then
      (p.emptyBuffer b).readBlock b next.take.firstBlock 0 true
    else p
  | _, _ => p

/-- R152: a read-ahead is discarded. -/
def Stage.dropReadAhead (p : Stage) : Stage :=
  let b := otherBuffer p.player.currentBuffer
  if p.player.buffers[b].nextTake then p.emptyBuffer b else p

/-- R131: the current block has become current: its successor is read, or the next take is read ahead (R152). -/
def Stage.enterBlock (p : Stage) : Stage :=
  match p.player.currentBlock with
  | none => p
  | some block =>
    let b := otherBuffer p.player.currentBuffer
    if block.last then (if p.player.buffers[b].nextTake then p else (p.emptyBuffer b).readAhead)
    else (p.emptyBuffer b).readBlock b block.next (block.index + 1) false

/-- R131: the event cursor moves into the other buffer, whose block becomes current. -/
def Stage.advanceBlock (p : Stage) : Stage :=
  Stage.enterBlock { p with player := { p.player with
    currentBuffer := otherBuffer p.player.currentBuffer, currentEvent := 0 } }

/-- R131: a block meets the conditions for a take id and an expected index. -/
def ScoreBlock.good (takeId : Word32) (index : Nat) (b : ScoreBlock) : Bool :=
  b.magic == 0x4B475342 && b.takeId == takeId && b.index == index && b.count ≤ Config.blockEvents &&
    (b.last || (b.next ≠ 0 && b.next.toNat % 4096 == 0))

/-! ### Releasing and pedals (R135) -/

/-- R135: the open entries with a property are released in ascending key order. -/
def Stage.releaseOpen (which : Nat → Bool) (p : Stage) : Stage :=
  let go := p.player.openKeys.filter fun o => which o.2
  let p1 := (List.finRange 88).foldl (fun (p : Stage) k =>
    match go.find? fun o => o.1 == k with
    | some o =>
      Stage.reportNote .playNoteOff k.val 64 o.2 true { p with voice := p.voice.noteOff k .playback }
    | none => p) p
  p1.onPlayer fun q => { q with openKeys := q.openKeys.filter fun o => !which o.2 }

/-- R135: the whole open playback-key set is released. -/
def Stage.releaseAll (p : Stage) : Stage := p.releaseOpen fun _ => true

/-- The playback pedal set with everything released. -/
def PlaybackPedals.zero : PlaybackPedals := { damper := 0, soft := 0, softPressed := false }

/-- The playback pedal set takes a value and is handed to the voice engine. -/
def Stage.handPedals (pedals : PlaybackPedals) (p : Stage) : Stage :=
  { p with voice := (p.voice.setDamper .playback pedals.damper).setSoft .playback pedals.softPressed
           player := { p.player with pedals := pedals } }

/-- R134, R135: a score pedal level in the pedal set; a sostenuto level is not stored. -/
def PlaybackPedals.store (pedal level : Nat) (q : PlaybackPedals) : PlaybackPedals :=
  if pedal = 0 then { q with damper := level }
  else if pedal = 2 then
    { q with soft := level, softPressed := if 64 ≤ level then true else if level < 48 then false else q.softPressed }
  else q

/-- R94: the player hands the metronome a restart. -/
def Stage.restart (position : Word32) (tempo : Nat) (begin_ : Bool) (p : Stage) : Stage :=
  let b := Beater.restart position tempo begin_ (p.player.state == .playing) (p.hub, p.metronome)
  { p with hub := b.1, metronome := b.2 }

/-! ### Ends (R147, R149, R154) -/

/-- R93: in IDLE, ENDED and FAULTED the FOLLOW grid has no meaning until the next restart. -/
def Stage.dropGrid (p : Stage) : Stage := { p with metronome := { p.metronome with gridSet := false } }

/-- The wait, the scan and the loop re-read of a take are over, both buffers are emptied, and the FOLLOW grid is gone. -/
def Stage.clearTake (p : Stage) : Stage :=
  (p.emptyBuffers.onPlayer fun q =>
    { q with held := none, expected := [], struck := [], scan := none, loopReread := false, restartOwed := false }).dropGrid

/-- The slot's settled flag is cleared; the slot keeps its take. -/
def Player.unsettle (q : Player) : Player := { q with next := q.next.map fun n => { n with settled := false } }

/-- R149: the take faults. `format` is the cause FORMAT, else FETCH. -/
def Stage.fault (format : Bool) (p : Stage) : Stage :=
  let p1 := ((p.releaseAll.handPedals .zero).clearTake).completePending (if format then .invalid else .failed)
  (p1.report 9 (flagBit format) 0).onPlayer fun q => Player.unsettle { q with state := .faulted }

/-- R147: the stop of PLAY_STOP. R149 keeps the take record at a fault and R154 at a detach, no rule says what a stop does to it,
and Table 7-3 gives IDLE no take: that the record, and the take id in the status and the snapshot, stay is the model's own
choice (log 68). -/
def Stage.stop (p : Stage) : Stage :=
  if p.player.state.inProgress then
    let p1 := ((p.releaseAll.handPedals .zero).clearTake).completePending .aborted
    (p1.report 1 1 0).onPlayer fun q => Player.unsettle { q with state := .idle }
  else p.onPlayer fun q => { q with state := .idle }

/-- R154: the player at a detach; its state goes to IDLE without a record. -/
def Stage.detach (p : Stage) : Stage :=
  ((p.releaseAll.handPedals .zero).clearTake).onPlayer fun q =>
    { q with state := .idle, next := none, pendingSlot := none }

/-! ### Starting a take (R129, R130, R152) -/

/-- R129: the take starts: LOADING, everything of the last take gone. -/
def Stage.setTake (take : TakeRecord) (slot : Option (Fin 32)) (chained : Bool) (p : Stage) : Stage :=
  p.onPlayer fun q => { q with
    state := .loading, take := some take, tempo := take.tempo, parts := take.parts, loopsRemaining := take.loopCount
    endless := take.loopCount == 0, anchor := none, openKeys := [], held := none, expected := [], struck := []
    misses := 0, position := 0, positionPart := 0, currentEvent := 0, lastTime := 0
    pendingSlot := slot, scan := none, loopReread := false, restartOwed := false, chained := chained }

/-- R129, R144: both buffers are emptied and block 0 of the take is read. -/
def Stage.readFirst (p : Stage) : Stage :=
  match p.player.take with
  | none => p
  | some take =>
    (p.emptyBuffers.onPlayer fun q => { q with currentBuffer := 0, currentEvent := 0, lastTime := 0 }).readBlock 0
      take.firstBlock 0 false

/-- R129: a take starts with block 0 to be read. -/
def Stage.startTake (take : TakeRecord) (slot : Option (Fin 32)) (p : Stage) : Stage :=
  (p.setTake take slot false).readFirst

/-- The playback pedal set, score position and follow tempo of the take's start. -/
def Stage.rewind (p : Stage) : Stage :=
  (p.handPedals .zero).onPlayer fun q =>
    { q with position := 0, positionPart := 0, followTempo := clampTempo q.headerTempo }

/-- R130, R145: a start or seek scan ends without its marker. No restart is handed, neither here nor when the play of a start scan
that missed begins by PLAY_RESUME: R130 and R146 name none, where R94 names one when play of a take begins (log 58). -/
def Stage.scanMissed (p : Stage) : Stage :=
  let seeking := p.player.state == .seeking
  let p1 := (p.rewind.onPlayer fun q => { q with state := .paused, scan := none }).readFirst
  let p2 := p1.completePending .notFound
  if seeking then p2 else if p.player.chained then p2.report 8 0 0 else p2.report 0 0 0

/-- R130, R145: a scan ends at its marker; the score position and the cursor already stand there. A seek hands its restart before
it enters its return state, as R145 has it, and gets no beat 1 (R94; log 45). A start scan enters PLAYING first, as R130 has
it, and its restart carries the tempo that the scan reached, where R94 names the header's (log 57). -/
def Stage.scanFound (p : Stage) : Stage :=
  let p1 := (p.handPedals p.player.pedals).onPlayer fun q => { q with scan := none }
  let enter (state : PlayerState) (p : Stage) : Stage := p.onPlayer fun q => { q with state := state }
  let restart (first : Bool) (p' : Stage) : Stage := p'.restart p.player.position p.player.followTempo first
  if p.player.state = .seeking then
    (enter (if p.player.returnToPlaying then .playing else .paused) (restart false p1)).completePending .ok
  else
    let p2 := (restart true (enter .playing p1)).completePending .ok
    if p.player.chained then p2 else p2.report 0 0 0

/-! ### Checks and scans (R134, R144) -/

/-- R134: an event fails its checks. -/
def ScoreEvent.bad (e : ScoreEvent) : Bool :=
  e.kind = 0 || 7 < e.kind || ((e.kind = 1 || e.kind = 2) && (87 < e.target || 3 < e.part)) ||
    (e.kind = 1 && (e.value < 1 || 127 < e.value)) || (e.kind = 3 && 2 < e.target)

/-- The mode of a part; a part above 3 has none. -/
def Player.mode (part : Nat) (q : Player) : Option PartMode := if h : part < 4 then some q.parts[part] else none

/-- R134: a MARK of the loop A marker records the anchor. -/
def Player.markAnchor (marker : Nat) (q : Player) : Player :=
  match q.take with
  | some take =>
    if take.loopA = some marker then
      let b := q.buffers[q.currentBuffer]
      let anchor : LoopAnchor :=
        { address := b.address, blockIndex := b.index, event := q.currentEvent, time := q.lastTime
          pedals := q.pedals, followTempo := q.followTempo }
      { q with anchor := some anchor }
    else q
  | none => q

/-- R144: a scan passes one event: the cursor and the score position stand after it. -/
def Player.scanEvent (e : ScoreEvent) (q : Player) : Player :=
  let time := q.lastTime + BitVec.ofNat 32 e.delta
  let q1 : Player := { q with currentEvent := q.currentEvent + 1, lastTime := time, position := time, positionPart := 0 }
  if e.kind = 3 then
    if q.mode e.part = some .sound then { q1 with pedals := q1.pedals.store e.target (min 127 e.value) } else q1
  else if e.kind = 4 then { q1 with followTempo := clampTempo e.value }
  else if e.kind = 5 then q1.markAnchor e.target
  else q1

/-- R144, R145: the scan goes on through the blocks that are VALID. Each turn checks and passes one event, or passes a block: a
bad event that follows the marker in its group is not reached, the model's own choice (log 47). -/
def Stage.scanRun : Nat → Stage → Stage
  | 0, p => p
  | n + 1, p =>
    match p.player.scan, p.player.currentBlock with
    | some marker, some block =>
      match block.events[p.player.currentEvent]? with
      | some e =>
        if e.bad then p.fault true
        else
          let p1 := p.onPlayer (Player.scanEvent e)
          if e.kind = 7 then p1.scanMissed
          else if e.kind = 5 && e.target = marker then p1.scanFound
          else scanRun n p1
      | none =>
        if block.last then p.scanMissed
        else if p.player.successor.isSome then scanRun n p.advanceBlock
        else p
    | _, _ => p

/-- The turns that two buffers of 508 events can take, with a take read ahead. -/
abbrev turns : Nat := 2048

/-- R130: block 0 of a take in LOADING has become VALID. -/
def Stage.beginTake (block : ScoreBlock) (p : Stage) : Stage :=
  let p1 := (p.onPlayer fun q =>
    { q with headerTempo := block.tempo, followTempo := clampTempo block.tempo }).handPedals .zero
  match p.player.take.bind TakeRecord.startMarker with
  | none =>
    let p2 := p1.onPlayer fun q => { q with state := .playing, position := 0, positionPart := 0 }
    let p3 := (p2.restart 0 p2.player.followTempo true).completePending .ok
    if p.player.chained then p3 else p3.report 0 0 0
  | some marker => (p1.onPlayer fun q => { q with scan := some marker }).scanRun turns

/-- R151, R152: the take of the next-take slot begins. -/
def Stage.beginNext (next : TakeRecord) (p : Stage) : Stage :=
  let ahead := otherBuffer p.player.currentBuffer
  let buffer := p.player.buffers[ahead]
  let p1 := (p.setTake next none true).onPlayer fun q => { q with next := none }
  let p2 := p1.report 7 0 0
  match buffer.nextTake, buffer.valid? with
  | true, some block =>
    let p3 := p2.onPlayer fun q =>
      { q with currentBuffer := ahead, expectedIndex := 0, buffers := q.buffers.set ahead { buffer with nextTake := false } }
    p3.enterBlock.beginTake block
  | _, _ => p2.readFirst

/-- R150: the natural end of a take. That the take record stays while no next take begins is the model's own choice
(log 68). -/
def Stage.naturalEnd (p : Stage) : Stage :=
  let p1 := (p.releaseAll.handPedals .zero).report 1 0 0
  match p1.player.next with
  | some next =>
    if next.settled then p1.beginNext next.take
    else (p1.onPlayer fun q => { q with state := .ended }).dropGrid
  | none => (p1.onPlayer fun q => { q with state := .ended }).dropGrid

/-- R151: a settled slot begins its take when no take is in progress. -/
def Stage.beginSettled (p : Stage) : Stage :=
  match p.player.next with
  | some next => if next.settled && !p.player.state.inProgress then p.beginNext next.take else p
  | none => p

/-! ### Dispatch (R134, R143) -/

/-- R143: the jump from the loop B marker back to the anchor. -/
def Stage.loopJump (marker : Nat) (anchor : LoopAnchor) (p : Stage) : Stage :=
  let loops := if p.player.endless then p.player.loopsRemaining else p.player.loopsRemaining - 1
  let p1 := (p.releaseAll.handPedals anchor.pedals).emptyBuffers
  let p2 := p1.onPlayer fun q => { q with
    loopsRemaining := loops, followTempo := anchor.followTempo, position := anchor.time, positionPart := 0
    currentBuffer := 0, currentEvent := anchor.event, lastTime := anchor.time }
  let p3 := (p2.readBlock 0 anchor.address anchor.blockIndex false).report 6 marker loops
  p3.onPlayer fun q => { q with state := .starved, loopReread := true }

/-- R134: a MARK event is dispatched. -/
def Stage.dispatchMark (marker : Nat) (p : Stage) : Stage :=
  let p1 := (p.report 2 marker 0).onPlayer (Player.markAnchor marker)
  match p1.player.take, p1.player.anchor with
  | some take, some anchor =>
    if take.loopB = some marker && (p1.player.endless || 1 ≤ p1.player.loopsRemaining) then p1.loopJump marker anchor else p1
  | _, _ => p1

/-- R134: a NOTE_ON event is dispatched. That its record is handed to the journal writer before the voice engine acts, so that a
VOICE record which the note causes follows it, is the model's own choice (log 67). -/
def Stage.dispatchNoteOn (key : Fin 88) (velocity part : Nat) (p : Stage) : Stage :=
  let p1 := p.reportNote .playNoteOn key.val velocity part false
  if p.player.mode part = some .sound then
    let q := p1.onPlayer fun q => { q with openKeys := q.openKeys.filter (fun o => o.1 ≠ key) ++ [(key, part)] }
    q.onEngine (Engine.noteOn key .playback velocity)
  else p1

/-- R134: a NOTE_OFF event is dispatched. -/
def Stage.dispatchNoteOff (key : Fin 88) (value part : Nat) (p : Stage) : Stage :=
  let p1 := p.reportNote .playNoteOff key.val value part false
  if p.player.openKeys.contains (key, part) then
    { p1 with voice := p1.voice.noteOff key .playback
              player := { p1.player with openKeys := p1.player.openKeys.filter fun o => o ≠ (key, part) } }
  else p1

/-- R134, R135: a PEDAL event is dispatched. -/
def Stage.dispatchPedal (pedal level part : Nat) (p : Stage) : Stage :=
  let p1 := p.onHub fun h => h.note .pedal pedal level part 0 { playback := true }
  if p.player.mode part = some .sound then p1.handPedals (p1.player.pedals.store pedal level) else p1

/-- R134: an event of a group is dispatched. The cursor moves past it first, into its block if it stands in the other buffer
(R131). -/
def Stage.dispatchEvent (time : Word32) (g : GroupEvent) (p : Stage) : Stage :=
  let p0 := if g.buffer = p.player.currentBuffer then p else p.advanceBlock
  let p1 := p0.onPlayer fun q => { q with currentEvent := g.index + 1, lastTime := time }
  let e := g.event
  match e.kind with
  | 1 => if h : e.target < 88 then p1.dispatchNoteOn ⟨e.target, h⟩ e.value e.part else p1
  | 2 => if h : e.target < 88 then p1.dispatchNoteOff ⟨e.target, h⟩ e.value e.part else p1
  | 3 => p1.dispatchPedal e.target (min 127 e.value) e.part
  | 4 => (p1.onPlayer fun q => { q with followTempo := clampTempo e.value }).restart time (clampTempo e.value) false
  | 5 => p1.dispatchMark e.target
  | 7 => p1.naturalEnd
  | _ => p1

/-- R134: the events of a group are dispatched in score order; an END and a loop jump leave the rest undispatched. -/
def Stage.dispatchGroup (time : Word32) : List GroupEvent → Stage → Stage
  | [], p => p
  | g :: rest, p =>
    let p1 := p.dispatchEvent time g
    if g.event.kind = 7 || p1.player.loopReread then p1 else dispatchGroup time rest p1

/-! ### Groups (R132, R133) -/

/-- The events that a VALID buffer still holds from an event index on. -/
def bufferEvents (b : Fin 2) (from_ : Nat) (block : ScoreBlock) : List GroupEvent :=
  ((List.range block.events.length).zip block.events).filterMap fun ie =>
    if from_ ≤ ie.1 then some { event := ie.2, buffer := b, index := ie.1 } else none

/-- The events after the first one that belong to its group: those of delta 0, up to and with an END. The flag says that the
end of the group was seen. -/
def groupTail : List GroupEvent → List GroupEvent × Bool
  | [] => ([], false)
  | g :: rest =>
    if g.event.delta ≠ 0 then ([], true)
    else if g.event.kind = 7 then ([g], true)
    else
      let t := groupTail rest
      (g :: t.1, t.2)

/-- What stands at the event cursor: nothing readable, the end of the current block, or a group with its completeness. -/
inductive View where
  | unreadable
  | blockEnd (last successor : Bool)
  | group (g : Group) (complete : Bool)

/-- R132: the next group of the player. -/
def Player.view (q : Player) : View :=
  match q.currentBlock with
  | none => .unreadable
  | some block =>
    match bufferEvents q.currentBuffer q.currentEvent block with
    | [] => .blockEnd block.last q.successor.isSome
    | first :: rest =>
      let time := q.lastTime + BitVec.ofNat 32 first.event.delta
      let more := match q.successor with
        | some next => if block.last then [] else bufferEvents (otherBuffer q.currentBuffer) 0 next
        | none => []
      let endSeen := block.last || (q.successor.any ScoreBlock.last)
      if first.event.kind = 7 then .group { time, events := [first] } true
      else
        let t := groupTail (rest ++ more)
        .group { time, events := first :: t.1 } (t.2 || endSeen)

/-- R139: the keys that a group's wait expects: its NOTE_ONs of GUIDE parts, without repeats and without the keys given, in
score order. Together with the keys given they are at most 16 (log 26). -/
def Player.guideKeys (without : List (Fin 88)) (g : Group) (q : Player) : List (Fin 88) :=
  (g.events.foldl (fun keys ge =>
    let e := ge.event
    if h : e.target < 88 then
      if e.kind = 1 && q.mode e.part = some .guide && !keys.contains ⟨e.target, h⟩ && !without.contains ⟨e.target, h⟩ then
        keys ++ [⟨e.target, h⟩]
      else keys
    else keys) ([] : List (Fin 88))).take (16 - without.length)

/-- R139 step 3: the strikes that the early window counts, oldest first. Of two unused strikes of one key in the window the older is
marked used: R139 gives no order, and this is the model's own choice (log 61). -/
def Player.countStrikes (window : Nat) (q : Player) : Player :=
  q.strikes.foldl (fun q strike =>
    if !strike.used && q.expected.contains strike.key && (q.waitStart - strike.stamp).toNat ≤ window then
      { q with
        expected := q.expected.filter fun k => k ≠ strike.key, struck := q.struck ++ [strike.key]
        strikes := q.strikes ++ [{ strike with used := true }] }
    else { q with strikes := q.strikes ++ [strike] }) { q with strikes := [] }

/-- R141: a wait ends: the held group is dispatched. -/
def Stage.endWait (p : Stage) : Stage :=
  let p1 := p.onPlayer fun q => { q with state := .playing, expected := [], struck := [], held := none }
  match p.player.held with
  | some g => p1.dispatchGroup g.time g.events
  | none => p1

/-- R139: a wait begins. -/
def Stage.beginWait (g : Group) (p : Stage) : Stage :=
  let window := match p.player.take with
    | some t => t.earlyWindow * 1000
    | none => 0
  let p1 := p.onPlayer fun q => Player.countStrikes window <|
    { q with
      expected := q.guideKeys [] g, struck := [], held := some g, waitStart := p.hub.tracking, state := .waiting
      position := g.time, positionPart := 0 }
  if p1.player.expected.isEmpty then p1.endWait else p1.report 3 p1.player.expected.length 0

/-- R134, R139: a complete group that has been reached is acted on. -/
def Stage.takeGroup (g : Group) (p : Stage) : Stage :=
  let follow := match p.player.take with
    | some t => t.follow
    | none => false
  if g.events.any fun ge => ge.event.bad then p.fault true
  else if follow && !(p.player.guideKeys [] g).isEmpty then p.beginWait g
  else p.dispatchGroup g.time g.events

/-- R133: the player goes on while it is PLAYING and something is due. Each turn dispatches an event or enters a block. -/
def Stage.playRun : Nat → Stage → Stage
  | 0, p => p
  | n + 1, p =>
    if p.player.state ≠ .playing then p
    else
      match p.player.view with
      | .unreadable => p.onPlayer fun q => { q with state := .starved }
      | .blockEnd true _ => playRun n p.naturalEnd
      | .blockEnd false true => playRun n p.advanceBlock
      | .blockEnd false false =>
        p.onPlayer fun q => { q with state := .starved, position := q.lastTime, positionPart := 0 }
      | .group g complete =>
        if reached g.time p.player.position then
          if complete then playRun n (p.takeGroup g)
          else p.onPlayer fun q => { q with state := .starved, position := g.time, positionPart := 0 }
        else p

/-- R133: everything that is due is acted on. -/
def Stage.play (p : Stage) : Stage := p.playRun turns

/-- R133: a group is due at or before a score position. -/
def Player.groupDueBy (position : Word32) (q : Player) : Bool :=
  match q.view with
  | .group g _ => reached g.time position
  | _ => true

/-! ### Block reads (R131) -/

/-- R131, R133, R143, R144: a block of the current take has become VALID in buffer `b`. After a loop jump the player hands the
restart and then returns to PLAYING, as R143 has it, so the restart sets the grid and gives no beat 1 (R94; log 45). -/
def Stage.blockValid (b : Fin 2) (block : ScoreBlock) (p : Stage) : Stage :=
  let current := p.player.currentBuffer = b
  let p1 := if current then p.enterBlock else p
  match p.player.state with
  | .loading =>
    if p.player.scan.isSome then (p1.scanRun turns).play
    else if current then (p1.beginTake block).play
    else p1
  | .seeking => (p1.scanRun turns).play
  | .starved =>
    let p2 :=
      if p.player.loopReread || p.player.restartOwed then p1.restart p.player.lastTime p.player.followTempo false else p1
    (p2.onPlayer fun q => { q with state := .playing, loopReread := false, restartOwed := false }).play
  | .paused =>
    if p.player.loopReread then p1.onPlayer fun q => { q with loopReread := false, restartOwed := true } else p1
  | .playing => p1.play
  | _ => p1

/-- R131, R152: a block read arrives, or fails (none). -/
def Stage.blockRead (b : Fin 2) (part : Nat) (bytes : Option (List Byte)) (p : Stage) : Stage :=
  let buffer := p.player.buffers[b]
  let takeId := if buffer.nextTake then p.player.next.map (fun n => n.take.takeId) else p.player.take.map TakeRecord.takeId
  let reject (format : Bool) : Stage :=
    if buffer.nextTake then p.emptyBuffer b else if p.player.state.inProgress then p.fault format else p
  if buffer.state ≠ .reading then p
  else
    match bytes with
    | none => reject false
    | some bs =>
      let chunks := putChunk buffer.chunks part bs
      match allChunks chunks with
      | none => p.onPlayer fun q => { q with buffers := q.buffers.set b { buffer with chunks := chunks } }
      | some all =>
        let block := ScoreBlock.parse all
        if block.good (takeId.getD 0) buffer.index then
          let p1 := p.onPlayer fun q =>
            { q with buffers := q.buffers.set b { buffer with state := .valid, chunks := [], block := some block } }
          if buffer.nextTake then p1 else p1.blockValid b block
        else reject true

/-! ### Live strikes, waits, pause and resume (R138 to R142, R146, R148) -/

/-- R138: a live KEY_DOWN reaches the player. -/
def Stage.liveStrike (key : Fin 88) (p : Stage) : Stage :=
  let waiting := p.player.state = .waiting
  let hit := waiting && p.player.expected.contains key
  let strike : Strike := { key, stamp := p.hub.tracking, used := hit }
  let p1 := p.onPlayer fun q => { q with
    expected := if hit then q.expected.filter (fun k => k ≠ key) else q.expected
    struck := if hit then q.struck ++ [key] else q.struck
    misses := if waiting && !hit then q.misses + 1 else q.misses
    strikes := (q.strikes ++ [strike]).drop (q.strikes.length + 1 - 16) }
  if hit && p1.player.expected.isEmpty then ((p1.report 4 0 0).endWait).play else p1

/-- R142: the follow timeout of the current wait has passed. -/
def Stage.waitOver (p : Stage) : Bool :=
  match p.player.take with
  | some t =>
    p.player.state == .waiting && t.followTimeout ≠ 0 &&
      t.followTimeout * 1000000 ≤ (p.hub.tracking - p.player.waitStart).toNat
  | none => false

/-- R142: the wait is skipped. -/
def Stage.skipWait (p : Stage) : Stage := ((p.report 5 p.player.expected.length 0).endWait).play

/-- R146: the player becomes PAUSED. -/
def Stage.pause (p : Stage) : Stage :=
  p.releaseAll.onPlayer fun q => { q with state := .paused, expected := [], struck := [] }

/-- R146: the player leaves PAUSED. A restart that a paused loop re-read owes (R143) is handed before the player enters PLAYING, as
at the jump (log 45). -/
def Stage.resume (p : Stage) : Stage :=
  match p.player.held with
  | some g => (p.beginWait g).play
  | none =>
    if p.player.currentBlock.isSome then
      let p1 := if p.player.restartOwed then p.restart p.player.lastTime p.player.followTempo false else p
      (p1.onPlayer fun q => { q with state := .playing, restartOwed := false }).play
    else p.onPlayer fun q => { q with state := .starved }

/-- R148: PLAY_TOGGLE is carried out in these states. -/
def PlayerState.togglable : PlayerState → Bool
  | .playing | .waiting | .paused | .seeking => true
  | _ => false

/-- R148: PLAY_TOGGLE is carried out. -/
def Stage.toggle (p : Stage) : Stage :=
  let p1 :=
    match p.player.state with
    | .paused => p.resume
    | .seeking => p.onPlayer fun q => { q with returnToPlaying := !q.returnToPlaying }
    | _ => p.pause
  p1.onHub (Hub.raise .practice)

/-! ### Parts, seek and the slot (R137, R144, R151) -/

/-- R137: the part modes change. The keys of all the parts that leave SOUND are released in one pass in ascending key order, and
the pedals are forced to 0 after it: the model's own choice (log 46). -/
def Stage.setParts (parts : Vector PartMode 4) (p : Stage) : Stage :=
  let leaving (i : Nat) : Bool := p.player.mode i == some .sound && (if h : i < 4 then parts[i] ≠ .sound else false)
  let p1 := (p.releaseOpen leaving).onPlayer fun q => { q with parts := parts }
  let p2 := if leaving 2 then p1.handPedals .zero else p1
  match p2.player.state, p2.player.held with
  | .waiting, some g =>
    let p3 := p2.onPlayer fun q => { q with expected := q.guideKeys q.struck g }
    if p3.player.expected.isEmpty then ((p3.report 4 0 0).endWait).play else p3
  | _, _ => p2

/-- R144: a seek begins. -/
def Stage.seek (slot : Fin 32) (marker : Nat) (p : Stage) : Stage :=
  let p1 := p.releaseAll.onPlayer fun q => { q with
    returnToPlaying := q.state ≠ .paused, held := none, expected := [], struck := [], state := .seeking
    pendingSlot := some slot, scan := some marker, loopReread := false, restartOwed := false, anchor := none }
  (p1.readFirst).rewind

/-! ### The commands -/

/-- R129: PLAY_START is refused. INVALID before BUSY where both hold is the model's own choice (log 54). -/
def refusePlayStart (a : List Byte) (s : State) : Option ResultCode :=
  if (TakeRecord.parse a).isNone then some .invalid
  else if s.player.state.inProgress then some .busy
  else none

/-- R129: PLAY_START is taken. -/
def actPlayStart (slot : Fin 32) (a : List Byte) (s : State) : State :=
  match TakeRecord.parse a with
  | some take => s.mapStage (Stage.startTake take (some slot))
  | none => s

/-- PLAY_START (R129). -/
def execPlayStart (slot : Fin 32) (tag : Word16) (a : List Byte) (s : State) : Host.Outcome State Fault Refusal :=
  .next (s.visitSlot slot .playStart tag a (refusePlayStart a s) (actPlayStart slot a))

/-- BLOCK_READ_ARRIVAL (R131). -/
def execBlockReadArrival (read : Nat) (outcome : ReadOutcome) (s : State) : Host.Outcome State Fault Refusal :=
  .next (s.whenUp fun s => s.onArrival ReadTag.isBlock read outcome fun tag bytes s =>
    match tag with
    | .block b part => s.mapStage (Stage.blockRead b part.val bytes)
    | _ => s)

/-- SCORE_GROUP_DUE (R133): acts on every group that the score clock has reached. -/
def execScoreGroupDue (s : State) : Host.Outcome State Fault Refusal := .next (s.whenUp fun s => s.mapStage Stage.play)

/-- WAIT_TIMEOUT (R142). -/
def execWaitTimeout (s : State) : Host.Outcome State Fault Refusal :=
  .next (s.whenUp fun s => s.mapStage fun p => if p.waitOver then p.skipWait else p)

/-- R93, R94: a FOLLOW beat is due now; a group that is due at or before the beat's position comes first (log 19). -/
def State.followBeatDue (s : State) : Bool :=
  let m := s.metronome
  m.settings.on && m.settings.mode == .follow && m.gridSet && s.player.state == .playing && !s.hub.attach.asleep &&
    reached m.followDue s.player.position && !s.player.groupDueBy m.followDue

/-- FOLLOW_BEAT_DUE (R93). -/
def execFollowBeatDue (s : State) : Host.Outcome State Fault Refusal :=
  .next (s.whenUp fun s => if s.followBeatDue then s.mapMetronome Beater.followBeat else s)

/-- The request of a slot completes OK with the player status. -/
def Stage.answer (slot : Fin 32) (p : Stage) : Stage := p.onHub fun h => h.completeRequest slot .ok p.player.status

/-- R151: PLAY_NEXT is refused. INVALID before BUSY where both hold is the model's own choice (log 54). -/
def refusePlayNext (a : List Byte) (s : State) : Option ResultCode :=
  if (TakeRecord.parse a).isNone then some .invalid
  else if s.player.next.isSome then some .busy
  else none

/-- R151: PLAY_NEXT is taken. -/
def actPlayNext (slot : Fin 32) (a : List Byte) (s : State) : State :=
  match TakeRecord.parse a with
  | some take =>
    s.mapStage fun p =>
      let p1 := p.onPlayer fun q => { q with next := some { take := take, settled := bitOf (u8At a 14) 5 } }
      ((p1.answer slot).readAhead.beginSettled).play
  | none => s

/-- PLAY_NEXT (R151). -/
def execPlayNext (slot : Fin 32) (tag : Word16) (a : List Byte) (s : State) : Host.Outcome State Fault Refusal :=
  .next (s.visitSlot slot .playNext tag a (refusePlayNext a s) (actPlayNext slot a))

/-- R151: PLAY_SETTLE and PLAY_UNSETTLE are refused while the slot is empty. -/
def refuseNextSlot (s : State) : Option ResultCode := if s.player.next.isNone then some .state else none

/-- R151: PLAY_SETTLE is taken. -/
def actPlaySettle (slot : Fin 32) (s : State) : State :=
  s.mapStage fun p =>
    let p1 := p.onPlayer fun q => { q with next := q.next.map fun n => { n with settled := true } }
    ((p1.answer slot).readAhead.beginSettled).play

/-- PLAY_SETTLE (R151). -/
def execPlaySettle (slot : Fin 32) (tag : Word16) (a : List Byte) (s : State) : Host.Outcome State Fault Refusal :=
  .next (s.visitSlot slot .playSettle tag a (refuseNextSlot s) (actPlaySettle slot))

/-- R151: PLAY_UNSETTLE is taken. -/
def actPlayUnsettle (slot : Fin 32) (s : State) : State :=
  s.mapStage fun p => ((p.dropReadAhead).onPlayer Player.unsettle).answer slot

/-- PLAY_UNSETTLE (R151). -/
def execPlayUnsettle (slot : Fin 32) (tag : Word16) (a : List Byte) (s : State) : Host.Outcome State Fault Refusal :=
  .next (s.visitSlot slot .playUnsettle tag a (refuseNextSlot s) (actPlayUnsettle slot))

/-- R136: PLAY_TEMPO is refused. INVALID before STATE where both hold is the model's own choice (log 54). -/
def refusePlayTempo (a : List Byte) (s : State) : Option ResultCode :=
  if u8At a 0 < 25 || 200 < u8At a 0 then some .invalid
  else if !s.player.state.inProgress then some .state
  else none

/-- R136: PLAY_TEMPO is taken. -/
def actPlayTempo (slot : Fin 32) (a : List Byte) (s : State) : State :=
  s.mapStage fun p => (p.onPlayer fun q => { q with tempo := u8At a 0 }).answer slot

/-- PLAY_TEMPO (R136). -/
def execPlayTempo (slot : Fin 32) (tag : Word16) (a : List Byte) (s : State) : Host.Outcome State Fault Refusal :=
  .next (s.visitSlot slot .playTempo tag a (refusePlayTempo a s) (actPlayTempo slot a))

/-- R137: PLAY_PARTS is refused. INVALID before STATE where both hold is the model's own choice (log 54). -/
def refusePlayParts (a : List Byte) (s : State) : Option ResultCode :=
  if (parseParts (u8At a 0)).isNone then some .invalid
  else if !s.player.state.inProgress then some .state
  else none

/-- R137: PLAY_PARTS is taken. Where it ends a wait, what is due then is acted on before the request completes (log 74). -/
def actPlayParts (slot : Fin 32) (a : List Byte) (s : State) : State :=
  match parseParts (u8At a 0) with
  | some parts => s.mapStage fun p => (p.setParts parts).answer slot
  | none => s

/-- PLAY_PARTS (R137). -/
def execPlayParts (slot : Fin 32) (tag : Word16) (a : List Byte) (s : State) : Host.Outcome State Fault Refusal :=
  .next (s.visitSlot slot .playParts tag a (refusePlayParts a s) (actPlayParts slot a))

/-- R144: PLAY_SEEK is refused. INVALID before BUSY or STATE where both hold is the model's own choice (log 54). -/
def refusePlaySeek (a : List Byte) (s : State) : Option ResultCode :=
  if 255 < u16At a 0 then some .invalid
  else
    match s.player.state with
    | .seeking => some .busy
    | .playing | .waiting | .starved | .paused => none
    | _ => some .state

/-- R144: PLAY_SEEK is taken. -/
def actPlaySeek (slot : Fin 32) (a : List Byte) (s : State) : State := s.mapStage (Stage.seek slot (u16At a 0))

/-- PLAY_SEEK (R144). -/
def execPlaySeek (slot : Fin 32) (tag : Word16) (a : List Byte) (s : State) : Host.Outcome State Fault Refusal :=
  .next (s.visitSlot slot .playSeek tag a (refusePlaySeek a s) (actPlaySeek slot a))

/-- R146: PLAY_PAUSE and PLAY_RESUME are refused. -/
def refusePauseResume (s : State) : Option ResultCode :=
  match s.player.state with
  | .idle | .loading | .ended | .faulted => some .state
  | _ => none

/-- R146: PLAY_PAUSE is taken. -/
def actPlayPause (slot : Fin 32) (s : State) : State :=
  s.mapStage fun p =>
    let p1 :=
      match p.player.state with
      | .paused => p
      | .seeking => p.onPlayer fun q => { q with returnToPlaying := false }
      | _ => p.pause
    p1.answer slot

/-- PLAY_PAUSE (R146). -/
def execPlayPause (slot : Fin 32) (tag : Word16) (a : List Byte) (s : State) : Host.Outcome State Fault Refusal :=
  .next (s.visitSlot slot .playPause tag a (refusePauseResume s) (actPlayPause slot))

/-- R146: PLAY_RESUME is taken. No rule orders its OK and status against what falls due at once: the model acts on the groups due
at the resume first, with the natural end or the end of the held wait that they bring, and answers after them, its own choice
(log 74). -/
def actPlayResume (slot : Fin 32) (s : State) : State :=
  s.mapStage fun p =>
    let p1 :=
      match p.player.state with
      | .paused => p.resume
      | .seeking => p.onPlayer fun q => { q with returnToPlaying := true }
      | _ => p
    p1.answer slot

/-- PLAY_RESUME (R146). -/
def execPlayResume (slot : Fin 32) (tag : Word16) (a : List Byte) (s : State) : Host.Outcome State Fault Refusal :=
  .next (s.visitSlot slot .playResume tag a (refusePauseResume s) (actPlayResume slot))

/-- R147: PLAY_STOP is taken. -/
def actPlayStop (slot : Fin 32) (a : List Byte) (s : State) : State :=
  s.mapStage fun p =>
    (p.stop.onPlayer fun q => { q with next := if bitOf (u8At a 0) 0 then none else q.next }).answer slot

/-- PLAY_STOP (R147). -/
def execPlayStop (slot : Fin 32) (tag : Word16) (a : List Byte) (s : State) : Host.Outcome State Fault Refusal :=
  .next (s.visitSlot slot .playStop tag a none (actPlayStop slot a))

end Sys2Proof.Machine
end

