-- ==== Sys2Proof/Machine/RailControl.lean ====
section
/-! DEFINITION. The hammer-stop rail (06_the_hammer_stop_rail.md): positions and classes, activation, the motion profile, the gate and the pause, homing, supervision, the ends of moves, the next slot, the mode lamp, and the rail's commands. Its operations change the hub, the rail record, the lamp and the voice engine's AT_SILENT copy alone. -/

namespace Sys2Proof.Machine

/-- All that the rail's operations read and change; the configuration and the pins are only read. -/
structure Deck where
  hub : Hub
  rail : Rail
  lamp : Lamp
  atSilent : Bool
  config : RailConfig
  pins : Pins

/-- The part of the state that the rail's operations read. -/
def State.deck (s : State) : Deck :=
  { hub := s.hub, rail := s.rail, lamp := s.lamp, atSilent := s.voice.atSilent, config := s.railConfig, pins := s.pins }

/-- An operation on the rail record. -/
def Deck.onRail (f : Rail → Rail) (d : Deck) : Deck := { d with rail := f d.rail }

/-- An operation on the hub. -/
def Deck.onHub (f : Hub → Hub) (d : Deck) : Deck := { d with hub := f d.hub }

/-! ### Position classes, AT_SILENT and the lamp (R101, R125) -/

/-- Table 6-4. -/
def positionClass (c : RailConfig) (r : Rail) : PositionClass :=
  if r.position = c.silent && r.seated then .silent
  else if r.position < c.crossStart then .clear
  else if r.position ≤ c.crossEnd then .crossing
  else .nearSilent

/-- R101: AT_SILENT. -/
def railAtSilent (c : RailConfig) (r : Rail) : Bool := r.state == .idle && positionClass c r == .silent

/-- Table 6-7. -/
def autoPattern (c : RailConfig) (r : Rail) : LampPattern :=
  match r.state with
  | .gated | .moving | .paused | .seating | .homing => .blink2
  | .unknown | .faulted => .blink4
  | .idle =>
    match positionClass c r with
    | .silent => .on
    | .clear => .off
    | .crossing | .nearSilent => .blink1

/-- R125: the pattern to show; `asleep` in STANDBY and WOKEN. -/
def wantedPattern (c : RailConfig) (r : Rail) (asleep : Bool) (shown : LampPattern) : LampPattern :=
  if asleep then
    match c.standbyLamp with
    | .keep => shown
    | .fade => .fade
    | .off => .off
  else
    match c.lampMode with
    | .show p => p
    | .auto => autoPattern c r

/-- R125: the period of a blink, in µs; 0 for the patterns that do not blink. -/
def LampPattern.period : LampPattern → Nat
  | .blink05 => 2000000 | .blink1 => 1000000 | .blink2 => 500000 | .blink4 => 250000 | _ => 0

/-- R125: the brightness of a pattern, in thousandths, `elapsed` µs after its start (log 36). -/
def LampPattern.brightnessAt (elapsed : Nat) : LampPattern → Nat
  | .off => 0
  | .on => 1000
  | .fade =>
    let t := elapsed % 2000000
    if t ≤ 1000000 then t / 1000 else (2000000 - t) / 1000
  | p => if elapsed % p.period * 2 < p.period then 1000 else 0

/-- R125: the lamp shows a pattern; a change starts the new one at the beginning of its period. -/
def Lamp.showPattern (p : LampPattern) (now : Nat) (l : Lamp) : Lamp :=
  if p = l.shown then l else { shown := p, since := now, brightness := p.brightnessAt 0 }

/-- R101, R125: AT_SILENT and the lamp pattern follow the rail. -/
def Deck.sync (d : Deck) : Deck :=
  { d with
    atSilent := railAtSilent d.config d.rail
    lamp := d.lamp.showPattern (wantedPattern d.config d.rail
      (d.hub.attach == .standby || d.hub.attach == .woken) d.lamp.shown) d.hub.now }

/-- The state with a rail operation applied, AT_SILENT and the lamp following it (R101, R125). -/
def State.mapDeck (f : Deck → Deck) (s : State) : State :=
  let d := (f s.deck).sync
  { s with hub := d.hub, rail := d.rail, lamp := d.lamp, voice := { s.voice with atSilent := d.atSilent } }

/-- R125, Table 0-1: how high the LAMP output is driven, in thousandths, under the polarity in force. -/
def State.lampDrive (s : State) : Nat :=
  if s.railConfig.activeLow then 1000 - s.lamp.brightness else s.lamp.brightness

/-! ### Records (R102, R118) -/

/-- The position of a record: clamped to 0–65,535 (R118). -/
def clampPosition (p : Int) : Nat := min 65535 p.toNat

/-- A RAIL record; 0xFF as subject when no move is active. -/
def Deck.note (subject detail item : Nat) (d : Deck) : Deck :=
  d.onHub fun h => h.note .rail subject (clampPosition d.rail.position) detail item {}

/-- The subject of a record of the active move. -/
def Deck.subject (d : Deck) : Nat :=
  match d.rail.active with
  | some m => m.kind.code
  | none => 0xFF

/-! ### Rates (R105, R106) -/

/-- The rate of a change at a time, in millionths of a microstep per second: R105 for LINEAR, R106 for S_CURVE. -/
def RateChange.rateAt (now : Nat) (c : RateChange) : Nat :=
  let x := (now - c.since) * c.acc
  let full := distance c.v0 c.v1
  let part :=
    if c.sCurve then
      if x ≤ full then (if full = 0 then 0 else x * x / (2 * full))
      else if x ≤ 2 * full then full - (2 * full - x) * (2 * full - x) / (2 * full)
      else full
    else min x full
  if c.v0 ≤ c.v1 then c.v0 + part else c.v0 - part

/-- A rate in millionths. -/
def micro (rate : Nat) : Nat := rate * 1000000

/-- The current rate of a motion, in millionths: 0 before its first pulse. -/
def Motion.rateNow (now : Nat) (m : Motion) : Nat := if m.started then m.change.rateAt now else 0

/-- The current rate of the rail, in millionths (R101). -/
def Rail.rateNow (now : Nat) (r : Rail) : Nat :=
  match r.motion with
  | some m => m.rateNow now
  | none => 0

/-- The integer square root, by bits from 2^47 down. -/
def isqrt (n : Nat) : Nat :=
  (List.range 48).foldl (fun r i =>
    let t := r + 2 ^ (47 - i)
    if t * t ≤ n then t else r) 0

/-- R106: the top rate of an S_CURVE motion over a distance, in millionths. -/
def sCurveTop (p : Profile) (dist : Nat) : Nat :=
  let room := dist - p.rampOffset
  let v := isqrt ((p.fl * p.fl * (p.accel + p.decel) + room * p.accel * p.decel) * 1000000000000 / (p.accel + p.decel))
  min (micro p.fh) v

/-- A rate held without change. -/
def RateChange.steady (rate now : Nat) : RateChange := { since := now, v0 := rate, v1 := rate, acc := 0, sCurve := false }

/-- R105: a motion from rest toward the target of the active move. -/
def startRun (p : Profile) (position target : Int) (now : Nat) : Motion :=
  let dist := (target - position).natAbs
  { outward := position < target, phase := .run false
    change := { since := now, v0 := micro p.fl, v1 := if p.sCurve then sCurveTop p dist else micro p.fh, acc := p.accel
                sCurve := p.sCurve }
    started := false, lastPulse := 0, rate := 0, travel := 0 }

/-- R109, R114, R119: the change from the current rate to FL. -/
def slowToFL (p : Profile) (now : Nat) (m : Motion) : RateChange :=
  { since := now, v0 := if m.started then m.rateNow now else micro p.fl, v1 := micro p.fl, acc := p.decel, sCurve := p.sCurve }

/-! ### Homing steps (R113, R114) -/

/-- R113: the escape, outward at FL. -/
def escapeMotion (p : Profile) (now : Nat) : Motion :=
  { outward := true, phase := .escape, change := .steady (micro p.fl) now, started := false, lastPulse := 0, rate := 0
    travel := 0 }

/-- R113: the return, inward and rising toward FH. -/
def returnMotion (p : Profile) (now : Nat) : Motion :=
  { outward := false, phase := .homeReturn
    change := { since := now, v0 := micro p.fl, v1 := micro p.fh, acc := p.accel, sCurve := p.sCurve }
    started := false, lastPulse := 0, rate := 0, travel := 0 }

/-- R114: the activation of HOME_N that ends the return. -/
def searchMotion (p : Profile) (now : Nat) (m : Motion) : Motion :=
  { m with phase := .homeSearch 0 0, change := slowToFL p now m, travel := 0 }

/-- R113: the return begins; HOME_N already active ends it at once (log 22). -/
def Deck.beginReturn (p : Profile) (d : Deck) : Deck :=
  let m := returnMotion p d.hub.now
  d.onRail fun r => { r with motion := some (if d.pins.home then searchMotion p d.hub.now m else m) }

/-- R113: the HOME sequence begins with its first step. -/
def Deck.beginHoming (p : Profile) (d : Deck) : Deck :=
  if d.pins.home then d.onRail fun r => { r with state := .homing, motion := some (escapeMotion p d.hub.now) }
  else (d.onRail fun r => { r with state := .homing }).beginReturn p

/-! ### The gate (R107, R108) -/

/-- R107: the quiet-held time, in µs. -/
def Rail.quietHeld (now : Nat) (r : Rail) : Nat := if r.quiet then now - r.quietSince else 0

/-- R108, R110: the quiet condition has held for QUIET_HOLD. -/
def Deck.quietLongEnough (d : Deck) : Bool := d.config.quietHold * 1000 ≤ d.rail.quietHeld d.hub.now && d.rail.quiet

/-- R107: a change of the quiet condition is handed to the rail. -/
def Deck.setQuiet (quiet : Bool) (d : Deck) : Deck :=
  if quiet = d.rail.quiet then d else d.onRail fun r => { r with quiet := quiet, quietSince := d.hub.now }

/-- R108: the active move leaves GATED for motion. -/
def Deck.leaveGate (d : Deck) : Deck :=
  match d.rail.active with
  | none => d
  | some m =>
    if m.kind = .home then
      (d.onRail fun r => { r with homed := false, active := some { m with homing := true } }).beginHoming m.profile
    else
      d.onRail fun r =>
        { r with state := .moving, motion := some (startRun m.profile r.position m.target d.hub.now) }

/-- R108: the active move enters GATED, and leaves it at once if the hammers have been quiet for QUIET_HOLD. -/
def Deck.enterGate (d : Deck) : Deck :=
  let d1 := d.onRail fun r => { r with state := .gated, gateSince := d.hub.now }
  if d1.quietLongEnough then d1.leaveGate else d1

/-! ### Activation (R103, R104) -/

/-- R103: the profile a move runs under. -/
def MoveRequest.profileIn (c : RailConfig) (m : MoveRequest) : Profile :=
  let pick (o v : Nat) : Nat := if o = 0 then v else o
  { fl := pick m.fl c.profile.fl, fh := pick m.fh c.profile.fh, accel := pick m.accel c.profile.accel
    decel := pick m.decel c.profile.decel
    sCurve := if m.shape = 1 then false else if m.shape = 2 then true else c.profile.sCurve
    rampOffset := pick m.rampOffset c.profile.rampOffset }

/-- Table 6-5: the target of a move made active at a position. -/
def MoveRequest.targetFrom (c : RailConfig) (position : Int) (m : MoveRequest) : Int :=
  match m.kind with
  | .home => 0
  | .engage => c.silent
  | .park => c.park
  | .goto => m.argument
  | .jog => position + m.argument

/-- R104: the refusal of a move at its activation. STATE before INVALID where both hold is the model's own choice (log 54). -/
def MoveRequest.refusedBy (c : RailConfig) (r : Rail) (m : MoveRequest) : Option ResultCode :=
  let target := m.targetFrom c r.position
  if r.state = .faulted || (r.state = .unknown && m.kind ≠ .home) then some .state
  else if m.kind = .jog && (target < 0 || (c.span : Int) < target) then some .invalid
  else none

/-- R104: a path overlaps the crossing zone. -/
def crosses (c : RailConfig) (a b : Int) : Bool := min a b ≤ c.crossEnd && (c.crossStart : Int) ≤ max a b

/-- R104, R117: DRV_EN is active; the first pulse waits for 1 ms from the moment it becomes so. -/
def Rail.enableDriver (now : Nat) (r : Rail) : Rail :=
  if r.drvEn then r else { r with drvEn := true, drvEnSince := now, drvSettled := false }

/-- R104: a move that has passed its checks is made active. The flag says that it is COMPLETE at once: it has no distance, or
it is an ENGAGE that finds the rail seated (R112). -/
def Deck.activateCore (m : MoveRequest) (d : Deck) : Deck × Bool :=
  let target := m.targetFrom d.config d.rail.position
  let move : ActiveMove :=
    { kind := m.kind, target, profile := m.profileIn d.config, slot := m.slot, before := d.rail.state, homing := false }
  let d1 := d.onRail fun r =>
    { r.enableDriver d.hub.now with active := some move, pauseExpired := false, stopping := false }
  if m.kind ≠ .home && target = d.rail.position then
    if m.kind = .engage then
      (d1.onRail fun r => { r with state := .seating, seatSince := d.hub.now }, d.rail.seated)
    else (d1, true)
  else if m.kind = .home || crosses d.config d.rail.position target then (d1.enterGate, false)
  else
    (d1.onRail fun r => { r with
      state := .moving, motion := some (startRun move.profile r.position target d.hub.now) }, false)

/-! ### How a move ends (R118, R123) -/

/-- Table 6-6: the result code of a cause. -/
def StopCause.result : StopCause → ResultCode
  | .complete => .ok
  | .hammerTimeout | .gateTimeout | .notSeated => .timeout
  | _ => .aborted

/-- Table 6-6, R118: the rail after an end: state, homed flag, index phase and DRV_EN. `fast` says that the rate was above FL. -/
def Rail.afterEnd (cause : StopCause) (fast : Bool) (m : ActiveMove) (r : Rail) : Rail :=
  let gated := r.state == .gated
  let soft : RailState := if gated then m.before else if m.homing then .unknown else .idle
  match cause with
  | .complete => { r with state := .idle, homed := true }
  | .stopRequest | .hammerTimeout => { r with state := soft }
  | .haltRequest => if fast then { r with state := .unknown, homed := false } else { r with state := soft }
  | .gateTimeout => { r with state := m.before }
  | .notSeated => { r with state := .idle }
  | .stall => { r with state := .unknown, homed := false, indexPhase := none, awaitOut := none, awaitIn := none }
  | .driverFault | .homeNotFound => { r with state := .faulted, homed := false, drvEn := false, drvSettled := false }
  | .limitNear | .limitFar => { r with state := .unknown, homed := false }
  | .none => r

/-- R118: the result data of a move's request. -/
def moveResult (cause : StopCause) (m : ActiveMove) (r : Rail) : List Byte :=
  le8 cause.code ++ le8 m.kind.code ++ le8 r.state.code ++ le8 (flagBit r.homed) ++ lei32 m.target ++ lei32 r.position

/-- R118 steps 1 to 5: the active move ends. -/
def Deck.endBasic (cause : StopCause) (d : Deck) : Deck :=
  match d.rail.active with
  | none => d
  | some m =>
    let fast := micro m.profile.fl < d.rail.rateNow d.hub.now
    let d1 := Deck.sync <| d.onRail fun r =>
      { r.afterEnd cause fast m with
        active := none, motion := none, lastCause := cause, pauseExpired := false, stopping := false }
    let d2 := (d1.note m.kind.code cause.code 0).onHub (Hub.raise .rail)
    d2.onHub fun h => h.completeOptional m.slot cause.result (moveResult cause m d2.rail)

/-- R104, R123: the next slot's move is made active, or its request completes with the refusal. The flag `notice` asks for the
NEXT_STARTED record. -/
def Deck.startNext (notice : Bool) (m : MoveRequest) (d : Deck) : Deck :=
  let d0 := d.onRail fun r => { r with next := none }
  match m.refusedBy d.config d0.rail with
  | some code => d0.onHub fun h => h.completeOptional m.slot code []
  | none =>
    let a := d0.activateCore m
    let d1 :=
      if notice then a.1.note m.kind.code 16 (optional8 (m.slot.map fun k => k.val)) else a.1
    if a.2 then d1.endBasic .complete else d1

/-- R118, R123: the active move ends, and the next slot is handled. -/
def Deck.endMove (cause : StopCause) (d : Deck) : Deck :=
  let d1 := d.endBasic cause
  match d1.rail.next with
  | none => d1
  | some n =>
    if cause = .complete then
      if d.config.autoNext && n.settled then d1.startNext true n.move else d1
    else d1.onRail fun r => { r with next := some { n with settled := false } }

/-- R104: a move is made active; it has passed its checks. -/
def Deck.activate (m : MoveRequest) (d : Deck) : Deck :=
  let a := d.activateCore m
  if a.2 then a.1.endMove .complete else a.1

/-! ### Arrival, pause and rest (R109 to R112) -/

/-- R111: the rail has arrived at its target. -/
def Deck.arrive (d : Deck) : Deck :=
  match d.rail.active with
  | none => d
  | some m =>
    let d1 := d.onRail fun r => { r with motion := none }
    if m.kind = .engage then
      let d2 := d1.onRail fun r => { r with state := .seating, seatSince := d.hub.now }
      if d2.rail.seated then d2.endMove .complete else d2
    else d1.endMove .complete

/-- R110: the active move resumes. -/
def Deck.resume (d : Deck) : Deck :=
  match d.rail.active with
  | none => d
  | some m =>
    let d1 := d.note d.subject 13 0
    if m.kind = .home then d1.beginHoming m.profile
    else d1.onRail fun r => { r with state := .moving, motion := some (startRun m.profile r.position m.target d.hub.now) }

/-- R109 to R111, R119: the rail has come to rest from a deceleration. -/
def Deck.comeToRest (d : Deck) : Deck :=
  let d1 := d.onRail fun r => { r with motion := none }
  if d.rail.stopping then d1.endMove .stopRequest
  else
    match d.rail.active with
    | none => d1
    | some m =>
      if m.kind ≠ .home && d.rail.position = m.target then d1.arrive
      else if d.rail.pauseExpired then d1.endMove .hammerTimeout
      else if d1.quietLongEnough then d1.resume
      else d1

/-- R109, R119: the motion decelerates to rest; one that has issued no pulse is at rest at once (log 22). -/
def Deck.decelerate (d : Deck) : Deck :=
  match d.rail.active, d.rail.motion with
  | some m, some motion =>
    if motion.started then
      let slowing : Motion := { motion with phase := .decelerate, change := slowToFL m.profile d.hub.now motion }
      d.onRail fun r => { r with motion := some slowing }
    else d.comeToRest
  | _, _ => d.comeToRest

/-- R109: a position from CROSS_START to CROSS_END. -/
def Deck.inZone (d : Deck) : Bool :=
  (d.config.crossStart : Int) ≤ d.rail.position && d.rail.position ≤ (d.config.crossEnd : Int)

/-- R109: a hammer-launch notice. -/
def Deck.launchNotice (d : Deck) : Deck :=
  if !d.rail.stopping && ((d.rail.state == .moving && d.inZone) || d.rail.state == .homing) then
    let d1 := d.note d.subject 12 0
    (d1.onRail fun r => { r with state := .paused, pauseSince := d.hub.now, pauseExpired := false }).decelerate
  else d

/-! ### Supervision (R115, R116, R117) -/

/-- A position lies from `lo` to `hi` microsteps past an expected index position. -/
def nearIndex (phase : Nat) (position lo hi : Int) : Bool := (position - lo - phase) % 1600 ≤ hi - lo

/-- R116: the expected index position within 64 microsteps of a position. -/
def expectedIndex (phase : Nat) (position : Int) : Int := position + 64 - (position + 64 - phase) % 1600

/-- R116: the INDEX awaited by the two checks after a pulse from `before` to the rail's position: entering the near side of an
expected position, the 64 microsteps before it in the direction of the check, has its INDEX awaited (log 21). -/
def Rail.trackIndex (before : Int) (r : Rail) : Rail :=
  match r.indexPhase with
  | none => r
  | some phase =>
    let entered (lo hi : Int) : Bool := nearIndex phase r.position lo hi && !nearIndex phase before lo hi
    let expected := some (expectedIndex phase r.position)
    { r with
      awaitOut := if entered (-64) (-1) then expected else r.awaitOut
      awaitIn := if entered 1 64 then expected else r.awaitIn }

/-- R116: the position just reached lies 64 microsteps beyond an expected index position whose INDEX is still awaited: none has
come since the position was on its near side. -/
def Rail.stalled (outward : Bool) (r : Rail) : Bool :=
  match r.indexPhase with
  | none => false
  | some phase =>
    let expected := if outward then r.position - 64 else r.position + 64
    (expected - phase) % 1600 == 0 && (if outward then r.awaitOut else r.awaitIn) == some expected

/-- R117: the driver fault is taken. -/
def Deck.driverFaulted (d : Deck) : Deck :=
  match d.rail.active with
  | some _ => d.endMove .driverFault
  | none =>
    let d1 := d.onRail fun r => { r with
      state := .faulted, homed := false, drvEn := false, drvSettled := false, lastCause := .driverFault
      next := r.next.map fun n => { n with settled := false } }
    (d1.note 0xFF 7 0).onHub (Hub.raise .rail)

/-! ### Step pulses (R101, R105, R113 to R116) -/

/-- R101, R104: a STEP pulse is due: the driver has settled, and the period of the rate at the last pulse has passed. -/
def Deck.pulseDue (d : Deck) : Bool :=
  match d.rail.motion with
  | none => false
  | some m =>
    d.rail.drvSettled &&
      (!m.started || m.lastPulse + 1000000000000 / (max 1 m.rate) ≤ d.hub.now)

/-- R113, R115: the end that an active limit switch in the direction of the pulse gives. -/
def limitCause (m : Motion) (limitNear limitFar : Bool) : Option StopCause :=
  if m.outward then (if limitFar then some .limitFar else none)
  else if limitNear then
    match m.phase with
    | .homeReturn | .homeSearch _ _ => some .homeNotFound
    | _ => some .limitNear
  else none

/-- R101: the pulse itself. -/
def Rail.step (now : Nat) (m : Motion) (r : Rail) : Rail :=
  let change := if m.started then m.change else { m.change with since := now }
  let r1 : Rail := { r with
    position := if m.outward then r.position + 1 else r.position - 1
    motion := some
      { m with started := true, lastPulse := now, change := change, rate := change.rateAt now, travel := m.travel + 1 } }
  r1.trackIndex r.position

/-- R105, R106: the ramp-down rule, at a rate in millionths. -/
def rampDown (p : Profile) (remaining : Nat) (m : Motion) : Bool :=
  let room : Int := (remaining : Int) - p.rampOffset
  let drop : Int := (m.rate : Int) * m.rate - (micro p.fl : Int) * micro p.fl
  if m.change.sCurve then m.rate = m.change.v1 && room * p.decel * 1000000000000 ≤ drop
  else room * (2 * p.decel) * 1000000000000 ≤ drop

/-- What a pulse brings beyond its step, by the phase of the motion. -/
def Deck.afterPulse (move : ActiveMove) (m : Motion) (d : Deck) : Deck :=
  let p := move.profile
  let now := d.hub.now
  let span := d.config.span + 2000
  let setMotion (m' : Motion) : Deck := d.onRail fun r => { r with motion := some m' }
  match m.phase with
  | .run falling =>
    if d.rail.position = move.target then d.arrive
    else if !falling && rampDown p (move.target - d.rail.position).natAbs m then
      setMotion { m with phase := .run true, change := slowToFL p now m }
    else d
  | .decelerate =>
    if m.rate ≤ micro p.fl || (move.kind ≠ .home && d.rail.position = move.target) then d.comeToRest else d
  | .escape => if span ≤ m.travel && d.pins.home then d.endMove .homeNotFound else d
  | .escapeTail left => if left ≤ 1 then d.beginReturn p else setMotion { m with phase := .escapeTail (left - 1) }
  | .homeReturn => if span ≤ m.travel then d.endMove .homeNotFound else d
  | .homeSearch indexes steps =>
    if (d.config.homeIndexCount + 2) * 1600 ≤ steps + 1 then d.endMove .homeNotFound
    else setMotion { m with phase := .homeSearch indexes (steps + 1) }

/-- R116: stall supervision is not applied in the index search. It is applied in a deceleration begun there, whose INDEX
pulses count no search: the model's own choice (log 44). -/
def Motion.supervised (m : Motion) : Bool :=
  match m.phase with
  | .homeSearch _ _ => false
  | _ => true

/-- R101, R105, R115, R116: a STEP pulse is due and taken. A pulse that finds an awaited INDEX 64 microsteps
behind (R116) may at once reach the target (R111), bring a stop's or a pause's deceleration to rest (R109, R119), or complete
SPAN + 2,000 of HOME's escape or return (R113). The spec does not order them: that the move ends with STALL is the model's own
choice (log 60). -/
def Deck.pulse (limitNear limitFar : Bool) (d : Deck) : Deck :=
  match d.rail.active, d.rail.motion with
  | some move, some m =>
    match limitCause m limitNear limitFar with
    | some cause => d.endMove cause
    | none =>
      let d1 := d.onRail (Rail.step d.hub.now m)
      if m.supervised && d1.rail.stalled m.outward then d1.endMove .stall
      else
        match d1.rail.motion with
        | some m1 => d1.afterPulse move m1
        | none => d1
  | _, _ => d

/-- R113, R114: HOME_N has changed. -/
def Deck.homeChanged (active : Bool) (d : Deck) : Deck :=
  match d.rail.active, d.rail.motion with
  | some move, some m =>
    match m.phase, active with
    | .escape, false => d.onRail fun r => { r with motion := some { m with phase := .escapeTail 200 } }
    | .homeReturn, true => d.onRail fun r => { r with motion := some (searchMotion move.profile d.hub.now m) }
    | _, _ => d
  | _, _ => d

/-- R114: the index stop that finishes the HOME sequence. -/
def Deck.finishHome (d : Deck) : Deck :=
  (d.onRail fun r => { r with
    position := 0, indexPhase := some 0, awaitOut := none, awaitIn := none, homed := true }).endMove .complete

/-- R116: while the index phase is none an INDEX sets it. -/
def Rail.learnIndex (r : Rail) : Rail :=
  match r.indexPhase with
  | some _ => r
  | none =>
    { r with indexPhase := some (r.position % 1600).toNat, awaitOut := none, awaitIn := none }

/-- R116: an INDEX within 64 microsteps of an expected index position satisfies that position's check. -/
def Rail.satisfyIndex (r : Rail) : Rail :=
  match r.indexPhase with
  | some phase =>
    if nearIndex phase r.position (-64) 64 then { r with awaitOut := none, awaitIn := none } else r
  | none => r

/-- R116: an INDEX farther than 64 microsteps from every expected index position. -/
def Rail.indexAstray (r : Rail) : Bool :=
  match r.indexPhase with
  | some phase => !nearIndex phase r.position (-64) 64
  | none => false

/-- R116: an INDEX sets the index phase, or satisfies the check of the position it falls at. -/
def Rail.takeIndex (r : Rail) : Rail := if r.indexPhase.isNone then r.learnIndex else r.satisfyIndex

/-- R114, R116: an INDEX pulse. -/
def Deck.index (d : Deck) : Deck :=
  match d.rail.motion with
  | none => d
  | some m =>
    if !m.started then d
    else
      match m.phase with
      | .homeSearch indexes steps =>
        if indexes = d.config.homeIndexCount then d.finishHome
        else
          d.onRail fun r => { r.takeIndex with motion := some { m with phase := .homeSearch (indexes + 1) steps } }
      | _ => if d.rail.indexAstray then d.endMove .stall else d.onRail Rail.takeIndex

/-! ### Stop, halt, footswitch and detach (R119, R120, R124, R126) -/

/-- R119: the active move is asked to stop. -/
def Deck.stopMove (d : Deck) : Deck :=
  match d.rail.state with
  | .moving | .homing =>
    if d.rail.stopping then d else (d.onRail fun r => { r with stopping := true }).decelerate
  | .paused =>
    let d1 := d.onRail fun r => { r with stopping := true }
    if d.rail.motion.isNone then d1.endMove .stopRequest else d1
  | .gated | .seating => d.endMove .stopRequest
  | _ => d

/-- R119: the next slot is emptied, and its request completes ABORTED with cause STOP_REQUEST (log 23). -/
def Deck.discardNext (d : Deck) : Deck :=
  match d.rail.next with
  | none => d
  | some n =>
    let target := n.move.targetFrom d.config d.rail.position
    let data := le8 StopCause.stopRequest.code ++ le8 n.move.kind.code ++ le8 d.rail.state.code ++
      le8 (flagBit d.rail.homed) ++ lei32 target ++ lei32 d.rail.position
    (d.onRail fun r => { r with next := none }).onHub fun h => h.completeOptional n.move.slot .aborted data

/-- A move of the footswitch: every profile value from the configuration, no slot (R124). -/
def internalMove (kind : MoveKind) : MoveRequest :=
  { kind, argument := 0, fl := 0, fh := 0, accel := 0, decel := 0, rampOffset := 0, shape := 0, slot := none }

/-- R124: the move RAIL_TOGGLE makes active, or none when the action is ignored. -/
def Deck.toggleMove (d : Deck) : Option MoveRequest :=
  if d.rail.state = .idle then
    match positionClass d.config d.rail with
    | .silent | .nearSilent => some (internalMove .park)
    | .clear => some (internalMove .engage)
    | .crossing => none
  else none

/-- R124: RAIL_TOGGLE is carried out. -/
def Deck.toggle (d : Deck) : Deck :=
  match d.toggleMove with
  | some m => d.activate m
  | none => d

/-- R126: the rail at a detach: the next slot is emptied, and the active move runs on without a slot (R181). -/
def Rail.detach (r : Rail) : Rail :=
  { r with next := none, active := r.active.map fun m => { m with slot := none } }

/-! ### The commands -/

/-- R100: no move is active. -/
def RailState.still : RailState → Bool
  | .idle | .unknown | .faulted => true
  | _ => false

/-- R100: RAIL_CONFIG is refused. STATE before INVALID where both hold is the model's own choice (log 54). -/
def refuseRailConfig (a : List Byte) (s : State) : Option ResultCode :=
  if !s.rail.state.still || s.rail.next.isSome then some .state
  else
    match RailConfig.parse a with
    | none => some .invalid
    | some c =>
      if !c.valid || (s.rail.state = .idle && (c.span : Int) < s.rail.position) then some .invalid else none

/-- R100: RAIL_CONFIG is taken. -/
def actRailConfig (slot : Fin 32) (a : List Byte) (s : State) : State :=
  let c := (RailConfig.parse a).getD s.railConfig
  State.mapDeck (Deck.onHub fun h => h.completeRequest slot .ok c.bytes) { s with railConfig := c }

/-- RAIL_CONFIG (R100). -/
def execRailConfig (slot : Fin 32) (tag : Word16) (a : List Byte) (s : State) : Host.Outcome State Fault Refusal :=
  .next (s.visitSlot slot .railConfig tag a (refuseRailConfig a s) (actRailConfig slot a))

/-- R98: the remaining distance; 0 for HOME and with no move active. -/
def Rail.remaining (r : Rail) : Nat :=
  match r.active with
  | some m => if m.kind = .home then 0 else (m.target - r.position).natAbs
  | none => 0

/-- Table 12-4: the state of the next slot. -/
def Rail.slotCode (r : Rail) : Nat :=
  match r.next with
  | none => 0
  | some n => if n.settled then 2 else 1

/-- R100: the input levels of RAIL_QUERY, with the seated level and DRV_EN. -/
def railInputs (p : Pins) (r : Rail) : Nat :=
  flagBit p.home + 2 * flagBit p.limNear + 4 * flagBit p.limFar + 8 * flagBit p.seated + 16 * flagBit p.drvFault +
    32 * flagBit r.seated + 64 * flagBit r.drvEn

/-- R100: the result data of RAIL_QUERY. The other fields of an absent move are the model's reading (log 37); that the target is
0 with no move active is its own choice (log 71), and so is that the rate is cut down to whole microsteps a second and the
quiet-held time to whole milliseconds (log 73). -/
def State.railQueryResult (s : State) : List Byte :=
  let r := s.rail
  let target := match r.active with
    | some m => m.target
    | none => 0
  le8 r.state.code ++ le8 (positionClass s.railConfig r).code ++ le8 (optional8 (r.active.map fun m => m.kind.code)) ++
    le8 (optional8 (r.next.map fun n => n.move.kind.code)) ++ le8 r.slotCode ++ le8 r.lastCause.code ++
    le8 (flagBit r.homed) ++ le8 (railInputs s.pins r) ++ lei32 r.position ++ lei32 target ++ le32 r.remaining ++
    le16 (r.rateNow s.hub.now / 1000000) ++ le16 (optional16 r.indexPhase) ++ le8 s.lamp.shown.code ++ le8 (flagBit r.quiet) ++
    [0, 0] ++ le32 (min 4294967295 (r.quietHeld s.hub.now / 1000))

/-- R100: RAIL_QUERY is taken. -/
def actRailQuery (slot : Fin 32) (s : State) : State :=
  s.mapHub fun h => h.completeRequest slot .ok s.railQueryResult

/-- RAIL_QUERY (R100). -/
def execRailQuery (slot : Fin 32) (tag : Word16) (a : List Byte) (s : State) : Host.Outcome State Fault Refusal :=
  .next (s.visitSlot slot .railQuery tag a none (actRailQuery slot))

/-- R103: an override lies in its range, or asks for the configuration's value. -/
def overrideOk (v lo hi : Nat) : Bool := v = 0 || (lo ≤ v && v ≤ hi)

/-- R103: the arguments of a move are in range. -/
def MoveRequest.inRange (c : RailConfig) (m : MoveRequest) : Bool :=
  let p := m.profileIn c
  overrideOk m.fl 50 2000 && overrideOk m.fh 1 40000 && overrideOk m.accel 100 200000 && overrideOk m.decel 100 200000 &&
    m.rampOffset ≤ 2000 && m.shape ≤ 2 && p.fl ≤ p.fh &&
    (m.kind ≠ .goto || (0 ≤ m.argument && m.argument ≤ c.span)) &&
    (m.kind ≠ .jog || (-32000 ≤ m.argument && m.argument ≤ 32000))

/-- R103, R104: RAIL_MOVE is refused. INVALID before RAIL_BUSY or BUSY, and STATE before the INVALID of a JOG, where both hold
is the model's own choice (log 54). -/
def refuseRailMove (a : List Byte) (s : State) : Option ResultCode :=
  match MoveRequest.parse 0 a with
  | none => some .invalid
  | some m =>
    let queue := bitOf (u8At a 5) 0
    if !m.inRange s.railConfig then some .invalid
    else if s.rail.active.isSome then
      if !queue then some .railBusy else if s.rail.next.isSome then some .busy else none
    else m.refusedBy s.railConfig s.rail

/-- R103: RAIL_MOVE is taken. -/
def actRailMove (slot : Fin 32) (a : List Byte) (s : State) : State :=
  match MoveRequest.parse slot a with
  | none => s
  | some m =>
    s.mapDeck fun d =>
      if d.rail.active.isSome then
        d.onRail fun r => { r with next := some { move := m, settled := bitOf (u8At a 5) 1 } }
      else d.activate m

/-- RAIL_MOVE (R103). -/
def execRailMove (slot : Fin 32) (tag : Word16) (a : List Byte) (s : State) : Host.Outcome State Fault Refusal :=
  .next (s.visitSlot slot .railMove tag a (refuseRailMove a s) (actRailMove slot a))

/-- R104, R117: 1 ms has passed since DRV_EN went active. -/
def Deck.settleOver (d : Deck) : Bool :=
  d.rail.drvEn && !d.rail.drvSettled && d.rail.drvEnSince + Config.drvSettle ≤ d.hub.now

/-- R104, R117: the driver has settled, and its fault input is watched from now on. -/
def Deck.driverSettled (d : Deck) : Deck :=
  let d1 := d.onRail fun r => { r with drvSettled := true }
  if d.pins.drvFault then d1.driverFaulted else d1

/-- DRV_EN_SETTLE (R104, R117). -/
def execDrvEnSettle (s : State) : Host.Outcome State Fault Refusal :=
  .next (s.whenUp fun s => if s.deck.settleOver then s.mapDeck Deck.driverSettled else s)

/-- STEP_PULSE (R101, R105, R115): it carries the present levels of the limit switches, which the pins take whether or not a
pulse is due (log 9), and acts when one is. -/
def execStepPulse (limitNear limitFar : Bool) (s : State) : Host.Outcome State Fault Refusal :=
  let s1 : State := { s with pins := { s.pins with limNear := limitNear, limFar := limitFar } }
  .next (s1.whenUp fun s => if s.deck.pulseDue then s.mapDeck (Deck.pulse limitNear limitFar) else s)

/-- R108, R110: the quiet-held time has reached QUIET_HOLD. -/
def Deck.quietReached (d : Deck) : Deck :=
  match d.rail.state with
  | .gated => d.leaveGate
  | .paused => if d.rail.motion.isNone && !d.rail.stopping then d.resume else d
  | _ => d

/-- QUIET_HOLD_REACHED (R108, R110). -/
def execQuietHoldReached (s : State) : Host.Outcome State Fault Refusal :=
  .next (s.whenUp fun s => if s.deck.quietLongEnough then s.mapDeck Deck.quietReached else s)

/-- R108: the gate has lasted for the gate limit. -/
def Deck.gateOver (d : Deck) : Bool :=
  d.rail.state = .gated && d.rail.gateSince + d.config.gateLimit * 100000 ≤ d.hub.now

/-- GATE_TIMEOUT (R108). -/
def execGateTimeout (s : State) : Host.Outcome State Fault Refusal :=
  .next (s.whenUp fun s => if s.deck.gateOver then s.mapDeck (Deck.endMove .gateTimeout) else s)

/-- R110: the pause has lasted for the pause limit. -/
def Deck.pauseOver (d : Deck) : Bool :=
  d.rail.state = .paused && !d.rail.stopping && d.rail.pauseSince + d.config.pauseLimit * 100000 ≤ d.hub.now

/-- R110: the pause limit is taken when the rail is at rest. -/
def Deck.pauseEnds (d : Deck) : Deck :=
  if d.rail.motion.isNone then d.endMove .hammerTimeout else d.onRail fun r => { r with pauseExpired := true }

/-- PAUSE_TIMEOUT (R110). -/
def execPauseTimeout (s : State) : Host.Outcome State Fault Refusal :=
  .next (s.whenUp fun s => if s.deck.pauseOver then s.mapDeck Deck.pauseEnds else s)

/-- R102: a change of SEATED_N; in standby the rail does not watch it (R126). -/
def State.seatedChanged (active : Bool) (s : State) : State :=
  if active = s.pins.seated then s
  else
    let s1 : State := { s with pins := { s.pins with seated := active } }
    if s.hub.attach = .standby || s.hub.attach = .woken || !s.mainUp then s1
    else { s1 with rail := { s.rail with
      seatedPending := if active = s.rail.seated then none else some s.hub.now } }

/-- SEATED_INPUT_CHANGE (R102). -/
def execSeatedInputChange (active : Bool) (s : State) : Host.Outcome State Fault Refusal := .next (s.seatedChanged active)

/-- R102, R112: the seated level takes the level held for 2 ms. -/
def Deck.seatedAccepted (d : Deck) : Deck :=
  let level := !d.rail.seated
  let d1 := d.onRail fun r => { r with seated := level, seatedPending := none }
  if d.rail.state = .idle && d.rail.position = d.config.silent then
    if level then d1.note 0xFF 15 0 else (d1.note 0xFF 14 0).onHub (Hub.raise .rail)
  else if d.rail.state = .seating && level then d1.endMove .complete
  else d1

/-- SEATED_FILTER_EXPIRY (R102). -/
def execSeatedFilterExpiry (s : State) : Host.Outcome State Fault Refusal :=
  .next (s.whenUp fun s =>
    match s.rail.seatedPending with
    | some since => if since + Config.seatedFilter ≤ s.hub.now then s.mapDeck Deck.seatedAccepted else s
    | none => s)

/-- R112: the seating has lasted for 200 ms. -/
def Deck.seatOver (d : Deck) : Bool :=
  d.rail.state = .seating && !d.rail.seated && d.rail.seatSince + Config.seatLimit ≤ d.hub.now

/-- SEAT_TIMEOUT (R112). -/
def execSeatTimeout (s : State) : Host.Outcome State Fault Refusal :=
  .next (s.whenUp fun s => if s.deck.seatOver then s.mapDeck (Deck.endMove .notSeated) else s)

/-- HOME_SENSOR_CHANGE (R113, R114). -/
def execHomeSensorChange (active : Bool) (s : State) : Host.Outcome State Fault Refusal :=
  let s1 : State := { s with pins := { s.pins with home := active } }
  .next (s1.whenUp fun s => s.mapDeck (Deck.homeChanged active))

/-- INDEX_PULSE (R114, R116). -/
def execIndexPulse (s : State) : Host.Outcome State Fault Refusal := .next (s.whenUp fun s => s.mapDeck Deck.index)

/-- DRIVER_FAULT (R117): DRV_FAULT_N changes to the level given; it is taken while it is watched. -/
def execDriverFault (active : Bool) (s : State) : Host.Outcome State Fault Refusal :=
  let s1 : State := { s with pins := { s.pins with drvFault := active } }
  .next (s1.whenUp fun s => s.mapDeck fun d =>
    if active && d.rail.drvEn && d.rail.drvSettled then d.driverFaulted else d)

/-- R119, R120: the DISCARD_NEXT flag of the arguments. -/
def Deck.discardIf (a : List Byte) (d : Deck) : Deck := if bitOf (u8At a 0) 0 then d.discardNext else d

/-- R119: RAIL_STOP is taken: what it does to the active move, then the discarded request's ABORTED, then its own OK. That order
is the model's own choice (log 65). -/
def actRailStop (slot : Fin 32) (a : List Byte) (s : State) : State :=
  s.mapDeck fun d => (d.stopMove.discardIf a).onHub fun h => h.completeRequest slot .ok []

/-- RAIL_STOP (R119). -/
def execRailStop (slot : Fin 32) (tag : Word16) (a : List Byte) (s : State) : Host.Outcome State Fault Refusal :=
  .next (s.visitSlot slot .railStop tag a none (actRailStop slot a))

/-- R120: RAIL_HALT is taken: the active move's end, then the discarded request's ABORTED, then its own OK. That order is the
model's own choice (log 65). -/
def actRailHalt (slot : Fin 32) (a : List Byte) (s : State) : State :=
  s.mapDeck fun d =>
    let d1 := if d.rail.active.isSome then d.endMove .haltRequest else d
    (d1.discardIf a).onHub fun h => h.completeRequest slot .ok []

/-- RAIL_HALT (R120). -/
def execRailHalt (slot : Fin 32) (tag : Word16) (a : List Byte) (s : State) : Host.Outcome State Fault Refusal :=
  .next (s.visitSlot slot .railHalt tag a none (actRailHalt slot a))

/-- R117: RAIL_CLEAR is refused. -/
def refuseRailClear (s : State) : Option ResultCode :=
  if s.rail.state = .faulted && !s.pins.drvFault then none else some .state

/-- R117: RAIL_CLEAR is taken. -/
def actRailClear (slot : Fin 32) (s : State) : State :=
  s.mapDeck fun d =>
    (d.onRail fun r => { r.enableDriver d.hub.now with state := .unknown }).onHub fun h => h.completeRequest slot .ok []

/-- RAIL_CLEAR (R117). -/
def execRailClear (slot : Fin 32) (tag : Word16) (a : List Byte) (s : State) : Host.Outcome State Fault Refusal :=
  .next (s.visitSlot slot .railClear tag a (refuseRailClear s) (actRailClear slot))

/-- R122: RAIL_SETTLE and RAIL_UNSETTLE are refused while the next slot is empty. -/
def refuseRailSlot (s : State) : Option ResultCode := if s.rail.next.isNone then some .state else none

/-- R122: RAIL_SETTLE is taken. -/
def actRailSettle (slot : Fin 32) (s : State) : State :=
  s.mapDeck fun d =>
    let d1 := d.onHub fun h => h.completeRequest slot .ok []
    match d1.rail.next with
    | none => d1
    | some n =>
      if d1.rail.active.isNone then d1.startNext false n.move
      else d1.onRail fun r => { r with next := some { n with settled := true } }

/-- RAIL_SETTLE (R122). -/
def execRailSettle (slot : Fin 32) (tag : Word16) (a : List Byte) (s : State) : Host.Outcome State Fault Refusal :=
  .next (s.visitSlot slot .railSettle tag a (refuseRailSlot s) (actRailSettle slot))

/-- R122: RAIL_UNSETTLE is taken. -/
def actRailUnsettle (slot : Fin 32) (s : State) : State :=
  s.mapDeck fun d =>
    (d.onRail fun r => { r with next := r.next.map fun n => { n with settled := false } }).onHub fun h =>
      h.completeRequest slot .ok []

/-- RAIL_UNSETTLE (R122). -/
def execRailUnsettle (slot : Fin 32) (tag : Word16) (a : List Byte) (s : State) : Host.Outcome State Fault Refusal :=
  .next (s.visitSlot slot .railUnsettle tag a (refuseRailSlot s) (actRailUnsettle slot))

/-- R125: the LAMP output of the pattern shown at this moment; unlit during a reset. -/
def State.lampTick (s : State) : State :=
  if s.resetHeld.isSome then s
  else { s with lamp := { s.lamp with brightness := s.lamp.shown.brightnessAt (s.hub.now - s.lamp.since) } }

/-- LAMP_PHASE_TICK (R125). -/
def execLampPhaseTick (s : State) : Host.Outcome State Fault Refusal := .next s.lampTick

end Sys2Proof.Machine
end

