-- ==== Sys2Proof/Machine/TakeRecorder.lean ====
section
/-! DEFINITION. The recorder (08_take_recording.md): appending events with deltas and spacers, filling and writing blocks, marks, closing, and the recorder's requests. Its operations act on the hub and the recorder alone. -/

namespace Sys2Proof.Machine

/-- The hub and the recorder. -/
abbrev Desk := Hub × Recorder

/-- The state with a recorder operation applied. -/
def State.mapRecorder (f : Desk → Desk) (s : State) : State :=
  let d := f (s.hub, s.recorder)
  { s with hub := d.1, recorder := d.2 }

/-- R163: a RECORDER record and CAUSE.PRACTICE. Details: STARTED 0, CLOSED 1, FULL 2 (log 31). -/
def Desk.report (detail : Nat) (d : Desk) : Desk :=
  (Hub.raise .practice (d.1.note .recorder d.2.blocksUsed (d.2.takeId.toNat % 65536) detail 0 {}), d.2)

/-- R157: the recorder reads the tracking clock into the take clock. -/
def Desk.readClock (d : Desk) : Desk :=
  (d.1, { d.2 with
    takeClock := d.2.takeClock + (d.1.tracking - d.2.lastReading).setWidth 64, lastReading := d.1.tracking })

/-- R158: the score time of an event taken now: never below the last score time. -/
def Recorder.scoreTime (r : Recorder) : Nat := max r.lastScoreTime (r.takeClock.toNat / 100)

/-- R160: a block of the take is written, its events before its header. A full block that is not the take's last links to
the following entry of the list. -/
def Recorder.writeBlock (last : Bool) (r : Recorder) (h : Hub) : Hub :=
  let address := r.list.getD r.currentBlock 0
  let next : Word64 := if last then 0 else r.list.getD (r.currentBlock + 1) 0
  let events := r.buffer.flatMap ScoreEvent.bytes
  let tempo := if r.currentBlock = 0 then r.headerTempo else 0
  let h1 := if events.isEmpty then h else h.post .recorder (address + 32) events
  h1.post .recorder address (scoreHeaderBytes r.takeId r.currentBlock r.buffer.length last next tempo)

/-- R162: the result data of RECORD_STOP. -/
def Recorder.stopResult (full : Bool) (r : Recorder) : List Byte :=
  le8 r.blocksUsed ++ le8 (flagBit full) ++ [0, 0] ++ le32 r.eventsWritten ++ le64 r.lastScoreTime

/-- R160, R162: the take is over: its current block is written as the last, the recorder enters IDLE, and a RECORD_STOP
waiting for the end completes. -/
def Desk.finish (full : Bool) (d : Desk) : Desk :=
  let r : Recorder := { d.2 with state := .idle, openKeys := [], pendingSlot := none }
  let h1 := d.2.writeBlock true d.1
  Desk.report (if full then 2 else 1) (h1.completeOptional d.2.pendingSlot .ok (r.stopResult full), r)

/-- An event joins the block buffer (R160). -/
def Recorder.enter (e : ScoreEvent) (r : Recorder) : Recorder :=
  { r with
    buffer := r.buffer ++ [e], eventsWritten := r.eventsWritten + 1, lastScoreTime := r.lastScoreTime + e.delta }

/-- The END event (Table 12-9), always with delta 0. -/
def endEvent : ScoreEvent := { delta := 0, kind := 7, target := 0, value := 0, part := 0, aux := 0 }

/-- R160: the current block is the last entry of the block list. -/
def Recorder.inLastBlock (r : Recorder) : Bool := r.list.length ≤ r.currentBlock + 1

/-- R160: a full block that is not the last entry is written, and the following entry becomes the current block. -/
def Desk.turnBlock (d : Desk) : Desk :=
  (d.2.writeBlock false d.1,
    { d.2 with currentBlock := d.2.currentBlock + 1, buffer := [], blocksUsed := d.2.blocksUsed + 1 })

/-- R160: an event is appended, with what a full block or an exhausted list brings. -/
def Desk.push (e : ScoreEvent) (d : Desk) : Desk :=
  let d1 : Desk := (d.1, d.2.enter e)
  if d1.2.inLastBlock then
    if d1.2.buffer.length = Config.blockEvents - 1 then Desk.finish true (d1.1, d1.2.enter endEvent) else d1
  else if d1.2.buffer.length = Config.blockEvents then d1.turnBlock
  else d1

/-- The recorder has a take open. -/
def Recorder.running (r : Recorder) : Bool := r.state == .recording || r.state == .closing

/-- R158: spacers of delta 65,535, for as long as the take is open. -/
def Desk.pushSpacers : Nat → Desk → Desk
  | 0, d => d
  | n + 1, d =>
    if d.2.running then pushSpacers n (d.push { delta := 65535, kind := 6, target := 0, value := 0, part := 0, aux := 0 })
    else d

/-- R158: an event is appended at a score time, after the spacers its delta needs; nothing is appended once the list is
exhausted (R160). -/
def Desk.appendAt (time : Nat) (e : ScoreEvent) (d : Desk) : Desk :=
  let delta := time - d.2.lastScoreTime
  let spacers := (delta - 1) / 65535
  let d1 := d.pushSpacers spacers
  if d1.2.running then d1.push { e with delta := delta - spacers * 65535 } else d1

/-- Table 8-2: the part of a key. -/
def Recorder.partOf (key : Fin 88) (r : Recorder) : Nat := if key.val < r.splitKey then 0 else 1

/-- R159: a live KEY_DOWN is recorded. -/
def Desk.recordKeyDown (key : Fin 88) (velocity : Nat) (rep : Bool) (d : Desk) : Desk :=
  let keys := if d.2.openKeys.contains key then d.2.openKeys else d.2.openKeys ++ [key]
  let d1 : Desk := (d.1, { d.2 with openKeys := keys })
  d1.appendAt d.2.scoreTime
    { delta := 0, kind := 1, target := key.val, value := velocity, part := d.2.partOf key, aux := flagBit rep }

/-- R157: a recording begins at its origin, which is now; `emitted` are the pedals' last emitted levels, `first` the KEY_DOWN
that set the origin. -/
def Desk.begin_ (emitted : Vector Nat 3) (first : Option (Fin 88 × Nat × Bool)) (d : Desk) : Desk :=
  let d0 : Desk := (d.1, { d.2 with
    state := .recording, origin := d.1.tracking, takeClock := 0, lastReading := d.1.tracking, currentBlock := 0
    buffer := [], blocksUsed := 1 })
  let d1 := d0.push { delta := 0, kind := 4, target := 0, value := d.2.headerTempo, part := 0, aux := 0 }
  let d2 :=
    if d.2.includePedals then
      (List.finRange 3).foldl
        (fun d p => d.push { delta := 0, kind := 3, target := p.val, value := emitted[p], part := 2, aux := 0 }) d1
    else d1
  let d3 :=
    match first with
    | some (key, velocity, rep) => d2.recordKeyDown key velocity rep
    | none => d2
  d3.report 0

/-- R157, R159: a live KEY_DOWN reaches the recorder. -/
def Desk.keyDown (key : Fin 88) (velocity : Nat) (rep : Bool) (emitted : Vector Nat 3) (d : Desk) : Desk :=
  match d.2.state with
  | .recording => d.readClock.recordKeyDown key velocity rep
  | .armed => if d.2.listRead && d.2.onFirstKey then d.begin_ emitted (some (key, velocity, rep)) else d
  | _ => d

/-- R159: a live KEY_UP reaches the recorder. -/
def Desk.keyUp (key : Fin 88) (velocity : Nat) (forced : Bool) (d : Desk) : Desk :=
  if d.2.state = .recording then
    let d1 := d.readClock
    if d1.2.openKeys.contains key then
      Desk.appendAt d1.2.scoreTime
        { delta := 0, kind := 2, target := key.val, value := velocity, part := d1.2.partOf key, aux := 2 * flagBit forced }
        (d1.1, { d1.2 with openKeys := d1.2.openKeys.filter fun k => k ≠ key })
    else d1
  else d

/-- R159: a PEDAL event reaches the recorder. -/
def Desk.pedal (p : Fin 3) (level : Nat) (forced : Bool) (d : Desk) : Desk :=
  if d.2.state = .recording then
    let d1 := d.readClock
    if d1.2.includePedals then
      d1.appendAt d1.2.scoreTime
        { delta := 0, kind := 3, target := p.val, value := level, part := 2, aux := 2 * flagBit forced }
    else d1
  else d

/-- R161: a MARK event is appended: with the number given, or with the next-mark number, which then goes up.
That it goes up too where R160 loses the mark is the model's own choice (log 56). -/
def Desk.mark (number : Option Nat) (d : Desk) : Desk :=
  let d1 := d.readClock
  let n := number.getD d1.2.nextMark
  let d2 : Desk := if number.isSome then d1 else (d1.1, { d1.2 with nextMark := (d1.2.nextMark + 1) % 256 })
  d2.appendAt d1.2.scoreTime { delta := 0, kind := 5, target := n, value := 0, part := 0, aux := 0 }

/-- R162: the closing of a take: NOTE_OFFs for the open keys in ascending order, then END. -/
def Desk.close (d : Desk) : Desk :=
  let d0 := d.readClock
  let d1 : Desk := (d0.1, { d0.2 with state := .closing })
  let stop := d1.2.scoreTime
  let keys := (List.finRange 88).filter fun k => d1.2.openKeys.contains k
  let d2 := keys.foldl (fun d k =>
    if d.2.running then
      d.appendAt (max stop d.2.lastScoreTime)
        { delta := 0, kind := 2, target := k.val, value := 64, part := d.2.partOf k, aux := 2 }
    else d) d1
  if d2.2.running then
    let d3 : Desk := (d2.1, d2.2.enter endEvent)
    Desk.finish false (if !d3.2.inLastBlock && d3.2.buffer.length = Config.blockEvents then d3.turnBlock else d3)
  else d2

/-- The block list read of the recorder. -/
def ReadTag.isList : ReadTag → Bool
  | .list => true
  | _ => false

/-- R162, R164: arming ends: a RECORD_START still pending completes ABORTED, with no result data (all zeros, log 51).
A block list read that still waits is withdrawn: the model's own choice (log 62). -/
def Desk.disarm (d : Desk) : Desk :=
  let r : Recorder := { d.2 with state := .idle, pendingSlot := none }
  ((d.1.dropReads ReadTag.isList).completeOptional d.2.pendingSlot .aborted [], r)

/-- R164: the recorder is asked to close before STANDBY. A closing in progress is awaited. -/
def Desk.closeForStandby (d : Desk) : Desk :=
  match d.2.state with
  | .recording => Desk.close (d.1, { d.2 with pendingSlot := none })
  | .armed => d.disarm
  | _ => d

/-- R164: the recorder at a detach. -/
def Desk.detach (d : Desk) : Desk :=
  (d.1.dropReads ReadTag.isList, { d.2 with state := .idle, openKeys := [], pendingSlot := none })

/-- R156: the first entry of a block list that fails its checks. -/
def listFault (list : List Word64) : Option Nat :=
  (List.range list.length).find? fun i =>
    let a := list.getD i 0
    a == 0 || a.toNat % 4096 ≠ 0 || (list.take i).contains a

/-- R156: the result data of RECORD_START. -/
def Recorder.startResult (bad : Nat) (r : Recorder) : List Byte := le8 r.state.code ++ le8 r.blockCount ++ le8 bad

/-- R156: the recorder is ARMED and its block list is still to come. -/
def Recorder.awaitsList (r : Recorder) : Bool := r.state == .armed && !r.listRead

/-- R156: the block list arrives, or its read fails (none): then RECORD_START completes FAILED with no result data (all zeros,
log 51). -/
def Desk.listRead (emitted : Vector Nat 3) (bytes : Option (List Byte)) (d : Desk) : Desk :=
  let idle : Recorder := { d.2 with state := .idle, pendingSlot := none }
  if d.2.awaitsList then
    match bytes with
    | none => (d.1.completeOptional d.2.pendingSlot .failed [], idle)
    | some bs =>
      let list := (List.range d.2.blockCount).map fun i => (BitVec.ofNat 64 (u64At bs (8 * i)) : Word64)
      match listFault list with
      | some bad => (d.1.completeOptional d.2.pendingSlot .invalid (idle.startResult bad), idle)
      | none =>
        let d1 : Desk := (d.1, { d.2 with list := list, listRead := true, pendingSlot := none })
        let d2 := if d.2.onFirstKey then d1 else d1.begin_ emitted none
        (d2.1.completeOptional d.2.pendingSlot .ok (d2.2.startResult 0xFF), d2.2)
  else d

/-! ### The commands -/

/-- R156: RECORD_START is refused. BUSY before INVALID where both hold is the model's own choice (log 54). -/
def refuseRecordStart (a : List Byte) (s : State) : Option ResultCode :=
  if s.recorder.state ≠ .idle then some .busy
  else if u64At a 0 = 0 || u64At a 0 % 8 ≠ 0 || u8At a 14 < 1 || 64 < u8At a 14 || u16At a 12 < 300 || 3000 < u16At a 12
      || 88 < u8At a 15 || 1 < u8At a 16 then
    some .invalid
  else none

/-- R156: the take arguments are stored and the block list is read. That the old block list is emptied here, and not when the new
one passes its checks, is the model's own choice (log 79). -/
def Desk.start (slot : Fin 32) (a : List Byte) (d : Desk) : Desk :=
  (d.1.requestRead .list (BitVec.ofNat 64 (u64At a 0)) (8 * u8At a 14) 0,
    { d.2 with
      state := .armed, takeId := BitVec.ofNat 32 (u32At a 8), headerTempo := u16At a 12, splitKey := u8At a 15
      onFirstKey := u8At a 16 == 1, includePedals := bitOf (u8At a 17) 0, blockCount := u8At a 14, list := []
      listRead := false, openKeys := [], blocksUsed := 0, eventsWritten := 0, lastScoreTime := 0, nextMark := 0
      pendingSlot := some slot })

/-- R156: RECORD_START is taken. -/
def actRecordStart (slot : Fin 32) (a : List Byte) (s : State) : State := s.mapRecorder (Desk.start slot a)

/-- RECORD_START (R156). -/
def execRecordStart (slot : Fin 32) (tag : Word16) (a : List Byte) (s : State) : Host.Outcome State Fault Refusal :=
  .next (s.visitSlot slot .recordStart tag a (refuseRecordStart a s) (actRecordStart slot a))

/-- LIST_READ_ARRIVAL (R156). -/
def execListReadArrival (read : Nat) (outcome : ReadOutcome) (s : State) : Host.Outcome State Fault Refusal :=
  .next (s.whenUp fun s => s.onArrival ReadTag.isList read outcome fun _ bytes s =>
    s.mapRecorder (Desk.listRead s.pedals.emitted bytes))

/-- TAKE_CLOCK_TICK (R157). -/
def execTakeClockTick (s : State) : Host.Outcome State Fault Refusal :=
  .next (s.whenUp fun s => s.mapRecorder fun d => if d.2.state = .recording then d.readClock else d)

/-- R161: RECORD_MARK is refused. INVALID before STATE where both hold is the model's own choice (log 54). -/
def refuseRecordMark (a : List Byte) (s : State) : Option ResultCode :=
  if 256 < u16At a 0 then some .invalid
  else if s.recorder.state ≠ .recording then some .state
  else none

/-- R161: RECORD_MARK is taken. The result of a mark that its spacers leave no room for holds the number and the score time that
the mark would have had: the model's own choice (log 56). -/
def actRecordMark (slot : Fin 32) (a : List Byte) (s : State) : State :=
  s.mapRecorder fun d =>
    let number := if u16At a 0 = 256 then none else some (u16At a 0)
    let marker := number.getD d.2.nextMark
    let time := d.readClock.2.scoreTime
    let d1 := d.mark number
    (d1.1.completeRequest slot .ok (le8 marker ++ le8 d1.2.state.code ++ List.replicate 6 0 ++ le64 time), d1.2)

/-- RECORD_MARK (R161). -/
def execRecordMark (slot : Fin 32) (tag : Word16) (a : List Byte) (s : State) : Host.Outcome State Fault Refusal :=
  .next (s.visitSlot slot .recordMark tag a (refuseRecordMark a s) (actRecordMark slot a))

/-- R162: RECORD_STOP is refused. -/
def refuseRecordStop (s : State) : Option ResultCode :=
  match s.recorder.state with
  | .idle => some .state
  | .closing => some .busy
  | _ => none

/-- R162: RECORD_STOP is taken. -/
def actRecordStop (slot : Fin 32) (s : State) : State :=
  s.mapRecorder fun d =>
    if d.2.state = .recording then Desk.close (d.1, { d.2 with pendingSlot := some slot })
    else
      let d1 := d.disarm
      (d1.1.completeRequest slot .ok [], d1.2)

/-- RECORD_STOP (R162). -/
def execRecordStop (slot : Fin 32) (tag : Word16) (a : List Byte) (s : State) : Host.Outcome State Fault Refusal :=
  .next (s.visitSlot slot .recordStop tag a (refuseRecordStop s) (actRecordStop slot))

end Sys2Proof.Machine
end

