-- ==== Sys2Proof/Machine/Keys.lean ====
section
/-! DEFINITION. The key tracker (02_key_and_hammer_tracking.md): depth and height, the stroke's state machine, note events and launch notices, the quiet condition, lanes leaving and entering service, masking, calibration runs and the curve and calibration loads. -/

namespace Sys2Proof.Machine

/-! ### Readings (R20) -/

/-- R20, R47: a raw reading scaled by its rest and full values: the quotient truncated toward zero and clamped to 0–`top`. -/
def scaleReading (raw rest full top : Nat) : Nat :=
  min top ((((raw : Int) - rest) * top).tdiv ((full : Int) - rest)).toNat

/-- R20: the depth of a raw key reading. -/
def Calibration.depth (raw : Nat) (c : Calibration) : Nat := scaleReading raw c.keyRest c.keyBottom 1000

/-- R20: the height of a raw hammer reading. -/
def Calibration.height (raw : Nat) (c : Calibration) : Nat := scaleReading raw c.hammerRest c.hammerTop 1000

/-! ### The stroke (R21 to R28) -/

/-- What a key's transitions hand out: a note event (R29) or a hammer-launch notice (R30). -/
inductive KeyEvent where
  | down (velocity : Nat) (rep : Bool)
  | up (velocity strike : Nat) (forced : Bool)
  | launch
  deriving DecidableEq, Repr

/-- What the transitions of one frame see. -/
structure Readings where
  depth : Nat
  height : Nat
  previous : Option (Nat × Nat)
  stamp : Word32

/-- R21: an interval on the tracking clock counts as at least one frame period. -/
def interval (from_ to_ : Word32) : Nat := max Config.framePeriod (to_ - from_).toNat

/-- R31: CURVE[v] for v from 1 to 127. -/
def curveAt (curve : Vector Nat 127) (v : Nat) : Nat := curve.toList.getD (v - 1) 0

/-- R23: the largest v with t ≤ CURVE[v], or none. -/
def strikeVelocity (curve : Vector Nat 127) (t : Nat) : Option Nat :=
  ((List.range 127).map fun i => 127 - i).find? fun v => t ≤ curveAt curve v

/-- R21: the key rises past a depth line. -/
def Readings.risesPast (line : Nat) (r : Readings) : Bool :=
  match r.previous with
  | some (depth, _) => line ≤ depth && r.depth < line
  | none => false

/-- R21: the key has gone down since its last reading. -/
def Readings.movesDown (r : Readings) : Bool :=
  match r.previous with
  | some (depth, _) => depth < r.depth
  | none => false

/-- R21: the hammer crosses a height line upward. -/
def Readings.hammerCrosses (line : Nat) (r : Readings) : Bool :=
  match r.previous with
  | some (_, height) => height < line && line ≤ r.height
  | none => false

/-- R27: the release velocity. -/
def releaseVelocity (rearm : Option Word32) (stamp : Word32) : Nat :=
  match rearm with
  | some t => min 127 (max 1 (127 * 2000 / interval t stamp))
  | none => 64

/-- R27: a key whose note is open is released. -/
def Key.release (r : Readings) (k : Key) : Key × List KeyEvent :=
  ({ k with state := .returning, openNote := false, gateLowStamp := none, rearmStamp := none },
    [.up (releaseVelocity k.rearmStamp r.stamp) k.lastVelocity false])

/-- R25, R26: the line REARM in the key step. -/
def Key.rearmLine (c : Calibration) (r : Readings) (k : Key) : Key :=
  if (k.state == .sounding || k.state == .rearmed) && r.risesPast c.rearm then
    { k with state := .rearmed, rearmStamp := some r.stamp }
  else k

/-- R25, R27: the line DAMPER in the key step. -/
def Key.damperLine (c : Calibration) (r : Readings) (k : Key) : Key × List KeyEvent :=
  if (k.state == .sounding || k.state == .rearmed || k.state == .restriking) && r.depth < c.damper then k.release r
  else (k, [])

/-- R22, R24, R28: the line PRESS in the key step. -/
def Key.pressLine (c : Calibration) (r : Readings) (k : Key) : Key :=
  match k.state with
  | .rest => if c.press ≤ r.depth then { k with state := .pressed } else k
  | .pressed | .missed | .returning => if r.depth < c.press then { k with state := .rest } else k
  | .waitRest => if r.depth < c.press && r.height < c.clear then { k with state := .rest } else k
  | _ => k

/-- R21: the lines as a key that goes down meets them: PRESS, DAMPER, REARM. -/
def Key.downLines (c : Calibration) (r : Readings) (k : Key) : Key × List KeyEvent :=
  let p := (k.pressLine c r).damperLine c r
  (p.1.rearmLine c r, p.2)

/-- R21: the lines as a key that comes up meets them: REARM, DAMPER, PRESS. -/
def Key.upLines (c : Calibration) (r : Readings) (k : Key) : Key × List KeyEvent :=
  let p := (k.rearmLine c r).damperLine c r
  (p.1.pressLine c r, p.2)

/-- R21: the key step. A key that has gone down since its last reading takes the lines in the order of that motion. R21 names
no order for a key whose depth is unchanged or that has no last reading: that it takes them as one that comes up does is
the model's own choice (log 48). -/
def Key.keyStep (c : Calibration) (r : Readings) (k : Key) : Key × List KeyEvent :=
  if r.movesDown then k.downLines c r else k.upLines c r

/-- R22, R26: a strike begins to be timed. -/
def Key.beginStrike (c : Calibration) (r : Readings) (k : Key) : Key × List KeyEvent :=
  if r.hammerCrosses c.gateLow then
    match k.state with
    | .pressed | .returning => ({ k with state := .rising, gateLowStamp := some r.stamp }, [.launch])
    | .rearmed => ({ k with state := .restriking, gateLowStamp := some r.stamp }, [.launch])
    | _ => (k, [])
  else (k, [])

/-- R23, R26: a note is struck. -/
def Key.strike (velocity : Nat) (rep : Bool) (k : Key) : Key × List KeyEvent :=
  ({ k with state := .sounding, openNote := true, gateLowStamp := none, rearmStamp := none, lastVelocity := velocity },
    [.down velocity rep])

/-- R22, R23, R26: a strike being timed is judged. -/
def Key.timeStrike (c : Calibration) (curve : Vector Nat 127) (r : Readings) (k : Key) : Key × List KeyEvent :=
  let t := interval (k.gateLowStamp.getD r.stamp) r.stamp
  let missed : Key := { k with state := .missed, gateLowStamp := none }
  let rearmed : Key := { k with state := .rearmed, gateLowStamp := none }
  match k.state with
  | .rising =>
    if c.gateHigh ≤ r.height then
      match strikeVelocity curve t with
      | some v => k.strike v false
      | none => (missed, [])
    else if r.height < c.gateLow then
      ({ k with state := if c.press ≤ r.depth then .pressed else .rest, gateLowStamp := none }, [])
    else if curveAt curve 1 < t then (missed, [])
    else (k, [])
  | .restriking =>
    if c.gateHigh ≤ r.height then
      match strikeVelocity curve t with
      | some v => k.strike v true
      | none => (rearmed, [])
    else if r.height < c.gateLow || curveAt curve 1 < t then (rearmed, [])
    else (k, [])
  | _ => (k, [])

/-- R24: a MISSED key in the hammer step. -/
def Key.missedStep (c : Calibration) (r : Readings) (k : Key) : Key :=
  if k.state == .missed && r.height < c.gateLow then { k with state := .pressed } else k

/-- R21: the hammer step. -/
def Key.hammerStep (c : Calibration) (curve : Vector Nat 127) (r : Readings) (k : Key) : Key × List KeyEvent :=
  let a := (k.missedStep c r).beginStrike c r
  let b := a.1.timeStrike c curve r
  (b.1, a.2 ++ b.2)

/-- R39: a window's extremes take a frame's readings. -/
def extend (rawKey rawHammer : Nat) : Option Extremes → Extremes
  | none => { keyLow := rawKey, keyHigh := rawKey, hammerLow := rawHammer, hammerHigh := rawHammer }
  | some e =>
    { keyLow := min e.keyLow rawKey, keyHigh := max e.keyHigh rawKey, hammerLow := min e.hammerLow rawHammer
      hammerHigh := max e.hammerHigh rawHammer }

/-- R21, R39: a key takes its readings of a valid frame. -/
def Key.track (c : Calibration) (curve : Vector Nat 127) (stamp : Word32) (rawKey rawHammer : Nat) (k : Key) :
    Key × List KeyEvent :=
  let seen (q : Key) : Key := { q with lastRaw := some (rawKey, rawHammer) }
  match k.state with
  | .disabled => (seen k, [])
  | .calibrating => ({ seen k with extremes := some (extend rawKey rawHammer k.extremes) }, [])
  | _ =>
    let r : Readings :=
      { depth := c.depth rawKey, height := c.height rawHammer
        previous := k.lastRaw.map fun p => (c.depth p.1, c.height p.2), stamp }
    let a := k.keyStep c r
    let b := a.1.hammerStep c curve r
    (seen b.1, a.2 ++ b.2)

/-! ### Handing events out (R29, R30) -/

/-- The record of a key takes a value. -/
def State.setKey (k : Fin 88) (key : Key) (s : State) : State := { s with keys := s.keys.set k key }

/-- R29: a KEY_DOWN is handed to the voice engine, the journal writer, the recorder and the player. The
record's detail byte is 0: the model's own choice (log 63). R29 and R165 do not order the consumers of one event: that they are
served one after the other as R29 lists them, so that a VOICE record which the note causes precedes its KEY_DOWN record, is
the model's own choice (log 67). -/
def State.noteDown (k : Fin 88) (velocity : Nat) (rep : Bool) (s : State) : State :=
  let s1 := s.mapVoice (Engine.noteOn k .live velocity)
  let s2 := s1.mapHub fun h => h.note .keyDown k.val velocity 0 0 { rep := rep }
  let s3 := s2.mapRecorder (Desk.keyDown k velocity rep s.pedals.emitted)
  s3.mapStage (Stage.liveStrike k)

/-- R29: a KEY_UP is handed to the voice engine, the journal writer and the recorder; it has no effect on the player (R138).
That they are served in this order is the model's own choice (log 67). -/
def State.noteUp (k : Fin 88) (velocity strike : Nat) (forced : Bool) (s : State) : State :=
  let s1 := s.updateVoice (VoiceEngine.noteOff k .live)
  let s2 := s1.mapHub fun h => h.note .keyUp k.val velocity strike 0 { forced := forced }
  s2.mapRecorder (Desk.keyUp k velocity forced)

/-- A key's event is handed out. -/
def State.handEvent (k : Fin 88) (e : KeyEvent) (s : State) : State :=
  match e with
  | .down velocity rep => s.noteDown k velocity rep
  | .up velocity strike forced => s.noteUp k velocity strike forced
  | .launch => s.mapDeck Deck.launchNotice

/-- R21: one key of a frame is processed. -/
def State.trackKey (k : Fin 88) (rawKey rawHammer : Nat) (s : State) : State :=
  let p := s.keys[k].track s.calibration[k] s.curve s.hub.tracking rawKey rawHammer
  p.2.foldl (fun s e => s.handEvent k e) (s.setKey k p.1)

/-! ### The quiet condition (R36) -/

/-- Key j of a key lane. -/
def laneKey (lane : Fin 8) (j : Fin 11) : Fin 88 := ⟨11 * lane.val + j.val, by omega⟩

/-- The lane record of a key lane. -/
def State.keyLane (lane : Fin 8) (s : State) : Lane := s.lanes[(lane.castSucc : Fin 9)]

/-- R36: a key's hammer stands below CLEAR. -/
def State.hammerClear (k : Fin 88) (s : State) : Bool :=
  match s.keys[k].lastRaw with
  | some (_, rawHammer) => s.calibration[k].height rawHammer < s.calibration[k].clear
  | none => false

/-- R36: the quiet condition. -/
def State.quietCondition (s : State) : Bool :=
  (List.finRange 8).all fun lane =>
    match (s.keyLane lane).state with
    | .probing | .recovering => false
    | .active => (List.finRange 11).all fun j => s.hammerClear (laneKey lane j)
    | .off | .absent => true

/-- R36: the quiet condition is evaluated, and the rail is told of a change. -/
def State.reevalQuiet (s : State) : State := s.mapDeck (Deck.setQuiet s.quietCondition)

/-- R21: a valid frame of a key lane is processed. -/
def State.keyFrame (lane : Fin 8) (readings : List Nat) (s : State) : State :=
  ((List.finRange 11).foldl (fun s j =>
    s.trackKey (laneKey lane j) (readings.getD j.val 0) (readings.getD (11 + j.val) 0)) s).reevalQuiet

/-! ### Lane notices, masking (R32, R33, R35) -/

/-- A key whose note is closed by force: its record and whether a KEY_UP follows. -/
def Key.closed (k : Key) : Key := { k with openNote := false, gateLowStamp := none, rearmStamp := none }

/-- R32, R35, R38, R45: a key's record takes a value, and a forced KEY_UP is handed out if the key held an open note. -/
def State.forceKey (k : Fin 88) (key : Key) (s : State) : State :=
  let old := s.keys[k]
  let s1 := s.setKey k key
  if old.openNote then s1.noteUp k 64 old.lastVelocity true else s1

/-- R48, R51, R52: the capture set takes a value, which is handed to the voice engine. -/
def State.setCapture (keys : List (Fin 88)) (s : State) : State :=
  { s with pedals := { s.pedals with capture := keys }, voice := s.voice.setCapture keys }

/-- R52: a lane-loss key-up takes its key out of the capture set. -/
def State.uncapture (k : Fin 88) (s : State) : State :=
  if s.pedals.capture.contains k then s.setCapture (s.pedals.capture.filter fun c => c ≠ k) else s

/-- R32: a key of a lost lane. -/
def State.loseKey (k : Fin 88) (s : State) : State :=
  let old := s.keys[k]
  let s1 := s.forceKey k { old.closed with state := .disabled, lastRaw := none, extremes := none }
  if old.openNote then s1.uncapture k else s1

/-- R32: the lane-lost notice of a key lane. -/
def State.keyLaneLost (lane : Fin 8) (s : State) : State :=
  ((List.finRange 11).foldl (fun s j => s.loseKey (laneKey lane j)) s).reevalQuiet

/-- R33: the lane-up notice of a key lane. -/
def State.keyLaneUp (lane : Fin 8) (s : State) : State :=
  ((List.finRange 11).foldl (fun s j =>
    let k := laneKey lane j
    if s.keys[k].masked then s else s.setKey k { s.keys[k] with state := .waitRest }) s).reevalQuiet

/-- The lane of a key. -/
def laneOf (k : Fin 88) : Fin 8 := ⟨k.val / 11, by omega⟩

/-- R34, R35: a key's masked flag takes a value. -/
def State.maskKey (k : Fin 88) (masked : Bool) (s : State) : State :=
  let old := s.keys[k]
  if masked = old.masked then s
  else if masked then s.forceKey k { old.closed with state := .disabled, masked := true, extremes := none }
  else
    s.setKey k
      { old with masked := false, state := if (s.keyLane (laneOf k)).state = .active then .waitRest else old.state }

/-! ### Calibration windows (R37 to R42) -/

/-- A CALIB record: STARTED 0, DONE 1, ABORTED 2, LOADED 3 (log 31). -/
def Hub.noteCalib (first last detail item : Nat) (h : Hub) : Hub := h.note .calib first last detail item {}

/-- The keys of a range, in ascending order. -/
def keyRange (first last : Nat) : List (Fin 88) := (List.finRange 88).filter fun k => first ≤ k.val && k.val ≤ last

/-- R38: a key at the opening of a window. -/
def State.openKey (k : Fin 88) (s : State) : State :=
  let old := s.keys[k]
  if old.state = .disabled then s else s.forceKey k { old.closed with state := .calibrating, extremes := none }

/-- R38: a calibration window opens. -/
def State.openWindow (w : CalibWindow) (s : State) : State :=
  let s1 := (keyRange w.first w.last).foldl (fun s k => s.openKey k) s
  { s1 with tracker := { s1.tracker with window := some w } }.mapHub fun h => h.noteCalib w.first w.last 0 0

/-- R40: the new rest and far values of one sensor: the orientation is kept. -/
def reorient (rest far low high : Nat) : Nat × Nat := if rest < far then (low, high) else (high, low)

/-- R40: the calibration record of a key with these extremes, or none if the key has not travelled enough. -/
def Calibration.measured (e : Extremes) (c : Calibration) : Option Calibration :=
  if 200 ≤ e.keyHigh - e.keyLow && 200 ≤ e.hammerHigh - e.hammerLow then
    let key := reorient c.keyRest c.keyBottom e.keyLow e.keyHigh
    let hammer := reorient c.hammerRest c.hammerTop e.hammerLow e.hammerHigh
    some { c with keyRest := key.1, keyBottom := key.2, hammerRest := hammer.1, hammerTop := hammer.2 }
  else none

/-- R40: the new record of a key at the window's end, or none. -/
def State.measuredKey (k : Fin 88) (s : State) : Option Calibration :=
  if s.keys[k].state = .calibrating then s.keys[k].extremes.bind fun e => s.calibration[k].measured e else none

/-- R40 to R42: every CALIBRATING key enters WAIT_REST with its extremes emptied. -/
def endCalibrating (keys : Vector Key 88) : Vector Key 88 :=
  Vector.ofFn fun k : Fin 88 =>
    if keys[k].state = .calibrating then { keys[k] with state := .waitRest, extremes := none } else keys[k]

/-- R40: the end of a calibration window. -/
def State.finishWindow (w : CalibWindow) (s : State) : State :=
  let table : Vector Calibration 88 := Vector.ofFn fun k : Fin 88 => (s.measuredKey k).getD s.calibration[k]
  let count := (List.finRange 88).countP fun k => (s.measuredKey k).isSome
  let s1 : State :=
    { s with calibration := table, keys := endCalibrating s.keys, tracker := { s.tracker with window := none } }
  let s2 := s1.mapHub fun h =>
    let h1 := h.post .tracker w.address (table.toList.flatMap Calibration.bytes)
    let h2 := h1.completeRequest w.slot .ok (le8 count ++ le8 (w.last + 1 - w.first - count))
    (h2.noteCalib w.first w.last 1 count).raise .sense
  s2.reevalQuiet

/-- R41: an open window is aborted. -/
def State.abortWindow (w : CalibWindow) (s : State) : State :=
  { s with keys := endCalibrating s.keys, tracker := { s.tracker with window := none } }.mapHub fun h =>
    let h1 := h.completeRequest w.slot .aborted (le8 0 ++ le8 (w.last + 1 - w.first))
    (h1.noteCalib w.first w.last 2 0).raise .sense

/-! ### Table loads (R43 to R45) -/

/-- The CURVE and CALIB reads. -/
def ReadTag.isTable : ReadTag → Bool
  | .table _ => true
  | _ => false

/-- R43: a CURVE or CALIB load begins: one read of 254 bytes, or four of 512, 512, 512 and 224. -/
def State.startTableLoad (slot : Fin 32) (calib : Bool) (address : Word64) (s : State) : State :=
  let s1 : State :=
    { s with tracker := { s.tracker with load := some { calib, slot, chunks := noChunks (if calib then 4 else 1) } } }
  s1.mapHub fun h =>
    if calib then
      let first := (h.requestRead (.table 0) address 512 0).requestRead (.table 1) (address + 512) 512 0
      (first.requestRead (.table 2) (address + 1024) 512 0).requestRead (.table 3) (address + 1536) 224 0
    else h.requestRead (.table 0) address 254 0

/-- R43 to R45: the load in progress is over, and its request completes. -/
def State.endTableLoad (slot : Fin 32) (code : ResultCode) (data : List Byte) (s : State) : State :=
  { s with tracker := { s.tracker with load := none } }.mapHub fun h => h.completeRequest slot code data

/-- R44: a CURVE table has arrived. -/
def State.applyCurve (slot : Fin 32) (table : List Byte) (s : State) : State :=
  match curveFault table with
  | some v => s.endTableLoad slot .invalid (le8 v)
  | none => { s with curve := Vector.ofFn fun i : Fin 127 => curveEntry table i.val }.endTableLoad slot .ok []

/-- R45: a key at a calibration load. -/
def State.reloadKey (k : Fin 88) (s : State) : State :=
  let old := s.keys[k]
  let state : KeyState := if old.state = .rest || old.state = .disabled then old.state else .waitRest
  if old.state = .rest || old.state = .disabled then s.setKey k { old with gateLowStamp := none, rearmStamp := none }
  else s.forceKey k { old.closed with state := state, extremes := none }

/-- R45: a CALIB table has arrived. -/
def State.applyCalib (slot : Fin 32) (table : List Byte) (s : State) : State :=
  let record (k : Nat) : Calibration := Calibration.parse table (20 * k)
  match (List.range 88).find? fun k => !(record k).valid with
  | some k => s.endTableLoad slot .invalid (le8 k)
  | none =>
    let count := (List.finRange 88).countP fun k => s.keys[k].state ≠ .rest && s.keys[k].state ≠ .disabled
    let s1 : State := { s with calibration := Vector.ofFn fun k : Fin 88 => record k.val }
    let s2 := (List.finRange 88).foldl (fun s k => s.reloadKey k) s1
    let s3 := (s2.mapHub fun h => h.noteCalib 0 87 3 0).reevalQuiet
    s3.endTableLoad slot .ok (le8 count)

/-- R43: a CURVE or CALIB read arrives, or fails (none): then the load's other reads that still wait are withdrawn, and
those issued are discarded, which is the model's own choice (log 62). -/
def State.tableRead (tag : ReadTag) (bytes : Option (List Byte)) (s : State) : State :=
  match tag, s.tracker.load with
  | .table part, some load =>
    match bytes with
    | none => (s.mapHub fun h => h.dropReads ReadTag.isTable).endTableLoad load.slot .failed []
    | some bs =>
      let chunks := putChunk load.chunks part.val bs
      match allChunks chunks with
      | none => { s with tracker := { s.tracker with load := some { load with chunks := chunks } } }
      | some table => if load.calib then s.applyCalib load.slot table else s.applyCurve load.slot table
  | _, _ => s

/-- R42, R43: the key tracker at a detach: an open window ends without a record, and a load is abandoned. -/
def State.trackerDetach (s : State) : State :=
  { s with
    keys := if s.tracker.window.isSome then endCalibrating s.keys else s.keys
    tracker := { window := none, load := none }, hub := s.hub.dropReads ReadTag.isTable }

/-! ### The commands -/

/-- R34: SENSE_CONFIG is refused. -/
def refuseSenseConfig (a : List Byte) : Option ResultCode :=
  if bitOf (u8At a 0) 1 && (List.range 9).any (fun i => 15 < u8At a (12 + i)) then some .invalid else none

/-- R34: the LED levels of SENSE_CONFIG. -/
def State.setLeds (a : List Byte) (s : State) : State :=
  { s with lanes := Vector.ofFn fun i : Fin 9 => { s.lanes[i] with ledLevel := u8At a (12 + i.val) } }

/-- R34: the result data of SENSE_CONFIG. -/
def State.senseResult (s : State) : List Byte :=
  maskBytes (s.keys.toList.map Key.masked) ++ s.lanes.toList.flatMap fun l => le8 l.ledLevel

/-- R34: SENSE_CONFIG is taken. -/
def actSenseConfig (slot : Fin 32) (a : List Byte) (s : State) : State :=
  let s1 :=
    if bitOf (u8At a 0) 0 then (List.finRange 88).foldl (fun s k => s.maskKey k (maskBit a 1 k.val)) s else s
  let s2 := if bitOf (u8At a 0) 1 then s1.setLeds a else s1
  s2.mapHub fun h => h.completeRequest slot .ok s2.senseResult

/-- SENSE_CONFIG (R34). -/
def execSenseConfig (slot : Fin 32) (tag : Word16) (a : List Byte) (s : State) : Host.Outcome State Fault Refusal :=
  .next (s.visitSlot slot .senseConfig tag a (refuseSenseConfig a) (actSenseConfig slot a))

/-- R37: CALIBRATE_KEYS is refused. INVALID before BUSY where both hold is the model's own choice (log 54). -/
def refuseCalibrateKeys (a : List Byte) (s : State) : Option ResultCode :=
  if 87 < u8At a 9 || u8At a 9 < u8At a 8 || u8At a 10 < 2 || 30 < u8At a 10 || u64At a 0 = 0 || u64At a 0 % 4 ≠ 0 then
    some .invalid
  else if s.tracker.window.isSome || s.tracker.load.any TableLoad.calib then some .busy
  else none

/-- R37, R38: CALIBRATE_KEYS is taken. -/
def actCalibrateKeys (slot : Fin 32) (a : List Byte) (s : State) : State :=
  s.openWindow
    { first := u8At a 8, last := u8At a 9, address := BitVec.ofNat 64 (u64At a 0)
      endsAt := s.hub.now + u8At a 10 * 1000000, slot }

/-- CALIBRATE_KEYS (R37). -/
def execCalibrateKeys (slot : Fin 32) (tag : Word16) (a : List Byte) (s : State) : Host.Outcome State Fault Refusal :=
  .next (s.visitSlot slot .calibrateKeys tag a (refuseCalibrateKeys a s) (actCalibrateKeys slot a))

/-- CALIB_WINDOW_END (R40). -/
def execCalibWindowEnd (s : State) : Host.Outcome State Fault Refusal :=
  .next (s.whenUp fun s =>
    match s.tracker.window with
    | some w => if w.endsAt ≤ s.hub.now then s.finishWindow w else s
    | none => s)

/-- R41: CALIB_ABORT is refused. -/
def refuseCalibAbort (s : State) : Option ResultCode := if s.tracker.window.isNone then some .state else none

/-- R41: CALIB_ABORT is taken. -/
def actCalibAbort (slot : Fin 32) (s : State) : State :=
  match s.tracker.window with
  | some w => (s.abortWindow w).mapHub fun h => h.completeRequest slot .ok []
  | none => s

/-- CALIB_ABORT (R41). -/
def execCalibAbort (slot : Fin 32) (tag : Word16) (a : List Byte) (s : State) : Host.Outcome State Fault Refusal :=
  .next (s.visitSlot slot .calibAbort tag a (refuseCalibAbort s) (actCalibAbort slot))

/-- R43, R61: TABLE_LOAD is refused; kinds CURVE 0, CALIB 1, KEYMAP 2. INVALID before BUSY where both hold is the model's own
choice (log 54). -/
def refuseTableLoad (a : List Byte) (s : State) : Option ResultCode :=
  let address := u64At a 0
  if u8At a 8 = 2 then refuseKeymapLoad address s
  else if 2 < u8At a 8 || address = 0 || address % 4 ≠ 0 then some .invalid
  else if s.tracker.load.isSome || (u8At a 8 = 1 && s.tracker.window.isSome) then some .busy
  else none

/-- R43, R61: TABLE_LOAD is taken. -/
def actTableLoad (slot : Fin 32) (a : List Byte) (s : State) : State :=
  if u8At a 8 = 2 then s.mapVoice (Engine.startKeymapLoad slot (u64At a 0))
  else s.startTableLoad slot (u8At a 8 == 1) (BitVec.ofNat 64 (u64At a 0))

/-- TABLE_LOAD (R43, R61). -/
def execTableLoad (slot : Fin 32) (tag : Word16) (a : List Byte) (s : State) : Host.Outcome State Fault Refusal :=
  .next (s.visitSlot slot .tableLoad tag a (refuseTableLoad a s) (actTableLoad slot a))

/-- TABLE_READ_ARRIVAL (R43). -/
def execTableReadArrival (read : Nat) (outcome : ReadOutcome) (s : State) : Host.Outcome State Fault Refusal :=
  .next (s.whenUp fun s => s.onArrival ReadTag.isTable read outcome State.tableRead)

end Sys2Proof.Machine
end

