-- ==== Sys2Proof/Machine/Inputs.lean ====
section
/-! DEFINITION. The pedal and input block (03_pedals_footswitches_and_jack_sense.md): pedal frames and events, the capture set, footswitch stages and actions, the jack sense, wake events, and PEDAL_CONFIG. -/

namespace Sys2Proof.Machine

/-! ### Pedals (R46 to R52) -/

/-- R47: the level of a raw pedal reading. -/
def PedalCalibration.level (raw : Nat) (c : PedalCalibration) : Nat := scaleReading raw c.rest c.full 127

/-- R48: the hysteresis of the pressed states. -/
def pressedAfter (level : Nat) (pressed : Bool) : Bool := if pressed then 48 ≤ level else 64 ≤ level

/-- The details of a live PEDAL record: PRESSED 0, RELEASED 1, LEVEL 2 (log 31). -/
def pedalDetail (changed pressed : Bool) : Nat := if changed then (if pressed then 0 else 1) else 2

/-- R49, R50: a PEDAL event is handed to the journal writer and the recorder, after the voice engine has taken
what the pedals hand it; the order of the consumers is the model's own choice (log 67). -/
def State.pedalEvent (p : Fin 3) (level detail : Nat) (forced : Bool) (s : State) : State :=
  (s.mapHub fun h => h.note .pedal p.val level detail 0 { forced := forced }).mapRecorder (Desk.pedal p level forced)

/-- R51: the keys that hold an open note, in ascending order. -/
def State.openNotes (s : State) : List (Fin 88) := (List.finRange 88).filter fun k => s.keys[k].openNote

/-- R49: a pedal gives an event in this frame. -/
def givesEvent (level emitted step : Nat) (changed : Bool) : Bool :=
  step ≤ distance level emitted || ((level = 0 || level = 127) && level ≠ emitted) || changed

/-- R49: a pedal's event, if it gives one. -/
def State.emitPedal (p : Fin 3) (changed pressed : Bool) (s : State) : State :=
  let level := s.pedals.level[p]
  if givesEvent level s.pedals.emitted[p] s.pedalSettings.step changed then
    let s1 : State := { s with pedals := { s.pedals with emitted := s.pedals.emitted.set p level } }
    s1.pedalEvent p level (pedalDetail changed pressed) false
  else s

/-- R48, R49: a valid frame of the pedal lane is processed. -/
def State.pedalFrame (readings : List Nat) (s : State) : State :=
  let level : Vector Nat 3 :=
    Vector.ofFn fun p : Fin 3 => s.pedalSettings.calibration[p].level (readings.getD p.val 0)
  let sostenuto := pressedAfter level[1] s.pedals.sostenuto
  let soft := pressedAfter level[2] s.pedals.soft
  let sostenutoChanged := sostenuto ≠ s.pedals.sostenuto
  let softChanged := soft ≠ s.pedals.soft
  let s1 : State :=
    { s with
      pedals := { s.pedals with level := level, sostenuto := sostenuto, soft := soft }
      voice := s.voice.setDamper .live level[0] }
  let s2 := if sostenutoChanged then s1.setCapture (if sostenuto then s1.openNotes else []) else s1
  let s3 := if softChanged then s2.updateVoice (VoiceEngine.setSoft .live soft) else s2
  ((s3.emitPedal 0 false false).emitPedal 1 sostenutoChanged sostenuto).emitPedal 2 softChanged soft

/-- R50: the lane-lost notice of the pedal lane. -/
def State.pedalLaneLost (s : State) : State :=
  let s1 : State :=
    { s with
      pedals := { s.pedals with
        laneFlag := false, level := Vector.replicate 3 0, emitted := Vector.replicate 3 0, sostenuto := false, soft := false
        capture := [] }
      voice := ((s.voice.setDamper .live 0).setCapture []).setSoft .live false }
  ((s1.pedalEvent 0 0 2 true).pedalEvent 1 0 1 true).pedalEvent 2 0 1 true

/-- R50: the lane-up notice of the pedal lane. -/
def State.pedalLaneUp (s : State) : State := { s with pedals := { s.pedals with laneFlag := true } }

/-! ### Wake events (R197) -/

/-- R197: a wake event at a time. The pulse is due after the wake delay, and no earlier than the last pulse's start plus the
wake delay plus the pulse width. -/
def Standby.wakeEvent (now : Nat) (cause : WakeCause) (b : Standby) : Standby :=
  let delay := b.delay * 10000
  let due := match b.lastPulse with
    | some t => max (now + delay) (t + delay + b.width * 20000)
    | none => now + delay
  { b with
    pulse := match b.pulse with
      | .idle => .delay due
      | p => p
    cause := match b.cause with
      | .none => cause
      | c => c }

/-! ### Footswitches (R53 to R55) -/

/-- R54: an edge to the level `high` is passed by a selection. -/
def EdgeSelection.passes (high : Bool) : EdgeSelection → Bool
  | .off => false
  | .falling => !high
  | .rising => high
  | .both => true

/-- R54: the action is handed to its owner. The flag says that the owner ignored it, or that it was handed to none because a
standby entry is under way (R194). For the action NONE the flag stays clear during an entry as well: the model's own choice,
R54 saying that a NONE record never carries it and R194 naming no exception (log 50). -/
def State.switchAction (action : SwitchAction) (s : State) : State × Bool :=
  match action with
  | .none => (s, false)
  | _ =>
    if s.entry.isSome then (s, true)
    else
      match action with
      | .playToggle => if s.player.state.togglable then (s.mapStage Stage.toggle, false) else (s, true)
      | .metronomeToggle => (s.metronomeToggle, false)
      | .mark => if s.recorder.state = .recording then (s.mapRecorder (Desk.mark none), false) else (s, true)
      | .railToggle => if s.deck.toggleMove.isSome then (s.mapDeck Deck.toggle, false) else (s, true)
      | .none => (s, false)

/-- R54: a switch edge outside standby: the action, then the FOOTSWITCH record. -/
def State.switchEdge (i : Fin 2) (high : Bool) (s : State) : State :=
  let action := s.actions[i]
  let p := s.switchAction action
  p.1.mapHub fun h => h.note .footswitch (i.val + 1) (flagBit high) action.code 0 { ignored := p.2 }

/-- R53, R54, R55: a pending change is accepted. In standby it may be a wake event; while the main domain is without power or
in reset it is not handed on. -/
def State.acceptSwitch (i : Fin 2) (s : State) : State :=
  let stage := s.switches[i]
  let high := !stage.high
  let s1 : State := { s with switches := s.switches.set i { stage with high := high, pendingSince := none } }
  if stage.edges.passes high then
    if s.hub.attach.asleep then
      if stage.wake then { s1 with standby := s1.standby.wakeEvent s.hub.now (.footswitch i) } else s1
    else if s.mainUp then s1.switchEdge i high
    else s1
  else s1

/-- R53: a pending change has been held for its debounce time. -/
def State.switchHeld (i : Fin 2) (s : State) : Bool :=
  match s.switches[i].pendingSince with
  | some since => since + s.switches[i].debounce.micros ≤ s.hub.now
  | none => false

/-- R53: a pending change that has been held for its debounce time is accepted. -/
def State.acceptHeld (i : Fin 2) (s : State) : State := if s.switchHeld i then s.acceptSwitch i else s

/-- The level of a footswitch input. -/
def switchLevel (i : Fin 2) (p : Pins) : Bool := if i = 0 then p.fs1High else p.fs2High

/-- A footswitch input takes a level. -/
def setSwitchLevel (i : Fin 2) (high : Bool) (p : Pins) : Pins :=
  if i = 0 then { p with fs1High := high } else { p with fs2High := high }

/-- FOOTSWITCH_INPUT_CHANGE (R53): the input stages are of the standby domain; during a POWER-ON reset they take nothing. -/
def execFootswitchInputChange (switch : Fin 2) (high : Bool) (s : State) : Host.Outcome State Fault Refusal :=
  if high = switchLevel switch s.pins then .next s
  else
    let s1 : State := { s with pins := setSwitchLevel switch high s.pins }
    if s.resetHeld = some .powerOn then .next s1
    else
      let stage := s.switches[switch]
      let pending := if high = stage.high then none else some s.hub.now
      .next ({ s1 with switches := s.switches.set switch { stage with pendingSince := pending } }.acceptHeld switch)

/-- FOOTSWITCH_DEBOUNCE_EXPIRY (R53). -/
def execFootswitchDebounceExpiry (switch : Fin 2) (s : State) : Host.Outcome State Fault Refusal :=
  .next (if s.resetHeld = some .powerOn then s else s.acceptHeld switch)

/-! ### The jack sense (R56) -/

/-- JACK_INPUT_CHANGE (R56). -/
def execJackInputChange (low : Bool) (s : State) : Host.Outcome State Fault Refusal :=
  if low = s.pins.jackLow then .next s
  else
    let s1 : State := { s with pins := { s.pins with jackLow := low } }
    .next (s1.whenUp fun s =>
      { s with jack := { s.jack with pendingSince := if low = s.jack.inserted then none else some s.hub.now } })

/-- R56: a change of the jack state is accepted: the output block first, then the JACK record, which standby leaves out.
The record's detail byte is 0: the model's own choice (log 63). -/
def State.acceptJack (s : State) : State :=
  let inserted := !s.jack.inserted
  let s1 : State :=
    { s with jack := { inserted := inserted, pendingSince := none }, output := { s.output with jackInserted := inserted } }
  if s.hub.attach.asleep then s1 else s1.mapHub fun h => h.note .jack 0 (flagBit inserted) 0 0 {}

/-- JACK_DEBOUNCE_EXPIRY (R56). -/
def execJackDebounceExpiry (s : State) : Host.Outcome State Fault Refusal :=
  .next (s.whenUp fun s =>
    match s.jack.pendingSince with
    | some since => if since + Config.jackDebounce ≤ s.hub.now then s.acceptJack else s
    | none => s)

/-! ### PEDAL_CONFIG (R57, R58) -/

/-- R57: PEDAL_CONFIG is refused. -/
def refusePedalConfig (a : List Byte) : Option ResultCode :=
  if (bitOf (u8At a 0) 0 && !(PedalSettings.parse a).valid) ||
      (bitOf (u8At a 0) 1 && ((parseSwitch (u8At a 4)).isNone || (parseSwitch (u8At a 5)).isNone)) then
    some .invalid
  else none

/-- R57: a switch takes its settings. -/
def State.setSwitch (i : Fin 2) (n : Nat) (s : State) : State :=
  match parseSwitch n with
  | none => s
  | some (debounce, edges, action, wake) =>
    { s with
      switches := s.switches.set i { s.switches[i] with debounce := debounce, edges := edges, wake := wake }
      actions := s.actions.set i action }

/-- R57: the pedal group is applied, and the damper limits are handed to the voice engine. -/
def State.setPedals (p : PedalSettings) (s : State) : State :=
  { s with pedalSettings := p, voice := s.voice.setDamperLimits p.damperFree p.damperHold }

/-- R58: the result data of PEDAL_CONFIG. -/
def State.pedalResult (s : State) : List Byte :=
  let p := s.pedalSettings
  le8 0 ++ le8 p.damperFree ++ le8 p.damperHold ++ le8 p.step ++ le8 (switchByte s.switches[0] s.actions[0]) ++
    le8 (switchByte s.switches[1] s.actions[1]) ++
    (p.calibration.toList.flatMap fun c => le16 c.rest ++ le16 c.full) ++ (s.pedals.level.toList.flatMap le8) ++
    le8 (flagBit s.pedals.sostenuto + 2 * flagBit s.pedals.soft) ++ le8 (flagBit s.pedals.laneFlag) ++
    le8 s.pedals.capture.length ++ le8 (flagBit s.switches[0].high + 2 * flagBit s.switches[1].high) ++
    le8 (flagBit s.jack.inserted)

/-- R57: PEDAL_CONFIG is taken. A pending change already held for its new debounce time is accepted (R53); of two, that of FS1
first, which is the model's own choice (log 49). -/
def actPedalConfig (slot : Fin 32) (a : List Byte) (s : State) : State :=
  let s1 := if bitOf (u8At a 0) 0 then s.setPedals (PedalSettings.parse a) else s
  let s2 :=
    if bitOf (u8At a 0) 1 then
      (((s1.setSwitch 0 (u8At a 4)).setSwitch 1 (u8At a 5)).acceptHeld 0).acceptHeld 1
    else s1
  s2.mapHub fun h => h.completeRequest slot .ok s2.pedalResult

/-- PEDAL_CONFIG (R57). -/
def execPedalConfig (slot : Fin 32) (tag : Word16) (a : List Byte) (s : State) : Host.Outcome State Fault Refusal :=
  .next (s.visitSlot slot .pedalConfig tag a (refusePedalConfig a) (actPedalConfig slot a))

end Sys2Proof.Machine
end

