-- ==== Sys2Proof/Machine/Lanes.lean ====
section
/-! DEFINITION. The lane controller (01_sensor_lanes.md): management exchanges and the probe script, frame checking, the error window and silence, recovery and the retry window, LANE records and LANE_CONTROL, and the wake scanner's START exchange (R196). -/

namespace Sys2Proof.Machine

/-- The record of a lane takes a value. -/
def State.setLane (lane : Fin 9) (l : Lane) (s : State) : State := { s with lanes := s.lanes.set lane l }

/-! ### Notices and records (R14, R15) -/

/-- R14: the lane-lost notice goes to the lane's consumer. -/
def State.laneLost (lane : Fin 9) (s : State) : State :=
  if h : lane.val < 8 then s.keyLaneLost ⟨lane.val, h⟩ else s.pedalLaneLost

/-- R14: the lane-up notice goes to the lane's consumer. -/
def State.laneUp (lane : Fin 9) (s : State) : State :=
  if h : lane.val < 8 then s.keyLaneUp ⟨lane.val, h⟩ else s.pedalLaneUp

/-- R9: a valid frame goes to the lane's consumer. -/
def State.laneReadings (lane : Fin 9) (readings : List Nat) (s : State) : State :=
  if h : lane.val < 8 then s.keyFrame ⟨lane.val, h⟩ readings else s.pedalFrame readings

/-- The details of a LANE record, in the order of Table 1-6 (log 31). -/
inductive LaneDetail where
  | reset | request | standbyExit | none | recovered | errors | silence | probeStep | probeFail | position | retries | standby
  deriving DecidableEq, Repr

/-- Table 1-6 order. -/
def LaneDetail.code : LaneDetail → Nat
  | .reset => 0 | .request => 1 | .standbyExit => 2 | .none => 3 | .recovered => 4 | .errors => 5 | .silence => 6
  | .probeStep => 7 | .probeFail => 8 | .position => 9 | .retries => 10 | .standby => 11

/-- R15: the details that set CAUSE.SENSE. An entry to ACTIVE from RECOVERING has the detail RECOVERED. -/
def LaneDetail.setsSense : LaneDetail → Bool
  | .recovered | .errors | .silence | .probeStep | .probeFail | .position | .retries => true
  | _ => false

/-- R15: a LANE record is handed, with its flag. -/
def State.noteLane (lane : Fin 9) (detail : LaneDetail) (s : State) : State :=
  s.mapHub fun h =>
    let h1 := h.note .lane lane.val s.lanes[lane].state.code detail.code 0 {}
    if detail.setsSense then h1.raise .sense else h1

/-- R14, R15: a lane's record changes its state: an ACTIVE lane that leaves ACTIVE first hands its lane-lost notice (R16, R18), at
which R36 evaluates the quiet condition while the record still reads ACTIVE; then the record changes, the condition is evaluated
again and the LANE record is handed. At LANE_CONTROL DISABLE and ABSENT RETRIES that order is the model's own choice (log 53). -/
def State.changeLane (lane : Fin 9) (l : Lane) (detail : LaneDetail) (s : State) : State :=
  let lost := s.lanes[lane].state = .active && l.state ≠ .active
  let s1 := if lost then s.laneLost lane else s
  (s1.setLane lane l).reevalQuiet.noteLane lane detail

/-! ### Probes (R3 to R7) -/

/-- The device registers of Table 1-3. -/
inductive DeviceRegister where
  | ident | led | status | start
  deriving DecidableEq, Repr

/-- Table 1-3, R5, R6, R196: the register that a step's request names. -/
def ExchangeStep.register : ExchangeStep → DeviceRegister
  | .ident => .ident
  | .led => .led
  | .status _ => .status
  | .start | .startLowRate => .start

/-- R3: the step reads a register; the others write one. -/
def ExchangeStep.isRead : ExchangeStep → Bool
  | .ident | .status _ => true
  | _ => false

/-- R6, R196: the value that a step's request carries: the lane record's LED level for LED, 1 for START, 2 for the wake
scanner's START; a read carries none. -/
def ExchangeStep.value (ledLevel : Nat) : ExchangeStep → Option Word16
  | .ident | .status _ => none
  | .led => some (BitVec.ofNat 16 ledLevel)
  | .start => some 1
  | .startLowRate => some 2

/-- R4: a probe begins: the reset hold of 1.5 ms. -/
def Lane.beginProbe (now : Nat) (l : Lane) : Lane :=
  { l with expected := none, errorWindow := [], silence := 0, phase := .hold (now + Config.resetHold) }

/-- R3: the first attempt of an exchange, with the lane's next number. The number tells its replies from those of any other
attempt (log 11). -/
def Lane.firstAttempt (step : ExchangeStep) (now : Nat) (l : Lane) : LaneExchange :=
  { step, value := step.value l.ledLevel, number := l.exchangeNumber + 1, attempt := 1, sentAt := now, firstSentAt := now }

/-- A number of the lane's management exchanges is used up. -/
def Lane.countExchange (l : Lane) : Lane := { l with exchangeNumber := l.exchangeNumber + 1 }

/-- R3: a management exchange of the probe script begins. -/
def Lane.beginExchange (step : ExchangeStep) (now : Nat) (l : Lane) : Lane :=
  { l.countExchange with phase := .exchanging (l.firstAttempt step now) }

/-- A lane set aside: its reset line is held active. -/
def Lane.setAside (reason : AbsentReason) (l : Lane) : Lane :=
  { l with state := .absent, absentReason := reason, phase := .idle }

/-- R12: an entry to RECOVERING, counted against the retry window. -/
def State.enterRecovering (lane : Fin 9) (detail : LaneDetail) (s : State) : State :=
  let l := s.lanes[lane]
  let now := s.hub.now
  match l.retryOpened with
  | none =>
    s.changeLane lane ({ l with state := .recovering, attempts := 1, retryOpened := some now }.beginProbe now) detail
  | some _ =>
    if l.attempts < 3 then
      s.changeLane lane ({ l with state := .recovering, attempts := l.attempts + 1 }.beginProbe now) detail
    else s.changeLane lane ({ l with attempts := 4 }.setAside .retries) .retries

/-- R13: a probe step fails. -/
def State.stepFails (lane : Fin 9) (s : State) : State :=
  let l := s.lanes[lane]
  match l.state with
  | .probing => s.changeLane lane (l.setAside .probeFail) .probeFail
  | .recovering => s.enterRecovering lane .probeStep
  | _ => s

/-- Table 1-4: what an identity says of the device on a lane. -/
inductive IdentityCheck where
  | passes | position | fails
  deriving DecidableEq, Repr

/-- Table 1-4. -/
def checkIdentity (lane : Fin 9) (value : Word16) : IdentityCheck :=
  let masked := value &&& 0xFFF0#16
  let low := (value &&& 0xF#16).toNat
  if masked = 0x5A10#16 then (if lane.val < 8 && low = lane.val then .passes else .position)
  else if masked = 0x5A20#16 then (if lane.val = 8 && low = 8 then .passes else .position)
  else .fails

/-- R5, R6: an exchange of the probe script has succeeded; a read has brought `value`. The model's own choices (log 41): the
250 µs to the next STATUS read run from the request of the first attempt of the read before it, and the 2 ms of R7 run from
the acknowledgement of the START write. -/
def State.exchangeSucceeds (lane : Fin 9) (e : LaneExchange) (value : Word16) (s : State) : State :=
  let l := s.lanes[lane]
  let now := s.hub.now
  match e.step with
  | .ident =>
    let l1 : Lane := { l with identity := some value }
    match checkIdentity lane value with
    | .passes => s.setLane lane (l1.beginExchange .led now)
    | .position => s.changeLane lane (l1.setAside .position) .position
    | .fails => (s.setLane lane l1).stepFails lane
  | .led => s.setLane lane (l.beginExchange (.status 0) now)
  | .status made =>
    if value.getLsbD 0 then s.setLane lane (l.beginExchange .start now)
    else if Config.statusReads ≤ made + 1 then s.stepFails lane
    else s.setLane lane { l with phase := .statusWait (made + 1) (e.firstSentAt + Config.statusPeriod) }
  | .start => s.setLane lane { l with phase := .awaitFrame now, periodEnd := now + Config.framePeriod, validInPeriod := false }
  | .startLowRate => s

/-- R3, R5: an exchange has failed at its third attempt. -/
def State.exchangeFails (lane : Fin 9) (e : LaneExchange) (s : State) : State :=
  if e.step = .ident then (s.setLane lane { s.lanes[lane] with identity := none }).stepFails lane
  else s.stepFails lane

/-- R3: a reply to an exchange is good: it comes within 100 µs, answers this attempt, passes its CRC, and carries what the
exchange asks for. The value is 0 for a write. -/
def goodReply (e : LaneExchange) (now number : Nat) (content : ReplyContent) (body : List Byte) (crc : Byte) :
    Option Word16 :=
  if e.number = number && now ≤ e.sentAt + Config.exchangeLimit && crc8 body == crc then
    match e.step.isRead, content with
    | true, .value v => some v
    | false, .acknowledge => some 0
    | _, _ => none
  else none

/-- The outstanding exchange of a lane's probe. -/
def Lane.exchange (l : Lane) : Option LaneExchange :=
  match l.phase with
  | .exchanging e => some e
  | _ => none

/-- The record the wake scanner keeps of a lane (R196). -/
def State.scannerLane (lane : Fin 9) (s : State) : Option ScannerLane :=
  if h : lane.val < 8 then s.standby.scanner[(⟨lane.val, h⟩ : Fin 8)] else none

/-- The wake scanner's record of a lane takes a value. -/
def State.setScanner (lane : Fin 9) (r : Option ScannerLane) (s : State) : State :=
  if h : lane.val < 8 then
    { s with standby := { s.standby with scanner := s.standby.scanner.set (⟨lane.val, h⟩ : Fin 8) r } }
  else s

/-- MANAGEMENT_REPLY (R3, R5, R6, R196): any reply that is not good leaves the exchange to its time limit (log 11). -/
def execManagementReply (lane : Fin 9) (exchange : Nat) (content : ReplyContent) (body : List Byte) (crc : Byte) (s : State) :
    Host.Outcome State Fault Refusal :=
  .next <|
    match s.lanes[lane].exchange, s.scannerLane lane with
    | some e, _ =>
      match goodReply e s.hub.now exchange content body crc with
      | some v => s.whenUp (State.exchangeSucceeds lane e v)
      | none => s
    | none, some r =>
      match r.exchange.bind fun e => goodReply e s.hub.now exchange content body crc with
      | some _ => s.setScanner lane (some { r with exchange := none })
      | none => s
    | none, none => s

/-- R3: the next attempt of an exchange. -/
def LaneExchange.again (number now : Nat) (e : LaneExchange) : LaneExchange :=
  { e with attempt := e.attempt + 1, number := number, sentAt := now }

/-- R3: 100 µs have passed since an attempt. -/
def LaneExchange.overdue (now : Nat) (e : LaneExchange) : Bool := e.sentAt + Config.exchangeLimit ≤ now

/-- R3: an exchange of the probe script is sent again, or fails. -/
def State.retryExchange (lane : Fin 9) (e : LaneExchange) (s : State) : State :=
  let l := s.lanes[lane].countExchange
  if e.attempt < 3 then s.setLane lane { l with phase := .exchanging (e.again l.exchangeNumber s.hub.now) }
  else s.exchangeFails lane e

/-- R196: the START write of the wake scanner is sent again, or the lane is dropped from the scanner. -/
def State.retryScanner (lane : Fin 9) (r : ScannerLane) (e : LaneExchange) (s : State) : State :=
  let l := s.lanes[lane].countExchange
  if e.attempt < 3 then
    (s.setLane lane l).setScanner lane (some { r with exchange := some (e.again l.exchangeNumber s.hub.now) })
  else s.setScanner lane none

/-- EXCHANGE_TIMEOUT (R3, R196). -/
def execExchangeTimeout (lane : Fin 9) (s : State) : Host.Outcome State Fault Refusal :=
  .next <|
    match s.lanes[lane].exchange, s.scannerLane lane with
    | some e, _ => if e.overdue s.hub.now then s.whenUp (State.retryExchange lane e) else s
    | none, some r =>
      match r.exchange with
      | some e => if e.overdue s.hub.now then s.retryScanner lane r e else s
      | none => s
    | none, none => s

/-- RESET_HOLD_END (R4): the reset line is released, and the script starts with the IDENT read. -/
def execResetHoldEnd (lane : Fin 9) (s : State) : Host.Outcome State Fault Refusal :=
  .next (s.whenUp fun s =>
    match s.lanes[lane].phase with
    | .hold until_ =>
      if until_ ≤ s.hub.now then s.setLane lane (s.lanes[lane].beginExchange .ident s.hub.now) else s
    | _ => s)

/-- STATUS_POLL (R6). -/
def execStatusPoll (lane : Fin 9) (s : State) : Host.Outcome State Fault Refusal :=
  .next (s.whenUp fun s =>
    match s.lanes[lane].phase with
    | .statusWait made due =>
      if due ≤ s.hub.now then s.setLane lane (s.lanes[lane].beginExchange (.status made) s.hub.now) else s
    | _ => s)

/-- FIRST_FRAME_TIMEOUT (R7). -/
def execFirstFrameTimeout (lane : Fin 9) (s : State) : Host.Outcome State Fault Refusal :=
  .next (s.whenUp fun s =>
    match s.lanes[lane].phase with
    | .awaitFrame since => if since + Config.firstFrameLimit ≤ s.hub.now then s.stepFails lane else s
    | _ => s)

/-! ### Frames (R7 to R11) -/

/-- R9: what a valid frame does to a lane's record. -/
def Lane.acceptFrame (sequence : BitVec 4) (performance : Word32) (l : Lane) : Lane :=
  { l with
    expected := some (sequence + 1), frames := l.frames + 1, lastValid := some performance, silence := 0
    validInPeriod := true }

/-- R9, R10: a frame error of an ACTIVE lane enters the current frame period into the window. -/
def Lane.frameError (expected : BitVec 4) (l : Lane) : Lane :=
  { l with
    expected := some expected, errors := l.errors + 1
    errorWindow := if l.errorWindow.contains 0 then l.errorWindow else 0 :: l.errorWindow }

/-- R9, R10: a frame error is taken; the ninth in the window ends the service. -/
def State.takeFrameError (lane : Fin 9) (expected : BitVec 4) (s : State) : State :=
  let l := s.lanes[lane].frameError expected
  let s1 := s.setLane lane l
  if 9 ≤ l.errorWindow.length then s1.enterRecovering lane .errors else s1

/-- R7: the first frame after START ends the probe. -/
def State.firstFrame (lane : Fin 9) (f : Frame) (s : State) : State :=
  let l := s.lanes[lane]
  let l1 : Lane := { l.acceptFrame f.sequence s.hub.performance with state := .active, phase := .idle }
  let s1 := ((s.setLane lane l1).laneUp lane).laneReadings lane f.readings
  s1.reevalQuiet.noteLane lane (if l.state = .recovering then .recovered else .none)

/-- R9: a frame on an ACTIVE lane. -/
def State.activeFrame (lane : Fin 9) (f : Frame) (crcGood : Bool) (s : State) : State :=
  let l := s.lanes[lane]
  let expected := l.expected.getD 0
  if !crcGood then s.takeFrameError lane (expected + 1)
  else if f.sequence ≠ expected then s.takeFrameError lane (f.sequence + 1)
  else (s.setLane lane (l.acceptFrame f.sequence s.hub.performance)).laneReadings lane f.readings

/-- R6, R7: a frame in the wait for the first one. -/
def State.awaitedFrame (lane : Fin 9) (f : Frame) (crcGood : Bool) (s : State) : State :=
  let l := s.lanes[lane]
  if crcGood then s.firstFrame lane f else s.setLane lane { l with errors := l.errors + 1 }

/-- LANE_FRAME (R8, R9): an arrival too short for a frame is none, and one on a lane without a frame slot is not seen. -/
def execLaneFrame (lane : Fin 9) (bytes : List Byte) (s : State) : Host.Outcome State Fault Refusal :=
  .next (s.whenUp fun s =>
    match parseFrame (frameReadings lane) bytes with
    | none => s
    | some (f, crcGood) =>
      let l := s.lanes[lane]
      match l.state, l.phase with
      | .active, _ => s.activeFrame lane f crcGood
      | _, .awaitFrame since =>
        if s.hub.now ≤ since + Config.firstFrameLimit then s.awaitedFrame lane f crcGood else s
      | _, _ => s)

/-- R10, R11: an ACTIVE lane at the end of a frame period. -/
def Lane.endPeriod (l : Lane) : Lane :=
  { l with
    errorWindow := (l.errorWindow.map fun age => age + 1).filter fun age => age < Config.errorWindow
    silence := if l.validInPeriod then l.silence else l.silence + 1, validInPeriod := false }

/-- R8: the lane opens frame slots. -/
def Lane.hasSlots (l : Lane) : Bool :=
  match l.state, l.phase with
  | .active, _ => true
  | _, .awaitFrame _ => true
  | _, _ => false

/-- R10, R11: the end of a frame period. Only an ACTIVE lane's error window and silence count move: that those of a lane that has
left ACTIVE for OFF or ABSENT stand until its next probe is the model's own choice (log 77). -/
def State.endPeriod (lane : Fin 9) (s : State) : State :=
  let l := s.lanes[lane]
  let l1 : Lane := { l with periodEnd := l.periodEnd + Config.framePeriod }
  if l.state = .active then
    let l2 := l1.endPeriod
    let s1 := s.setLane lane l2
    if 16 ≤ l2.silence then s1.enterRecovering lane .silence else s1
  else s.setLane lane l1

/-- FRAME_PERIOD_END (R10, R11; log 77 for a lane that is not ACTIVE). -/
def execFramePeriodEnd (lane : Fin 9) (s : State) : Host.Outcome State Fault Refusal :=
  .next (s.whenUp fun s =>
    if s.lanes[lane].hasSlots && s.lanes[lane].periodEnd ≤ s.hub.now then s.endPeriod lane else s)

/-- RETRY_WINDOW_CLOSE (R12). -/
def execRetryWindowClose (lane : Fin 9) (s : State) : Host.Outcome State Fault Refusal :=
  .next (s.whenUp fun s =>
    match s.lanes[lane].retryOpened with
    | some opened =>
      if opened + Config.retryWindow ≤ s.hub.now then
        s.setLane lane { s.lanes[lane] with attempts := 0, retryOpened := none }
      else s
    | none => s)

/-! ### The lane reset lines (Table 1-2) -/

/-- Table 1-2, R4: the lane's own state and phase hold its reset line active. -/
def Lane.holdsReset (l : Lane) : Bool :=
  match l.state, l.phase with
  | .off, _ | .absent, _ => true
  | .active, _ => false
  | _, .inReset | _, .hold _ => true
  | _, _ => false

/-- R1, R2, R4, R18, R196: LANEn_RST_N is held active, that is low: during a POWER-ON reset and while RESET_N is active, and
as Table 1-2 gives by the lane's state, but for a lane with the wake scanner. -/
def State.laneResetActive (lane : Fin 9) (s : State) : Bool :=
  s.resetHeld.isSome || (s.lanes[lane].holdsReset && (s.scannerLane lane).isNone)

/-! ### LANE_CONTROL (R16, R17) -/

/-- R16: the retry window is closed and the absent reason gone. -/
def Lane.forgive (l : Lane) : Lane := { l with attempts := 0, retryOpened := none, absentReason := .none }

/-- R15: a lane record change, with a LANE record if the state changes (log 13). -/
def State.moveLane (lane : Fin 9) (l : Lane) (detail : LaneDetail) (s : State) : State :=
  if s.lanes[lane].state = l.state then s.setLane lane l else s.changeLane lane l detail

/-- R16: the actions ENABLE 0, DISABLE 1, REPROBE 2 and QUERY 3. -/
def State.laneAction (lane : Fin 9) (action : Nat) (s : State) : State :=
  let l := s.lanes[lane]
  match action with
  | 0 =>
    let l1 : Lane := { l with enabled := true }
    if l.state = .off then s.moveLane lane ({ l1 with state := .probing }.beginProbe s.hub.now) .request
    else s.setLane lane l1
  | 1 => s.moveLane lane { l.forgive with enabled := false, state := .off, phase := .idle } .request
  | 2 => s.moveLane lane ({ l.forgive with state := .probing }.beginProbe s.hub.now) .request
  | _ => s

/-- R17: the result data of LANE_CONTROL. -/
def Lane.result (l : Lane) : List Byte :=
  le8 l.state.code ++ le8 (flagBit l.enabled) ++ le8 l.absentReason.code ++ le8 l.ledLevel ++ le8 l.attempts ++
    le8 l.errorWindow.length ++ le8 l.silence ++ [0] ++ le16 (optional16 (l.identity.map BitVec.toNat)) ++ [0, 0] ++
    le32 (l.lastValid.getD 0).toNat ++ le32 l.frames.toNat ++ le32 l.errors.toNat

/-- The lane a LANE_CONTROL names, or none above 8. -/
def laneOfArgs (a : List Byte) : Option (Fin 9) := if h : u8At a 0 < 9 then some ⟨u8At a 0, h⟩ else none

/-- R16: LANE_CONTROL is refused. -/
def refuseLaneControl (a : List Byte) (s : State) : Option ResultCode :=
  match laneOfArgs a with
  | none => some .invalid
  | some lane =>
    if 3 < u8At a 1 then some .invalid
    else if u8At a 1 = 2 && s.lanes[lane].state = .off then some .state
    else none

/-- R16: LANE_CONTROL is taken. -/
def actLaneControl (slot : Fin 32) (a : List Byte) (s : State) : State :=
  match laneOfArgs a with
  | none => s
  | some lane =>
    let s1 := s.laneAction lane (u8At a 1)
    s1.mapHub fun h => h.completeRequest slot .ok s1.lanes[lane].result

/-- LANE_CONTROL (R16). -/
def execLaneControl (slot : Fin 32) (tag : Word16) (a : List Byte) (s : State) : Host.Outcome State Fault Refusal :=
  .next (s.visitSlot slot .laneControl tag a (refuseLaneControl a s) (actLaneControl slot a))

/-! ### Standby (R18) -/

/-- R18: a lane at the entry to STANDBY; an ACTIVE one hands its lane-lost notice first (State.changeLane). The wake scanner's START exchange takes the lane's next number. -/
def State.laneToStandby (lane : Fin 9) (s : State) : State :=
  let l := s.lanes[lane]
  match l.state with
  | .probing | .active | .recovering => s.changeLane lane { l.countExchange with state := .off, phase := .idle } .standby
  | _ => s

/-- R18: a lane at the exit from standby. -/
def State.laneFromStandby (lane : Fin 9) (s : State) : State :=
  let l := s.lanes[lane]
  if l.state = .off && l.enabled then s.changeLane lane ({ l with state := .probing }.beginProbe s.hub.now) .standbyExit
  else s

end Sys2Proof.Machine
end

