-- ==== Sys2Proof/Machine/Exchange.lean ====
section
/-! DEFINITION. The exchange controller (10_the_exchange_region.md): reading the registers, attach and detach, the region header, and the snapshot triplet. -/

namespace Sys2Proof.Machine

/-! ### The register window (R177) -/

/-- Table 10-2: RUN reads 1 while VALIDATING or ATTACHED. -/
def AttachState.running : AttachState → Bool
  | .validating | .attached => true
  | _ => false

/-- Table 10-2: the value CONTROL reads. -/
def Hub.controlWord (h : Hub) : Word32 :=
  BitVec.ofNat 32 (flagBit h.attach.running + 2 * h.attach.code + 16 * h.regs.reject.code + 256 * flagBit h.regs.master +
    65536 * h.regs.enables.toNat)

/-- R177, Table 10-1: a read of the register window. -/
def Hub.readRegister (offset : Nat) (h : Hub) : Word32 :=
  if offset = 0x00 then 0x4B880001
  else if offset = 0x04 then h.regs.regionLo
  else if offset = 0x08 then h.regs.regionHi
  else if offset = 0x0C then h.controlWord
  else if offset = 0x14 then h.regs.cause.setWidth 32
  else 0

/-! ### Attach (R178 to R180) -/

/-- The region header read. -/
def ReadTag.isRegionHeader : ReadTag → Bool
  | .regionHeader => true
  | _ => false

/-- R177: the region base held for the next attach. -/
def Registers.base (r : Registers) : Word64 := r.regionHi ++ r.regionLo

/-- R179: the attach is rejected. -/
def Hub.rejectAttach (reason : RejectReason) (h : Hub) : Hub :=
  let h1 : Hub := { h with attach := .rejected, regs := { h.regs with reject := reason } }
  let h2 := if reason = .readFail then h1.setFlag .fetch else h1
  h2.setFlag .region

/-- R178, R179: an attach begins. -/
def Hub.beginAttach (h : Hub) : Hub :=
  let base := h.regs.base
  let h1 : Hub :=
    { h with attach := .validating, regs := { h.regs with reject := .none }, region := { h.region with base := base } }
  if base.toNat % 4096 ≠ 0 then h1.rejectAttach .layout else h1.requestRead .regionHeader base 64 0

/-- R180: the exchange controller and the journal writer at the entry to ATTACHED. -/
def Hub.enterAttached (r : RegionHeader) (h : Hub) : Hub :=
  let h1 : Hub :=
    { h with
      performance := 0, attach := .attached
      region := { base := h.region.base, board := r.board, ring := r.ring, triplet := r.triplet, pages := r.pages }
      inFlight := [], cursor := 0, sweep := { Sweep.off with timer := some (h.now + Config.boardPeriod) }
      snapshot := { Snapshot.off with timer := some (h.now + Config.boardPeriod) }
      journal := h.journal.attached r.pages r.sealPeriod }
  Hub.beginSweep (h1.post .exchange (h1.regionAddress (r.triplet + 1536)) (le32 3))

/-- R180: the entry to ATTACHED. -/
def State.enterAttached (r : RegionHeader) (s : State) : State :=
  { s with
    hub := s.hub.enterAttached r, voice := s.voice.clearTotals, output := { s.output with clips := 0 } }

/-- R179: the region header arrives, or its read fails (none). -/
def State.headerRead (bytes : Option (List Byte)) (s : State) : State :=
  if s.hub.attach = .validating then
    match bytes with
    | none => s.mapHub (Hub.rejectAttach .readFail)
    | some bs =>
      let r := RegionHeader.parse bs
      let reason := r.reject s.hub.region.base
      if reason = .none then s.enterAttached r else s.mapHub (Hub.rejectAttach reason)
  else s

/-- HEADER_READ_ARRIVAL (R179). -/
def execHeaderReadArrival (read : Nat) (outcome : ReadOutcome) (s : State) : Host.Outcome State Fault Refusal :=
  .next (s.whenUp fun s => s.onArrival ReadTag.isRegionHeader read outcome fun _ bytes s => s.headerRead bytes)

/-! ### Detach (R181) -/

/-- R181: the exchange controller at a detach, which leaves the attach state `next`. -/
def Hub.detach (next : AttachState) (h : Hub) : Hub :=
  { h with
    attach := next, inFlight := [], sweep := .off
    snapshot := { Snapshot.off with sequence := h.snapshot.sequence, latest := h.snapshot.latest }
    sched := { h.sched with
      waiting := [], outstanding := h.sched.outstanding.map fun r => { r with discarded := true } } }

/-- R181: a detach. The journal writer goes first, so that what the other owners do is not journaled (R154, R176).
The order of the others is the model's own choice (log 66). -/
def State.detach (next : AttachState) (s : State) : State :=
  let s1 := (s.mapHub Hub.journalDetach).mapStage Stage.detach
  let s2 := (s1.mapRecorder Desk.detach).trackerDetach.mapVoice Engine.detach
  { s2 with rail := s2.rail.detach, hub := s2.hub.detach next, entry := none }

/-- R178: a validation is abandoned. A header read that still waits is withdrawn: the model's own choice (log 62). -/
def Hub.abandonValidation (h : Hub) : Hub := { h.dropReads ReadTag.isRegionHeader with attach := .detached }

/-! ### The snapshot triplet (R189, R190) -/

/-- Table 12-7: the lane bytes. -/
def Lane.snapshotByte (l : Lane) : Nat := l.state.code + 16 * l.absentReason.code + 128 * flagBit l.enabled

/-- Table 12-7: the key states, two to a byte. -/
def keyStateBytes (keys : Vector Key 88) : List Byte :=
  (List.finRange 44).flatMap fun j =>
    le8 (keys[(⟨2 * j.val, by omega⟩ : Fin 88)].state.code + 16 * keys[(⟨2 * j.val + 1, by omega⟩ : Fin 88)].state.code)

/-- Table 12-7: the picture's bytes 0 to 151, the rest being 0 (R203). -/
def State.picture (s : State) : List Byte :=
  let id := match s.player.take with
    | some t => t.takeId.toNat
    | none => 0
  le32 s.hub.snapshot.sequence.toNat ++ le32 s.hub.performance.toNat ++
    le8 s.hub.attach.code ++ le8 s.standby.cause.code ++ le8 s.standby.cause.which ++ [0] ++
    (s.lanes.toList.flatMap fun l => le8 l.snapshotByte) ++ [0, 0, 0] ++
    keyStateBytes s.keys ++
    (s.pedals.level.toList.flatMap le8) ++ le8 (flagBit s.pedals.sostenuto + 2 * flagBit s.pedals.soft) ++
    le8 s.pedals.capture.length ++
    le8 (s.voice.inPhase .sounding) ++ le8 (s.voice.inPhase .damping) ++ le8 (s.voice.inPhase .cutting) ++
    le8 s.voice.queue.length ++ [0, 0, 0] ++
    le32 s.voice.steals.toNat ++ le32 s.voice.drops.toNat ++ le32 s.voice.underruns.toNat ++
    le8 s.rail.state.code ++ le8 (positionClass s.railConfig s.rail).code ++
    le8 (optional8 (s.rail.active.map fun m => m.kind.code)) ++ le8 s.rail.slotCode ++ le8 s.rail.lastCause.code ++
    le8 (flagBit s.rail.homed) ++ [0, 0] ++
    lei32 s.rail.position ++ le32 s.rail.remaining ++
    le8 s.player.state.code ++ le8 s.player.expected.length ++ le8 s.player.loopsRemaining ++ le8 (flagBit s.player.endless) ++
    le32 id ++ le32 s.player.position.toNat ++ le32 s.player.misses.toNat ++
    le8 s.recorder.state.code ++ le8 s.recorder.blocksUsed ++ [0, 0] ++
    le32 s.recorder.eventsWritten ++ le32 s.hub.journal.sealed.toNat ++ le32 s.hub.journal.gapTotal.toNat ++
    le8 (flagBit s.jack.inserted) ++ le8 s.output.setting ++ le8 s.output.muteState ++ [0] ++
    le32 s.output.clips.toNat ++ le8 s.metronome.beat ++ [0] ++ le16 s.metronome.bar

/-- R190 step 2: the lowest-numbered buffer that is neither the LATEST copy nor the one HOLD named. -/
def chooseBuffer (latest : Option (Fin 3)) (hold : Nat) : Fin 3 :=
  ((List.finRange 3).find? fun b => some b ≠ latest && b.val ≠ hold).getD 0

/-- R190: the SNAPSHOT_NOW requests that the snapshot in progress serves complete. The spec does not order them: that they complete
in the order in which they were taken, and before the held snapshot's HOLD read is asked for, is the model's own choice
(log 70). -/
def Hub.answerSnapshot (code : ResultCode) (data : List Byte) (h : Hub) : Hub :=
  h.snapshot.serving.foldl (fun h slot => h.completeRequest slot code data) h

/-- R190 steps 3 to 5: the picture is written and published. -/
def Hub.publish (picture : List Byte) (hold : Nat) (h : Hub) : Hub :=
  let b := chooseBuffer h.snapshot.latest hold
  let h1 := h.post .exchange (h.regionAddress (h.region.triplet + 512 * b.val)) (padded 512 picture)
  let h2 := h1.post .exchange (h.regionAddress (h.region.triplet + 1536)) (le32 b.val)
  let h3 := h2.answerSnapshot .ok (le8 b.val ++ [0, 0, 0] ++ le32 h.snapshot.sequence.toNat)
  Hub.endSnapshot { h3 with snapshot := { h3.snapshot with latest := some b, sequence := h3.snapshot.sequence + 1 } }

/-- The HOLD read. -/
def ReadTag.isHold : ReadTag → Bool
  | .hold => true
  | _ => false

/-- R190: the HOLD word arrives, or its read fails (none). R189 and Table 12-3 do not say what the result data of a
SNAPSHOT_NOW that fails holds: that it is all zeros is the model's own choice (log 51). -/
def State.holdRead (bytes : Option (List Byte)) (s : State) : State :=
  match bytes with
  | some bs => s.mapHub (Hub.publish s.picture (u32At bs 0))
  | none => s.mapHub fun h => (h.answerSnapshot .failed []).endSnapshot

/-- HOLD_READ_ARRIVAL (R190). -/
def execHoldReadArrival (read : Nat) (outcome : ReadOutcome) (s : State) : Host.Outcome State Fault Refusal :=
  .next (s.whenUp fun s => s.onArrival ReadTag.isHold read outcome fun _ bytes s => s.holdRead bytes)

/-- R189: an expiry of the snapshot timer. -/
def Hub.snapshotTimer (h : Hub) : Hub :=
  match h.snapshot.timer with
  | some t =>
    if t ≤ h.now then
      Hub.snapshotDue { h with snapshot := { h.snapshot with timer := some (t + Config.boardPeriod) } }
    else h
  | none => h

/-- SNAPSHOT_TIMER_EXPIRY (R189). -/
def execSnapshotTimerExpiry (s : State) : Host.Outcome State Fault Refusal := .next (s.whenUp fun s => s.mapHub Hub.snapshotTimer)

/-- R189: SNAPSHOT_NOW is taken. -/
def actSnapshotNow (slot : Fin 32) (s : State) : State :=
  s.mapHub fun h => Hub.snapshotDue { h with snapshot := { h.snapshot with waiting := h.snapshot.waiting ++ [slot] } }

/-- SNAPSHOT_NOW (R189). -/
def execSnapshotNow (slot : Fin 32) (tag : Word16) (a : List Byte) (s : State) : Host.Outcome State Fault Refusal :=
  .next (s.visitSlot slot .snapshotNow tag a none (actSnapshotNow slot))

end Sys2Proof.Machine
end

