-- ==== Sys2Proof/Machine/StandbyControl.lean ====
section
/-! DEFINITION. The standby controller and the resets (11_standby_wake_and_start_up.md): entering standby, the wake scanner, the wake pulse, leaving standby, and the reset kinds of Table 11-2. -/

namespace Sys2Proof.Machine

/-! ### Entering standby (R194 to R196) -/

/-- R194: STANDBY_ENTER is refused. INVALID before RAIL_BUSY where both hold is the model's own choice (log 54). -/
def refuseStandbyEnter (a : List Byte) (s : State) : Option ResultCode :=
  if bitOf (u8At a 0) 0 && (50 < u8At a 1 || u8At a 2 < 1 || 20 < u8At a 2) then some .invalid
  else if !s.rail.state.still then some .railBusy
  else none

/-- R196: the lanes handed to the scanner: key lanes that were ACTIVE. No rule gives the sequence number that the scanner expects
first: it starts at none, so that the first frame with a good CRC is valid whatever its number, the model's own choice (log 75). -/
def State.scannerAtEntry (s : State) : Vector (Option ScannerLane) 8 :=
  Vector.ofFn fun lane : Fin 8 =>
    let l := s.keyLane lane
    if l.state = .active then
      some { exchange := some (l.firstAttempt .startLowRate s.hub.now), expected := none, last := none }
    else none

/-- R196: the wake thresholds: the unmasked keys of the lanes handed to the scanner. -/
def State.thresholdsAtEntry (s : State) : Vector (Option WakeThreshold) 88 :=
  Vector.ofFn fun k : Fin 88 =>
    let c := s.calibration[k]
    if (s.keyLane (laneOf k)).state = .active && !s.keys[k].masked then
      some { rest := c.keyRest, bottom := c.keyBottom, press := c.press }
    else none

/-- R18, R196: the entry to STANDBY, once the part has detached. -/
def State.enterStandby (s : State) : State :=
  let record : Standby :=
    { s.standby with
      thresholds := s.thresholdsAtEntry, scanner := s.scannerAtEntry, pulse := .idle, lastPulse := none, cause := .none }
  let s1 := (List.finRange 9).foldl (fun s lane => s.laneToStandby lane) s
  { s1 with
    standby := record, output := { s1.output with standby := true }, metronome := { s1.metronome with click := none }
    rail := { s1.rail with drvEn := false, drvSettled := false, seatedPending := none } }.mapDeck id

/-- R195 steps 5 to 7: the request completes, the part detaches and enters STANDBY. -/
def State.completeEntry (slot : Fin 32) (s : State) : State :=
  let s1 := s.mapHub fun h => h.completeRequest slot .ok (le8 s.standby.delay ++ le8 s.standby.width)
  (s1.detach .standby).enterStandby

/-- R195 steps 3 and 4: the voices are cut and the journal writer seals. -/
def State.silence (s : State) : State := (s.mapVoice (Engine.cutSources 3)).mapHub fun h => h.flush.1

/-- R195 steps 1 to 4, as far as they can be taken at once: a closing in progress is awaited (log 30). -/
def State.beginEntry (slot : Fin 32) (s : State) : State :=
  let s1 := (s.mapStage Stage.stop).mapRecorder Desk.closeForStandby
  if s1.recorder.state = .closing then { s1 with entry := some (slot, .recorderClose) }
  else { s1.silence with entry := some (slot, .journalSeal) }

/-- R194: the two codes are stored with the apply flag set. -/
def Standby.configure (a : List Byte) (b : Standby) : Standby :=
  if bitOf (u8At a 0) 0 then { b with delay := u8At a 1, width := u8At a 2 } else b

/-- R194, R195: STANDBY_ENTER is taken. -/
def actStandbyEnter (slot : Fin 32) (a : List Byte) (s : State) : State :=
  State.beginEntry slot { s with standby := s.standby.configure a }

/-- STANDBY_ENTER (R194). -/
def execStandbyEnter (slot : Fin 32) (tag : Word16) (a : List Byte) (s : State) : Host.Outcome State Fault Refusal :=
  .next (s.visitSlot slot .standbyEnter tag a (refuseStandbyEnter a s) (actStandbyEnter slot a))

/-- R195: the entry proceeds when what it awaits is done. -/
def State.shutdownStep (s : State) : State :=
  match s.entry with
  | some (slot, .recorderClose) => if s.recorder.state = .closing then s else s.silence.completeEntry slot
  | some (slot, .journalSeal) => s.completeEntry slot
  | none => s

/-- STANDBY_SHUTDOWN_STEP (R195). -/
def execStandbyShutdownStep (s : State) : Host.Outcome State Fault Refusal := .next (s.whenUp State.shutdownStep)

/-! ### The wake scanner and the pulse (R196, R197) -/

/-- R196: the depth of a raw key reading under a wake threshold. -/
def WakeThreshold.depth (raw : Nat) (t : WakeThreshold) : Nat := scaleReading raw t.rest t.bottom 1000

/-- R196: a key has reached PRESS. -/
def WakeThreshold.reached (last raw : Nat) (t : WakeThreshold) : Bool :=
  t.depth last < t.press && t.press ≤ t.depth raw

/-- R196: the wake events of a valid frame after the first, in ascending key order. -/
def Standby.scanKeys (now : Nat) (lane : Fin 8) (last readings : List Nat) (b : Standby) : Standby :=
  (List.finRange 11).foldl (fun (b : Standby) j =>
    match b.thresholds[laneKey lane j] with
    | some t =>
      if t.reached (last.getD j.val 0) (readings.getD j.val 0) then b.wakeEvent now (.key (laneKey lane j)) else b
    | none => b) b

/-- R18, R196: a frame error of a lane with the scanner. -/
def State.scanError (lane : Fin 8) (r : ScannerLane) (expected : Option (BitVec 4)) (s : State) : State :=
  let l := s.keyLane lane
  let s1 : State := { s with standby := { s.standby with scanner := s.standby.scanner.set lane (some { r with expected }) } }
  if s.mainUp then s1.setLane lane.castSucc { l with errors := l.errors + 1 } else s1

/-- R196: a frame of a lane with the scanner. -/
def State.scanFrame (lane : Fin 8) (r : ScannerLane) (f : Frame) (crcGood : Bool) (s : State) : State :=
  if !crcGood then s.scanError lane r (r.expected.map fun e => e + 1)
  else if r.expected.any fun e => e ≠ f.sequence then s.scanError lane r (some (f.sequence + 1))
  else
    let b := match r.last with
      | some last => s.standby.scanKeys s.hub.now lane last f.readings
      | none => s.standby
    let record : ScannerLane := { exchange := none, expected := some (f.sequence + 1), last := some f.readings }
    { s with standby := { b with scanner := b.scanner.set lane (some record) } }

/-- WAKE_SCAN_FRAME (R196): a frame is seen once the START write has succeeded. -/
def execWakeScanFrame (lane : Fin 8) (bytes : List Byte) (s : State) : Host.Outcome State Fault Refusal :=
  .next <|
    match s.standby.scanner[lane], parseFrame 11 bytes with
    | some r, some (f, crcGood) => if r.exchange.isNone then s.scanFrame lane r f crcGood else s
    | _, _ => s

/-- R197: a pulse begins. -/
def State.beginPulse (s : State) : State :=
  { s with
    standby := { s.standby with pulse := .pulsing (s.hub.now + s.standby.width * 20000), lastPulse := some s.hub.now }
    hub := { s.hub with attach := if s.hub.attach = .standby then .woken else s.hub.attach } }

/-- WAKE_DELAY_EXPIRY (R197). -/
def execWakeDelayExpiry (s : State) : Host.Outcome State Fault Refusal :=
  .next <|
    match s.standby.pulse with
    | .delay due => if due ≤ s.hub.now then s.beginPulse else s
    | _ => s

/-- WAKE_PULSE_END (R197). -/
def execWakePulseEnd (s : State) : Host.Outcome State Fault Refusal :=
  .next <|
    match s.standby.pulse with
    | .pulsing until_ => if until_ ≤ s.hub.now then { s with standby := { s.standby with pulse := .idle } } else s
    | _ => s

/-- Table 0-1, R197: WAKE_N is high outside a pulse. -/
def Standby.wakeHigh (b : Standby) : Bool :=
  match b.pulse with
  | .pulsing _ => false
  | _ => true

/-! ### Leaving standby (R198) -/

/-- R198: the scanner and the pulse timer at every end of a standby. -/
def Standby.leave (b : Standby) : Standby := { b with thresholds := noThresholds, scanner := noScanner, pulse := .idle }

/-- R198: the exit by RUN 1 or a PORT reset; the attach state is left DETACHED for what follows. -/
def State.leaveStandby (s : State) : State :=
  let s1 : State :=
    { s with
      hub := { s.hub with attach := .detached }, standby := s.standby.leave
      output := { s.output with standby := false }
      rail := { s.rail with seated := s.pins.seated, seatedPending := none } }
  let s2 := (List.finRange 9).foldl (fun s lane => s.laneFromStandby lane) s1
  let s3 := s2.mapDeck id
  if s3.metronome.settings.on then
    s3.mapMetronome (Beater.switchOn s3.voice.sampleClock.toNat s3.player.position)
  else s3

/-! ### Resets (Table 11-2, R199) -/

/-- The hub after a POWER-ON or MAIN reset. The model's own counts and what the part has already written stay; no read is
outstanding, and the numbers of reads go on (log 34). -/
def Hub.mainReset (h : Hub) : Hub :=
  { Hub.reset with
    now := h.now, posted := h.posted, msiDue := h.msiDue, msiSent := h.msiSent
    sched := { waiting := [], outstanding := [], nextReadId := h.sched.nextReadId } }

/-- R1: a lane record at a POWER-ON or MAIN reset. The numbers of management exchanges, which are the model's own, go on, so
that no reply to an exchange from before the reset is taken (R3, log 34). -/
def Lane.mainReset (l : Lane) : Lane := { Lane.reset with exchangeNumber := l.exchangeNumber }

/-- Table 11-2: every main-domain field at its initial value, the standby domain as it stood, the lanes held in reset (R1), the
I2S outputs held low (R88) and the lamp unlit (R125). -/
def State.mainDomainReset (kind : ResetKind) (s : State) : State :=
  { State.reset with
    pending := s.pending, resetHeld := some kind, pins := s.pins, hub := s.hub.mainReset
    lanes := Vector.ofFn fun i : Fin 9 => s.lanes[i].mainReset, output := Output.reset
    lamp := { shown := .off, since := s.hub.now, brightness := 0 }
    railConfig := s.railConfig, switches := s.switches, standby := s.standby }

/-- R98, R127: the rail after a MAIN reset; its homed flag and index phase are lost if it was issuing steps. -/
def Rail.mainReset (r : Rail) : Rail :=
  let lost := r.motion.isSome
  let homed := r.homed && !lost
  { Rail.reset with
    state := if homed then .idle else .unknown, position := r.position, homed := homed
    indexPhase := if lost then none else r.indexPhase, awaitOut := if lost then none else r.awaitOut
    awaitIn := if lost then none else r.awaitIn }

/-- R193, Table 11-2: the POWER-ON reset. -/
def State.powerOn (s : State) : State :=
  { s.mainDomainReset .powerOn with
    railConfig := .default, switches := Vector.replicate 2 (.reset true), standby := .reset }

/-- POWER_ON_RESET (R193). -/
def execPowerOnReset (s : State) : Host.Outcome State Fault Refusal := .next s.powerOn

/-- R199, Table 11-2: the MAIN reset. -/
def State.mainReset (s : State) : State :=
  { s.mainDomainReset .main with rail := s.rail.mainReset, standby := s.standby.leave }

/-- MAIN_RESET (R199): a POWER-ON reset in progress goes on (log 34). -/
def execMainReset (s : State) : Host.Outcome State Fault Refusal :=
  .next (if s.resetHeld = some .powerOn then s else s.mainReset)

/-- R53: an input stage at the end of a reset, its input at the level given: after a POWER-ON reset the level is accepted;
after a MAIN reset the stage goes on. A level unlike the one last told then begins a pending change at the reset's end, which with
a debounce time of 0 too is left to its expiry row: the model's own choice (log 55). -/
def SwitchStage.afterReset (kind : ResetKind) (high : Bool) (now : Nat) (g : SwitchStage) : SwitchStage :=
  match kind with
  | .powerOn => { g with high := high, pendingSince := none }
  | .main =>
    { g with pendingSince := if high = g.high then none else some (g.pendingSince.getD now) }

/-- R1, R53, R56, R88, R98, R127: the reset ends. The LANE records of R15 would find the journal writer OFF (R167). -/
def State.endReset (kind : ResetKind) (inputs : Pins) (s : State) : State :=
  let now := s.hub.now
  let s1 : State :=
    { s with
      resetHeld := none, pins := inputs
      lanes := Vector.ofFn fun i : Fin 9 => s.lanes[i].beginProbe now
      switches := Vector.ofFn fun i : Fin 2 => s.switches[i].afterReset kind (switchLevel i inputs) now
      jack := { inserted := false, pendingSince := if inputs.jackLow then some now else none }
      output := { s.output with i2sSince := some now }, rail := { s.rail with seated := inputs.seated } }
  s1.mapDeck id

/-- MAIN_RESET_END (R1). -/
def execMainResetEnd (inputs : Pins) (s : State) : Host.Outcome State Fault Refusal :=
  .next <|
    match s.resetHeld with
    | some kind => s.endReset kind inputs
    | none => s

/-- VMAIN_REMOVED (R199): the main domain stops; the standby domain goes on. -/
def execVmainRemoved (s : State) : Host.Outcome State Fault Refusal := .next { s with mainOn := false }

end Sys2Proof.Machine
end

