-- ==== Sys2Proof/Machine/Board.lean ====
section
/-! DEFINITION. The register writes, the PORT reset, the board sweep and the read timeouts of the exchange controller (10_the_exchange_region.md): the commands that reach every block. -/

namespace Sys2Proof.Machine

/-! ### Register writes (R177, R178, R186 to R188) -/

/-- R178, R198: RUN written 1. -/
def State.runOne (s : State) : State :=
  match s.hub.attach with
  | .detached | .rejected => s.mapHub Hub.beginAttach
  | .standby => s.leaveStandby.mapHub Hub.beginAttach
  | .woken => s.leaveStandby.mapHub fun h => (h.setFlag .wake).beginAttach
  | .validating | .attached => s

/-- R178: RUN written 0. -/
def State.runZero (s : State) : State :=
  match s.hub.attach with
  | .validating => s.mapHub Hub.abandonValidation
  | .attached => s.detach .detached
  | _ => s

/-- R178, R188: a write to CONTROL: the enables, then RUN (log 10). -/
def State.writeControl (value : Word32) (run : Bool) (s : State) : State :=
  let s1 := s.mapHub (Hub.writeEnables value)
  if run then s1.runOne else s1.runZero

/-- R183, R194: a board sweep falls due; none does during a standby entry. -/
def State.sweepDue (s : State) : State := if s.entry.isSome then s else s.mapHub Hub.sweepDue

/-- R173, R186: NOTIFY PAGES. -/
def State.notifyPages (s : State) : State :=
  if s.hub.attach = .attached then s.mapHub Hub.rereadPage else s

/-- R186: a write to NOTIFY. -/
def State.notify (board pages : Bool) (s : State) : State :=
  let s1 := if board then s.sweepDue else s
  if pages then s1.notifyPages else s1

/-- R177: a write to the register window. -/
def State.writeRegister (offset : Nat) (value : Word32) (s : State) : State :=
  if offset = 0x04 then s.mapHub fun h => { h with regs := { h.regs with regionLo := value } }
  else if offset = 0x08 then s.mapHub fun h => { h with regs := { h.regs with regionHi := value } }
  else if offset = 0x0C then s.writeControl value (value.getLsbD 0)
  else if offset = 0x10 then s.notify (value.getLsbD 0) (value.getLsbD 1)
  else if offset = 0x14 then s.mapHub (Hub.clearCause value)
  else s

/-- REGISTER_WRITE (R177): a write to the offset of a row of its own acts as that row (log 10). -/
def execRegisterWrite (offset : Nat) (value : Word32) (s : State) : Host.Outcome State Fault Refusal :=
  .next (s.whenUp (State.writeRegister offset value))

/-- RUN_SET (R178). -/
def execRunSet (value : Word32) (s : State) : Host.Outcome State Fault Refusal := .next (s.whenUp (State.writeControl value true))

/-- RUN_CLEAR (R178). -/
def execRunClear (value : Word32) (s : State) : Host.Outcome State Fault Refusal := .next (s.whenUp (State.writeControl value false))

/-- CONTROL_ENABLE_WRITE (R188): the enables of a CONTROL write, RUN as it reads (log 10). -/
def execControlEnableWrite (value : Word32) (s : State) : Host.Outcome State Fault Refusal :=
  .next (s.whenUp fun s => s.mapHub (Hub.writeEnables value))

/-- NOTIFY_BOARD (R186). -/
def execNotifyBoard (s : State) : Host.Outcome State Fault Refusal := .next (s.whenUp (State.notify true false))

/-- NOTIFY_PAGES (R186). -/
def execNotifyPages (s : State) : Host.Outcome State Fault Refusal := .next (s.whenUp (State.notify false true))

/-- CAUSE_CLEAR (R187). -/
def execCauseClear (value : Word32) (s : State) : Host.Outcome State Fault Refusal :=
  .next (s.whenUp fun s => s.mapHub (Hub.clearCause value))

/-- R178, R181, R198: the attach state after a PORT reset's own work, before the registers are reset. -/
def State.portLeave (s : State) : State :=
  match s.hub.attach with
  | .attached => s.detach .detached
  | .standby | .woken => s.leaveStandby
  | .validating => s.mapHub Hub.abandonValidation
  | .detached | .rejected => s.mapHub fun h => { h with attach := .detached }

/-- PORT_RESET (R178). -/
def execPortReset (s : State) : Host.Outcome State Fault Refusal :=
  .next (s.whenUp fun s => s.portLeave.mapHub fun h => h.setRegisters .reset)

/-! ### The owners of the requests (Table 12-3) -/

/-- R184: the owner's refusal of a request. -/
def refuseRequest (kind : RequestKind) (a : List Byte) (s : State) : Option ResultCode :=
  match kind with
  | .laneControl => refuseLaneControl a s
  | .senseConfig => refuseSenseConfig a
  | .calibrateKeys => refuseCalibrateKeys a s
  | .calibAbort => refuseCalibAbort s
  | .tableLoad => refuseTableLoad a s
  | .pedalConfig => refusePedalConfig a
  | .voiceConfig => refuseVoiceConfig a
  | .voiceCut => refuseVoiceCut a
  | .outputConfig => refuseOutputConfig a
  | .metronome => refuseMetronome a
  | .railConfig => refuseRailConfig a s
  | .railMove => refuseRailMove a s
  | .railClear => refuseRailClear s
  | .railSettle => refuseRailSlot s
  | .railUnsettle => refuseRailSlot s
  | .playStart => refusePlayStart a s
  | .playNext => refusePlayNext a s
  | .playSettle => refuseNextSlot s
  | .playUnsettle => refuseNextSlot s
  | .playTempo => refusePlayTempo a s
  | .playParts => refusePlayParts a s
  | .playSeek => refusePlaySeek a s
  | .playPause => refusePauseResume s
  | .playResume => refusePauseResume s
  | .recordStart => refuseRecordStart a s
  | .recordStop => refuseRecordStop s
  | .recordMark => refuseRecordMark a s
  | .standbyEnter => refuseStandbyEnter a s
  | .railQuery | .railStop | .railHalt | .playStop | .journalFlush | .snapshotNow => none

/-- R184: what the owner does with a request it takes. -/
def actRequest (kind : RequestKind) (slot : Fin 32) (a : List Byte) (s : State) : State :=
  match kind with
  | .laneControl => actLaneControl slot a s
  | .senseConfig => actSenseConfig slot a s
  | .calibrateKeys => actCalibrateKeys slot a s
  | .calibAbort => actCalibAbort slot s
  | .tableLoad => actTableLoad slot a s
  | .pedalConfig => actPedalConfig slot a s
  | .voiceConfig => actVoiceConfig slot a s
  | .voiceCut => actVoiceCut slot a s
  | .outputConfig => actOutputConfig slot a s
  | .metronome => actMetronome slot a s
  | .railConfig => actRailConfig slot a s
  | .railQuery => actRailQuery slot s
  | .railMove => actRailMove slot a s
  | .railStop => actRailStop slot a s
  | .railHalt => actRailHalt slot a s
  | .railClear => actRailClear slot s
  | .railSettle => actRailSettle slot s
  | .railUnsettle => actRailUnsettle slot s
  | .playStart => actPlayStart slot a s
  | .playNext => actPlayNext slot a s
  | .playSettle => actPlaySettle slot s
  | .playUnsettle => actPlayUnsettle slot s
  | .playTempo => actPlayTempo slot a s
  | .playParts => actPlayParts slot a s
  | .playSeek => actPlaySeek slot a s
  | .playPause => actPlayPause slot s
  | .playResume => actPlayResume slot s
  | .playStop => actPlayStop slot a s
  | .recordStart => actRecordStart slot a s
  | .recordStop => actRecordStop slot s
  | .recordMark => actRecordMark slot a s
  | .journalFlush => actJournalFlush slot s
  | .snapshotNow => actSnapshotNow slot s
  | .standbyEnter => actStandbyEnter slot a s

/-! ### The board sweep (R183, R184) -/

/-- R184: a POSTED slot of the board copy is visited: its kind code, tag and arguments. -/
def State.visitCode (slot : Fin 32) (code : Nat) (tag : Word16) (a : List Byte) (s : State) : State :=
  match RequestKind.ofCode code with
  | some kind => s.visitSlot slot kind tag a (refuseRequest kind a s) (actRequest kind slot a)
  | none => s.visitSlot slot .laneControl tag a (some .unknownKind) id

/-- R184: the slots are visited in the order given, until the visit ends: at a POSTED slot with eight requests in flight, where
the cursor stays, or after a STANDBY_ENTER (R194). -/
def State.visitSlots (copy : List Byte) : List (Fin 32) → State → State
  | [], s => s
  | slot :: rest, s =>
    let at_ := 64 * slot.val
    let due := u8At copy at_ = 1 && !s.hub.holdsSlot slot
    if s.entry.isSome then s
    else if due then
      let s1 := s.visitCode slot (u8At copy (at_ + 1)) (BitVec.ofNat 16 (u16At copy (at_ + 2))) (slice copy (at_ + 8) 24)
      if Config.maxInFlight ≤ s.hub.inFlight.length then s1 else visitSlots copy rest s1
    else visitSlots copy rest s

/-- R184: the cyclic order of a round from the board cursor. -/
def cyclicSlots (cursor : Fin 32) : List (Fin 32) := (List.finRange 32).map fun j => cursor + j

/-- R183: the sweep has ended; a held one begins. -/
def State.endSweep (s : State) : State :=
  let s1 := s.mapHub fun h => { h with sweep := { h.sweep with parts := none, held := false } }
  if s.hub.sweep.held then s1.sweepDue else s1

/-- The board reads. -/
def ReadTag.isBoard : ReadTag → Bool
  | .board _ => true
  | _ => false

/-- R183: a board read arrives, or fails (none): then the copy's other reads that still wait are withdrawn, and those issued
are discarded, which is the model's own choice (log 62). -/
def State.boardRead (tag : ReadTag) (bytes : Option (List Byte)) (s : State) : State :=
  match tag, s.hub.sweep.parts with
  | .board part, some parts =>
    match bytes with
    | none => (s.mapHub fun h => h.dropReads ReadTag.isBoard).endSweep
    | some bs =>
      let chunks := putChunk parts part.val bs
      match allChunks chunks with
      | none => s.mapHub fun h => { h with sweep := { h.sweep with parts := some chunks } }
      | some copy => (s.visitSlots copy (cyclicSlots s.hub.cursor)).endSweep
  | _, _ => s

/-- BOARD_READ_ARRIVAL (R183, R184). -/
def execBoardReadArrival (read : Nat) (outcome : ReadOutcome) (s : State) : Host.Outcome State Fault Refusal :=
  .next (s.whenUp fun s => s.onArrival ReadTag.isBoard read outcome State.boardRead)

/-- R183: an expiry of the sweep timer. -/
def State.sweepTimer (s : State) : State :=
  match s.hub.sweep.timer with
  | some t =>
    if t ≤ s.hub.now then
      (s.mapHub fun h => { h with sweep := { h.sweep with timer := some (t + Config.boardPeriod) } }).sweepDue
    else s
  | none => s

/-- SWEEP_TIMER_EXPIRY (R183). -/
def execSweepTimerExpiry (s : State) : Host.Outcome State Fault Refusal := .next (s.whenUp State.sweepTimer)

/-! ### Read timeouts (R192) -/

/-- R192: a failed read is told to its requester. -/
def State.readFailed (tag : ReadTag) (s : State) : State :=
  match tag with
  | .voice .. => s.mapVoice (Engine.voiceRead tag none)
  | .block b part => s.mapStage (Stage.blockRead b part.val none)
  | .table _ => s.tableRead tag none
  | .keymap _ => s.mapVoice (Engine.keymapRead tag none)
  | .list => s.mapRecorder (Desk.listRead s.pedals.emitted none)
  | .board _ => s.boardRead tag none
  | .pageHeader => s.mapHub (Hub.pageHeaderRead none)
  | .hold => s.holdRead none
  | .regionHeader => s.headerRead none

/-- READ_TIMEOUT (R192). -/
def execReadTimeout (read : Nat) (s : State) : Host.Outcome State Fault Refusal :=
  .next (s.whenUp fun s =>
    match s.hub.timedOut read with
    | (hub, some tag) => State.readFailed tag { s with hub := hub }
    | (hub, none) => { s with hub := hub })

end Sys2Proof.Machine
end

