-- ==== Sys2Proof/Machine/Dispatch.lean ====
section
/-! DEFINITION. The meaning of every command: one arm per constructor of Instr, each one direct call of that command's own meaning. -/

namespace Sys2Proof.Machine

/-- The effect of the command `i` on everything but the queue of waiting commands. -/
def exec (i : Instr) (s : State) : Host.Outcome State Fault Refusal :=
  match i with
  | .powerOnReset => Sys2Proof.Machine.execPowerOnReset s
  | .mainReset => Sys2Proof.Machine.execMainReset s
  | .vmainRemoved => Sys2Proof.Machine.execVmainRemoved s
  | .portReset => Sys2Proof.Machine.execPortReset s
  | .resetHoldEnd lane => Sys2Proof.Machine.execResetHoldEnd lane s
  | .managementReply lane exchange content body crc => Sys2Proof.Machine.execManagementReply lane exchange content body crc s
  | .exchangeTimeout lane => Sys2Proof.Machine.execExchangeTimeout lane s
  | .statusPoll lane => Sys2Proof.Machine.execStatusPoll lane s
  | .firstFrameTimeout lane => Sys2Proof.Machine.execFirstFrameTimeout lane s
  | .laneFrame lane bytes => Sys2Proof.Machine.execLaneFrame lane bytes s
  | .framePeriodEnd lane => Sys2Proof.Machine.execFramePeriodEnd lane s
  | .retryWindowClose lane => Sys2Proof.Machine.execRetryWindowClose lane s
  | .laneControl slot tag args => Sys2Proof.Machine.execLaneControl slot tag args s
  | .senseConfig slot tag args => Sys2Proof.Machine.execSenseConfig slot tag args s
  | .calibrateKeys slot tag args => Sys2Proof.Machine.execCalibrateKeys slot tag args s
  | .calibWindowEnd => Sys2Proof.Machine.execCalibWindowEnd s
  | .calibAbort slot tag args => Sys2Proof.Machine.execCalibAbort slot tag args s
  | .tableLoad slot tag args => Sys2Proof.Machine.execTableLoad slot tag args s
  | .tableReadArrival read outcome => Sys2Proof.Machine.execTableReadArrival read outcome s
  | .footswitchInputChange sw high => Sys2Proof.Machine.execFootswitchInputChange sw high s
  | .footswitchDebounceExpiry sw => Sys2Proof.Machine.execFootswitchDebounceExpiry sw s
  | .jackInputChange low => Sys2Proof.Machine.execJackInputChange low s
  | .jackDebounceExpiry => Sys2Proof.Machine.execJackDebounceExpiry s
  | .pedalConfig slot tag args => Sys2Proof.Machine.execPedalConfig slot tag args s
  | .keymapReadArrival read outcome => Sys2Proof.Machine.execKeymapReadArrival read outcome s
  | .voiceConfig slot tag args => Sys2Proof.Machine.execVoiceConfig slot tag args s
  | .voiceCut slot tag args => Sys2Proof.Machine.execVoiceCut slot tag args s
  | .outputSamplePeriod => Sys2Proof.Machine.execOutputSamplePeriod s
  | .cutFadeEnd voice => Sys2Proof.Machine.execCutFadeEnd voice s
  | .voiceReadArrival read outcome => Sys2Proof.Machine.execVoiceReadArrival read outcome s
  | .outputConfig slot tag args => Sys2Proof.Machine.execOutputConfig slot tag args s
  | .metronome slot tag args => Sys2Proof.Machine.execMetronome slot tag args s
  | .freeBeatDue => Sys2Proof.Machine.execFreeBeatDue s
  | .followBeatDue => Sys2Proof.Machine.execFollowBeatDue s
  | .clickEnd => Sys2Proof.Machine.execClickEnd s
  | .railConfig slot tag args => Sys2Proof.Machine.execRailConfig slot tag args s
  | .railQuery slot tag args => Sys2Proof.Machine.execRailQuery slot tag args s
  | .railMove slot tag args => Sys2Proof.Machine.execRailMove slot tag args s
  | .drvEnSettle => Sys2Proof.Machine.execDrvEnSettle s
  | .stepPulse limitNear limitFar => Sys2Proof.Machine.execStepPulse limitNear limitFar s
  | .quietHoldReached => Sys2Proof.Machine.execQuietHoldReached s
  | .gateTimeout => Sys2Proof.Machine.execGateTimeout s
  | .pauseTimeout => Sys2Proof.Machine.execPauseTimeout s
  | .seatedInputChange active => Sys2Proof.Machine.execSeatedInputChange active s
  | .seatedFilterExpiry => Sys2Proof.Machine.execSeatedFilterExpiry s
  | .seatTimeout => Sys2Proof.Machine.execSeatTimeout s
  | .homeSensorChange active => Sys2Proof.Machine.execHomeSensorChange active s
  | .indexPulse => Sys2Proof.Machine.execIndexPulse s
  | .driverFault active => Sys2Proof.Machine.execDriverFault active s
  | .railStop slot tag args => Sys2Proof.Machine.execRailStop slot tag args s
  | .railHalt slot tag args => Sys2Proof.Machine.execRailHalt slot tag args s
  | .railClear slot tag args => Sys2Proof.Machine.execRailClear slot tag args s
  | .railSettle slot tag args => Sys2Proof.Machine.execRailSettle slot tag args s
  | .railUnsettle slot tag args => Sys2Proof.Machine.execRailUnsettle slot tag args s
  | .lampPhaseTick => Sys2Proof.Machine.execLampPhaseTick s
  | .playStart slot tag args => Sys2Proof.Machine.execPlayStart slot tag args s
  | .blockReadArrival read outcome => Sys2Proof.Machine.execBlockReadArrival read outcome s
  | .scoreGroupDue => Sys2Proof.Machine.execScoreGroupDue s
  | .waitTimeout => Sys2Proof.Machine.execWaitTimeout s
  | .playNext slot tag args => Sys2Proof.Machine.execPlayNext slot tag args s
  | .playSettle slot tag args => Sys2Proof.Machine.execPlaySettle slot tag args s
  | .playUnsettle slot tag args => Sys2Proof.Machine.execPlayUnsettle slot tag args s
  | .playTempo slot tag args => Sys2Proof.Machine.execPlayTempo slot tag args s
  | .playParts slot tag args => Sys2Proof.Machine.execPlayParts slot tag args s
  | .playSeek slot tag args => Sys2Proof.Machine.execPlaySeek slot tag args s
  | .playPause slot tag args => Sys2Proof.Machine.execPlayPause slot tag args s
  | .playResume slot tag args => Sys2Proof.Machine.execPlayResume slot tag args s
  | .playStop slot tag args => Sys2Proof.Machine.execPlayStop slot tag args s
  | .recordStart slot tag args => Sys2Proof.Machine.execRecordStart slot tag args s
  | .listReadArrival read outcome => Sys2Proof.Machine.execListReadArrival read outcome s
  | .takeClockTick => Sys2Proof.Machine.execTakeClockTick s
  | .recordMark slot tag args => Sys2Proof.Machine.execRecordMark slot tag args s
  | .recordStop slot tag args => Sys2Proof.Machine.execRecordStop slot tag args s
  | .pageHeaderReadArrival read outcome => Sys2Proof.Machine.execPageHeaderReadArrival read outcome s
  | .sealPeriodExpiry => Sys2Proof.Machine.execSealPeriodExpiry s
  | .waitRereadExpiry => Sys2Proof.Machine.execWaitRereadExpiry s
  | .journalFlush slot tag args => Sys2Proof.Machine.execJournalFlush slot tag args s
  | .registerWrite offset value => Sys2Proof.Machine.execRegisterWrite offset value s
  | .runSet value => Sys2Proof.Machine.execRunSet value s
  | .runClear value => Sys2Proof.Machine.execRunClear value s
  | .controlEnableWrite value => Sys2Proof.Machine.execControlEnableWrite value s
  | .notifyBoard => Sys2Proof.Machine.execNotifyBoard s
  | .notifyPages => Sys2Proof.Machine.execNotifyPages s
  | .causeClear value => Sys2Proof.Machine.execCauseClear value s
  | .headerReadArrival read outcome => Sys2Proof.Machine.execHeaderReadArrival read outcome s
  | .sweepTimerExpiry => Sys2Proof.Machine.execSweepTimerExpiry s
  | .boardReadArrival read outcome => Sys2Proof.Machine.execBoardReadArrival read outcome s
  | .snapshotTimerExpiry => Sys2Proof.Machine.execSnapshotTimerExpiry s
  | .snapshotNow slot tag args => Sys2Proof.Machine.execSnapshotNow slot tag args s
  | .holdReadArrival read outcome => Sys2Proof.Machine.execHoldReadArrival read outcome s
  | .readTimeout read => Sys2Proof.Machine.execReadTimeout read s
  | .standbyEnter slot tag args => Sys2Proof.Machine.execStandbyEnter slot tag args s
  | .standbyShutdownStep => Sys2Proof.Machine.execStandbyShutdownStep s
  | .wakeScanFrame lane bytes => Sys2Proof.Machine.execWakeScanFrame lane bytes s
  | .wakeDelayExpiry => Sys2Proof.Machine.execWakeDelayExpiry s
  | .wakePulseEnd => Sys2Proof.Machine.execWakePulseEnd s
  | .mainResetEnd inputs => Sys2Proof.Machine.execMainResetEnd inputs s

end Sys2Proof.Machine
end

