-- ==== Sys2Proof/Safety.lean ====
section
/-! DEFINITION. What the statements about the machine speak of: the request that a command carries, when a sweep can take it and what its answer writes; the pieces of State that each command may change; and the invariants that every step keeps. -/

namespace Sys2Proof.Machine

/-! ### Requests -/

/-- R182: what a request row carries. -/
structure Request where
  slot : Fin 32
  kind : RequestKind
  tag : Word16
  args : List Byte

/-- The request that a command carries, for the 34 request rows (Table 12-3). -/
def requestOf : Instr → Option Request
  | .laneControl slot tag args => some { slot, kind := .laneControl, tag, args }
  | .senseConfig slot tag args => some { slot, kind := .senseConfig, tag, args }
  | .calibrateKeys slot tag args => some { slot, kind := .calibrateKeys, tag, args }
  | .calibAbort slot tag args => some { slot, kind := .calibAbort, tag, args }
  | .tableLoad slot tag args => some { slot, kind := .tableLoad, tag, args }
  | .pedalConfig slot tag args => some { slot, kind := .pedalConfig, tag, args }
  | .voiceConfig slot tag args => some { slot, kind := .voiceConfig, tag, args }
  | .voiceCut slot tag args => some { slot, kind := .voiceCut, tag, args }
  | .outputConfig slot tag args => some { slot, kind := .outputConfig, tag, args }
  | .metronome slot tag args => some { slot, kind := .metronome, tag, args }
  | .railConfig slot tag args => some { slot, kind := .railConfig, tag, args }
  | .railQuery slot tag args => some { slot, kind := .railQuery, tag, args }
  | .railMove slot tag args => some { slot, kind := .railMove, tag, args }
  | .railStop slot tag args => some { slot, kind := .railStop, tag, args }
  | .railHalt slot tag args => some { slot, kind := .railHalt, tag, args }
  | .railClear slot tag args => some { slot, kind := .railClear, tag, args }
  | .railSettle slot tag args => some { slot, kind := .railSettle, tag, args }
  | .railUnsettle slot tag args => some { slot, kind := .railUnsettle, tag, args }
  | .playStart slot tag args => some { slot, kind := .playStart, tag, args }
  | .playNext slot tag args => some { slot, kind := .playNext, tag, args }
  | .playSettle slot tag args => some { slot, kind := .playSettle, tag, args }
  | .playUnsettle slot tag args => some { slot, kind := .playUnsettle, tag, args }
  | .playTempo slot tag args => some { slot, kind := .playTempo, tag, args }
  | .playParts slot tag args => some { slot, kind := .playParts, tag, args }
  | .playSeek slot tag args => some { slot, kind := .playSeek, tag, args }
  | .playPause slot tag args => some { slot, kind := .playPause, tag, args }
  | .playResume slot tag args => some { slot, kind := .playResume, tag, args }
  | .playStop slot tag args => some { slot, kind := .playStop, tag, args }
  | .recordStart slot tag args => some { slot, kind := .recordStart, tag, args }
  | .recordStop slot tag args => some { slot, kind := .recordStop, tag, args }
  | .recordMark slot tag args => some { slot, kind := .recordMark, tag, args }
  | .journalFlush slot tag args => some { slot, kind := .journalFlush, tag, args }
  | .snapshotNow slot tag args => some { slot, kind := .snapshotNow, tag, args }
  | .standbyEnter slot tag args => some { slot, kind := .standbyEnter, tag, args }
  | _ => none

/-- R183, R184: a sweep visits this slot now: the part is up and ATTACHED, no standby entry is under way, and the table of
requests in flight does not hold the slot. -/
def State.visits (slot : Fin 32) (s : State) : Bool :=
  s.mainUp && s.hub.attach == .attached && s.entry.isNone && !s.hub.holdsSlot slot

/-- R184: the visit hands the request to its owner: fewer than eight are in flight. -/
def State.hands (slot : Fin 32) (s : State) : Bool := s.visits slot && s.hub.inFlight.length < 8

/-- A write of the exchange controller to a byte of a slot. -/
def Hub.slotWrite (slot : Fin 32) (offset : Nat) (data : List Byte) (h : Hub) : PostedWrite :=
  { writer := .exchange, address := h.regionAddress (h.region.board + 64 * slot.val + offset), data }

/-- R185, Table 12-2: the four writes of a finished request in their order: tag, code, result data, state. -/
def Hub.resultWrites (slot : Fin 32) (tag : Word16) (code : ResultCode) (data : List Byte) (final : Nat) (h : Hub) :
    List PostedWrite :=
  [h.slotWrite slot 2 (le16 tag.toNat), h.slotWrite slot 4 (le8 code.code), h.slotWrite slot 0x20 (padded 32 data),
    h.slotWrite slot 0 (le8 final)]

/-- R184 step 5, R185: between `s` and `t` the request of a slot was written TAKEN and answered with a code and data, its slot
left the table, and CAUSE.BOARD was set. Other writes may stand between and after. -/
def Answered (slot : Fin 32) (tag : Word16) (code : ResultCode) (data : List Byte) (s t : State) : Prop :=
  (∃ between after, t.hub.posted =
    s.hub.posted ++ s.hub.slotWrite slot 0 (le8 2) :: between ++ s.hub.resultWrites slot tag code data 3 ++ after) ∧
  t.hub.holdsSlot slot = false ∧ t.hub.regs.cause.getLsbD 0 = true

/-- R185: between `s` and `t` the request that a slot of an ATTACHED part had in flight was answered with a code and data, its slot
left the table, and CAUSE.BOARD was set. Other writes may stand before and after. -/
def Finished (slot : Fin 32) (code : ResultCode) (data : List Byte) (s t : State) : Prop :=
  ∀ e, s.hub.attach = .attached → s.hub.inFlightEntry slot = some e →
    (∃ before after, t.hub.posted = s.hub.posted ++ before ++ s.hub.resultWrites slot e.tag code data 3 ++ after) ∧
    t.hub.holdsSlot slot = false ∧ t.hub.regs.cause.getLsbD 0 = true

/-- R184 step 5: between `s` and `t` the request of a slot was written TAKEN, and it stands in the table of requests in
flight. -/
def TakenAndHeld (slot : Fin 32) (s t : State) : Prop :=
  (∃ after, t.hub.posted = s.hub.posted ++ s.hub.slotWrite slot 0 (le8 2) :: after) ∧ t.hub.holdsSlot slot = true

/-- The read that a command's number names is outstanding for the requester `tag`, was issued no more than 2 ms ago, and has
not been discarded (R192). -/
def Hub.awaits (id : Nat) (tag : ReadTag) (h : Hub) : Prop :=
  ∃ r, h.outstandingRead id = some r ∧ r.tag = tag ∧ h.now ≤ r.issuedAt + 2000 ∧ r.discarded = false

/-! ### The pieces of State and the commands that change them -/

/-- The pieces of State but for the queue. -/
inductive Piece where
  | power | pins | hub | lanes | keys | calibration | curve | tracker | pedals | pedalSettings | switches | actions | jack
  | voice | output | metronome | rail | railConfig | lamp | player | recorder | standby | entry
  deriving DecidableEq, Repr

/-- The states `s` and `t` agree in a piece. -/
def Piece.same (s t : State) : Piece → Prop
  | .power => t.mainOn = s.mainOn ∧ t.resetHeld = s.resetHeld
  | .pins => t.pins = s.pins
  | .hub => t.hub = s.hub
  | .lanes => t.lanes = s.lanes
  | .keys => t.keys = s.keys
  | .calibration => t.calibration = s.calibration
  | .curve => t.curve = s.curve
  | .tracker => t.tracker = s.tracker
  | .pedals => t.pedals = s.pedals
  | .pedalSettings => t.pedalSettings = s.pedalSettings
  | .switches => t.switches = s.switches
  | .actions => t.actions = s.actions
  | .jack => t.jack = s.jack
  | .voice => t.voice = s.voice
  | .output => t.output = s.output
  | .metronome => t.metronome = s.metronome
  | .rail => t.rail = s.rail
  | .railConfig => t.railConfig = s.railConfig
  | .lamp => t.lamp = s.lamp
  | .player => t.player = s.player
  | .recorder => t.recorder = s.recorder
  | .standby => t.standby = s.standby
  | .entry => t.entry = s.entry

/-- The pieces that the rail's operations change: AT_SILENT's copy stands in the voice engine. -/
def railPieces : List Piece := [.hub, .rail, .lamp, .voice]

/-- The pieces that the player's operations change. -/
def playPieces : List Piece := [.hub, .voice, .metronome, .player]

/-- The pieces that a change of a lane's service reaches: its keys or pedals, the notes they close, and the quiet condition. -/
def lanePieces : List Piece := [.lanes, .hub, .keys, .pedals, .voice, .recorder, .rail, .lamp]

/-- The pieces that a footswitch edge reaches. -/
def switchPieces : List Piece := [.switches, .standby, .hub, .voice, .metronome, .player, .recorder, .rail, .lamp]

/-- The pieces that a detach and an exit from standby reach. -/
def detachPieces : List Piece :=
  [.hub, .voice, .metronome, .player, .recorder, .keys, .tracker, .rail, .entry, .standby, .output, .lanes, .lamp, .pedals]

/-- The pieces of State that a command may change; in every other piece the next state agrees with the one before. -/
def changes : Instr → List Piece
  | .powerOnReset =>
    [.power, .hub, .lanes, .keys, .calibration, .curve, .tracker, .pedals, .pedalSettings, .switches, .actions, .jack, .voice,
      .output, .metronome, .rail, .railConfig, .lamp, .player, .recorder, .standby, .entry]
  | .mainReset =>
    [.power, .hub, .lanes, .keys, .calibration, .curve, .tracker, .pedals, .pedalSettings, .actions, .jack, .voice, .output,
      .metronome, .rail, .lamp, .player, .recorder, .standby, .entry]
  | .vmainRemoved => [.power]
  | .mainResetEnd _ => [.power, .pins, .lanes, .switches, .jack, .output, .rail, .voice, .lamp]
  | .portReset | .registerWrite _ _ | .runSet _ | .runClear _ => detachPieces
  | .resetHoldEnd _ | .statusPoll _ | .retryWindowClose _ => [.lanes]
  | .managementReply _ _ _ _ _ | .exchangeTimeout _ => .standby :: lanePieces
  | .firstFrameTimeout _ | .framePeriodEnd _ | .laneControl _ _ _ => lanePieces
  | .laneFrame _ _ => .player :: .metronome :: lanePieces
  | .senseConfig _ _ _ => [.keys, .lanes, .hub, .voice, .recorder]
  | .calibrateKeys _ _ _ => [.keys, .tracker, .hub, .voice, .recorder]
  | .calibWindowEnd => [.calibration, .keys, .tracker, .hub, .rail, .lamp, .voice]
  | .calibAbort _ _ _ => [.keys, .tracker, .hub]
  | .tableLoad _ _ _ => [.tracker, .hub, .voice]
  | .tableReadArrival _ _ => [.tracker, .hub, .curve, .calibration, .keys, .voice, .recorder, .rail, .lamp]
  | .footswitchInputChange _ _ => .pins :: switchPieces
  | .footswitchDebounceExpiry _ => switchPieces
  | .jackInputChange _ => [.pins, .jack]
  | .jackDebounceExpiry => [.jack, .output, .hub]
  | .pedalConfig _ _ _ => .pedalSettings :: .actions :: switchPieces
  | .keymapReadArrival _ _ | .voiceConfig _ _ _ | .voiceCut _ _ _ | .cutFadeEnd _ | .voiceReadArrival _ _ => [.hub, .voice]
  | .outputSamplePeriod => [.hub, .voice, .metronome, .output]
  | .outputConfig _ _ _ => [.hub, .output]
  | .metronome _ _ _ | .freeBeatDue | .followBeatDue => [.hub, .metronome]
  | .clickEnd => [.metronome]
  | .railConfig _ _ _ => [.railConfig, .hub, .lamp, .voice]
  | .railQuery _ _ _ => [.hub]
  | .railMove _ _ _ | .drvEnSettle | .quietHoldReached | .gateTimeout | .pauseTimeout | .seatedFilterExpiry | .seatTimeout
  | .indexPulse | .railStop _ _ _ | .railHalt _ _ _ | .railClear _ _ _ | .railSettle _ _ _ | .railUnsettle _ _ _ => railPieces
  | .stepPulse _ _ | .homeSensorChange _ | .driverFault _ => .pins :: railPieces
  | .seatedInputChange _ => [.pins, .rail]
  | .lampPhaseTick => [.lamp]
  | .playStart _ _ _ | .blockReadArrival _ _ | .scoreGroupDue | .waitTimeout | .playNext _ _ _ | .playSettle _ _ _
  | .playParts _ _ _ | .playSeek _ _ _ | .playPause _ _ _ | .playResume _ _ _ | .playStop _ _ _ => playPieces
  | .playUnsettle _ _ _ | .playTempo _ _ _ => [.hub, .player]
  | .recordStart _ _ _ | .listReadArrival _ _ | .recordMark _ _ _ | .recordStop _ _ _ => [.hub, .recorder]
  | .takeClockTick => [.recorder]
  | .pageHeaderReadArrival _ _ | .sealPeriodExpiry | .waitRereadExpiry | .journalFlush _ _ _ | .controlEnableWrite _
  | .notifyBoard | .notifyPages | .causeClear _ | .sweepTimerExpiry | .snapshotTimerExpiry | .snapshotNow _ _ _
  | .holdReadArrival _ _ => [.hub]
  | .headerReadArrival _ _ => [.hub, .voice, .output]
  | .boardReadArrival _ _ =>
    [.hub, .lanes, .keys, .tracker, .pedals, .pedalSettings, .switches, .actions, .voice, .output, .metronome, .rail,
      .railConfig, .lamp, .player, .recorder, .standby, .entry]
  | .readTimeout _ => [.hub, .voice, .metronome, .player, .tracker, .recorder]
  | .standbyEnter _ _ _ => [.standby, .hub, .voice, .metronome, .player, .recorder, .entry]
  | .standbyShutdownStep => detachPieces
  | .wakeScanFrame _ _ => [.standby, .lanes]
  | .wakeDelayExpiry => [.standby, .hub]
  | .wakePulseEnd => [.standby]

/-! ### Invariants -/

/-- Table 5-2: the ranges of the metronome's settings. -/
def MetronomeSettings.inRange (m : MetronomeSettings) : Prop :=
  30 ≤ m.tempo ∧ m.tempo ≤ 300 ∧ 1 ≤ m.beats ∧ m.beats ≤ 16 ∧ 6 ≤ m.pitch ∧ m.pitch ≤ 63 ∧ 6 ≤ m.accent ∧ m.accent ≤ 63 ∧
    10 ≤ m.clickLength ∧ m.clickLength ≤ 50 ∧ m.volume ≤ 127

/-- Table 7-2, R129: the ranges of a take record. -/
def TakeRecord.inRange (x : TakeRecord) : Prop :=
  x.firstBlock ≠ 0 ∧ x.firstBlock.toNat % 4096 = 0 ∧ 25 ≤ x.tempo ∧ x.tempo ≤ 200 ∧ x.followTimeout ≤ 60 ∧
    x.earlyWindow ≤ 250 ∧ x.loopCount ≤ 255 ∧ (∀ m, x.startMarker = some m → m ≤ 255) ∧
    (∀ m, x.loopA = some m → m ≤ 255 ∧ x.loopB ≠ some m) ∧ (∀ m, x.loopB = some m → m ≤ 255)

/-- Settings in the ranges that the tables give them. -/
structure SettingsInRange (s : State) : Prop where
  /-- R99. -/
  rail : s.railConfig.valid = true
  /-- R20. -/
  calibration : ∀ k : Fin 88, s.calibration[k].valid = true
  /-- Table 2-1: the extremes are raw readings of 10 bits. -/
  extremes : ∀ k : Fin 88, ∀ e, s.keys[k].extremes = some e → e.keyHigh ≤ 1023 ∧ e.hammerHigh ≤ 1023
  /-- R47, R57. -/
  pedals : s.pedalSettings.valid = true
  /-- R77. -/
  voice : 50 ≤ s.voice.gain ∧ s.voice.gain ≤ 150 ∧ 100 ≤ s.voice.dampFull ∧ s.voice.dampFull ≤ 20000
  /-- R89, R87. -/
  output : s.output.setting ≤ 127 ∧ s.output.current ≤ 127 ∧ s.output.gain ≤ 960
  /-- Table 5-2: tempo, beats per bar, pitch codes, click length and click volume. -/
  metronome : s.metronome.settings.inRange
  /-- R31, R44: the velocity curve does not increase, and its entries are of 16 bits. -/
  curve : ∀ i j : Fin 127, i.val ≤ j.val → s.curve[j] ≤ s.curve[i] ∧ s.curve[i] ≤ 65535
  /-- R34. -/
  leds : ∀ i : Fin 9, s.lanes[i].ledLevel ≤ 15
  /-- R136: the tempo in force. -/
  tempo : 25 ≤ s.player.tempo ∧ s.player.tempo ≤ 200
  /-- Table 7-2, R129: the take record. -/
  take : ∀ x, s.player.take = some x → x.inRange
  /-- Table 7-2, R151: the take record of the next-take slot. -/
  nextTake : ∀ n, s.player.next = some n → n.take.inRange
  /-- R156: the arguments of the take being recorded. -/
  recorder : s.recorder.state ≠ .idle → 1 ≤ s.recorder.blockCount ∧ s.recorder.blockCount ≤ 64 ∧
    300 ≤ s.recorder.headerTempo ∧ s.recorder.headerTempo ≤ 3000 ∧ s.recorder.splitKey ≤ 88
  /-- R194. -/
  wake : s.standby.delay ≤ 50 ∧ 1 ≤ s.standby.width ∧ s.standby.width ≤ 20

/-- Every read waiting or outstanding has one of the numbers given so far. -/
def Hub.readsNumbered (h : Hub) : Prop := ∀ r ∈ h.sched.waiting ++ h.sched.outstanding, r.id < h.sched.nextReadId

/-- The hub's lists and counts within what the part holds. -/
structure HubInRange (h : Hub) : Prop where
  /-- R168: the journal queue has 128 entries. -/
  queue : h.journal.queue.length ≤ 128
  /-- R170: a page of 63 records is sealed at once. -/
  page : h.journal.pageRecords < 63
  /-- R191: at most four reads are outstanding. -/
  outstanding : h.sched.outstanding.length ≤ 4
  /-- The model's own: the numbers of the reads are those given so far. -/
  reads : h.readsNumbered
  /-- R184: at most eight requests are in flight, one to a slot. -/
  inFlight : h.inFlight.length ≤ 8
  slots : (h.inFlight.map InFlight.slot).Nodup
  /-- R181: none is in flight while the part is not ATTACHED. -/
  detached : h.attach ≠ .attached → h.inFlight = []
  /-- R167, R180: the journal writer is on while the part is ATTACHED. -/
  writer : h.attach = .attached → h.journal.state ≠ .off
  /-- R188: a message is sent only when one falls due. -/
  messages : h.msiSent ≤ h.msiDue

/-- Table 1-1: the counts of a lane record. -/
structure LaneInRange (l : Lane) : Prop where
  silence : l.silence ≤ 16
  silenceActive : l.state = .active → l.silence < 16
  window : l.errorWindow.length ≤ 9
  /-- A probe empties the window, so a lane in a probe enters ACTIVE with room in it. -/
  windowActive : l.state = .active ∨ l.phase ≠ .idle → l.errorWindow.length < 9
  ages : ∀ age ∈ l.errorWindow, age < 256
  attempts : l.attempts ≤ 4

/-- Table 7-1: the sets and lists of the player record. -/
structure PlayerInRange (p : Player) : Prop where
  /-- The open playback-key set holds no key twice, and so at most 88. -/
  openKeys : (p.openKeys.map Prod.fst).Nodup ∧ p.openKeys.length ≤ 88
  /-- The expected-key set holds no key twice; with the struck set it holds at most 16. -/
  expected : p.expected.Nodup ∧ p.expected.length + p.struck.length ≤ 16
  /-- R138: the recent-strike list has 16 entries. -/
  strikes : p.strikes.length ≤ 16

/-- Table 8-1: the buffer, the list and the counts of the recorder record. -/
structure RecorderInRange (r : Recorder) : Prop where
  openKeys : r.openKeys.Nodup ∧ r.openKeys.length ≤ 88
  buffer : r.buffer.length ≤ 508
  blocks : r.blockCount ≤ 64 ∧ r.list.length ≤ 64 ∧ r.blocksUsed ≤ 64
  /-- R156: a list that passed has the entries asked for. -/
  armed : r.state = .armed → 1 ≤ r.blockCount ∧ (r.listRead = true → r.list.length = r.blockCount)
  /-- R160: while a take is open the current block is one of the list, all blocks up to it are used, and the buffer has room
  for the END event in the last block and for one event in any other. -/
  running : r.running = true → r.currentBlock < r.list.length ∧ r.blocksUsed = r.currentBlock + 1 ∧
    r.buffer.length < if r.currentBlock + 1 < r.list.length then 508 else 507

/-- Queues, tables, sets and counts within what the part holds. -/
structure CapacitiesKept (s : State) : Prop where
  hub : HubInRange s.hub
  /-- R73: the pending-start queue has 8 entries. -/
  pendingStarts : s.voice.queue.length ≤ 8
  lanes : ∀ i : Fin 9, LaneInRange s.lanes[i]
  /-- Table 3-1: the capture set holds no key twice. -/
  capture : s.pedals.capture.Nodup ∧ s.pedals.capture.length ≤ 88
  player : PlayerInRange s.player
  recorder : RecorderInRange s.recorder

/-- R76: the number of voices in use never exceeds the polyphony limit in force, which is at most 96. -/
structure WithinPolyphony (ve : VoiceEngine) : Prop where
  used : ve.inUse ≤ ve.limit
  target : ve.target ≤ ve.limit
  most : ve.limit ≤ 96
  least : 16 ≤ ve.target

/-- The voices in use of a key and source. -/
def VoiceEngine.pairInUse (key : Fin 88) (source : Source) (ve : VoiceEngine) : Nat :=
  ve.count fun v => v.inUse && v.ofPair key source

/-- The voices of a key and source that are SOUNDING or DAMPING. -/
def VoiceEngine.pairAlive (key : Fin 88) (source : Source) (ve : VoiceEngine) : Nat :=
  ve.count fun v => v.alive && v.ofPair key source

/-- The laws of the device that R68 and R71 state of the voices, with what they rest on in the pending-start queue (R73). -/
structure VoiceLaws (s : State) : Prop where
  /-- R68: a LIVE voice whose key-down flag is set belongs to a key that holds an open note. -/
  openNote : ∀ k : Fin 96, s.voice.voices[k].inUse = true → s.voice.voices[k].source = .live →
    s.voice.voices[k].keyDown = true → s.keys[s.voice.voices[k].key].openNote = true
  /-- R68: so does a LIVE entry that waits. -/
  openEntry : ∀ p ∈ s.voice.queue, p.source = .live → s.keys[p.key].openNote = true
  /-- R71: of every key and source at most two voices are not FREE, and at most one of those is not CUTTING. -/
  pairs : ∀ key source, s.voice.pairInUse key source ≤ 2 ∧ s.voice.pairAlive key source ≤ 1
  /-- R73: one entry to a key and source. -/
  entries : (s.voice.queue.map fun p => (p.key, p.source)).Nodup
  /-- R71: the voices of an entry's key and source are CUTTING, and there is at most one. -/
  waiting : ∀ p ∈ s.voice.queue, s.voice.pairInUse p.key p.source ≤ 1 ∧ s.voice.pairAlive p.key p.source = 0

/-- The law of the device that R101 states of AT_SILENT, with what it rests on: Table 6-3's homed flag in IDLE, and the states
from which a move was made active (R104). -/
structure RailLaws (s : State) : Prop where
  /-- R101. -/
  silent : s.voice.atSilent = true → s.rail.homed = true ∧ s.rail.position = s.railConfig.silent ∧ s.rail.seated = true
  copy : s.voice.atSilent = railAtSilent s.railConfig s.rail
  /-- Table 6-3. -/
  idle : s.rail.state = .idle → s.rail.homed = true
  active : s.rail.active.isSome = !s.rail.state.still
  before : ∀ m, s.rail.active = some m → m.before.still = true ∧
    (m.before = .idle → m.homing = false → s.rail.homed = true) ∧
    (m.kind ≠ .home → m.before = .idle ∧ m.homing = false) ∧
    (m.kind = .home → s.rail.state ≠ .gated → m.homing = true) ∧
    (s.rail.state = .gated → m.homing = false) ∧ (s.rail.state = .seating → m.kind = .engage)

/-- R125, Table 6-7: while the part is not held in reset, the lamp shows the pattern of its mode or, in AUTO, of the rail; in
STANDBY and WOKEN the one of the standby lamp choice, unless that is KEEP. -/
structure LampFollows (s : State) : Prop where
  asleep : s.resetHeld = none → s.hub.attach = .standby ∨ s.hub.attach = .woken →
    (s.railConfig.standbyLamp = .fade → s.lamp.shown = .fade) ∧ (s.railConfig.standbyLamp = .off → s.lamp.shown = .off)
  chosen : s.resetHeld = none → s.hub.attach ≠ .standby → s.hub.attach ≠ .woken → ∀ p, s.railConfig.lampMode = .show p →
    s.lamp.shown = p
  auto : s.resetHeld = none → s.hub.attach ≠ .standby → s.hub.attach ≠ .woken → s.railConfig.lampMode = .auto →
    (s.rail.state ∈ [.gated, .moving, .paused, .seating, .homing] → s.lamp.shown = .blink2) ∧
    (s.rail.state ∈ [.unknown, .faulted] → s.lamp.shown = .blink4) ∧
    (s.rail.state = .idle → s.lamp.shown =
      if s.rail.position = s.railConfig.silent ∧ s.rail.seated = true then .on
      else if s.rail.position < s.railConfig.crossStart then .off else .blink1)

/-- R108, R110: between `s` and `t` the rail has started or resumed a crossing move: it has entered HOMING, or a fresh profile
has begun whose path overlaps the crossing zone. -/
def StartedCrossing (s t : State) : Prop :=
  (t.rail.state = .homing ∧ s.rail.state ≠ .homing) ∨
    (t.rail.state = .moving ∧ t.rail.motion ≠ s.rail.motion ∧ ∃ m x, t.rail.active = some m ∧ t.rail.motion = some x ∧
      x.phase = .run false ∧ x.started = false ∧ crosses s.railConfig t.rail.position m.target = true)

/-- R191: since the number `first` a hub has been asked for exactly the reads given, in their order, each a tag, an address and
a length, and none of them has been withdrawn or has arrived. -/
def Hub.askedFor (first : Nat) (wanted : List (ReadTag × Word64 × Nat)) (h : Hub) : Prop :=
  h.sched.nextReadId = first + wanted.length ∧
    ∀ i, (hi : i < wanted.length) → ∃ r ∈ h.sched.waiting ++ h.sched.outstanding, r.id = first + i ∧
      r.tag = wanted[i].1 ∧ r.address = wanted[i].2.1 ∧ r.length = wanted[i].2.2 ∧ r.discarded = false

/-- The reads of 512 bytes that cover `n` parts from an address on, in ascending order. -/
def readsOf {n : Nat} (tag : Fin n → ReadTag) (address : Word64) : List (ReadTag × Word64 × Nat) :=
  (List.finRange n).map fun k => (tag k, address + BitVec.ofNat 64 (512 * k.val), 512)

/-- R175, with the gap count not yet written spelled out: the gap tags of the queue, the page gap and the running gap. -/
def JournalAccount (j : Journal) : Prop :=
  j.handed = j.recordsWritten + j.gapsWritten + BitVec.ofNat 32 j.queue.length +
    (gapTags j.queue + j.pageGap + j.runningGap)

/-- What the account rests on: a page gap stands only with a record in the page, and a page has records only in FILLING. -/
structure JournalKept (j : Journal) : Prop where
  account : JournalAccount j
  gap : j.pageRecords = 0 → j.pageGap = 0
  filling : j.state ≠ .filling → j.pageRecords = 0

/-- The copies that one block keeps of another's state agree with it. -/
structure CopiesAgree (s : State) : Prop where
  /-- R67: DAMPER_FREE and DAMPER_HOLD. -/
  damper : s.voice.damperFree = s.pedalSettings.damperFree ∧ s.voice.damperHold = s.pedalSettings.damperHold
  /-- R48, R67: the capture set. -/
  capture : s.voice.capture = s.pedals.capture
  /-- R52: the capture set is empty while the sostenuto pedal is RELEASED. -/
  released : s.pedals.sostenuto = false → s.pedals.capture = []
  /-- R70, R101: AT_SILENT. -/
  silent : s.voice.atSilent = railAtSilent s.railConfig s.rail
  /-- R36, R107: the quiet condition. -/
  quiet : s.rail.quiet = s.quietCondition

/-! ### Requests owed -/

/-- The slots whose requests a block still owes an answer: a calibration window, a table or key map load, the player, the
recorder, the rail's active move and next slot, a snapshot, and a standby entry. -/
def State.owedSlots (s : State) : List (Fin 32) :=
  (s.tracker.window.map CalibWindow.slot).toList ++ (s.tracker.load.map TableLoad.slot).toList ++
    (s.voice.load.map KeymapLoad.slot).toList ++ s.player.pendingSlot.toList ++ s.recorder.pendingSlot.toList ++
    (s.rail.active.bind ActiveMove.slot).toList ++ (s.rail.next.bind fun n => n.move.slot).toList ++
    s.hub.snapshot.serving ++ s.hub.snapshot.waiting ++ (s.entry.map Prod.fst).toList

/-- R184, R185, R181: every request in flight is owed by exactly one block, and no block owes another. The other fields say in
which states a block can owe one. -/
structure RequestsOwed (s : State) : Prop where
  owed : s.owedSlots.Perm (s.hub.inFlight.map InFlight.slot)
  once : (s.hub.inFlight.map InFlight.slot).Nodup
  detached : s.hub.attach ≠ .attached → s.hub.inFlight = []
  player : s.player.pendingSlot.isSome → s.player.state = .loading ∨ s.player.state = .seeking
  recorder : s.recorder.pendingSlot.isSome → s.recorder.state = .armed ∧ s.recorder.listRead = false
  active : s.rail.active.isSome = !s.rail.state.still
  before : ∀ m, s.rail.active = some m → m.before.still = true
  snapshot : s.hub.snapshot.inProgress = false → s.hub.snapshot.serving = []

end Sys2Proof.Machine
end

