-- ==== Sys2Proof/Certificates/Slice0/Obligations.lean ====
section
/-! DEFINITION. The statements for the provers, chapter by chapter of spec/. OBLIGATIONS.json says of each what it states, its tier and its source. -/

section
open Sys2Proof Sys2Proof.Machine

/-! ### The machine as a whole -/

/-- A step carries out the command at the front of the queue on the state with the queue's rest. -/
def Obligations.StepRunsTheFrontCommand : Prop :=
  ∀ (c : Instr) (rest : List Instr) (s : State),
    step { s with pending := c :: rest } = exec c { s with pending := rest }

/-- The model's choice of log 1: with no command waiting a step lets one microsecond pass. The clocks count it while the main
domain is up, the score clock at its tempo while the player is PLAYING (R19, R133, R136), and nothing else changes. -/
def Obligations.IdleStepIsOneMicrosecond : Prop :=
  ∀ s : State, s.pending = [] →
    (s.mainUp = false → step s = .next { s with hub := { s.hub with now := s.hub.now + 1 } }) ∧
    (s.mainUp = true →
      let hub : Hub :=
        { s.hub with now := s.hub.now + 1, tracking := s.hub.tracking + 1, performance := s.hub.performance + 1 }
      let part := s.player.positionPart + s.player.tempo
      (s.player.state = .playing → step s = .next { s with
        hub := hub
        player := { s.player with
          position := s.player.position + BitVec.ofNat 32 (part / 10000), positionPart := part % 10000 } }) ∧
      (s.player.state ≠ .playing → step s = .next { s with hub := hub }))

/-- Every command answers a next state (no command of the part faults or is refused, log 35), takes no time (the model's choice,
log 1), and leaves the waiting commands as they are. What has been posted stays, in its order (R192), and a part that is ATTACHED neither before nor after has
posted nothing (Table 10-3). -/
def Obligations.EveryCommandAnswersNext : Prop :=
  ∀ (c : Instr) (s : State), ∃ t, exec c s = .next t ∧ t.pending = s.pending ∧ t.hub.now = s.hub.now ∧
    s.hub.posted <+: t.hub.posted ∧
    (s.hub.attach ≠ .attached → t.hub.attach ≠ .attached → t.hub.posted = s.hub.posted)

/-- The frame of every command: the pieces of State outside `changes c` are as before. -/
def Obligations.CommandsChangeOnlyTheirPieces : Prop :=
  ∀ (c : Instr) (s t : State), exec c s = .next t → ∀ p : Piece, p ∉ changes c → p.same s t

/-- The values that the tables of spec/ give at the end of a POWER-ON reset. -/
def Obligations.ResetLeavesTheSpecValues : Prop :=
  let s := State.reset
  (s.hub.attach = .detached ∧ s.hub.regs.cause = 0 ∧ s.hub.regs.enables = 0 ∧ s.hub.regs.master = false ∧
    s.hub.regs.regionLo = 0 ∧ s.hub.regs.regionHi = 0 ∧ s.hub.inFlight = [] ∧ s.hub.journal.state = .off) ∧
  (∀ i : Fin 9, s.lanes[i].state = .probing ∧ s.lanes[i].enabled = true ∧ s.lanes[i].ledLevel = 8 ∧
    s.lanes[i].frames = 0 ∧ s.lanes[i].errors = 0 ∧ s.lanes[i].attempts = 0) ∧
  (∀ k : Fin 88, s.keys[k].state = .disabled ∧ s.keys[k].masked = false ∧ s.keys[k].openNote = false) ∧
  (∀ k : Fin 88, s.calibration[k] = .default) ∧
  (∀ i : Fin 127, s.curve[i] = 40000 - 310 * i.val) ∧
  s.tracker.window = none ∧
  (s.pedalSettings.damperFree = 16 ∧ s.pedalSettings.damperHold = 100 ∧ s.pedalSettings.step = 4) ∧
  (∀ i : Fin 2, s.switches[i].debounce = .ms8 ∧ s.switches[i].edges = .falling ∧ s.actions[i] = .none) ∧
  s.jack.inserted = false ∧
  (∀ k : Fin 96, s.voice.voices[k].phase = .free) ∧
  (s.voice.limit = 96 ∧ s.voice.target = 96 ∧ s.voice.policy = .silentOnly ∧ s.voice.gain = 100 ∧ s.voice.dampFull = 3000 ∧
    s.voice.queue = []) ∧
  (s.output.setting = 80 ∧ s.output.current = 80 ∧ s.output.mute = false ∧ s.output.gain = 0 ∧ s.output.clips = 0) ∧
  (s.metronome.settings.on = false ∧ s.metronome.settings.tempo = 120 ∧ s.metronome.settings.beats = 4 ∧
    s.metronome.beat = 0 ∧ s.metronome.click = none) ∧
  (s.rail.state = .unknown ∧ s.rail.homed = false ∧ s.rail.active = none ∧ s.rail.next = none ∧ s.rail.drvEn = false ∧
    s.rail.quiet = false ∧ s.railConfig = .default) ∧
  (s.player.state = .idle ∧ s.player.tempo = 100 ∧ s.player.next = none) ∧
  s.recorder.state = .idle ∧
  (s.standby.delay = 5 ∧ s.standby.width = 5 ∧ s.standby.pulse = .idle ∧ s.standby.cause = .none)

/-- The state after reset meets every invariant stated below. -/
def Obligations.ResetMeetsTheInvariants : Prop :=
  SettingsInRange State.reset ∧ CapacitiesKept State.reset ∧ JournalKept State.reset.hub.journal ∧
    WithinPolyphony State.reset.voice ∧ VoiceLaws State.reset ∧ CopiesAgree State.reset ∧ RailLaws State.reset ∧
    RequestsOwed State.reset ∧ LampFollows State.reset

/-- Every setting stays in the range its table gives: the rail's, the keys' and the pedals' calibration, the velocity curve, the
pedal limits, the voice engine's, the output's, the metronome's, the LED levels, the tempo in force, the take record and the next
one (Table 7-2), the recorder's arguments and the wake codes. -/
def Obligations.StepKeepsSettingsInRange : Prop :=
  ∀ s t : State, SettingsInRange s → step s = .next t → SettingsInRange t

/-- Every queue, table, set and count stays within what the part holds: those of the hub, the lanes, the pending-start queue, the
capture set, the player record and the recorder record. -/
def Obligations.StepKeepsCapacities : Prop :=
  ∀ s t : State, CapacitiesKept s → step s = .next t → CapacitiesKept t

/-- R175: the records handed to the journal writer equal the records written into pages, plus the gap counts written into page
headers, plus the records still in the journal queue, plus the gap count not yet written, modulo 2^32. -/
def Obligations.StepKeepsTheJournalAccount : Prop :=
  ∀ s t : State, JournalKept s.hub.journal → step s = .next t → JournalKept t.hub.journal

/-- The laws of the device of chapter 4. R76: the voices in use never exceed the limit in force. R68, R71: a LIVE voice whose key
is down belongs to a key with an open note, and of every key and source at most two voices are in use, at most one of them not
CUTTING. R70: while the gate is closed to LIVE notes, under SILENT_ONLY with the rail not AT_SILENT or under NEVER, before a command
and after it, the command starts no LIVE voice; a board sweep, which carries out the requests of several rows, is left to those
rows. -/
def Obligations.StepKeepsThePolyphonyLimit : Prop :=
  (∀ s t : State, WithinPolyphony s.voice → step s = .next t → WithinPolyphony t.voice) ∧
  (∀ s t : State, VoiceLaws s → step s = .next t → VoiceLaws t) ∧
  (∀ (c : Instr) (s t : State), exec c s = .next t → (∀ read outcome, c ≠ .boardReadArrival read outcome) →
    let closed (ve : VoiceEngine) : Prop := ve.policy = .never ∨ (ve.policy = .silentOnly ∧ ve.atSilent = false)
    closed s.voice → closed t.voice → ∀ k : Fin 96, t.voice.voices[k].inUse = true → t.voice.voices[k].source = .live →
      s.voice.voices[k].inUse = true ∧ s.voice.voices[k].source = .live ∧
        s.voice.voices[k].startNumber = t.voice.voices[k].startNumber)

/-- R36, R48, R52, R67, R70, R101, R107: the copies that one block keeps of another's state agree with it, the rail's quiet condition
with the keys and lanes among them. R101: whenever the rail is AT_SILENT, it is homed, its position is SILENT_POS and SEATED is
active. -/
def Obligations.StepKeepsCopiesInAgreement : Prop :=
  (∀ s t : State, CopiesAgree s → step s = .next t → CopiesAgree t) ∧
  (∀ s t : State, RailLaws s → step s = .next t → RailLaws t)

/-- R184, R185, R181: every request in flight is owed by exactly one block, and no block owes another. -/
def Obligations.StepKeepsRequestsOwed : Prop :=
  ∀ s t : State, RequestsOwed s → step s = .next t → RequestsOwed t

/-! ### Requests (R184, R185) -/

/-- R184 step 5: a request that the sweep finds and its owner does not refuse is written TAKEN, enters the table of requests in
flight with its kind, its tag and its owner, and is carried out by its owner; the board cursor moves past its slot. A TABLE_LOAD is
the key tracker's or, for KEYMAP, the voice engine's (R43, R61). -/
def Obligations.TakenRequestReachesItsOwner : Prop :=
  ∀ (c : Instr) (r : Request) (s : State), requestOf c = some r → s.hands r.slot = true →
    refuseRequest r.kind r.args s = none →
    exec c s = .next (actRequest r.kind r.slot r.args { s with hub := { s.hub with
      inFlight := s.hub.inFlight ++ [{ slot := r.slot, kind := r.kind, tag := r.tag, owner := r.kind.ownerFor r.args }]
      posted := s.hub.posted ++ [s.hub.slotWrite r.slot 0 (le8 2)], cursor := r.slot + 1 } }) ∧
    (r.kind = .tableLoad → r.kind.ownerFor r.args = if u8At r.args 8 = 2 then .voiceEngine else .keyTracker)

/-- R184 steps 1, 3 and 4: a slot that no sweep can visit is left alone; with eight requests in flight the visit ends at the slot;
a request that its owner refuses is answered REFUSED with the owner's code and tag, and has no other effect than CAUSE.BOARD and,
R188, the interrupt message that falls due exactly when this flag turns the summary from false to true, and is sent if the MSI
capability is then enabled, a free value (log 6). -/
def Obligations.RefusedRequestsHaveNoEffect : Prop :=
  ∀ (c : Instr) (r : Request) (s : State), requestOf c = some r →
    (s.visits r.slot = false → exec c s = .next s) ∧
    (s.visits r.slot = true → 8 ≤ s.hub.inFlight.length → exec c s = .next { s with hub := { s.hub with cursor := r.slot } }) ∧
    (∀ code, s.hands r.slot = true → refuseRequest r.kind r.args s = some code →
      let summary (cause : BitVec 8) : Bool := s.hub.regs.master && decide (cause &&& s.hub.regs.enables ≠ 0)
      let due := summary (s.hub.regs.cause ||| 1#8) && !summary s.hub.regs.cause
      exec c s = .next { s with hub := { s.hub with
        posted := s.hub.posted ++ s.hub.resultWrites r.slot r.tag code [] 4, cursor := r.slot + 1
        regs := { s.hub.regs with cause := s.hub.regs.cause ||| 1#8 }, msiDue := s.hub.msiDue + flagBit due
        msiSent := s.hub.msiSent + flagBit (due && Config.msiCapabilityEnabled s.hub.msiDue) } })

/-- R185: a completion writes the tag the request was taken with, the code, the 32 bytes of data filled up with zeros, and last
the state DONE; then the entry leaves the table and CAUSE.BOARD is set. A refusal writes the same with the state REFUSED. -/
def Obligations.FinishedRequestsAreWrittenInOrder : Prop :=
  ∀ (slot : Fin 32) (code : ResultCode) (data : List Byte) (tag : Word16) (h : Hub), h.attach = .attached →
    (∀ e, h.inFlightEntry slot = some e →
      (h.completeRequest slot code data).posted = h.posted ++
        [h.slotWrite slot 2 (le16 e.tag.toNat), h.slotWrite slot 4 (le8 code.code), h.slotWrite slot 0x20 (padded 32 data),
          h.slotWrite slot 0 (le8 3)] ∧
      (h.completeRequest slot code data).inFlight = h.inFlight.filter (fun q => q.slot ≠ slot) ∧
      (h.completeRequest slot code data).holdsSlot slot = false ∧
      (h.completeRequest slot code data).regs.cause = h.regs.cause ||| 1#8) ∧
    ((h.refuseRequest slot tag code).posted = h.posted ++
        [h.slotWrite slot 2 (le16 tag.toNat), h.slotWrite slot 4 (le8 code.code), h.slotWrite slot 0x20 (padded 32 []),
          h.slotWrite slot 0 (le8 4)] ∧
      (h.refuseRequest slot tag code).inFlight = h.inFlight ∧
      (h.refuseRequest slot tag code).regs.cause = h.regs.cause ||| 1#8)

/-- The model's choice of log 2: the rows of periods and timers change nothing before their time. The early clauses of STEP_PULSE and
SCORE_GROUP_DUE stand in StepPulsesMoveOneStep and DueGroupsAreTakenOrAwaited; TAKE_CLOCK_TICK, LAMP_PHASE_TICK and
STANDBY_SHUTDOWN_STEP have no time of their own. The times are those of R3, R4, R6, R7, R8, R12 (lanes), R40 (calibration), R53, R56
(inputs), R63, R66 (sample periods, fades), R91, R92, R93 (click, beats), R102, R104, R107, R108, R110, R112 (rail), R142 (waits), R171,
R173 (journal), R183, R189, R192 (exchange), R196, R197 (standby). -/
def Obligations.TimersComeNoEarlier : Prop :=
  ∀ s : State,
    (∀ lane t, s.lanes[(lane : Fin 9)].phase = .hold t → s.hub.now < t → exec (.resetHoldEnd lane) s = .next s) ∧
    (∀ lane n t, s.lanes[(lane : Fin 9)].phase = .statusWait n t → s.hub.now < t → exec (.statusPoll lane) s = .next s) ∧
    (∀ lane t, s.lanes[(lane : Fin 9)].phase = .awaitFrame t → s.hub.now < t + 2000 →
      exec (.firstFrameTimeout lane) s = .next s) ∧
    (∀ lane t, s.lanes[(lane : Fin 9)].retryOpened = some t → s.hub.now < t + 10000000 →
      exec (.retryWindowClose lane) s = .next s) ∧
    (∀ lane, s.hub.now < s.lanes[(lane : Fin 9)].periodEnd → exec (.framePeriodEnd lane) s = .next s) ∧
    (∀ w, s.tracker.window = some w → s.hub.now < w.endsAt → exec .calibWindowEnd s = .next s) ∧
    (∀ i t, s.switches[(i : Fin 2)].pendingSince = some t → s.hub.now < t + s.switches[i].debounce.micros →
      exec (.footswitchDebounceExpiry i) s = .next s) ∧
    (∀ t, s.jack.pendingSince = some t → s.hub.now < t + 32000 → exec .jackDebounceExpiry s = .next s) ∧
    (∀ t, s.output.i2sSince = some t → 48 * (s.hub.now - t) < 1000 * (s.voice.sampleClock.toNat + 1) →
      exec .outputSamplePeriod s = .next s) ∧
    (s.hub.journal.state = .filling → s.hub.now < s.hub.journal.fillStart + 1000 * s.hub.journal.sealPeriod →
      exec .sealPeriodExpiry s = .next s) ∧
    (s.hub.journal.state = .waiting → s.hub.now < s.hub.journal.waitStart + 1000 * s.hub.journal.sealPeriod →
      exec .waitRereadExpiry s = .next s) ∧
    (∀ t, s.hub.sweep.timer = some t → s.hub.now < t → exec .sweepTimerExpiry s = .next s) ∧
    (∀ t, s.hub.snapshot.timer = some t → s.hub.now < t → exec .snapshotTimerExpiry s = .next s) ∧
    (∀ t, s.standby.pulse = .delay t → s.hub.now < t → exec .wakeDelayExpiry s = .next s) ∧
    (∀ t, s.standby.pulse = .pulsing t → s.hub.now < t → exec .wakePulseEnd s = .next s) ∧
    (∀ id r, s.hub.outstandingRead id = some r → s.hub.now < r.issuedAt + 2000 → exec (.readTimeout id) s = .next s) ∧
    (∀ lane e, s.lanes[(lane : Fin 9)].exchange = some e → s.hub.now < e.sentAt + 100 →
      exec (.exchangeTimeout lane) s = .next s) ∧
    (∀ (lane : Fin 8) r e, s.lanes[lane.castSucc].exchange = none → s.standby.scanner[lane] = some r → r.exchange = some e →
      s.hub.now < e.sentAt + 100 → exec (.exchangeTimeout lane.castSucc) s = .next s) ∧
    (∀ k : Fin 96, (s.voice.voices[k].phase ≠ .cutting ∨ s.voice.sampleClock.toNat < s.voice.voices[k].cutTime + 240) →
      exec (.cutFadeEnd k) s = .next s) ∧
    ((∀ c, s.metronome.click = some c → c.remaining ≠ 0) → exec .clickEnd s = .next s) ∧
    (s.voice.sampleClock.toNat < s.metronome.anchor + 2880000 * s.metronome.index / s.metronome.gridTempo →
      exec .freeBeatDue s = .next s) ∧
    (reached (s.metronome.followAnchor + BitVec.ofNat 32 (6000000 * s.metronome.followIndex / s.metronome.followTempo))
      s.player.position = false → exec .followBeatDue s = .next s) ∧
    (s.hub.now < s.rail.drvEnSince + 1000 → exec .drvEnSettle s = .next s) ∧
    ((s.rail.quiet = false ∨ s.hub.now - s.rail.quietSince < 1000 * s.railConfig.quietHold) →
      exec .quietHoldReached s = .next s) ∧
    (s.hub.now < s.rail.gateSince + 100000 * s.railConfig.gateLimit → exec .gateTimeout s = .next s) ∧
    (s.hub.now < s.rail.pauseSince + 100000 * s.railConfig.pauseLimit → exec .pauseTimeout s = .next s) ∧
    (∀ since, s.rail.seatedPending = some since → s.hub.now < since + 2000 → exec .seatedFilterExpiry s = .next s) ∧
    (s.hub.now < s.rail.seatSince + 200000 → exec .seatTimeout s = .next s) ∧
    (∀ take, s.player.take = some take →
      (take.followTimeout = 0 ∨ (s.hub.tracking - s.player.waitStart).toNat < take.followTimeout * 1000000) →
      exec .waitTimeout s = .next s)

/-! ### Sensor lanes (01_sensor_lanes.md) -/

/-- R2, R4, R6, R8, R10, R11, R12, Table 1-2: the lane timers. The end of a reset hold starts the IDENT read, a STATUS poll that is due
the next STATUS read, and a retry window closes 10 s after it opened. At the end of a frame period an ACTIVE lane's error window grows
older by one period and its silence count goes up if the period brought no valid frame; the sixteenth in a row ends the service. The
lane's reset line is held active in OFF and ABSENT, but for a lane with the wake scanner, and in PROBING and RECOVERING until the hold
ends. -/
def Obligations.LaneTimersAct : Prop :=
  ∀ (lane : Fin 9) (s : State), s.mainUp = true →
    let l := s.lanes[lane]
    let put (m : Lane) : State := { s with lanes := s.lanes.set lane m }
    let start (step : ExchangeStep) : ProbePhase :=
      .exchanging
        { step, value := none, number := l.exchangeNumber + 1, attempt := 1, sentAt := s.hub.now, firstSentAt := s.hub.now }
    let window := (l.errorWindow.map fun age => age + 1).filter fun age => age < 256
    let silence := if l.validInPeriod then l.silence else l.silence + 1
    (s.laneResetActive lane = true ↔ s.scannerLane lane = none ∧
      (l.state = .off ∨ l.state = .absent ∨
        (l.state = .probing ∨ l.state = .recovering) ∧ (l.phase = .inReset ∨ ∃ t, l.phase = .hold t))) ∧
    (∀ t, l.phase = .hold t → t ≤ s.hub.now →
      let released := put { l with exchangeNumber := l.exchangeNumber + 1, phase := start .ident }
      exec (.resetHoldEnd lane) s = .next released ∧
        ((l.state = .probing ∨ l.state = .recovering) → released.laneResetActive lane = false)) ∧
    (∀ made t, l.phase = .statusWait made t → t ≤ s.hub.now →
      exec (.statusPoll lane) s =
        .next (put { l with exchangeNumber := l.exchangeNumber + 1, phase := start (.status made) })) ∧
    (∀ t, l.retryOpened = some t → t + 10000000 ≤ s.hub.now →
      exec (.retryWindowClose lane) s = .next (put { l with attempts := 0, retryOpened := none })) ∧
    (l.periodEnd ≤ s.hub.now →
      (l.state = .active → silence < 16 → exec (.framePeriodEnd lane) s = .next (put { l with
        periodEnd := l.periodEnd + 125, errorWindow := window, silence := silence, validInPeriod := false })) ∧
      (l.state = .active → 16 ≤ silence → ∃ t, exec (.framePeriodEnd lane) s = .next t ∧
        (t.lanes[lane].state = .recovering ∨ t.lanes[lane].state = .absent)) ∧
      (∀ since, l.state ≠ .active → l.phase = .awaitFrame since →
        exec (.framePeriodEnd lane) s = .next (put { l with periodEnd := l.periodEnd + 125 })))

/-- R3, R5, R6, R7, R12, R13, Table 1-4: a reply that comes in time, answers the outstanding attempt and passes its CRC takes the
probe to its next step, whose write carries its value (the LED level; 1 for START); an identity that does not fit the lane sets the
lane aside, and one that is none of a device fails the step. Any other reply is discarded. That the 250 µs run from the first attempt
of the STATUS read, and the 2 ms from the acknowledgement of START, is the model's choice (log 41). -/
def Obligations.GoodReplyAdvancesTheProbe : Prop :=
  ∀ (lane : Fin 9) (s : State) (e : LaneExchange) (v : Word16) (body : List Byte), s.mainUp = true →
    s.lanes[lane].exchange = some e →
    (∀ number content crc, (number ≠ e.number ∨ e.sentAt + 100 < s.hub.now ∨ crc ≠ crc8 body) →
      exec (.managementReply lane number content body crc) s = .next s) ∧
    (s.hub.now ≤ e.sentAt + 100 →
    let l := s.lanes[lane]
    let put (m : Lane) : State := { s with lanes := s.lanes.set lane m }
    let start (step : ExchangeStep) (value : Option Word16) : ProbePhase :=
      .exchanging
        { step, value, number := l.exchangeNumber + 1, attempt := 1, sentAt := s.hub.now, firstSentAt := s.hub.now }
    let read := exec (.managementReply lane e.number (.value v) body (crc8 body)) s
    let acknowledged := exec (.managementReply lane e.number .acknowledge body (crc8 body)) s
    let device := v &&& 0xFFF0#16
    let position := (v &&& 0xF#16).toNat
    let fits := (device = 0x5A10#16 ∧ lane.val < 8 ∨ device = 0x5A20#16 ∧ lane.val = 8) ∧ position = lane.val
    (e.step = .ident →
      (fits → read = .next (put { l with identity := some v, exchangeNumber := l.exchangeNumber + 1, phase := start .led (some (BitVec.ofNat 16 l.ledLevel)) })) ∧
      ((device = 0x5A10#16 ∨ device = 0x5A20#16) → ¬ fits → ∃ t, read = .next t ∧
        t.lanes[lane] = { l with identity := some v, state := .absent, absentReason := .position, phase := .idle }) ∧
      (device ≠ 0x5A10#16 → device ≠ 0x5A20#16 → l.state = .probing → ∃ t, read = .next t ∧
        t.lanes[lane] = { l with identity := some v, state := .absent, absentReason := .probeFail, phase := .idle }) ∧
      (device ≠ 0x5A10#16 → device ≠ 0x5A20#16 → l.state = .recovering → ∃ t, read = .next t ∧
        t.lanes[lane].identity = some v ∧
        (l.retryOpened = none → t.lanes[lane].state = .recovering ∧ t.lanes[lane].attempts = 1 ∧
          t.lanes[lane].retryOpened = some s.hub.now ∧ t.lanes[lane].phase = .hold (s.hub.now + 1500)) ∧
        (∀ opened, l.retryOpened = some opened → l.attempts < 3 → t.lanes[lane].state = .recovering ∧
          t.lanes[lane].attempts = l.attempts + 1 ∧ t.lanes[lane].phase = .hold (s.hub.now + 1500)) ∧
        (∀ opened, l.retryOpened = some opened → 3 ≤ l.attempts → t.lanes[lane].state = .absent ∧
          t.lanes[lane].absentReason = .retries ∧ t.lanes[lane].phase = .idle))) ∧
    (e.step = .led →
      acknowledged = .next (put { l with exchangeNumber := l.exchangeNumber + 1, phase := start (.status 0) none })) ∧
    (∀ made, e.step = .status made →
      (v.getLsbD 0 = true →
        read = .next (put { l with exchangeNumber := l.exchangeNumber + 1, phase := start .start (some 1) })) ∧
      (v.getLsbD 0 = false → made < 19 → read = .next (put { l with phase := .statusWait (made + 1) (e.firstSentAt + 250) })) ∧
      (v.getLsbD 0 = false → 19 ≤ made → l.state = .probing → ∃ t, read = .next t ∧
        t.lanes[lane] = { l with state := .absent, absentReason := .probeFail, phase := .idle })) ∧
    (e.step = .start → acknowledged =
      .next (put { l with phase := .awaitFrame s.hub.now, periodEnd := s.hub.now + 125, validInPeriod := false })))

/-- R3, R5, R7, R12, R13: an exchange without a good reply in 100 µs is sent again, at most twice; a probe that gets no further sets a
PROBING lane aside, and sends a RECOVERING lane into a new probe until its third attempt in the retry window has failed, a window that
the entry opens if none is open. An IDENT read that fails leaves no identity. The numbers of a lane's exchanges never go back, so that
no reply to an abandoned one can answer a later one (log 11). -/
def Obligations.FailedProbesAreRetriedOrSetAside : Prop :=
  (∀ (c : Instr) (s t : State) (lane : Fin 9), exec c s = .next t →
    s.lanes[lane].exchangeNumber ≤ t.lanes[lane].exchangeNumber) ∧
  ∀ (lane : Fin 9) (s : State), s.mainUp = true →
    let l := s.lanes[lane]
    let put (m : Lane) : State := { s with lanes := s.lanes.set lane m }
    (∀ e, l.exchange = some e → e.sentAt + 100 ≤ s.hub.now → e.attempt < 3 →
      let again : LaneExchange :=
        { e with attempt := e.attempt + 1, number := l.exchangeNumber + 1, sentAt := s.hub.now }
      exec (.exchangeTimeout lane) s =
        .next (put { l with exchangeNumber := l.exchangeNumber + 1, phase := .exchanging again })) ∧
    (∀ e, l.exchange = some e → e.sentAt + 100 ≤ s.hub.now → 3 ≤ e.attempt → e.step = .ident →
      ∃ t, exec (.exchangeTimeout lane) s = .next t ∧ t.lanes[lane].identity = none) ∧
    (∀ c, ((∃ e, l.exchange = some e ∧ e.sentAt + 100 ≤ s.hub.now ∧ 3 ≤ e.attempt ∧ c = .exchangeTimeout lane) ∨
        ∃ since, l.phase = .awaitFrame since ∧ since + 2000 ≤ s.hub.now ∧ c = .firstFrameTimeout lane) →
      (l.state = .probing → ∃ t, exec c s = .next t ∧ t.lanes[lane].state = .absent ∧
        t.lanes[lane].absentReason = .probeFail ∧ t.lanes[lane].phase = .idle) ∧
      (l.state = .recovering → l.retryOpened = none → ∃ t, exec c s = .next t ∧ t.lanes[lane].state = .recovering ∧
        t.lanes[lane].attempts = 1 ∧ t.lanes[lane].retryOpened = some s.hub.now ∧
        t.lanes[lane].phase = .hold (s.hub.now + 1500)) ∧
      (∀ opened, l.state = .recovering → l.retryOpened = some opened → l.attempts < 3 →
        ∃ t, exec c s = .next t ∧ t.lanes[lane].state = .recovering ∧ t.lanes[lane].attempts = l.attempts + 1 ∧
          t.lanes[lane].phase = .hold (s.hub.now + 1500)) ∧
      (∀ opened, l.state = .recovering → l.retryOpened = some opened → 3 ≤ l.attempts →
        ∃ t, exec c s = .next t ∧ t.lanes[lane].state = .absent ∧ t.lanes[lane].absentReason = .retries ∧
          t.lanes[lane].phase = .idle))

/-- R7, R8, R9, R10, R21, R48: what a frame does. The first good frame after START makes the lane ACTIVE. On an ACTIVE lane a
frame with its CRC right and the expected sequence number is valid; any other is an error, and the ninth period with one in the
window ends the service. R20 to R28, R31: a valid frame takes each key of its lane through the key step and then the hammer
step, which are stated state by state: the strike and its velocity, the miss, the repeat, the release and its velocity. R29,
R30, R109: the events are handed out key by key, a KEY_DOWN to the voice engine, the journal, the recorder and the player, a
KEY_UP to the first three, a launch notice to the rail, which it pauses in the crossing zone and in HOMING. R14, R32, R33, R50,
R52: what the lane-up and lane-lost notices do to keys and pedals. R47, R48, R49, R51, R69: the pedals' levels, pressed states,
capture set, hand-over and PEDAL events. The model's choices: two errors of one frame period count once in the window (log 12);
a released key that stands above PRESS goes on to REST in the same key step where it came up, as R21 orders its lines, and also
where it did not move or has no last reading (log 48), while one that went down stops in RETURNING; the order in which an
event's consumers are served (log 67); the details of the records (log 31). -/
def Obligations.FramesAreCheckedAndTaken : Prop :=
  (∀ (c : Calibration) (raw : Nat),
    c.depth raw = min 1000 ((((raw : Int) - c.keyRest) * 1000).tdiv ((c.keyBottom : Int) - c.keyRest)).toNat ∧
    c.height raw = min 1000 ((((raw : Int) - c.hammerRest) * 1000).tdiv ((c.hammerTop : Int) - c.hammerRest)).toNat) ∧
  (∀ (c : Calibration) (r : Readings) (k : Key),
    let result := k.keyStep c r
    let rises : Prop := ∃ p, r.previous = some p ∧ c.rearm ≤ p.1 ∧ r.depth < c.rearm
    let down : Bool :=
      match r.previous with
      | some p => decide (p.1 < r.depth)
      | none => false
    let velocity (rearm : Option Word32) : Nat :=
      match rearm with
      | some t => min 127 (max 1 (254000 / max 125 (r.stamp - t).toNat))
      | none => 64
    let released (rearm : Option Word32) : Key × List KeyEvent :=
      ({ k with
        state := if r.depth < c.press ∧ down = false then .rest else .returning, openNote := false, gateLowStamp := none
        rearmStamp := none }, [.up (velocity rearm) k.lastVelocity false])
    (k.state = .rest → result = (if c.press ≤ r.depth then { k with state := .pressed } else k, [])) ∧
    (k.state = .pressed ∨ k.state = .missed ∨ k.state = .returning →
      result = (if r.depth < c.press then { k with state := .rest } else k, [])) ∧
    (k.state = .waitRest →
      result = (if r.depth < c.press ∧ r.height < c.clear then { k with state := .rest } else k, [])) ∧
    (k.state = .rising → result = (k, [])) ∧
    (k.state = .sounding ∨ k.state = .rearmed →
      (r.depth < c.damper → (rises → result = released (some r.stamp)) ∧ (¬ rises → result = released k.rearmStamp)) ∧
      (c.damper ≤ r.depth →
        (rises → result = ({ k with state := .rearmed, rearmStamp := some r.stamp }, [])) ∧
        (¬ rises → result = (k, [])))) ∧
    (k.state = .restriking →
      (r.depth < c.damper → result = released k.rearmStamp) ∧ (c.damper ≤ r.depth → result = (k, [])))) ∧
  (∀ (c : Calibration) (curve : Vector Nat 127) (r : Readings) (k : Key),
    let result := k.hammerStep c curve r
    let crosses : Prop := ∃ p, r.previous = some p ∧ p.2 < c.gateLow ∧ c.gateLow ≤ r.height
    let begun (state : KeyState) : Key × List KeyEvent :=
      let timed := Key.timeStrike c curve r { k with state := state, gateLowStamp := some r.stamp }
      (timed.1, .launch :: timed.2)
    (k.state ∈ [.rest, .sounding, .waitRest, .calibrating, .disabled] → result = (k, [])) ∧
    (k.state = .missed → result = (if r.height < c.gateLow then { k with state := .pressed } else k, [])) ∧
    (k.state = .pressed ∨ k.state = .returning → (crosses → result = begun .rising) ∧ (¬ crosses → result = (k, []))) ∧
    (k.state = .rearmed → (crosses → result = begun .restriking) ∧ (¬ crosses → result = (k, []))) ∧
    (k.state = .rising ∨ k.state = .restriking → result = k.timeStrike c curve r)) ∧
  (∀ (c : Calibration) (curve : Vector Nat 127) (r : Readings) (k : Key) (gateLow : Word32),
    k.gateLowStamp = some gateLow → k.state = .rising ∨ k.state = .restriking →
    let result := k.timeStrike c curve r
    let t := max 125 (r.stamp - gateLow).toNat
    let rep := decide (k.state = .restriking)
    let missed : Key := { k with state := if rep then .rearmed else .missed, gateLowStamp := none }
    let struck (v : Nat) : Key × List KeyEvent :=
      ({ k with state := .sounding, openNote := true, gateLowStamp := none, rearmStamp := none, lastVelocity := v },
        [.down v rep])
    (c.gateHigh ≤ r.height →
      (∀ i : Fin 127, t ≤ curve[i] → (∀ j : Fin 127, i < j → curve[j] < t) → result = struck (i.val + 1)) ∧
      ((∀ i : Fin 127, curve[i] < t) → result = (missed, []))) ∧
    (r.height < c.gateHigh → c.gateLow ≤ r.height → result = (if curve[(0 : Fin 127)] < t then missed else k, [])) ∧
    (r.height < c.gateHigh → r.height < c.gateLow → result =
      (if rep then missed else { k with state := if c.press ≤ r.depth then .pressed else .rest, gateLowStamp := none }, []))) ∧
  (∀ (c : Calibration) (curve : Vector Nat 127) (stamp : Word32) (rawKey rawHammer : Nat) (k : Key),
    let result := k.track c curve stamp rawKey rawHammer
    let seen (q : Key) : Key := { q with lastRaw := some (rawKey, rawHammer) }
    let r : Readings :=
      { depth := c.depth rawKey, height := c.height rawHammer
        previous := k.lastRaw.map fun p => (c.depth p.1, c.height p.2), stamp }
    let a := k.keyStep c r
    let b := a.1.hammerStep c curve r
    (k.state = .disabled → result = (seen k, [])) ∧
    (k.state = .calibrating → ∃ e, result = ({ seen k with extremes := some e }, []) ∧
      (k.extremes = none →
        e = { keyLow := rawKey, keyHigh := rawKey, hammerLow := rawHammer, hammerHigh := rawHammer }) ∧
      (∀ x, k.extremes = some x → e =
        { keyLow := min x.keyLow rawKey, keyHigh := max x.keyHigh rawKey, hammerLow := min x.hammerLow rawHammer
          hammerHigh := max x.hammerHigh rawHammer })) ∧
    (k.state ≠ .disabled → k.state ≠ .calibrating → result = (seen b.1, a.2 ++ b.2))) ∧
  (∀ (k : Fin 88) (s : State),
    (∀ velocity rep, s.handEvent k (.down velocity rep) =
      (((s.mapVoice (Engine.noteOn k .live velocity)).mapHub fun h =>
        h.note .keyDown k.val velocity 0 0 { rep := rep }).mapRecorder
          (Desk.keyDown k velocity rep s.pedals.emitted)).mapStage (Stage.liveStrike k)) ∧
    (∀ velocity strike forced, s.handEvent k (.up velocity strike forced) =
      ((s.updateVoice (VoiceEngine.noteOff k .live)).mapHub fun h =>
        h.note .keyUp k.val velocity strike 0 { forced := forced }).mapRecorder (Desk.keyUp k velocity forced)) ∧
    s.handEvent k .launch = s.mapDeck Deck.launchNotice) ∧
  (∀ d : Deck,
    let zone : Prop := (d.config.crossStart : Int) ≤ d.rail.position ∧ d.rail.position ≤ (d.config.crossEnd : Int)
    let pauses : Prop := d.rail.stopping = false ∧ (d.rail.state = .moving ∧ zone ∨ d.rail.state = .homing)
    (¬ pauses → d.launchNotice = d) ∧
    (∀ move m, pauses → d.rail.active = some move → d.rail.motion = some m → m.started = true →
      d.launchNotice = { d with
        hub := d.hub.note .rail move.kind.code (clampPosition d.rail.position) 12 0 {}
        rail := { d.rail with
          state := .paused, pauseSince := d.hub.now, pauseExpired := false
          motion := some { m with phase := .decelerate, change := slowToFL move.profile d.hub.now m } } })) ∧
  (∀ (n : Fin 8) (s : State),
    (∃ keys : Vector Key 88, s.keyLaneUp n = State.reevalQuiet { s with keys := keys } ∧ ∀ k : Fin 88, keys[k] =
      if laneOf k = n ∧ s.keys[k].masked = false then { s.keys[k] with state := .waitRest } else s.keys[k]) ∧
    s.keyLaneLost n = State.reevalQuiet ((List.finRange 11).foldl (fun u j => u.loseKey (laneKey n j)) s) ∧
    (∀ k : Fin 88, (s.keyLaneLost n).keys[k] =
      if laneOf k = n then
        { s.keys[k] with
          state := .disabled, openNote := false, gateLowStamp := none, rearmStamp := none, lastRaw := none, extremes := none }
      else s.keys[k]) ∧
    (s.keyLaneLost n).pedals.capture =
      s.pedals.capture.filter fun k => !(decide (laneOf k = n) && s.keys[k].openNote)) ∧
  (∀ (k : Fin 88) (s : State),
    let lost : State := { s with keys := s.keys.set k { s.keys[k] with
      state := .disabled, openNote := false, gateLowStamp := none, rearmStamp := none, lastRaw := none, extremes := none } }
    (s.keys[k].openNote = false → s.loseKey k = lost) ∧
    (s.keys[k].openNote = true → s.loseKey k = (lost.handEvent k (.up 64 s.keys[k].lastVelocity true)).uncapture k) ∧
    (k ∉ s.pedals.capture → s.uncapture k = s) ∧
    (k ∈ s.pedals.capture → let rest := s.pedals.capture.filter fun c => c ≠ k
      s.uncapture k = { s with pedals := { s.pedals with capture := rest }, voice := s.voice.setCapture rest })) ∧
  (∀ s : State,
    let event (p : Fin 3) (detail : Nat) (u : State) : State :=
      (u.mapHub fun h => h.note .pedal p.val 0 detail 0 { forced := true }).mapRecorder (Desk.pedal p 0 true)
    s.pedalLaneLost = event 2 1 (event 1 1 (event 0 2 { s with
      pedals := .reset, voice := ((s.voice.setDamper .live 0).setCapture []).setSoft .live false })) ∧
    s.pedalLaneUp = { s with pedals := { s.pedals with laneFlag := true } }) ∧
  (∀ (keys : List (Fin 88)) (ve : VoiceEngine), (ve.setCapture keys).capture = keys ∧
    ∀ j : Fin 96, let v := ve.voices[j]
      (ve.setCapture keys).voices[j] =
        if v.source = .live ∧ (v.phase = .sounding ∨ v.phase = .damping) then
          if v.key ∈ keys then { v with sostenutoHeld := true, phase := .sounding }
          else if v.sostenutoHeld then
            { v with
              sostenutoHeld := false
              phase := if v.phase = .sounding ∧ v.keyDown = false then .damping else v.phase }
          else v
        else v) ∧
  ∀ (lane : Fin 9) (bytes : List Byte) (s : State) (f : Frame) (crcGood : Bool), s.mainUp = true →
    parseFrame (frameReadings lane) bytes = some (f, crcGood) →
    let l := s.lanes[lane]
    let put (m : Lane) : State := { s with lanes := s.lanes.set lane m }
    let valid : Lane :=
      { l with expected := some (f.sequence + 1), frames := l.frames + 1, lastValid := some s.hub.performance, silence := 0
               validInPeriod := true }
    let result := exec (.laneFrame lane bytes) s
    let tracked (n : Fin 8) (j : Fin 11) (k : Key) : Key × List KeyEvent :=
      k.track s.calibration[laneKey n j] s.curve s.hub.tracking (f.readings.getD j.val 0) (f.readings.getD (11 + j.val) 0)
    (∀ since, l.phase = .awaitFrame since → l.state ≠ .active → s.hub.now ≤ since + 2000 →
      (crcGood = true → ∃ t, result = .next t ∧ t.lanes[lane] = { valid with state := .active, phase := .idle } ∧
        (∀ (n : Fin 8) (j : Fin 11), lane = n.castSucc →
          let k := s.keys[laneKey n j]
          t.keys[laneKey n j] = (tracked n j (if k.masked then k else { k with state := .waitRest })).1) ∧
        (lane = 8 → t.pedals.laneFlag = true)) ∧
      (crcGood = false → result = .next (put { l with errors := l.errors + 1 }))) ∧
    (∀ expected, l.state = .active → l.expected = some expected →
      (crcGood = true → f.sequence = expected →
        (∃ t, result = .next t ∧ t.lanes = s.lanes.set lane valid ∧
          (∀ (n : Fin 8) (j : Fin 11), lane = n.castSucc →
            t.keys[laneKey n j] = (tracked n j s.keys[laneKey n j]).1) ∧
          (∀ (n : Fin 8) (j : Fin 11), lane ≠ n.castSucc → t.keys[laneKey n j] = s.keys[laneKey n j])) ∧
        (∀ n : Fin 8, lane = n.castSucc → result = .next (State.reevalQuiet <|
          (List.finRange 11).foldl (fun u j =>
            let p := tracked n j u.keys[laneKey n j]
            p.2.foldl (fun w e => w.handEvent (laneKey n j) e) { u with keys := u.keys.set (laneKey n j) p.1 }) (put valid))) ∧
        (lane = 8 →
          let old := s.pedals
          let level (p : Fin 3) : Nat := s.pedalSettings.calibration[p].level (f.readings.getD p.val 0)
          let pressed (p : Fin 3) (was : Bool) : Bool := if was then 48 ≤ level p else 64 ≤ level p
          let sostenuto := pressed 1 old.sostenuto
          let soft := pressed 2 old.soft
          let changed (p : Fin 3) : Bool :=
            if p = 1 then sostenuto != old.sostenuto else if p = 2 then soft != old.soft else false
          let detail (p : Fin 3) : Nat :=
            if changed p then (if (if p = 1 then sostenuto else soft) then 0 else 1) else 2
          let gives (p : Fin 3) : Bool := decide (s.pedalSettings.step ≤ distance (level p) old.emitted[p]) ||
            (decide (level p = 0 ∨ level p = 127) && decide (level p ≠ old.emitted[p])) || changed p
          let capture :=
            if changed 1 then (if sostenuto then (List.finRange 88).filter fun k => s.keys[k].openNote else []) else old.capture
          let held := if changed 1 then (s.voice.setDamper .live (level 0)).setCapture capture else s.voice.setDamper .live (level 0)
          let u : State :=
            { put valid with
              pedals := { old with
                level := Vector.ofFn level, sostenuto := sostenuto, soft := soft, capture := capture
                emitted := Vector.ofFn fun p => if gives p then level p else old.emitted[p] }
              voice := if changed 2 then held.setSoft .live soft else held }
          let emit (p : Fin 3) (w : State) : State :=
            if gives p then
              (w.mapHub fun h => h.note .pedal p.val (level p) (detail p) 0 {}).mapRecorder (Desk.pedal p (level p) false)
            else w
          result = .next (emit 2 (emit 1 (emit 0 u))))) ∧
      (∀ next, (crcGood = false ∧ next = expected + 1 ∨
          crcGood = true ∧ f.sequence ≠ expected ∧ next = f.sequence + 1) →
        let window := if l.errorWindow.contains 0 then l.errorWindow else 0 :: l.errorWindow
        (window.length < 9 → result = .next (put { l with expected := some next, errors := l.errors + 1, errorWindow := window })) ∧
        (9 ≤ window.length → ∃ t, result = .next t ∧
          (t.lanes[lane].state = .recovering ∨ t.lanes[lane].state = .absent) ∧ t.lanes[lane].errors = l.errors + 1 ∧
          (∀ (n : Fin 8) (j : Fin 11), lane = n.castSucc → t.keys[laneKey n j] = { s.keys[laneKey n j] with
            state := .disabled, openNote := false, gateLowStamp := none, rearmStamp := none, lastRaw := none
            extremes := none }) ∧
          (lane = 8 → t.pedals = .reset))))

/-- R16, R17: LANE_CONTROL enables, disables, reprobes or reports one lane and answers with its record; the other lanes are as
before. R14, R32, R50: an ACTIVE lane that is disabled or reprobed loses its consumer: its keys become DISABLED without an open
note or a reading, the pedals return to their reset values. R36: a key lane reprobed leaves the rail told false; at one disabled
the notice goes before the record changes, the model's choice (log 53), so that a quiet condition that is true after it has been
held for no time. -/
def Obligations.LaneControlActsOnOneLane : Prop :=
  ∀ (slot : Fin 32) (tag : Word16) (a : List Byte) (s : State) (lane : Fin 9), s.hands slot = true → RequestsOwed s →
    u8At a 0 = lane.val → u8At a 1 ≤ 3 → (u8At a 1 = 2 → s.lanes[lane].state ≠ .off) →
    let l := s.lanes[lane]
    let probe (m : Lane) : Lane :=
      { m with state := .probing, expected := none, errorWindow := [], silence := 0, phase := .hold (s.hub.now + 1500) }
    let forgiven : Lane := { l with attempts := 0, retryOpened := none, absentReason := .none }
    let result : Lane :=
      match u8At a 1 with
      | 0 => if l.state = .off then probe { l with enabled := true } else { l with enabled := true }
      | 1 => { forgiven with enabled := false, state := .off, phase := .idle }
      | 2 => probe forgiven
      | _ => l
    ∃ t, exec (.laneControl slot tag a) s = .next t ∧ Answered slot tag .ok t.lanes[lane].result s t ∧
      t.lanes = s.lanes.set lane result ∧
      (l.state = .active → u8At a 1 = 1 ∨ u8At a 1 = 2 →
        (∀ (n : Fin 8) (j : Fin 11), lane = n.castSucc → t.keys[laneKey n j] = { s.keys[laneKey n j] with
          state := .disabled, openNote := false, gateLowStamp := none, rearmStamp := none, lastRaw := none
          extremes := none }) ∧
        (lane = 8 → t.pedals = .reset) ∧
        (lane ≠ 8 → u8At a 1 = 1 → t.rail.quiet = true → t.rail.quietSince = s.hub.now) ∧
        (lane ≠ 8 → u8At a 1 = 2 → t.rail.quiet = false)) ∧
      (l.state ≠ .active ∨ u8At a 1 = 0 ∨ u8At a 1 = 3 → t.keys = s.keys ∧ t.pedals = s.pedals)

/-! ### Keys and hammers (02_key_and_hammer_tracking.md) -/

/-- R34, R35: SENSE_CONFIG sets the masks and the LED levels whose apply flags are set and answers with them as they then stand. A
key that becomes masked is DISABLED without an open note; one that becomes unmasked enters WAIT_REST if its lane is ACTIVE. -/
def Obligations.SenseConfigSetsMasksAndLevels : Prop :=
  ∀ (slot : Fin 32) (tag : Word16) (a : List Byte) (s : State), s.hands slot = true → RequestsOwed s →
    (bitOf (u8At a 0) 1 = true → ∀ i : Fin 9, u8At a (12 + i.val) ≤ 15) →
    ∃ t, exec (.senseConfig slot tag a) s = .next t ∧
      Answered slot tag .ok
        (maskBytes (t.keys.toList.map Key.masked) ++ t.lanes.toList.flatMap fun l => le8 l.ledLevel) s t ∧
      (∀ k : Fin 88, t.keys[k].masked = if bitOf (u8At a 0) 0 then maskBit a 1 k.val else s.keys[k].masked) ∧
      (∀ k : Fin 88, bitOf (u8At a 0) 0 = true → maskBit a 1 k.val = true → s.keys[k].masked = false →
        t.keys[k].state = .disabled ∧ t.keys[k].openNote = false) ∧
      (∀ k : Fin 88, bitOf (u8At a 0) 0 = true → maskBit a 1 k.val = false → s.keys[k].masked = true →
        t.keys[k] = { s.keys[k] with
          masked := false, state := if s.lanes[(laneOf k).castSucc].state = .active then .waitRest else s.keys[k].state }) ∧
      (∀ k : Fin 88, (bitOf (u8At a 0) 0 = false ∨ maskBit a 1 k.val = s.keys[k].masked) → t.keys[k] = s.keys[k]) ∧
      (∀ i : Fin 9, t.lanes[i] =
        if bitOf (u8At a 0) 1 then { s.lanes[i] with ledLevel := u8At a (12 + i.val) } else s.lanes[i])

/-- R37 to R40: CALIBRATE_KEYS opens a window on a range of keys and stays in flight; the window's end gives each CALIBRATING key
that has travelled 200 in both readings its new rest and far values, sends every CALIBRATING key to WAIT_REST, writes the whole
table to the result address, and completes the request OK with the number of keys calibrated and of those left unchanged. That the
table goes out as one posted write is the model's choice (log 39). -/
def Obligations.CalibrationOpensAndEnds : Prop :=
  ∀ s : State,
    (∀ (slot : Fin 32) (tag : Word16) (a : List Byte), s.hands slot = true → RequestsOwed s →
      u8At a 8 ≤ u8At a 9 → u8At a 9 ≤ 87 → 2 ≤ u8At a 10 → u8At a 10 ≤ 30 → u64At a 0 ≠ 0 → u64At a 0 % 4 = 0 →
      s.tracker.window = none → (∀ x, s.tracker.load = some x → x.calib = false) →
      ∃ t, exec (.calibrateKeys slot tag a) s = .next t ∧ TakenAndHeld slot s t ∧
        t.tracker.window = some
          { first := u8At a 8, last := u8At a 9, address := BitVec.ofNat 64 (u64At a 0)
            endsAt := s.hub.now + u8At a 10 * 1000000, slot } ∧
        (∀ k : Fin 88, u8At a 8 ≤ k.val → k.val ≤ u8At a 9 → s.keys[k].state ≠ .disabled →
          t.keys[k].state = .calibrating ∧ t.keys[k].extremes = none ∧ t.keys[k].openNote = false) ∧
        (∀ k : Fin 88, (k.val < u8At a 8 ∨ u8At a 9 < k.val ∨ s.keys[k].state = .disabled) → t.keys[k] = s.keys[k])) ∧
    (∀ w, s.mainUp = true → s.hub.attach = .attached → s.tracker.window = some w → w.endsAt ≤ s.hub.now →
      ∃ t, exec .calibWindowEnd s = .next t ∧ t.tracker.window = none ∧
        (∀ k : Fin 88, s.keys[k].state = .calibrating →
          t.keys[k] = { s.keys[k] with state := .waitRest, extremes := none }) ∧
        (∀ k : Fin 88, s.keys[k].state ≠ .calibrating → t.keys[k] = s.keys[k] ∧ t.calibration[k] = s.calibration[k]) ∧
        (∀ (k : Fin 88) (e : Extremes), s.keys[k].state = .calibrating → s.keys[k].extremes = some e →
          let c := s.calibration[k]
          t.calibration[k] =
            if 200 ≤ e.keyHigh - e.keyLow ∧ 200 ≤ e.hammerHigh - e.hammerLow then
              { c with
                keyRest := if c.keyRest < c.keyBottom then e.keyLow else e.keyHigh
                keyBottom := if c.keyRest < c.keyBottom then e.keyHigh else e.keyLow
                hammerRest := if c.hammerRest < c.hammerTop then e.hammerLow else e.hammerHigh
                hammerTop := if c.hammerRest < c.hammerTop then e.hammerHigh else e.hammerLow }
            else c) ∧
        (∀ k : Fin 88, s.keys[k].extremes = none → t.calibration[k] = s.calibration[k]) ∧
        let table : PostedWrite :=
          { writer := .tracker, address := w.address, data := t.calibration.toList.flatMap Calibration.bytes }
        let count := (List.finRange 88).countP fun k => s.keys[k].state = .calibrating && s.keys[k].extremes.any fun e =>
          200 ≤ e.keyHigh - e.keyLow && 200 ≤ e.hammerHigh - e.hammerLow
        (∃ after, t.hub.posted = s.hub.posted ++ table :: after) ∧
        (∀ e, s.hub.inFlightEntry w.slot = some e → ∃ after, t.hub.posted = s.hub.posted ++ table ::
          (s.hub.resultWrites w.slot e.tag .ok (le8 count ++ le8 (w.last + 1 - w.first - count)) 3 ++ after) ∧
          t.hub.holdsSlot w.slot = false))

/-- R41: CALIB_ABORT. With no window it is refused STATE. Otherwise every CALIBRATING key keeps its calibration record and enters
WAIT_REST with its extremes emptied, nothing is written to the result address, CALIBRATE_KEYS completes ABORTED with 0 keys
calibrated and the whole range unchanged, a CALIB record ABORTED is handed, CAUSE.SENSE is set, and CALIB_ABORT completes OK. -/
def Obligations.CalibAbortEndsTheWindow : Prop :=
  ∀ (slot : Fin 32) (tag : Word16) (a : List Byte) (s : State), s.hands slot = true →
    (s.tracker.window = none → ∃ t, exec (.calibAbort slot tag a) s = .next t ∧
      t.hub.posted = s.hub.posted ++ s.hub.resultWrites slot tag .state [] 4 ∧ t.keys = s.keys ∧ t.tracker = s.tracker) ∧
    (∀ w e, s.tracker.window = some w → s.hub.inFlightEntry w.slot = some e →
      s.hub.journal.state ≠ .off → ∃ t, exec (.calibAbort slot tag a) s = .next t ∧
        (∀ k : Fin 88, t.keys[k] =
          if s.keys[k].state = .calibrating then { s.keys[k] with state := .waitRest, extremes := none } else s.keys[k]) ∧
        t.calibration = s.calibration ∧ t.tracker = { s.tracker with window := none } ∧
        (∃ journal : List PostedWrite, (∀ x ∈ journal, x.writer = .journal) ∧
          t.hub.posted = s.hub.posted ++ s.hub.slotWrite slot 0 (le8 2) ::
            s.hub.resultWrites w.slot e.tag .aborted (le8 0 ++ le8 (w.last + 1 - w.first)) 3 ++ journal ++
              s.hub.resultWrites slot tag .ok [] 3) ∧
        t.hub.journal.handed = s.hub.journal.handed + 1 ∧
        (s.hub.journal.queue.length < 128 → s.hub.journal.state ≠ .filling → t.hub.journal.queue = s.hub.journal.queue ++
          [({ timestamp := s.hub.performance, kind := .calib, flags := {}, subject := w.first, detail := 2, value := w.last
              item := 0 }, s.hub.journal.runningGap)]) ∧
        t.hub.regs.cause.getLsbD 4 = true ∧ t.hub.holdsSlot slot = false ∧ t.hub.holdsSlot w.slot = false)

/-- R43, R61: TABLE_LOAD starts the load it names, its request stays in flight, and the reads that cover the table are requested:
one of 254 bytes for CURVE, four of 512, 512, 512 and 224 bytes for CALIB, 44 of 512 bytes for KEYMAP, in ascending address order. -/
def Obligations.TableLoadReadsItsTable : Prop :=
  ∀ (slot : Fin 32) (tag : Word16) (a : List Byte) (s : State), s.hands slot = true → s.hub.readsNumbered →
    u64At a 0 ≠ 0 → u64At a 0 % 4 = 0 →
    let address : Word64 := BitVec.ofNat 64 (u64At a 0)
    let next := s.hub.sched.nextReadId
    (u8At a 8 = 0 → s.tracker.load = none → ∃ t, exec (.tableLoad slot tag a) s = .next t ∧ TakenAndHeld slot s t ∧
      t.tracker = { s.tracker with load := some { calib := false, slot, chunks := [none] } } ∧
      t.hub.askedFor next [(.table 0, address, 254)]) ∧
    (u8At a 8 = 1 → s.tracker.load = none → s.tracker.window = none →
      ∃ t, exec (.tableLoad slot tag a) s = .next t ∧ TakenAndHeld slot s t ∧
        t.tracker = { s.tracker with load := some { calib := true, slot, chunks := [none, none, none, none] } } ∧
        t.hub.askedFor next [(.table 0, address, 512), (.table 1, address + 512, 512), (.table 2, address + 1024, 512),
          (.table 3, address + 1536, 224)]) ∧
    (u8At a 8 = 2 → s.voice.load = none → ∃ t, exec (.tableLoad slot tag a) s = .next t ∧ TakenAndHeld slot s t ∧
      t.voice = { s.voice with load := some { slot, chunks := List.replicate 44 none } } ∧
      t.hub.askedFor next (readsOf (n := 44) .keymap address))

/-- R43 to R45, R60 to R62, R192, R204: a read of a table that arrives is kept; the last one has the table checked, and applied
whole if it is valid, and the request completes; a failed read ends the load with the tables as they were, FAILED, and sets
CAUSE.FETCH of an ATTACHED part (its reads that still wait are withdrawn, log 62). A CURVE table has no entry above the one
before it, or INVALID names the first that is. A CALIB record meets R20, or INVALID names the first bad key; a load sends every
key not in REST or DISABLED to WAIT_REST and answers with their number. In a zone set of a KEYMAP table every used entry follows
used ones, has a velocity top above theirs, a sample and loop as R60 wants them, and the top 127 if it is the last used one;
INVALID names the key, the set and the first entry that fails; an entry used after an unused one is the one named (log 42). -/
def Obligations.TableReadsApplyValidTables : Prop :=
  ∀ (id : Nat) (r : Read) (bytes : List Byte) (s : State), s.mainUp = true → s.hub.outstandingRead id = some r →
    s.hub.now ≤ r.issuedAt + 2000 → r.discarded = false →
    (∀ part x, r.tag = .table part → s.tracker.load = some x →
      let chunks := putChunk x.chunks part.val (padded r.length bytes)
      let arrived := exec (.tableReadArrival id (.data bytes)) s
      (allChunks chunks = none → ∃ t, arrived = .next t ∧
        t = { s with hub := t.hub, tracker := { s.tracker with load := some { x with chunks := chunks } } }) ∧
      (∀ table, allChunks chunks = some table → x.calib = false → ∃ t, arrived = .next t ∧ t.tracker.load = none ∧
        let curve (v : Nat) : Nat := u16At table (2 * (v - 1))
        ((∀ v, 2 ≤ v → v ≤ 127 → curve v ≤ curve (v - 1)) →
          (∀ i : Fin 127, t.curve[i] = curve (i.val + 1)) ∧ Finished x.slot .ok [] s t) ∧
        (∀ v, 2 ≤ v → v ≤ 127 → curve (v - 1) < curve v → (∀ w, 2 ≤ w → w < v → curve w ≤ curve (w - 1)) →
          t.curve = s.curve ∧ Finished x.slot .invalid (le8 v) s t)) ∧
      (∀ table, allChunks chunks = some table → x.calib = true → ∃ t, arrived = .next t ∧ t.tracker.load = none ∧
        let field (k i : Nat) : Nat := u16At table (20 * k + 2 * i)
        let apart (a b : Nat) : Prop := a + 200 ≤ b ∨ b + 200 ≤ a
        let good (k : Nat) : Prop :=
          (∀ i < 4, field k i ≤ 1023) ∧ apart (field k 0) (field k 1) ∧ apart (field k 2) (field k 3) ∧
          field k 4 < field k 5 ∧ field k 5 < field k 6 ∧ field k 6 ≤ 1000 ∧
          field k 7 < field k 8 ∧ field k 8 < field k 9 ∧ field k 9 ≤ 1000
        let resting (k : Fin 88) : Bool := s.keys[k].state == .rest || s.keys[k].state == .disabled
        ((∀ k < 88, good k) →
          (∀ k : Fin 88, t.calibration[k] =
            { keyRest := field k 0, keyBottom := field k 1, hammerRest := field k 2, hammerTop := field k 3
              press := field k 4, damper := field k 5, rearm := field k 6, clear := field k 7
              gateLow := field k 8, gateHigh := field k 9 }) ∧
          (∀ k : Fin 88, t.keys[k].state = if resting k then s.keys[k].state else .waitRest) ∧
          Finished x.slot .ok (le8 ((List.finRange 88).countP fun k => !resting k)) s t) ∧
        (∀ k < 88, ¬ good k → (∀ j < k, good j) →
          t.calibration = s.calibration ∧ t.keys = s.keys ∧ Finished x.slot .invalid (le8 k) s t)) ∧
      (∃ t, exec (.tableReadArrival id .error) s = .next t ∧
        t = { s with hub := t.hub, tracker := { s.tracker with load := none } } ∧ Finished x.slot .failed [] s t ∧
        (s.hub.attach = .attached → t.hub.regs.cause.getLsbD 5 = true))) ∧
    (∀ part x, r.tag = .keymap part → s.voice.load = some x →
      let chunks := putChunk x.chunks part.val (padded r.length bytes)
      let arrived := exec (.keymapReadArrival id (.data bytes)) s
      (allChunks chunks = none → ∃ t, arrived = .next t ∧
        t = { s with hub := t.hub, voice := { s.voice with load := some { x with chunks := chunks } } }) ∧
      (∀ table, allChunks chunks = some table → ∃ t, arrived = .next t ∧
        let zone (set entry : Nat) : Zone :=
          let at_ := 128 * set + 32 * entry
          { address := BitVec.ofNat 64 (u64At table at_), length := u32At table (at_ + 8), loopStart := u32At table (at_ + 12)
            loopLength := u32At table (at_ + 16), decay := u16At table (at_ + 20), top := u8At table (at_ + 22) }
        let sample (z : Zone) : Prop :=
          z.address ≠ 0 ∧ z.address.toNat % 4 = 0 ∧ z.length ≠ 0 ∧ z.length % 2 = 0 ∧ (z.loopLength = 0 → z.loopStart = 0) ∧
          (z.loopLength ≠ 0 → 512 ≤ z.loopLength ∧ z.loopStart % 2 = 0 ∧ z.loopLength % 2 = 0 ∧
            z.loopStart + z.loopLength ≤ z.length)
        let good (set entry : Nat) : Prop :=
          (zone set entry).top = 0 ∨
          ((entry = 0 ∨ ((zone set (entry - 1)).top ≠ 0 ∧ (zone set (entry - 1)).top < (zone set entry).top)) ∧
            sample (zone set entry) ∧
            ((∀ later, entry < later → later < 4 → (zone set later).top = 0) → (zone set entry).top = 127))
        let used (set : Nat) : List Zone := ((List.range 4).map (zone set)).filter fun z => z.top ≠ 0
        ((∀ set < 176, ∀ entry < 4, good set entry) →
          t.voice = { s.voice with load := none, keyMap := t.voice.keyMap } ∧
          (∀ k : Fin 88, t.voice.keyMap[k] = { normal := used (2 * k), unaCorda := used (2 * k + 1) }) ∧
          Finished x.slot .ok (le8 ((List.range 88).countP fun k => (zone (2 * k) 0).top ≠ 0) ++
            le8 ((List.range 88).countP fun k => (zone (2 * k + 1) 0).top ≠ 0)) s t) ∧
        (∀ set < 176, ∀ entry < 4, ¬ good set entry → (∀ e < entry, good set e) → (∀ j < set, ∀ e < 4, good j e) →
          t.voice = { s.voice with load := none } ∧
          Finished x.slot .invalid (le8 (set / 2) ++ le8 (set % 2) ++ le8 entry) s t)) ∧
      (∃ t, exec (.keymapReadArrival id .error) s = .next t ∧
        t = { s with hub := t.hub, voice := { s.voice with load := none } } ∧ Finished x.slot .failed [] s t ∧
        (s.hub.attach = .attached → t.hub.regs.cause.getLsbD 5 = true)))

/-! ### Pedals, footswitches and jack sense (03_pedals_footswitches_and_jack_sense.md) -/

/-- R53, R54, R55, R56, R197: a footswitch change is pending until it has been held for its debounce time, and is then accepted. An
edge that the stage does not pass goes no further; in standby one that it passes may be a wake event, of which WakeScannerAndPulse
says what it does. R54, R97, R124, R148, R161: any
other passed edge is handed to the owner of its action, which carries it out or ignores it, and a FOOTSWITCH record says which; during a
standby entry every action but NONE is ignored (R194), the flag of a NONE record being the model's choice (log 50). A jack change is
pending for 32 ms, and is then accepted and handed to the output block. -/
def Obligations.InputChangesAreDebounced : Prop :=
  ∀ (i : Fin 2) (s : State), s.resetHeld ≠ some .powerOn →
    let g := s.switches[i]
    (∀ low, s.mainUp = true → low ≠ s.pins.jackLow → exec (.jackInputChange low) s = .next { s with
      pins := { s.pins with jackLow := low }
      jack := { s.jack with pendingSince := if low = s.jack.inserted then none else some s.hub.now } }) ∧
    (∀ low, low = s.pins.jackLow → exec (.jackInputChange low) s = .next s) ∧
    (∀ since, s.mainUp = true → s.jack.pendingSince = some since → since + 32000 ≤ s.hub.now →
      ∃ t, exec .jackDebounceExpiry s = .next t ∧ t = { s with
        hub := t.hub, jack := { inserted := !s.jack.inserted, pendingSince := none }
        output := { s.output with jackInserted := !s.jack.inserted } }) ∧
    (∀ high, high ≠ switchLevel i s.pins → 0 < g.debounce.micros →
      exec (.footswitchInputChange i high) s = .next { s with
        pins := setSwitchLevel i high s.pins
        switches := s.switches.set i { g with pendingSince := if high = g.high then none else some s.hub.now } }) ∧
    (∀ high, high ≠ switchLevel i s.pins → high ≠ g.high → g.debounce.micros = 0 →
      ∃ t, exec (.footswitchInputChange i high) s = .next t ∧
        t.switches = s.switches.set i { g with high := high, pendingSince := none } ∧
        t.pins = setSwitchLevel i high s.pins) ∧
    (∀ high, high = switchLevel i s.pins → exec (.footswitchInputChange i high) s = .next s) ∧
    (∀ since, g.pendingSince = some since → since + g.debounce.micros ≤ s.hub.now →
      let accepted := s.switches.set i { g with high := !g.high, pendingSince := none }
      (∃ t, exec (.footswitchDebounceExpiry i) s = .next t ∧ t.switches = accepted) ∧
      (g.edges.passes (!g.high) = false → exec (.footswitchDebounceExpiry i) s = .next { s with switches := accepted }) ∧
      (g.edges.passes (!g.high) = true → g.wake = true → (s.hub.attach = .standby ∨ s.hub.attach = .woken) →
        exec (.footswitchDebounceExpiry i) s = .next { s with
          switches := accepted, standby := s.standby.wakeEvent s.hub.now (.footswitch i) }) ∧
      (g.edges.passes (!g.high) = true → s.mainUp = true → s.hub.attach ≠ .standby → s.hub.attach ≠ .woken →
        let action := s.actions[i]
        let before : State := { s with switches := accepted }
        let noted (u : State) (ignored : Bool) : Prop := exec (.footswitchDebounceExpiry i) s = .next (u.mapHub fun h =>
          h.note .footswitch (i.val + 1) (flagBit (!g.high)) action.code 0 { ignored := ignored })
        (action = .none → noted before false) ∧
        (action ≠ .none → s.entry.isSome = true → noted before true) ∧
        (action = .playToggle → s.entry = none →
          (s.player.state ∉ [.playing, .waiting, .paused, .seeking] → noted before true) ∧
          (s.player.state = .seeking → noted { before with
            hub := before.hub.raise .practice
            player := { s.player with returnToPlaying := !s.player.returnToPlaying } } false) ∧
          (s.player.state = .paused → noted (before.mapStage fun p => p.resume.onHub (Hub.raise .practice)) false) ∧
          (s.player.state = .playing ∨ s.player.state = .waiting → ∃ u, noted u false ∧
            u = { before with hub := u.hub, voice := u.voice, player := u.player } ∧ u.player.state = .paused ∧
            u.player.openKeys = [] ∧ u.player.expected = [] ∧ u.player.held = s.player.held ∧
            u.player.position = s.player.position)) ∧
        (action = .metronomeToggle → s.entry = none → ∃ u, noted u false ∧
          u = { before with hub := u.hub, metronome := u.metronome } ∧
          u.metronome.settings = { s.metronome.settings with on := !s.metronome.settings.on } ∧
          (s.metronome.settings.on = true → u.metronome.beat = 0 ∧ u.metronome.click = none) ∧
          (s.metronome.settings.on = false → s.metronome.settings.mode = .free →
            u.metronome.beat = 1 ∧ u.metronome.bar = 1 ∧ u.metronome.anchor = s.voice.sampleClock.toNat) ∧
          (s.hub.attach = .attached → u.hub.regs.cause.getLsbD 3 = true)) ∧
        (action = .mark → s.entry = none →
          (s.recorder.state ≠ .recording → noted before true) ∧
          (s.recorder.state = .recording → ∃ u, noted u false ∧ u = { before with hub := u.hub, recorder := u.recorder } ∧
            u.recorder.nextMark = (s.recorder.nextMark + 1) % 256)) ∧
        (action = .railToggle → s.entry = none →
          let cls := positionClass s.railConfig s.rail
          (s.rail.state ≠ .idle ∨ cls = .crossing → noted before true) ∧
          (s.rail.state = .idle → cls = .silent ∨ cls = .nearSilent →
            noted (before.mapDeck (Deck.activate (internalMove .park))) false) ∧
          (s.rail.state = .idle → cls = .clear → noted (before.mapDeck (Deck.activate (internalMove .engage))) false))))

/-- R57, R58: PEDAL_CONFIG replaces the groups whose apply flags are set, hands the damper limits to the voice engine, and answers
with the settings and the pedal state as they then stand. -/
def Obligations.PedalConfigReplacesItsGroups : Prop :=
  ∀ (slot : Fin 32) (tag : Word16) (a : List Byte) (s : State), s.hands slot = true → RequestsOwed s →
    refusePedalConfig a = none →
    ∃ t, exec (.pedalConfig slot tag a) s = .next t ∧ Answered slot tag .ok t.pedalResult s t ∧
      (bitOf (u8At a 0) 0 = true → t.pedalSettings = PedalSettings.parse a ∧
        t.voice.damperFree = u8At a 1 ∧ t.voice.damperHold = u8At a 2) ∧
      (bitOf (u8At a 0) 0 = false → t.pedalSettings = s.pedalSettings ∧
        t.voice.damperFree = s.voice.damperFree ∧ t.voice.damperHold = s.voice.damperHold) ∧
      (∀ i : Fin 2, bitOf (u8At a 0) 1 = true →
        parseSwitch (u8At a (4 + i.val)) =
          some (t.switches[i].debounce, t.switches[i].edges, t.actions[i], t.switches[i].wake)) ∧
      (bitOf (u8At a 0) 1 = false → t.switches = s.switches ∧ t.actions = s.actions)

/-! ### The voice engine (04_the_voice_engine.md) -/

/-- R76, R77, R78: VOICE_CONFIG sets or reports the settings; a target at or above the count in use is the limit in force at once,
and below it the limit is that count and the excess is cut one by one in the steal order, those before their first fill going FREE
at once and lowering the limit. VOICE_CUT leaves no voice of a named source SOUNDING or DAMPING and no entry of it waiting; voices
past their first fill go to CUTTING, from the level they have. The note path: R65, R70, R71: a note-on that the gate turns away or
that finds no zone does nothing; one that finds room starts in the lowest FREE record, with the zone of its velocity and its first
fill requested; the alive voice of its pair goes to CUTTING and the CUTTING one ends. R72 to R75: without room it waits in the
queue, stealing a voice if fewer are CUTTING than wait, and is dropped when eight entries wait; the voice stolen is the quietest
in DAMPING, else the quietest SOUNDING one with its key up, else the oldest, ties going to the earlier start and then to the lower
record number; a record that goes FREE takes the entry that waits, if its gate and its zone still stand. R68: a note-off damps the
voices of its pair and removes its entry. The model's choices: the first fill is asked for as one read of 512 bytes (log 17);
levels are in Config.levelUnit, and an entry that joins steals a voice though the limit in force stands above its target (log 18);
the detail DROPPED is 0 (log 31); cuts are numbered (log 52); one VOICE_CONFIG sets the policy before its target makes room (log
72). -/
def Obligations.VoiceRequestsConfigureAndCut : Prop :=
  (∀ (key : Fin 88) (source : Source) (velocity : Nat) (e : Engine),
    let ve := e.2
    let pedals : PedalSet := match source with
      | .live => ve.livePedals
      | .playback => ve.playbackPedals
    let zones : KeyZones := ve.keyMap[key]
    let set : List Zone := if pedals.soft = true ∧ zones.unaCorda ≠ [] then zones.unaCorda else zones.normal
    let allowed : Prop := source = .playback ∨ ve.policy = .always ∨ (ve.policy = .silentOnly ∧ ve.atSilent = true)
    let scaled := if source = .live then velocity else min 127 (max 1 (velocity * ve.gain / 100))
    let after := e.noteOn key source velocity
    let isPair (v : Voice) : Prop := v.key = key ∧ v.source = source
    let noPair : Prop := (∀ j : Fin 96, ve.voices[j].phase ≠ .free → ¬ isPair ve.voices[j]) ∧
      ∀ p ∈ ve.queue, ¬ (p.key = key ∧ p.source = source)
    let full : Prop := ve.firstFree = none ∨ ve.limit ≤ ve.inUse
    let entry : PendingStart := { key, source, velocity := scaled }
    (¬ allowed ∨ set = [] → after = e) ∧
    (allowed → set ≠ [] → noPair → ve.queue = [] → ∀ k, ve.firstFree = some k → ve.inUse < ve.limit →
      (∀ j : Fin 96, j < k → ve.voices[j].phase ≠ .free) ∧ ve.voices[k].phase = .free ∧
      ∃ v : Voice, after.2 = { ve with voices := ve.voices.set k v } ∧
        v.phase = .sounding ∧ v.key = key ∧ v.source = source ∧ v.velocity = scaled ∧ v.keyDown = true ∧
        v.sostenutoHeld = (decide (source = .live) && ve.capture.contains key) ∧
        v.level = (127 - scaled) * 4 * Config.levelUnit ∧ v.startTime = ve.sampleClock.toNat ∧ v.firstFill = true ∧
        v.cursor = 0 ∧ v.startNumber = ve.voices[k].startNumber + 1 ∧ v.leftBehind = false ∧
        (∀ z, set.find? (fun z => scaled ≤ z.top) = some z → v.zone = z ∧
          (512 ≤ z.playEnd → e.1.readsNumbered →
            after.1.askedFor e.1.sched.nextReadId [(.voice k v.startNumber .first 0, z.address, 512)]))) ∧
    (allowed → set ≠ [] → ∀ k : Fin 96, isPair ve.voices[k] →
      (ve.voices[k].phase = .sounding ∨ ve.voices[k].phase = .damping → ve.voices[k].firstFill = false →
        ∃ n, ve.cuts ≤ n ∧ after.2.voices[k] = { ve.voices[k] with
          phase := .cutting, keyDown := false, sostenutoHeld := false, cutTime := ve.sampleClock.toNat
          cutLevel := ve.voices[k].level, cutNumber := n }) ∧
      (ve.voices[k].phase = .cutting → after.2.voices[k].phase ≠ .cutting)) ∧
    (allowed → set ≠ [] → noPair → full →
      (8 ≤ ve.queue.length → ve.queue.length ≤ ve.inPhase .cutting →
        after = (e.1.note .voice key.val scaled 0 0 { playback := decide (source = .playback) },
          { ve with drops := ve.drops + 1 })) ∧
      (ve.queue.length < 8 → ve.queue.length < ve.inPhase .cutting → after = (e.1, { ve with queue := ve.queue ++ [entry] })) ∧
      (∀ k, ve.queue.length < 8 → ve.queue.length = ve.inPhase .cutting → ve.victim = some k → ve.voices[k].firstFill = false →
        after = (e.1, { ve with
          queue := ve.queue ++ [entry], steals := ve.steals + 1, cuts := ve.cuts + 1
          voices := ve.voices.set k { ve.voices[k] with
            phase := .cutting, keyDown := false, sostenutoHeld := false, cutTime := ve.sampleClock.toNat
            cutLevel := ve.voices[k].level, cutNumber := ve.cuts } })))) ∧
  (∀ ve : VoiceEngine,
    let rank (v : Voice) : Nat :=
      match v.phase with
      | .damping => 0
      | .sounding => if v.keyDown then 2 else 1
      | _ => 3
    (ve.victim = none → ∀ j : Fin 96, rank ve.voices[j] = 3) ∧
    (∀ k, ve.victim = some k → rank ve.voices[k] < 3 ∧ ∀ j : Fin 96, rank ve.voices[k] ≤ rank ve.voices[j] ∧
      let earlier : Prop := ve.voices[k].startTime < ve.voices[j].startTime ∨
        (ve.voices[k].startTime = ve.voices[j].startTime ∧ k ≤ j)
      (rank ve.voices[j] = rank ve.voices[k] → rank ve.voices[k] < 2 → ve.voices[j].level < ve.voices[k].level ∨
        (ve.voices[j].level = ve.voices[k].level ∧ earlier)) ∧
      (rank ve.voices[j] = 2 → rank ve.voices[k] = 2 → earlier))) ∧
  (∀ (n : Nat) (e : Engine),
    e.cutExcess 0 = e ∧ (e.2.victim = none → e.cutExcess n = e) ∧
    ∀ k, e.2.victim = some k →
      let v := e.2.voices[k]
      (v.firstFill = false → e.cutExcess (n + 1) = Engine.cutExcess n (e.1, { e.2 with
        cuts := e.2.cuts + 1
        voices := e.2.voices.set k { v with
          phase := .cutting, keyDown := false, sostenutoHeld := false, cutTime := e.2.sampleClock.toNat, cutLevel := v.level
          cutNumber := e.2.cuts } })) ∧
      (v.firstFill = true → ∃ hub, e.cutExcess (n + 1) = Engine.cutExcess n (hub, { e.2 with
        voices := e.2.voices.set k { Voice.reset with startNumber := v.startNumber }
        limit := if e.2.target < e.2.limit then e.2.limit - 1 else e.2.limit }))) ∧
  (∀ (k : Fin 96) (e : Engine) (p : PendingStart), e.2.voices[k].phase ≠ .free → e.2.inUse ≤ e.2.limit →
    e.2.target = e.2.limit → e.2.queue = [p] →
    let after := e.release k
    (e.2.gateAllows p.source = true → e.2.zoneSet p.key p.source ≠ [] → after.2.queue = [] ∧ ∃ j : Fin 96,
      (j = k ∨ e.2.voices[j].phase = .free) ∧ after.2.voices[j].phase = .sounding ∧ after.2.voices[j].key = p.key ∧
        after.2.voices[j].source = p.source ∧ after.2.voices[j].velocity = p.velocity ∧
        after.2.voices[j].startTime = e.2.sampleClock.toNat) ∧
    (e.2.gateAllows p.source = false ∨ e.2.zoneSet p.key p.source = [] →
      after.2.queue = [] ∧ after.2.drops = e.2.drops + 1 ∧ after.2.voices[k].phase = .free)) ∧
  (∀ (key : Fin 88) (source : Source) (ve : VoiceEngine),
    let after := ve.noteOff key source
    (∀ j : Fin 96, after.voices[j] =
      let v := ve.voices[j]
      if v.phase ≠ .free ∧ v.key = key ∧ v.source = source then
        { v with keyDown := false, phase := if v.phase = .sounding ∧ v.sostenutoHeld = false then .damping else v.phase }
      else v) ∧
    after.queue = ve.queue.filter (fun p => !(p.key == key && p.source == source)) ∧
    after = { ve with voices := after.voices, queue := after.queue }) ∧
  ∀ (slot : Fin 32) (tag : Word16) (a : List Byte) (s : State), s.hands slot = true →
    (bitOf (u8At a 0) 0 = false → ∃ t, exec (.voiceConfig slot tag a) s = .next t ∧
      Answered slot tag .ok s.voice.configResult s t ∧ t = { s with hub := t.hub }) ∧
    (∀ policy, bitOf (u8At a 0) 0 = true → LivePolicy.ofCode (u8At a 1) = some policy → 16 ≤ u8At a 2 → u8At a 2 ≤ 96 →
      50 ≤ u8At a 3 → u8At a 3 ≤ 150 → 100 ≤ u16At a 4 → u16At a 4 ≤ 20000 →
      ∃ t, exec (.voiceConfig slot tag a) s = .next t ∧ Answered slot tag .ok t.voice.configResult s t ∧
        t.voice.policy = policy ∧ t.voice.target = u8At a 2 ∧ t.voice.gain = u8At a 3 ∧ t.voice.dampFull = u16At a 4 ∧
        let set (limit : Nat) : VoiceEngine := { s.voice with
          policy := policy, target := u8At a 2, gain := u8At a 3, dampFull := u16At a 4, limit := limit }
        (s.voice.inUse ≤ u8At a 2 → ∃ hub, t.voice = (Engine.settle false (hub, set (u8At a 2))).2) ∧
        (u8At a 2 < s.voice.inUse → ∃ hub,
          t.voice = (Engine.settle false (Engine.cutExcess (s.voice.inUse - u8At a 2) (hub, set s.voice.inUse))).2) ∧
        (s.voice.queue = [] →
          (s.voice.inUse ≤ u8At a 2 → t.voice = set (u8At a 2)) ∧
          (u8At a 2 < s.voice.inUse → (∀ j : Fin 96, s.voice.voices[j].firstFill = false) →
            t.voice.limit = s.voice.inUse ∧ t.voice.inUse = s.voice.inUse ∧
            t.voice.inPhase .cutting = min s.voice.inUse (s.voice.inPhase .cutting + (s.voice.inUse - u8At a 2))))) ∧
    (1 ≤ u8At a 0 → u8At a 0 ≤ 3 →
      let named (source : Source) : Bool := source.inMask (u8At a 0)
      ∃ t, exec (.voiceCut slot tag a) s = .next t ∧
        Answered slot tag .ok
          (le8 (s.voice.count fun v => named v.source && v.alive) ++ le8 (s.voice.queue.countP fun p => named p.source)) s t ∧
        (∀ k : Fin 96, t.voice.voices[k].alive = true → named t.voice.voices[k].source = false) ∧
        (∀ k : Fin 96, s.voice.voices[k].alive = true → named s.voice.voices[k].source = true →
          s.voice.voices[k].firstFill = false →
          ∃ n, s.voice.cuts ≤ n ∧ t.voice.voices[k] = { s.voice.voices[k] with
            phase := .cutting, keyDown := false, sostenutoHeld := false, cutTime := s.voice.sampleClock.toNat
            cutLevel := s.voice.voices[k].level, cutNumber := n }) ∧
        t.voice.queue <:+ s.voice.queue.filter fun p => !named p.source)

/-- R63, R66, R86, R87, R91: one output sample period. It moves the volume and the mute gain one step, sends the mixed, limited and muted
value, counts the clips and the sample clock, and steps the click. R66, R80, R81, R64: each voice past its first fill hands over its
attenuated sample; its cursor and its level move on; it ends at the level floor or at the end of an unlooped sample, reads on when
a half is played out, and ends as an underrun when the other half is not FULL. A fade ends after 240 periods and a click with its last
one. A freed record keeps nothing but its start number (log 7). The model's choices: the attenuation of a level is the product of log
14; a level takes its step after its sample is mixed (log 15); a click that is over and fades that are over, whose rows have not
come, end before the period is mixed (log 16), the voice cut first the first, and before any other voice that ends in the period
(log 52); the details UNDERRUN 1 (log 31). R88: both slots of a frame carry the same 24-bit word, most significant bit first, one bit
clock after the HP_LRCK edge, with zeros after it; that HP_SDO is low in the bit clock before the word and that a period begins with
the falling edges is log 43, and that the lines go on without VMAIN is log 59. With the clocks stopped all four outputs are low. -/
def Obligations.SamplePeriodsMixAndEndFades : Prop :=
  (∀ (word : BitVec 24) (t : Nat), t < 512 →
    let pins := i2sFrame word t
    let bit := t / 8 % 32
    (pins.mclk = true ↔ t % 2 = 1) ∧ (pins.bclk = true ↔ 4 ≤ t % 8) ∧ (pins.lrck = true ↔ 256 ≤ t) ∧
      (bit = 0 ∨ 24 < bit → pins.sdo = false) ∧ (1 ≤ bit → bit ≤ 24 → pins.sdo = word.getLsbD (24 - bit))) ∧
  (∀ s : State,
    (s.output.i2sSince = none → s.i2sLevels = { mclk := false, bclk := false, lrck := false, sdo := false }) ∧
    (∀ since, s.output.i2sSince = some since →
      s.i2sLevels = i2sFrame s.output.i2sWord ((s.hub.now - since) * 24576 / 1000 % 512))) ∧
  (∀ (voices click : Int) (o : Output),
    let current :=
      if o.current < o.setting then o.current + 1 else if o.setting < o.current then o.current - 1 else o.current
    let gain := if o.mute || !o.jackInserted || o.standby then o.gain - 1 else min 960 (o.gain + 1)
    let scaled : Int := ((voices + click * 2 ^ 64) * current).tdiv (127 * 2 ^ 64)
    let limited : Int := if 32767 < scaled then 32767 else if scaled < -32768 then -32768 else scaled
    o.period voices click = { o with
      current := current, gain := gain, i2sWord := BitVec.ofInt 24 ((limited * gain).tdiv 960 * 256)
      clips := if limited = scaled then o.clips else o.clips + 1 }) ∧
  (∀ (k : Fin 96) (e : Engine), e.2.voices[k].phase ≠ .free → e.2.queue = [] → e.release k =
    (e.1.dropReads fun t => match t with
        | .voice rec _ _ _ => rec == k
        | _ => false,
      { e.2 with
        voices := e.2.voices.set k { Voice.reset with startNumber := e.2.voices[k].startNumber }
        limit := if e.2.target < e.2.limit then e.2.limit - 1 else e.2.limit })) ∧
  (∀ (n : Nat) (e : Engine),
    let faded (k : Fin 96) : Prop :=
      e.2.voices[k].phase = .cutting ∧ e.2.voices[k].cutTime + 240 ≤ e.2.sampleClock.toNat
    ((∀ k, ¬ faded k) → e.endFades n = e) ∧
    (∀ k, faded k → (∀ j, faded j → j ≠ k → e.2.voices[k].cutNumber < e.2.voices[j].cutNumber) →
      e.endFades (n + 1) = (e.release k).endFades n)) ∧
  (∀ e : Engine, let ended := e.endFades 96
    e.period = (List.finRange 96).foldl (fun p k => Engine.playVoice k p)
      ((ended.1, { ended.2 with sampleClock := ended.2.sampleClock + 1 }), 0)) ∧
  (∀ (k : Fin 96) (e : Engine) (sum : Int),
    let v := e.2.voices[k]
    let zone := v.zone
    let played := if v.playB then v.halfB else v.halfA
    let other := if v.playB then v.halfA else v.halfB
    let pedal := (match v.source with
      | .live => e.2.livePedals
      | .playback => e.2.playbackPedals).damper
    let damping :=
      if pedal ≤ e.2.damperFree then e.2.dampFull
      else if e.2.damperHold ≤ pedal then 0
      else e.2.dampFull * (e.2.damperHold - pedal) / (e.2.damperHold - e.2.damperFree)
    let floor := 960 * Config.levelUnit
    let level :=
      match v.phase with
      | .cutting => v.cutLevel + (floor - v.cutLevel) * min 240 (e.2.sampleClock.toNat - v.cutTime) / 240
      | .damping => v.level + (zone.decay + damping) * 240
      | .sounding => v.level + zone.decay * 240
      | .free => v.level
    let loopEnd := zone.loopStart + zone.loopLength
    let cursor :=
      if zone.loopLength ≠ 0 ∧ loopEnd ≤ v.cursor + 2 then zone.loopStart + (v.cursor + 2 - loopEnd) else v.cursor + 2
    let moved : Voice := { v with level := level, cursor := cursor, playPos := v.playPos + 2 }
    let put (w : Voice) : Engine := (e.1, { e.2 with voices := e.2.voices.set k w })
    let ends : Prop := v.phase ≠ .cutting ∧ floor ≤ level ∨
      level < floor ∧ zone.loopLength = 0 ∧ zone.length ≤ cursor
    let goesOn : Prop := level < floor ∧ ¬ (zone.loopLength = 0 ∧ zone.length ≤ cursor)
    (v.phase = .free ∨ v.firstFill = true → Engine.playVoice k (e, sum) = (e, sum)) ∧
    (v.phase ≠ .free → v.firstFill = false →
      Engine.playVoice k (e, sum) = (e.advance k, sum + v.sample * attenuation v.level)) ∧
    (ends → e.advance k = (put moved).release k) ∧
    (v.phase = .cutting → floor ≤ level → e.advance k = put moved) ∧
    (goesOn → v.playPos + 2 < played.data.length → e.advance k = put moved) ∧
    (goesOn → played.data.length ≤ v.playPos + 2 → other.state ≠ .full →
      (v.leftBehind = true → e.advance k = (put moved).release k) ∧
      (v.leftBehind = false → e.advance k = Engine.release k
        (e.1.note .voice v.key.val v.velocity 1 0 { playback := decide (v.source = .playback) },
          { (put moved).2 with underruns := e.2.underruns + 1 }))) ∧
    (goesOn → played.data.length ≤ v.playPos + 2 → other.state = .full →
      let turned : Voice := { moved with playB := !v.playB, playPos := 0 }
      let left (h : WindowHalf) : Voice := if v.playB then { turned with halfB := h } else { turned with halfA := h }
      (v.leftBehind = true ∨ zone.loopLength = 0 ∧ zone.length ≤ v.fetch →
        e.advance k = put (left { state := .empty, data := [], parts := [] })) ∧
      (v.leftBehind = false → (zone.loopLength = 0 → v.fetch < zone.length) →
        let stop := if zone.loopLength = 0 then zone.length else loopEnd
        let reads :=
          if v.fetch + 256 ≤ stop then [(v.fetch, 256)]
          else if zone.loopLength = 0 then [(v.fetch, stop - v.fetch)]
          else [(v.fetch, stop - v.fetch), (zone.loopStart, 256 - (stop - v.fetch))]
        let fetch :=
          if zone.loopLength = 0 then min zone.length (v.fetch + 256)
          else if loopEnd ≤ v.fetch + 256 then zone.loopStart + (v.fetch + 256 - loopEnd) else v.fetch + 256
        e.advance k =
          (e.1.requestFill k v.startNumber (.half v.playB) (e.2.sampleClock.toNat + other.data.length / 2) zone.address reads,
            (put { left { state := .filling, data := [], parts := List.replicate reads.length none } with
              fetch := fetch }).2)))) ∧
  ∀ s : State, s.mainUp = true →
    (∀ since, s.output.i2sSince = some since → 1000 * (s.voice.sampleClock.toNat + 1) ≤ 48 * (s.hub.now - since) →
      let p := Engine.period (s.hub, s.voice)
      let click : Int :=
        match s.metronome.click with
        | none => 0
        | some c =>
          if c.remaining = 0 then 0
          else if c.elapsed / (c.pitch + 1) % 2 = 0 then c.volume * 256 else -(c.volume * 256 : Nat)
      exec .outputSamplePeriod s = .next { s with
        hub := p.1.1, voice := p.1.2, output := s.output.period p.2 click
        metronome := { s.metronome with
          click := match s.metronome.click with
            | none => none
            | some c =>
              if c.remaining = 0 then none else some { c with remaining := c.remaining - 1, elapsed := c.elapsed + 1 } } } ∧
      p.1.2.sampleClock = s.voice.sampleClock + 1) ∧
    (∀ k : Fin 96, s.voice.voices[k].phase = .cutting → s.voice.voices[k].cutTime + 240 ≤ s.voice.sampleClock.toNat →
      ∃ t, exec (.cutFadeEnd k) s = .next t ∧ t.voice.voices[k].phase ≠ .cutting ∧
        (s.voice.queue = [] → t = { s with
          hub := t.hub
          voice := { s.voice with
            voices := s.voice.voices.set k { Voice.reset with startNumber := s.voice.voices[k].startNumber }
            limit := if s.voice.target < s.voice.limit then s.voice.limit - 1 else s.voice.limit } })) ∧
    (∀ c, s.metronome.click = some c → c.remaining = 0 →
      exec .clickEnd s = .next { s with metronome := { s.metronome with click := none } })

/-- R79, R80, R82, R192: voice data that arrives for the voice that asked for it fills its half, the first fill both; a failed
read sets CAUSE.FETCH of an ATTACHED part, gives the VOICE record FETCH_FAIL (detail code 2, log 31) and frees the voice, whose
record keeps its start number alone (log 7) and whose other reads are withdrawn or discarded; the freed slot goes to the oldest
pending entry (R74: discarded with the reason GATED or NO_ZONE, or started), and R75 steals for those that still wait (log 18);
data for a voice that has since ended or been restarted does nothing, and neither does its failure, but for CAUSE.FETCH. That
one read of 512 bytes fills both halves is the model's reading of R79 (log 17). -/
def Obligations.VoiceReadsFillTheirVoice : Prop :=
  let ownReads (k : Fin 96) (tag : ReadTag) : Bool :=
    match tag with
    | .voice rec _ _ _ => rec == k
    | _ => false
  let freed (k : Fin 96) (e : Engine) : Engine :=
    (e.1.dropReads (ownReads k), { e.2 with
      voices := e.2.voices.set k { Voice.reset with startNumber := e.2.voices[k].startNumber }
      limit := if e.2.target < e.2.limit then e.2.limit - 1 else e.2.limit })
  (∀ (joined : Bool) (n : Nat) (e : Engine),
    let go (x : Engine) : Engine := x.settleFor joined n
    let result := e.settleFor joined (n + 1)
    let room : Prop := (∃ k : Fin 96, e.2.voices[k].phase = .free) ∧ e.2.inUse < e.2.limit
    (e.2.queue = [] → result = e) ∧
    (∀ p rest (k : Fin 96), e.2.queue = p :: rest → e.2.voices[k].phase = .free → (∀ j < k, e.2.voices[j].phase ≠ .free) →
      e.2.inUse < e.2.limit →
      let taken : VoiceEngine := { e.2 with queue := rest }
      let discarded (reason : Nat) : Engine :=
        (e.1.note .voice p.key.val p.velocity 0 reason { playback := decide (p.source = .playback) },
          { taken with drops := e.2.drops + 1 })
      (e.2.gateAllows p.source = false → result = go (discarded 1)) ∧
      (e.2.gateAllows p.source = true → e.2.zoneSet p.key p.source = [] → result = go (discarded 2)) ∧
      (e.2.gateAllows p.source = true → e.2.zoneSet p.key p.source ≠ [] →
        result = go (Engine.startIn k p.key p.source p.velocity (e.1, taken)))) ∧
    (¬ room →
      (joined = false ∧ e.2.target < e.2.limit ∨ e.2.queue.length ≤ e.2.inPhase .cutting ∨ e.2.victim = none → result = e) ∧
      (∀ k, (joined = true ∨ e.2.limit ≤ e.2.target) → e.2.inPhase .cutting < e.2.queue.length → e.2.victim = some k →
        let v := e.2.voices[k]
        (v.firstFill = false → result = go (e.1, { e.2 with
          steals := e.2.steals + 1, cuts := e.2.cuts + 1
          voices := e.2.voices.set k { v with
            phase := .cutting, keyDown := false, sostenutoHeld := false, cutTime := e.2.sampleClock.toNat, cutLevel := v.level
            cutNumber := e.2.cuts } })) ∧
        (v.firstFill = true → result = go ((freed k e).1, { (freed k e).2 with steals := e.2.steals + 1 }))))) ∧
  ∀ (id : Nat) (r : Read) (bytes : List Byte) (s : State) (k : Fin 96) (start : Word16) (target : FillTarget)
    (part : Fin 2), s.mainUp = true → s.hub.outstandingRead id = some r → s.hub.now ≤ r.issuedAt + 2000 →
    r.discarded = false → r.tag = .voice k start target part →
    let v := s.voice.voices[k]
    let data := padded r.length bytes
    let put (w : Voice) : VoiceEngine := { s.voice with voices := s.voice.voices.set k w }
    let arrived := exec (.voiceReadArrival id (.data bytes)) s
    (v.inUse = true → v.startNumber = start →
      (target = .first → ∃ t, arrived = .next t ∧ t = { s with hub := t.hub, voice := put { v with
        halfA := .filled (data.take 256), halfB := .filled (data.drop 256), firstFill := false, playB := false
        playPos := 0 } }) ∧
      (target = .half false → ∃ t, arrived = .next t ∧
        t = { s with hub := t.hub, voice := put { v with halfA := v.halfA.receive part.val data } }) ∧
      (target = .half true → ∃ t, arrived = .next t ∧
        t = { s with hub := t.hub, voice := put { v with halfB := v.halfB.receive part.val data } }) ∧
      (let failed : Hub := ((s.hub.retireRead id).raise .fetch).note .voice v.key.val v.velocity 2 0
          { playback := decide (v.source = .playback) }
       let ended := freed k (failed, s.voice)
       let served := ended.settleFor false 256
       exec (.voiceReadArrival id .error) s = .next { s with hub := served.1, voice := served.2 } ∧
       (s.voice.queue = [] → served = ended))) ∧
    ((v.inUse = false ∨ v.startNumber ≠ start) → (∃ t, arrived = .next t ∧ t = { s with hub := t.hub }) ∧
      exec (.voiceReadArrival id .error) s = .next { s with hub := (s.hub.retireRead id).raise .fetch })

/-! ### Output and metronome (05_headphone_output_and_metronome.md) -/

/-- R89: OUTPUT_CONFIG. A value out of its range whose apply flag is set refuses the request INVALID with nothing applied; otherwise
the settings whose flags are set take their values, and the request completes OK at once with the output state as it stands. The
current volume and the mute gain are left to move by R86 and R87. -/
def Obligations.OutputConfigSetsVolumeAndMute : Prop :=
  ∀ (slot : Fin 32) (tag : Word16) (a : List Byte) (s : State), s.hands slot = true →
    let volume := bitOf (u8At a 0) 0
    let mute := bitOf (u8At a 0) 1
    ((volume = true ∧ 127 < u8At a 1 ∨ mute = true ∧ u8At a 2 ≠ 0 ∧ u8At a 2 ≠ 1) →
      ∃ t, exec (.outputConfig slot tag a) s = .next t ∧
        t.hub.posted = s.hub.posted ++ s.hub.resultWrites slot tag .invalid [] 4 ∧ t = { s with hub := t.hub }) ∧
    ((volume = true → u8At a 1 ≤ 127) → (mute = true → u8At a 2 = 0 ∨ u8At a 2 = 1) →
      ∃ t, exec (.outputConfig slot tag a) s = .next t ∧
        t = { s with
          hub := t.hub
          output := { s.output with
            setting := if volume then u8At a 1 else s.output.setting
            mute := if mute then decide (u8At a 2 = 1) else s.output.mute } } ∧
        Answered slot tag .ok
          (le8 t.output.setting ++ le8 s.output.current ++ le8 (flagBit t.output.mute) ++
            le8 (flagBit s.output.jackInserted) ++ le8 t.output.muteState ++ [0, 0, 0] ++ le32 s.output.clips.toNat) s t)

/-- R96: METRONOME replaces the settings with its apply flag set, and only reports them otherwise. Switching it on in FREE mode gives
beat 1 of bar 1 at once and starts the grid there; switching it off ends the click. -/
def Obligations.MetronomeRequestSetsAndStarts : Prop :=
  ∀ (slot : Fin 32) (tag : Word16) (a : List Byte) (s : State), s.hands slot = true →
    (bitOf (u8At a 0) 0 = false → ∃ t, exec (.metronome slot tag a) s = .next t ∧
      Answered slot tag .ok s.metronome.result s t ∧ t = { s with hub := t.hub }) ∧
    (∀ new, bitOf (u8At a 0) 0 = true → MetronomeSettings.parse a = some new →
      ∃ t, exec (.metronome slot tag a) s = .next t ∧ Answered slot tag .ok t.metronome.result s t ∧
        t = { s with hub := t.hub, metronome := t.metronome } ∧ t.metronome.settings = new ∧
        (new.on = true → s.metronome.settings.on = false → new.mode = .free →
          t.metronome.beat = 1 ∧ t.metronome.bar = 1 ∧ t.metronome.index = 1 ∧
            t.metronome.anchor = s.voice.sampleClock.toNat ∧ t.metronome.gridTempo = new.tempo ∧
            t.metronome.click =
              some { remaining := new.clickLength * 48, pitch := new.accent, volume := new.volume, elapsed := 0 }) ∧
        (new.on = true → s.metronome.settings.on = false → new.mode = .follow →
          t.metronome.beat = 0 ∧ t.metronome.bar = 0 ∧ t.metronome.click = s.metronome.click) ∧
        (new.on = false → s.metronome.settings.on = true → t.metronome.beat = 0 ∧ t.metronome.click = none))

/-- R91, R92, R93, R95: a beat that is due, in FREE mode on the sample clock and in FOLLOW mode at a score position, is given with
the next number of the bar and starts its click; the next beat of the grid is then awaited. Score positions are of 32 bits and wrap,
compared as log 25 says; that a group due no later than a FOLLOW beat is dispatched first is R94's order as log 19 reads it. -/
def Obligations.DueBeatsAreGiven : Prop :=
  ∀ s : State, s.mainUp = true → s.metronome.settings.on = true → s.hub.attach ≠ .standby → s.hub.attach ≠ .woken →
    let m := s.metronome
    let number := if m.beat = 0 ∨ m.settings.beats ≤ m.beat then 1 else m.beat + 1
    let bar := if number = 1 then (if 65535 ≤ m.bar then 1 else m.bar + 1) else m.bar
    let click : Click :=
      { remaining := m.settings.clickLength * 48, pitch := if number = 1 then m.settings.accent else m.settings.pitch
        volume := m.settings.volume, elapsed := 0 }
    (m.settings.mode = .free → m.anchor + 2880000 * m.index / m.gridTempo ≤ s.voice.sampleClock.toNat →
      ∃ t, exec .freeBeatDue s = .next t ∧
        (m.reanchor = false → t = { s with
          hub := t.hub, metronome := { m with beat := number, bar := bar, click := some click, index := m.index + 1 } }) ∧
        (m.reanchor = true → t = { s with
          hub := t.hub
          metronome := { m with
            beat := number, bar := bar, click := some click, index := 1, gridTempo := m.settings.tempo, reanchor := false
            anchor := m.anchor + 2880000 * m.index / m.gridTempo } })) ∧
    (m.settings.mode = .follow → m.gridSet = true → s.player.state = .playing →
      let due := m.followAnchor + BitVec.ofNat 32 (6000000 * m.followIndex / m.followTempo)
      reached due s.player.position = true → s.player.groupDueBy due = false →
      ∃ t, exec .followBeatDue s = .next t ∧ t = { s with
        hub := t.hub
        metronome := { m with beat := number, bar := bar, click := some click, followIndex := m.followIndex + 1 } })

/-! ### The hammer-stop rail (06_the_hammer_stop_rail.md) -/

/-- R100, R99: RAIL_CONFIG replaces the configuration of a rail at rest whose next slot is empty by a valid one, and answers with
it. Its argument area is read as its row of Table 12-3 lays it out, a standby choice of 3 naming none, and answered as it came; a
configuration is valid when its positions stand in order and every setting lies in its range of Table 6-2. RAIL_QUERY answers with
the rail record in the layout of its row of Table 12-3 and changes nothing else, its fields of a move being what log 37 says, and
its target 0 (log 71), when none is active, the rate cut down to whole microsteps a second and the quiet-held time to whole
milliseconds (log 73). R125: the seven patterns; a lit half of a blink lasts 1 s, 1/2 s, 1/4 s or 1/8 s, and FADE rises over 1 s
and falls over 1 s, in thousandths of full brightness and by straight ramps (log 36). R101, R125, Tables 6-4 and 6-7: after a rail
operation AT_SILENT and the pattern are what the rail, the lamp mode and, in STANDBY and WOKEN, the standby lamp choice ask for;
every command of a part that is not held in reset keeps the pattern so. Whatever command changes the pattern starts the new one at
the beginning of its period: lit for ON and a blink, unlit for OFF and FADE. The lamp's tick drives the pattern shown, and the
output is driven high by that much under ACTIVE_HIGH polarity, low by it under ACTIVE_LOW. -/
def Obligations.RailConfigQueryAndLamp : Prop :=
  (∀ elapsed : Nat,
    let lit (half : Nat) : Nat := if elapsed / half % 2 = 0 then 1000 else 0
    LampPattern.off.brightnessAt elapsed = 0 ∧ LampPattern.on.brightnessAt elapsed = 1000 ∧
    LampPattern.blink05.brightnessAt elapsed = lit 1000000 ∧ LampPattern.blink1.brightnessAt elapsed = lit 500000 ∧
    LampPattern.blink2.brightnessAt elapsed = lit 250000 ∧ LampPattern.blink4.brightnessAt elapsed = lit 125000 ∧
    ∀ periods x : Nat, x ≤ 1000000 →
      (elapsed = 2000000 * periods + x → LampPattern.fade.brightnessAt elapsed = x / 1000) ∧
      (elapsed = 2000000 * periods + 1000000 + x → LampPattern.fade.brightnessAt elapsed = (1000000 - x) / 1000)) ∧
  (∀ (f : Deck → Deck) (s : State),
    let d := f s.deck
    let t := s.mapDeck f
    let asleep : Prop := d.hub.attach = .standby ∨ d.hub.attach = .woken
    let shows (p : LampPattern) : Prop :=
      t.lamp = if p = d.lamp.shown then d.lamp
        else { shown := p, since := d.hub.now, brightness := if p = .off ∨ p = .fade then 0 else 1000 }
    (t.voice.atSilent = true ↔ d.rail.state = .idle ∧ d.rail.position = d.config.silent ∧ d.rail.seated = true) ∧
    (asleep → d.config.standbyLamp = .keep → t.lamp = d.lamp) ∧
    (asleep → d.config.standbyLamp = .fade → shows .fade) ∧
    (asleep → d.config.standbyLamp = .off → shows .off) ∧
    (¬ asleep → (∀ p, d.config.lampMode = .show p → shows p) ∧
      (d.config.lampMode = .auto →
        (d.rail.state ∈ [.gated, .moving, .paused, .seating, .homing] → shows .blink2) ∧
        (d.rail.state ∈ [.unknown, .faulted] → shows .blink4) ∧
        (d.rail.state = .idle →
          let silent : Prop := d.rail.position = d.config.silent ∧ d.rail.seated = true
          (silent → shows .on) ∧ (¬ silent → d.rail.position < d.config.crossStart → shows .off) ∧
          (¬ silent → (d.config.crossStart : Int) ≤ d.rail.position → shows .blink1))))) ∧
  (∀ a : List Byte,
    let word (i : Nat) : Nat := u16At a (2 * i)
    let options := u8At a 23
    (RailConfig.parse a = none ↔ options / 8 % 4 = 3) ∧
    ∀ c, RailConfig.parse a = some c →
      [c.span, c.park, c.crossStart, c.crossEnd, c.silent] = [word 0, word 1, word 2, word 3, word 4] ∧
      c.profile = { fl := word 5, fh := word 6, accel := 100 * word 7, decel := 100 * word 8
                    sCurve := decide (options % 2 = 1), rampOffset := word 9 % 4096 } ∧
      c.homeIndexCount = word 9 / 4096 ∧ c.quietHold = u8At a 20 ∧ c.gateLimit = u8At a 21 ∧ c.pauseLimit = u8At a 22 ∧
      c.autoNext = decide (options / 2 % 2 = 1) ∧ c.activeLow = decide (options / 4 % 2 = 1) ∧
      some c.standbyLamp = [StandbyLamp.keep, .fade, .off][options / 8 % 4]? ∧
      some c.lampMode = [LampMode.auto, .show .off, .show .on, .show .blink05, .show .blink1, .show .blink2, .show .blink4,
        .show .fade][options / 32]? ∧
      (24 ≤ a.length → c.bytes = a.take 24)) ∧
  (∀ c : RailConfig,
    c.valid = true ↔
      (1 ≤ c.span ∧ c.span ≤ 32000 ∧ c.park < c.crossStart ∧ c.crossStart < c.crossEnd ∧ c.crossEnd ≤ c.silent ∧
        c.silent ≤ c.span) ∧
      (50 ≤ c.profile.fl ∧ c.profile.fl ≤ 2000) ∧ (c.profile.fl ≤ c.profile.fh ∧ c.profile.fh ≤ 40000) ∧
      (100 ≤ c.profile.accel ∧ c.profile.accel ≤ 200000) ∧ (100 ≤ c.profile.decel ∧ c.profile.decel ≤ 200000) ∧
      c.profile.rampOffset ≤ 2000 ∧ c.homeIndexCount ≤ 15 ∧ (10 ≤ c.quietHold ∧ c.quietHold ≤ 200) ∧
      (1 ≤ c.gateLimit ∧ c.gateLimit ≤ 100) ∧ (5 ≤ c.pauseLimit ∧ c.pauseLimit ≤ 100)) ∧
  (∀ (c : Instr) (s t : State), exec c s = .next t →
    (LampFollows s → LampFollows t) ∧
    (t.lamp.shown ≠ s.lamp.shown → t.lamp.since = s.hub.now ∧
      t.lamp.brightness = if t.lamp.shown = .off ∨ t.lamp.shown = .fade then 0 else 1000)) ∧
  ∀ s : State,
    (∀ (slot : Fin 32) (tag : Word16) (a : List Byte) (c : RailConfig), s.hands slot = true → s.rail.state.still = true →
      s.rail.next = none → RailConfig.parse a = some c → c.valid = true →
      (s.rail.state = .idle → s.rail.position ≤ (c.span : Int)) →
      ∃ t, exec (.railConfig slot tag a) s = .next t ∧ Answered slot tag .ok c.bytes s t ∧ t.railConfig = c ∧
        t.rail = s.rail ∧ t.lamp = (State.mapDeck id { s with railConfig := c }).lamp) ∧
    s.railQueryResult =
      le8 s.rail.state.code ++
      le8 (if s.rail.position = s.railConfig.silent ∧ s.rail.seated = true then 3
        else if s.rail.position < s.railConfig.crossStart then 0 else if s.rail.position ≤ s.railConfig.crossEnd then 1 else 2) ++
      (match s.rail.active with
        | some m => le8 m.kind.code
        | none => le8 0xFF) ++
      (match s.rail.next with
        | some n => le8 n.move.kind.code ++ le8 (if n.settled then 2 else 1)
        | none => le8 0xFF ++ le8 0) ++
      le8 s.rail.lastCause.code ++ le8 (if s.rail.homed then 1 else 0) ++
      le8 ((if s.pins.home then 1 else 0) + (if s.pins.limNear then 2 else 0) + (if s.pins.limFar then 4 else 0) +
        (if s.pins.seated then 8 else 0) + (if s.pins.drvFault then 16 else 0) + (if s.rail.seated then 32 else 0) +
        if s.rail.drvEn then 64 else 0) ++
      lei32 s.rail.position ++
      (match s.rail.active with
        | some m => lei32 m.target ++ le32 (if m.kind = .home then 0 else (m.target - s.rail.position).natAbs)
        | none => le32 0 ++ le32 0) ++
      (match s.rail.motion with
        | some m => le16 (m.rateNow s.hub.now / 1000000)
        | none => le16 0) ++
      (match s.rail.indexPhase with
        | some phase => le16 phase
        | none => le16 0xFFFF) ++
      le8 (match s.lamp.shown with
        | .off => 1
        | .on => 2
        | .blink05 => 3
        | .blink1 => 4
        | .blink2 => 5
        | .blink4 => 6
        | .fade => 7) ++
      le8 (if s.rail.quiet then 1 else 0) ++ le16 0 ++
      le32 (min 4294967295 (if s.rail.quiet then (s.hub.now - s.rail.quietSince) / 1000 else 0)) ∧
    (∀ (slot : Fin 32) (tag : Word16) (a : List Byte), s.hands slot = true →
      ∃ t, exec (.railQuery slot tag a) s = .next t ∧ Answered slot tag .ok s.railQueryResult s t ∧ t = { s with hub := t.hub }) ∧
    (s.resetHeld = none → exec .lampPhaseTick s = .next { s with
      lamp := { s.lamp with brightness := s.lamp.shown.brightnessAt (s.hub.now - s.lamp.since) } }) ∧
    s.lampDrive = if s.railConfig.activeLow then 1000 - s.lamp.brightness else s.lamp.brightness

/-- R103, R104, R108, R112, R118: RAIL_MOVE. With a move active it waits in the next slot; otherwise it is made active with DRV_EN: it
starts at once when its path keeps clear of the crossing zone, waits GATED when it crosses or is a HOME and the hammers have not
been quiet for QUIET_HOLD, and is COMPLETE at once without distance. -/
def Obligations.RailMovesAreQueuedOrMadeActive : Prop :=
  ∀ (slot : Fin 32) (tag : Word16) (a : List Byte) (s : State) (m : MoveRequest), s.hands slot = true → RequestsOwed s →
    MoveRequest.parse slot a = some m → refuseRailMove a s = none →
    let target := m.targetFrom s.railConfig s.rail.position
    let move : ActiveMove :=
      { kind := m.kind, target, profile := m.profileIn s.railConfig, slot := some slot, before := s.rail.state, homing := false }
    let across := m.kind = .home ∨ crosses s.railConfig s.rail.position target = true
    let result := exec (.railMove slot tag a) s
    (s.rail.active.isSome = true → ∃ t, result = .next t ∧ TakenAndHeld slot s t ∧
      t.rail = { s.rail with next := some { move := m, settled := bitOf (u8At a 5) 1 } }) ∧
    (s.rail.active = none → (m.kind = .home ∨ target ≠ s.rail.position) →
      ∃ t, result = .next t ∧ TakenAndHeld slot s t ∧ t.rail.drvEn = true ∧
        (¬ across → t.rail.active = some move ∧ t.rail.state = .moving ∧
          t.rail.motion = some (startRun move.profile s.rail.position target s.hub.now)) ∧
        (across → s.deck.quietLongEnough = false →
          t.rail.active = some move ∧ t.rail.state = .gated ∧ t.rail.gateSince = s.hub.now) ∧
        (across → m.kind ≠ .home → s.deck.quietLongEnough = true →
          t.rail.active = some move ∧ t.rail.state = .moving ∧
            t.rail.motion = some (startRun move.profile s.rail.position target s.hub.now)) ∧
        (m.kind = .home → s.deck.quietLongEnough = true →
          t.rail.active = some { move with homing := true } ∧ t.rail.state = .homing ∧ t.rail.homed = false)) ∧
    (s.rail.active = none → m.kind ≠ .home → target = s.rail.position → (m.kind = .engage → s.rail.seated = true) →
      ∃ t, result = .next t ∧ t.rail.lastCause = .complete ∧
        Answered slot tag .ok
          (le8 1 ++ le8 m.kind.code ++ le8 2 ++ le8 1 ++ lei32 target ++ lei32 s.rail.position) s t) ∧
    (s.rail.active = none → m.kind = .engage → target = s.rail.position → s.rail.seated = false →
      ∃ t, result = .next t ∧ TakenAndHeld slot s t ∧ t.rail.active = some move ∧ t.rail.state = .seating ∧
        t.rail.seatSince = s.hub.now)

/-- R104, R108, R110, R112, R117: the rail's waits. The driver settles after 1 ms and a driver fault then present is taken; a gate or
a pause that has been quiet for QUIET_HOLD starts the motion; a gate, a pause at rest and a seating that outlast their limits end
the move with their causes. The law of the device of R108 and R110: no command starts or resumes a crossing move unless the rail's
quiet copy has been true for QUIET_HOLD; a board sweep, which carries out the requests of several rows, is left to those rows. -/
def Obligations.RailWaitsEnd : Prop :=
  (∀ (c : Instr) (s t : State), exec c s = .next t → (∀ read outcome, c ≠ .boardReadArrival read outcome) →
    1 ≤ s.railConfig.quietHold → StartedCrossing s t →
      s.rail.quiet = true ∧ s.rail.quietSince + 1000 * s.railConfig.quietHold ≤ s.hub.now) ∧
  ∀ s : State, s.mainUp = true →
    (s.rail.drvEn = true → s.rail.drvSettled = false → s.rail.drvEnSince + 1000 ≤ s.hub.now →
      ∃ t, exec .drvEnSettle s = .next t ∧
        (s.pins.drvFault = false → t.rail = { s.rail with drvSettled := true }) ∧
        (s.pins.drvFault = true → t.rail.state = .faulted ∧ t.rail.homed = false ∧ t.rail.drvEn = false ∧
          t.rail.active = none ∧ t.rail.lastCause = .driverFault)) ∧
    (∀ m, s.rail.active = some m → s.rail.quiet = true → s.rail.quietSince + 1000 * s.railConfig.quietHold ≤ s.hub.now →
      let started := startRun m.profile s.rail.position m.target s.hub.now
      (s.rail.state = .gated → m.kind ≠ .home → ∃ t, exec .quietHoldReached s = .next t ∧
        t.rail = { s.rail with state := .moving, motion := some started }) ∧
      (s.rail.state = .gated → m.kind = .home → ∃ t, exec .quietHoldReached s = .next t ∧
        t.rail.state = .homing ∧ t.rail.homed = false ∧ t.rail.motion.isSome = true) ∧
      (s.rail.state = .paused → s.rail.motion = none → s.rail.stopping = false → m.kind ≠ .home →
        ∃ t, exec .quietHoldReached s = .next t ∧ t.rail = { s.rail with state := .moving, motion := some started })) ∧
    (∀ m, s.rail.active = some m →
      (s.rail.state = .gated → s.rail.gateSince + 100000 * s.railConfig.gateLimit ≤ s.hub.now →
        ∃ t, exec .gateTimeout s = .next t ∧ t.rail.lastCause = .gateTimeout ∧ t.rail.state = m.before ∧ t.rail.active = none) ∧
      (s.rail.state = .paused → s.rail.stopping = false → s.rail.pauseSince + 100000 * s.railConfig.pauseLimit ≤ s.hub.now →
        ∃ t, exec .pauseTimeout s = .next t ∧
          (s.rail.motion = none → t.rail.lastCause = .hammerTimeout ∧ t.rail.active = none ∧
            t.rail.state = if m.homing then .unknown else .idle) ∧
          (s.rail.motion.isSome = true → t.rail = { s.rail with pauseExpired := true })) ∧
      (s.rail.state = .seating → s.rail.seated = false → s.rail.seatSince + 200000 ≤ s.hub.now →
        ∃ t, exec .seatTimeout s = .next t ∧ t.rail.lastCause = .notSeated ∧ t.rail.state = .idle ∧ t.rail.active = none))

/-- R101, R105, R111, R115: a STEP pulse that is due moves the position by one, unless the limit switch of its direction is
active: then the move ends there, with LIMIT_NEAR or LIMIT_FAR also when the switch is met in the deceleration of a pause or a
stop, begun in HOME's return or search as well (log 22). The pulse that reaches the target of a run completes the move, an
ENGAGE when it finds the rail seated (R111, R112); an ENGAGE that does not waits in SEATING. R116: outside the index search a
pulse to 64 microsteps beyond an expected index position whose INDEX has not come ends the move with STALL. That the INDEX of an
expected position is awaited from the pulse that enters its near side until one comes is log 21, that STALL goes before an
arrival, a coming to rest or a search limit of the same pulse is log 60, and the supervision of a deceleration begun in the
search is log 44. R105, R106: the rate begins at FL with the first pulse and rises to FH, or to the top rate that an S_CURVE
motion over its distance allows; the ramp-down rule is tested at every pulse, under S_CURVE once the top rate is reached, and
the rate then falls to FL; a pulse is due one period of the last pulse's rate after it. Rates in millionths, cut to whole
numbers, periods cut to whole microseconds, and no second rise are logs 2 and 20. R123: at a COMPLETE end the next slot keeps
its move, or with AUTO_NEXT on and the slot settled its move becomes active by R104. R100: the limit inputs take their levels
whether or not a pulse is due (log 9). -/
def Obligations.StepPulsesMoveOneStep : Prop :=
  (∀ d : Deck, d.pulseDue = true ↔ ∃ m, d.rail.motion = some m ∧ d.rail.drvSettled = true ∧
    (m.started = false ∨ m.lastPulse + 1000000000000 / max 1 m.rate ≤ d.hub.now)) ∧
  (∀ (c : RateChange) (now : Nat),
    let swept := (now - c.since) * c.acc
    (c.sCurve = false → c.v0 ≤ c.v1 → c.rateAt now = min (c.v0 + swept) c.v1) ∧
    (c.sCurve = false → c.v1 ≤ c.v0 → c.rateAt now = max (c.v0 - swept) c.v1) ∧
    (c.sCurve = true → c.v0 ≤ c.v1 → let change := c.v1 - c.v0
      (swept ≤ change → c.rateAt now = c.v0 + swept * swept / (2 * change)) ∧
      (change < swept → swept ≤ 2 * change →
        c.rateAt now = c.v1 - (2 * change - swept) * (2 * change - swept) / (2 * change)) ∧
      (2 * change ≤ swept → c.rateAt now = c.v1)) ∧
    (c.sCurve = true → c.v1 ≤ c.v0 → let change := c.v0 - c.v1
      (swept ≤ change → c.rateAt now = c.v0 - swept * swept / (2 * change)) ∧
      (change < swept → swept ≤ 2 * change →
        c.rateAt now = c.v1 + (2 * change - swept) * (2 * change - swept) / (2 * change)) ∧
      (2 * change ≤ swept → c.rateAt now = c.v1))) ∧
  (∀ (p : Profile) (position target : Int) (now : Nat) (m : Motion),
    let change (v0 v1 acc : Nat) : RateChange := { since := now, v0 := v0, v1 := v1, acc := acc, sCurve := p.sCurve }
    let atRest (outward : Bool) (phase : MotionPhase) (top : Nat) : Motion :=
      { outward := outward, phase := phase, change := change (1000000 * p.fl) top p.accel, started := false, lastPulse := 0
        rate := 0, travel := 0 }
    startRun p position target now = atRest (decide (position < target)) (.run false)
      (if p.sCurve then sCurveTop p (target - position).natAbs else 1000000 * p.fh) ∧
    returnMotion p now = atRest false .homeReturn (1000000 * p.fh) ∧
    slowToFL p now m = change (if m.started then m.change.rateAt now else 1000000 * p.fl) (1000000 * p.fl) p.decel) ∧
  (∀ (p : Profile) (distance top : Nat), p.fl ≤ 2000 → p.accel ≤ 200000 → p.decel ≤ 200000 → 1 ≤ p.accel → 1 ≤ p.decel →
    distance < 4294967296 →
    (top ≤ sCurveTop p distance ↔ top ≤ 1000000 * p.fh ∧ top * top * (p.accel + p.decel) ≤
      1000000000000 * (p.fl * p.fl * (p.accel + p.decel) + (distance - p.rampOffset) * p.accel * p.decel))) ∧
  (∀ (limitNear limitFar : Bool) (s : State), (s.mainUp = false ∨ s.deck.pulseDue = false) →
    exec (.stepPulse limitNear limitFar) s =
      .next { s with pins := { s.pins with limNear := limitNear, limFar := limitFar } }) ∧
  ∀ (limitNear limitFar : Bool) (s : State) (move : ActiveMove) (m : Motion), s.mainUp = true → s.deck.pulseDue = true →
    s.rail.active = some move → s.rail.motion = some m →
    let blocked := if m.outward then limitFar else limitNear
    let position := if m.outward then s.rail.position + 1 else s.rail.position - 1
    let searching : Prop := ∃ indexes steps, m.phase = .homeSearch indexes steps
    let stalls : Prop := ∃ phase, s.rail.indexPhase = some phase ∧
      let expected := if m.outward then position - 64 else position + 64
      (expected - phase) % 1600 = 0 ∧ (if m.outward then s.rail.awaitOut else s.rail.awaitIn) = some expected
    ∃ t, exec (.stepPulse limitNear limitFar) s = .next t ∧
      t.pins = { s.pins with limNear := limitNear, limFar := limitFar } ∧
      (blocked = false → t.rail.position = position) ∧
      (blocked = true → t.rail.position = s.rail.position ∧ t.rail.active = none ∧ t.rail.motion = none ∧
        t.rail.homed = false ∧
        (m.outward = true → t.rail.lastCause = .limitFar ∧ t.rail.state = .unknown) ∧
        (m.outward = false →
          (m.phase ≠ .homeReturn → ¬ searching → t.rail.lastCause = .limitNear ∧ t.rail.state = .unknown) ∧
          (m.phase = .homeReturn ∨ searching →
            t.rail.lastCause = .homeNotFound ∧ t.rail.state = .faulted ∧ t.rail.drvEn = false))) ∧
      (blocked = false → ¬ searching → stalls → t.rail.lastCause = .stall ∧ t.rail.state = .unknown ∧ t.rail.homed = false ∧
        t.rail.indexPhase = none ∧ t.rail.active = none ∧ t.rail.motion = none) ∧
      (blocked = false → searching ∨ ¬ stalls → t.rail.indexPhase = s.rail.indexPhase) ∧
      (∀ falling phase, blocked = false → m.phase = .run falling → ¬ stalls → position ≠ move.target →
        s.rail.indexPhase = some phase →
        let ahead (p e : Int) : Bool := decide ((e - phase) % 1600 = 0 ∧ e - 64 ≤ p ∧ p < e)
        let behind (p e : Int) : Bool := decide ((e - phase) % 1600 = 0 ∧ e < p ∧ p ≤ e + 64)
        (∀ e, ahead position e = true → t.rail.awaitOut = if ahead s.rail.position e then s.rail.awaitOut else some e) ∧
        ((∀ e, ahead position e = false) → t.rail.awaitOut = s.rail.awaitOut) ∧
        (∀ e, behind position e = true → t.rail.awaitIn = if behind s.rail.position e then s.rail.awaitIn else some e) ∧
        ((∀ e, behind position e = false) → t.rail.awaitIn = s.rail.awaitIn)) ∧
      (let change := if m.started then m.change else { m.change with since := s.hub.now }
       let v := change.rateAt s.hub.now
       let moved : Motion :=
         { m with started := true, lastPulse := s.hub.now, change := change, rate := v, travel := m.travel + 1 }
       let p := move.profile
       let room : Int := (move.target - position).natAbs - (p.rampOffset : Int)
       let above : Int := (v : Int) * v - (1000000 * p.fl : Int) * (1000000 * p.fl)
       let falls : Prop :=
         if change.sCurve then v = change.v1 ∧ 1000000000000 * (room * p.decel) ≤ above
         else 1000000000000 * (room * (2 * p.decel)) ≤ above
       (∀ falling, blocked = false → m.phase = .run falling → ¬ stalls → position ≠ move.target →
         t.rail.state = s.rail.state ∧ t.rail.active = some move ∧
         (falling = true ∨ ¬ falls → t.rail.motion = some moved) ∧
         (falling = false → falls → t.rail.motion = some { moved with
           phase := .run true
           change := { since := s.hub.now, v0 := v, v1 := 1000000 * p.fl, acc := p.decel, sCurve := p.sCurve } })) ∧
       (blocked = false → m.phase = .decelerate → ¬ stalls → 1000000 * p.fl < v →
         (move.kind = .home ∨ position ≠ move.target) →
         t.rail.state = s.rail.state ∧ t.rail.active = some move ∧ t.rail.motion = some moved)) ∧
      (∀ falling, blocked = false → m.phase = .run falling → ¬ stalls → position = move.target → move.kind = .engage →
        s.rail.seated = false → t.rail.state = .seating ∧ t.rail.seatSince = s.hub.now ∧ t.rail.active = some move ∧
          t.rail.motion = none ∧ t.rail.next = s.rail.next) ∧
      (∀ falling, blocked = false → m.phase = .run falling → ¬ stalls → position = move.target →
        (move.kind = .engage → s.rail.seated = true) →
        let ended (cause : StopCause) : Prop := t.rail.lastCause = cause ∧ t.rail.state = .idle ∧ t.rail.active = none ∧
          t.rail.motion = none
        (s.rail.next = none → ended .complete ∧ t.rail.next = none ∧ t.rail.homed = true) ∧
        (∀ n, s.rail.next = some n → (n.settled = false ∨ s.railConfig.autoNext = false) →
          ended .complete ∧ t.rail.next = some n) ∧
        (∀ n, s.rail.next = some n → n.settled = true → s.railConfig.autoNext = true → t.rail.next = none ∧
          let target := n.move.targetFrom s.railConfig position
          (n.move.kind = .jog → (target < 0 ∨ s.railConfig.span < target) → ended .complete) ∧
          ((n.move.kind = .jog → 0 ≤ target ∧ target ≤ s.railConfig.span) →
            (n.move.kind = .home ∨ target ≠ position → ∃ next, t.rail.active = some next ∧ next.kind = n.move.kind ∧
              next.target = target ∧ next.profile = n.move.profileIn s.railConfig ∧ next.slot = n.move.slot ∧
              next.before = .idle ∧ t.rail.lastCause = .complete) ∧
            (n.move.kind ≠ .home → target = position → (n.move.kind = .engage → s.rail.seated = true) →
              ended .complete))))

/-- R102, R112, R113, R114, R116, R117: the rail's sensors. A change of SEATED_N is taken after 2 ms, and completes a move in
SEATING; HOME_N ends the escape and the return of HOME; an INDEX pulse ends its search, which sets position 0, is counted in it
before the last wherever it falls, and elsewhere (in a deceleration begun in the search too, which counts no search: log 44)
gives STALL far from every expected index position; near one, in the search too, it satisfies that position's check, so that no
INDEX is awaited until a near side is entered again (log 21), and it sets the index phase while that is none; a driver fault
that is watched, whose level its row carries (log 9), makes the rail FAULTED. R36, R107: the quiet condition, and its hand-over
to the rail, whose quiet-held time begins when it becomes true. -/
def Obligations.RailSensorsAct : Prop :=
  (∀ s : State, s.quietCondition = true ↔ ∀ lane : Fin 8,
    s.lanes[lane.castSucc].state ≠ .probing ∧ s.lanes[lane.castSucc].state ≠ .recovering ∧
    (s.lanes[lane.castSucc].state = .active → ∀ j : Fin 11, ∃ rawKey rawHammer,
      s.keys[laneKey lane j].lastRaw = some (rawKey, rawHammer) ∧
        s.calibration[laneKey lane j].height rawHammer < s.calibration[laneKey lane j].clear)) ∧
  (∀ (c : Instr) (s t : State), exec c s = .next t → s.rail.quiet = false → t.rail.quiet = true →
    t.rail.quietSince = s.hub.now ∧ t.rail.quietHeld t.hub.now = 0) ∧
  ∀ s : State, s.mainUp = true →
    (∀ active, active ≠ s.pins.seated → s.hub.attach ≠ .standby → s.hub.attach ≠ .woken →
      exec (.seatedInputChange active) s = .next { s with
        pins := { s.pins with seated := active }
        rail := { s.rail with seatedPending := if active = s.rail.seated then none else some s.hub.now } }) ∧
    (∀ active, active = s.pins.seated → exec (.seatedInputChange active) s = .next s) ∧
    (∀ since, s.rail.seatedPending = some since → since + 2000 ≤ s.hub.now →
      ∃ t, exec .seatedFilterExpiry s = .next t ∧ t.rail.seated = !s.rail.seated ∧ t.rail.seatedPending = none ∧
        (∀ m, s.rail.state = .seating → s.rail.seated = false → s.rail.active = some m → s.rail.next = none →
          t.rail.lastCause = .complete ∧ t.rail.state = .idle ∧ t.rail.active = none)) ∧
    (∀ active move m, s.rail.active = some move → s.rail.motion = some m →
      ∃ t, exec (.homeSensorChange active) s = .next t ∧ t.pins = { s.pins with home := active } ∧
        (active = false → m.phase = .escape → t.rail = { s.rail with motion := some { m with phase := .escapeTail 200 } }) ∧
        (active = true → m.phase = .homeReturn →
          t.rail = { s.rail with motion := some (searchMotion move.profile s.hub.now m) })) ∧
    (∀ move m steps, s.rail.active = some move → s.rail.motion = some m → m.started = true →
      m.phase = .homeSearch s.railConfig.homeIndexCount steps → s.rail.next = none →
      ∃ t, exec .indexPulse s = .next t ∧ t.rail.position = 0 ∧ t.rail.homed = true ∧ t.rail.indexPhase = some 0 ∧
        t.rail.state = .idle ∧ t.rail.lastCause = .complete ∧ t.rail.active = none ∧ t.rail.awaitOut = none ∧
        t.rail.awaitIn = none) ∧
    ((∀ m, s.rail.motion = some m → m.started = false) → ∃ t, exec .indexPulse s = .next t ∧ t.rail = s.rail) ∧
    (∀ move m, s.rail.active = some move → s.rail.motion = some m → m.started = true →
      let position := s.rail.position
      let learnt : Rail := { s.rail with indexPhase := some (position % 1600).toNat, awaitOut := none, awaitIn := none }
      let satisfied : Rail := { s.rail with awaitOut := none, awaitIn := none }
      (∀ indexes steps, m.phase = .homeSearch indexes steps → indexes ≠ s.railConfig.homeIndexCount →
        let counted (r : Rail) : Rail := { r with motion := some { m with phase := .homeSearch (indexes + 1) steps } }
        (s.rail.indexPhase = none → ∃ t, exec .indexPulse s = .next t ∧ t.rail = counted learnt) ∧
        (∀ phase, s.rail.indexPhase = some phase → (position + 64 - phase) % 1600 ≤ 128 →
          ∃ t, exec .indexPulse s = .next t ∧ t.rail = counted satisfied) ∧
        (∀ phase, s.rail.indexPhase = some phase → 128 < (position + 64 - phase) % 1600 →
          ∃ t, exec .indexPulse s = .next t ∧ t.rail = counted s.rail)) ∧
      ((∀ indexes steps, m.phase ≠ .homeSearch indexes steps) →
        (s.rail.indexPhase = none → ∃ t, exec .indexPulse s = .next t ∧ t.rail = learnt) ∧
        (∀ phase, s.rail.indexPhase = some phase →
          ((position + 64 - phase) % 1600 ≤ 128 → ∃ t, exec .indexPulse s = .next t ∧ t.rail = satisfied) ∧
          (128 < (position + 64 - phase) % 1600 → ∃ t, exec .indexPulse s = .next t ∧ t.rail.lastCause = .stall ∧
            t.rail.state = .unknown ∧ t.rail.homed = false ∧ t.rail.indexPhase = none ∧ t.rail.active = none)))) ∧
    (s.rail.drvEn = true → s.rail.drvSettled = true → ∃ t, exec (.driverFault true) s = .next t ∧
      t.pins = { s.pins with drvFault := true } ∧ t.rail.state = .faulted ∧ t.rail.homed = false ∧ t.rail.drvEn = false ∧
      t.rail.active = none ∧ t.rail.lastCause = .driverFault) ∧
    exec (.driverFault false) s = .next (State.mapDeck id { s with pins := { s.pins with drvFault := false } })

/-- R119, R120, R117: RAIL_STOP ends a GATED or SEATING move and turns a motion down to rest; RAIL_HALT ends the active move at once;
both leave a rail at rest as it is, and DISCARD_NEXT empties the next slot. R123: an end other than COMPLETE clears the settled flag
of the next slot, whose move stays. RAIL_CLEAR takes a FAULTED rail to UNKNOWN. -/
def Obligations.RailStopHaltAndClear : Prop :=
  ∀ (slot : Fin 32) (tag : Word16) (a : List Byte) (s : State), s.hands slot = true → RequestsOwed s →
    let discard := bitOf (u8At a 0) 0
    (∃ t, exec (.railStop slot tag a) s = .next t ∧ Answered slot tag .ok [] s t ∧ (discard = true → t.rail.next = none) ∧
      ((s.rail.state = .gated ∨ s.rail.state = .seating) → t.rail.active = none ∧ t.rail.lastCause = .stopRequest ∧
        (discard = false → s.rail.active.isSome = true →
          t.rail.next = s.rail.next.map fun n => { n with settled := false })) ∧
      (∀ move m, (s.rail.state = .moving ∨ s.rail.state = .homing) → s.rail.active = some move → s.rail.motion = some m →
        m.started = true → s.rail.stopping = false → t.rail.stopping = true ∧ t.rail.state = s.rail.state ∧
          t.rail.motion =
            some { m with phase := .decelerate, change := slowToFL move.profile s.hub.now m }) ∧
      (s.rail.state.still = true → t.rail = { s.rail with next := if discard then none else s.rail.next })) ∧
    (∃ t, exec (.railHalt slot tag a) s = .next t ∧ Answered slot tag .ok [] s t ∧ (discard = true → t.rail.next = none) ∧
      (∀ move, s.rail.active = some move → t.rail.active = none ∧ t.rail.motion = none ∧ t.rail.lastCause = .haltRequest ∧
        (discard = false → t.rail.next = s.rail.next.map fun n => { n with settled := false }) ∧
        (micro move.profile.fl < s.rail.rateNow s.hub.now → t.rail.state = .unknown ∧ t.rail.homed = false)) ∧
      (s.rail.active = none → t.rail = { s.rail with next := if discard then none else s.rail.next })) ∧
    (s.rail.state = .faulted → s.pins.drvFault = false →
      ∃ t, exec (.railClear slot tag a) s = .next t ∧ Answered slot tag .ok [] s t ∧
        t.rail.state = .unknown ∧ t.rail.drvEn = true ∧ t.rail.homed = s.rail.homed ∧ t.rail.position = s.rail.position)

/-- R122: RAIL_SETTLE sets the settled flag of the next slot behind an active move, and with none active takes the move out of the
slot and makes it active by R104, unless its checks turn it away; RAIL_UNSETTLE clears the flag. An empty slot refuses both STATE. -/
def Obligations.RailSettleAndUnsettle : Prop :=
  ∀ (slot : Fin 32) (tag : Word16) (a : List Byte) (s : State), s.hands slot = true →
    (∀ n, s.rail.next = some n →
      (∃ t, exec (.railSettle slot tag a) s = .next t ∧ Answered slot tag .ok [] s t ∧
        (s.rail.active.isSome = true → t.rail = { s.rail with next := some { n with settled := true } }) ∧
        (s.rail.active = none → t.rail.next = none) ∧
        (s.rail.active = none →
          let target := n.move.targetFrom s.railConfig s.rail.position
          let refused : Prop := s.rail.state = .faulted ∨ (s.rail.state = .unknown ∧ n.move.kind ≠ .home) ∨
            (n.move.kind = .jog ∧ (target < 0 ∨ s.railConfig.span < target))
          (refused → t.rail = { s.rail with next := none }) ∧
          (¬ refused → n.move.kind = .home ∨ target ≠ s.rail.position → ∃ move, t.rail.active = some move ∧
            move.kind = n.move.kind ∧ move.target = target ∧ move.profile = n.move.profileIn s.railConfig ∧
            move.slot = n.move.slot ∧ move.before = s.rail.state ∧ t.rail.drvEn = true) ∧
          (¬ refused → n.move.kind ≠ .home → target = s.rail.position → (n.move.kind = .engage → s.rail.seated = true) →
            t.rail.lastCause = .complete ∧ t.rail.state = .idle ∧ t.rail.active = none))) ∧
      (∃ t, exec (.railUnsettle slot tag a) s = .next t ∧ Answered slot tag .ok [] s t ∧
        t.rail = { s.rail with next := some { n with settled := false } })) ∧
    (s.rail.next = none → ∀ c ∈ [Instr.railSettle slot tag a, .railUnsettle slot tag a], ∃ t, exec c s = .next t ∧
      t.hub.posted = s.hub.posted ++ s.hub.resultWrites slot tag .state [] 4 ∧ t = { s with hub := t.hub })

/-! ### Practice playback (07_practice_playback.md) -/

/-- R129, R131: PLAY_START puts the player into LOADING with the take it carries, everything of the last take gone, and block 0 of
the take is read in eight reads of 512 bytes; the request stays in flight. -/
def Obligations.PlayStartLoadsTheTake : Prop :=
  ∀ (slot : Fin 32) (tag : Word16) (a : List Byte) (s : State) (take : TakeRecord), s.hands slot = true →
    s.hub.readsNumbered → TakeRecord.parse a = some take → s.player.state.inProgress = false →
    ∃ t, exec (.playStart slot tag a) s = .next t ∧ TakenAndHeld slot s t ∧
      t.player.state = .loading ∧ t.player.take = some take ∧ t.player.tempo = take.tempo ∧ t.player.parts = take.parts ∧
      t.player.loopsRemaining = take.loopCount ∧ t.player.misses = 0 ∧ t.player.position = 0 ∧ t.player.openKeys = [] ∧
      t.player.held = none ∧ t.player.anchor = none ∧ t.player.pendingSlot = some slot ∧ t.player.next = s.player.next ∧
      t.player.buffers[(0 : Fin 2)].state = .reading ∧ t.player.buffers[(0 : Fin 2)].address = take.firstBlock ∧
      t.player.buffers[(1 : Fin 2)].state = .empty ∧
      t.hub.askedFor s.hub.sched.nextReadId (readsOf (n := 8) (.block 0) take.firstBlock) ∧ t.voice = s.voice ∧
      t.metronome = s.metronome

/-- R131, R149, R152, R192, Tables 12-8, 12-9: a block read that arrives is kept; the eighth has the block checked (magic, take id, index,
event count, next address) and read field by field: a good one becomes VALID and the player goes on with it, a bad one or a failed
read faults a take in progress, which releases everything and unsettles the next-take slot, or discards a read-ahead. R131: a block
that becomes current has its successor read into the other buffer (reads of that buffer that still wait are withdrawn, log 62); a
LAST one has none. R130: when the current block becomes VALID in LOADING, the follow tempo takes the header's, clamped, and the
pedal set is handed released; with a start marker the scan begins, and without one the player enters PLAYING at position 0, hands the
metronome a restart there, whose beat is beat 1 of bar 1, completes the pending request OK with its status and hands the START record
(detail 0, log 31), which a take begun from the next-take slot does not (R153, Table 7-5); then the first group is taken. -/
def Obligations.BlockReadsFillTheirBuffer : Prop :=
  (∀ (id : Nat) (r : Read) (bytes : List Byte) (s : State) (b : Fin 2) (part : Fin 8), s.mainUp = true →
    s.hub.outstandingRead id = some r → s.hub.now ≤ r.issuedAt + 2000 → r.discarded = false → r.tag = .block b part →
    s.player.buffers[b].state = .reading →
    let buffer := s.player.buffers[b]
    let chunks := putChunk buffer.chunks part.val (padded r.length bytes)
    let arrived := exec (.blockReadArrival id (.data bytes)) s
    let failed := exec (.blockReadArrival id .error) s
    let faulted (t : State) : Prop :=
      t.player.state = .faulted ∧ t.player.take = s.player.take ∧ t.player.openKeys = [] ∧ t.player.pendingSlot = none ∧
      t.player.pedals = { damper := 0, soft := 0, softPressed := false } ∧ t.player.held = none ∧ t.player.expected = [] ∧
      t.player.struck = [] ∧ (∀ c : Fin 2, t.player.buffers[c].state = .empty) ∧
      t.player.next = s.player.next.map (fun n => { n with settled := false })
    let filled (block : ScoreBlock) (hub : Hub) : State := { s with
      hub := hub
      player := { s.player with
        buffers := s.player.buffers.set b { buffer with state := .valid, chunks := [], block := some block } } }
    (allChunks chunks = none → ∃ t, arrived = .next t ∧ t = { s with
      hub := t.hub
      player := { s.player with buffers := s.player.buffers.set b { buffer with chunks := chunks } } }) ∧
    (∀ all, allChunks chunks = some all →
      let good (takeId : Word32) : Prop :=
        u32At all 0 = 0x4B475342 ∧ BitVec.ofNat 32 (u32At all 4) = takeId ∧ u16At all 8 = buffer.index ∧ u16At all 10 ≤ 508 ∧
        (u8At all 12 % 2 = 1 ∨ (u64At all 16 ≠ 0 ∧ u64At all 16 % 4096 = 0))
      let block : ScoreBlock :=
        { magic := u32At all 0, takeId := BitVec.ofNat 32 (u32At all 4), index := u16At all 8, count := u16At all 10
          last := u8At all 12 % 2 == 1, next := BitVec.ofNat 64 (u64At all 16), tempo := u16At all 24
          events := (List.range (u16At all 10)).map fun n =>
            { delta := u16At all (32 + 8 * n), kind := u8At all (34 + 8 * n), target := u8At all (35 + 8 * n)
              value := u16At all (36 + 8 * n), part := u8At all (38 + 8 * n), aux := u8At all (39 + 8 * n) } }
      (∀ n, buffer.nextTake = true → s.player.next = some n →
        (good n.take.takeId → ∃ t, arrived = .next t ∧ t = filled block t.hub) ∧
        (¬ good n.take.takeId → ∃ t, arrived = .next t ∧ t = { s with
          hub := t.hub, player := { s.player with buffers := s.player.buffers.set b .blank } })) ∧
      (∀ take, buffer.nextTake = false → s.player.take = some take →
        (good take.takeId →
          ∃ hub t, arrived = .next t ∧ t = State.mapStage (Stage.blockValid b block) (filled block hub)) ∧
        (¬ good take.takeId → s.player.state.inProgress = true → ∃ t, arrived = .next t ∧ faulted t))) ∧
    (buffer.nextTake = false → s.player.state.inProgress = true → ∃ t, failed = .next t ∧ faulted t) ∧
    (buffer.nextTake = true → ∃ t, failed = .next t ∧ t = { s with
      hub := t.hub, player := { s.player with buffers := s.player.buffers.set b .blank } })) ∧
  (∀ (block : ScoreBlock) (p : Stage), p.player.currentBlock = some block →
    let other : Fin 2 := if p.player.currentBuffer = 0 then 1 else 0
    (block.last = false → p.enterBlock = { p with
      hub := (p.hub.dropReads (ReadTag.isBlockOf other)).requestParts (n := 8) (.block other) block.next 512
      player := { p.player with
        expectedIndex := block.index + 1
        buffers := p.player.buffers.set other
          { state := .reading, address := block.next, index := block.index + 1, nextTake := false
            chunks := List.replicate 8 none, block := none } } }) ∧
    (block.last = true → p.player.buffers[other].nextTake = true → p.enterBlock = p) ∧
    (block.last = true → p.player.buffers[other].nextTake = false → (∀ n, p.player.next = some n → n.settled = false) →
      p.enterBlock = { p with
        hub := p.hub.dropReads (ReadTag.isBlockOf other)
        player := { p.player with buffers := p.player.buffers.set other .blank } })) ∧
  ∀ (b : Fin 2) (block : ScoreBlock) (take : TakeRecord) (p : Stage), p.player.state = .loading → p.player.scan = none →
    p.player.currentBuffer = b → p.player.take = some take →
    let entered := p.enterBlock
    let tempo := min 3000 (max 300 block.tempo)
    let player : Player := { entered.player with
      headerTempo := block.tempo, followTempo := tempo, pedals := { damper := 0, soft := 0, softPressed := false } }
    let voice := (entered.voice.setDamper .playback 0).setSoft .playback false
    (∀ marker, take.startMarker = some marker →
      p.blockValid b block = (Stage.scanRun turns { entered with
        voice := voice, player := { player with scan := some marker } }).play) ∧
    (take.startMarker = none → ∃ began : Stage, p.blockValid b block = began.play ∧ began.voice = voice ∧
      began.player = { player with state := .playing, position := 0, positionPart := 0, pendingSlot := none } ∧
      (let grid : Metronome := { p.metronome with followAnchor := 0, followTempo := tempo, followIndex := 1, gridSet := true }
       let beats : Prop := p.metronome.settings.on = true ∧ p.metronome.settings.mode = .follow ∧
         entered.hub.attach ≠ .standby ∧ entered.hub.attach ≠ .woken
       (beats → began.metronome = { grid with beat := 1, bar := 1, click := some (p.metronome.startClick true) }) ∧
       (¬ beats → began.metronome = grid)) ∧
      let restarted : Hub := (Stage.restart 0 tempo true { entered with player := { player with state := .playing } }).hub
      let status := { player with state := .playing, position := 0 }.status
      let answered := match p.player.pendingSlot with
        | none => restarted
        | some slot => restarted.completeRequest slot .ok status
      began.hub =
        if p.player.chained then answered
        else (answered.note .player 0 (take.takeId.toNat % 65536) 0 0 { playback := true }).raise .practice)

/-- R132, R133, R134, R139, R142: when the score clock reaches a group, a bad event (one of R134's cases) faults the take, an
incomplete group starves the player, a group with guide keys in follow mode is waited for (the keys of its NOTE_ONs of GUIDE
parts in score order, each once, 16 at most; the unused strikes of the early window are counted first, the oldest of one key
(log 61), and a wait they leave empty ends at once, without a WAIT record), and any other group is dispatched in score order,
each event as Table 7-4 says; that a NOTE or PEDAL event of a part above 3 has no mode, and so no action, is log 26. A wait past
the follow timeout is skipped and one whose last expected key is struck ends (R141): its group is dispatched. R143, R94: the
loop jump, and when its anchor block is VALID the restart, which sets the grid and, before PLAYING is entered, gives no beat
(log 45). R150: the natural end; that the take record stays there is log 68. That a wait and a starve stand at the group's time
with fraction 0, and how positions of 32 bits compare, is log 25; the details that PLAYER records give their kinds are log 31. -/
def Obligations.DueGroupsAreTakenOrAwaited : Prop :=
  (∀ e : ScoreEvent, e.bad = true ↔
    (e.kind < 1 ∨ 7 < e.kind) ∨ (e.kind = 1 ∨ e.kind = 2) ∧ (87 < e.target ∨ 3 < e.part) ∨
      e.kind = 1 ∧ (e.value < 1 ∨ 127 < e.value) ∨ e.kind = 3 ∧ 2 < e.target) ∧
  (∀ (without : List (Fin 88)) (time : Word32) (events : List GroupEvent) (last : GroupEvent) (q : Player),
    let found := q.guideKeys without { time, events }
    let after := q.guideKeys without { time, events := events ++ [last] }
    let guides : Prop := last.event.kind = 1 ∧ ∃ part : Fin 4, last.event.part = part.val ∧ q.parts[part] = .guide
    q.guideKeys without { time, events := [] } = [] ∧
    (¬ guides ∨ 87 < last.event.target → after = found) ∧
    ∀ key : Fin 88, last.event.target = key.val →
      (key ∈ found ∨ key ∈ without ∨ 16 ≤ found.length + without.length → after = found) ∧
      (guides → key ∉ found → key ∉ without → found.length + without.length < 16 → after = found ++ [key])) ∧
  (∀ (window : Nat) (earlier : List Strike) (newest : Strike) (q : Player),
    let before := Player.countStrikes window { q with strikes := earlier }
    let after := Player.countStrikes window { q with strikes := earlier ++ [newest] }
    let counts : Prop := newest.used = false ∧ newest.key ∈ before.expected ∧ (q.waitStart - newest.stamp).toNat ≤ window
    Player.countStrikes window { q with strikes := [] } = { q with strikes := [] } ∧
    (counts → after = { before with
      expected := before.expected.filter fun k => k ≠ newest.key, struck := before.struck ++ [newest.key]
      strikes := before.strikes ++ [{ newest with used := true }] }) ∧
    (¬ counts → after = { before with strikes := before.strikes ++ [newest] })) ∧
  (∀ (n : Nat) (p : Stage) (g : Group) (take : TakeRecord), p.player.state = .playing → p.player.view = .group g true →
    reached g.time p.player.position = true → (g.events.any fun e => e.event.bad) = false →
    p.player.take = some take → take.follow = true → p.player.guideKeys [] g ≠ [] →
    let counted := Player.countStrikes (take.earlyWindow * 1000) { p.player with
      state := .waiting, expected := p.player.guideKeys [] g, struck := [], held := some g, waitStart := p.hub.tracking
      position := g.time, positionPart := 0 }
    (counted.expected ≠ [] → Stage.playRun (n + 1) p = { p with
      hub := (p.hub.note .player counted.expected.length (take.takeId.toNat % 65536) 3 0 { playback := true }).raise .practice
      player := counted }) ∧
    (counted.expected = [] → Stage.playRun (n + 1) p = Stage.playRun n (Stage.dispatchGroup g.time g.events
      { p with player := { counted with state := .playing, expected := [], struck := [], held := none } }))) ∧
  (∀ (n : Nat) (p : Stage) (g : Group), p.player.state = .playing → p.player.view = .group g true →
    reached g.time p.player.position = true → (g.events.any fun e => e.event.bad) = false →
    (∀ take, p.player.take = some take → take.follow = true → p.player.guideKeys [] g = []) →
    Stage.playRun (n + 1) p = Stage.playRun n (p.dispatchGroup g.time g.events)) ∧
  (∀ (time : Word32) (g : GroupEvent) (rest : List GroupEvent) (p : Stage),
    let e := g.event
    let after := p.dispatchEvent time g
    let passed : Player := { p.player with currentEvent := g.index + 1, lastTime := time }
    let sounds : Prop := p.player.mode e.part = some .sound
    (p.dispatchGroup time (g :: rest) =
      if e.kind = 7 ∨ after.player.loopReread = true then after else after.dispatchGroup time rest) ∧
    (g.buffer = p.player.currentBuffer →
      (∀ key : Fin 88, e.kind = 1 → e.target = key.val →
        (sounds → after.player =
            { passed with openKeys := (p.player.openKeys.filter fun o => o.1 ≠ key) ++ [(key, e.part)] } ∧
          ∃ h : Hub, (after.hub, after.voice) = Engine.noteOn key .playback e.value (h, p.voice)) ∧
        (¬ sounds → after.player = passed ∧ after.voice = p.voice)) ∧
      (∀ key : Fin 88, e.kind = 2 → e.target = key.val →
        ((key, e.part) ∈ p.player.openKeys → after.player =
            { passed with openKeys := p.player.openKeys.filter fun o => o ≠ (key, e.part) } ∧
          after.voice = p.voice.noteOff key .playback) ∧
        ((key, e.part) ∉ p.player.openKeys → after.player = passed ∧ after.voice = p.voice)) ∧
      (e.kind = 3 →
        let pedals := p.player.pedals.store e.target (min 127 e.value)
        (sounds → after.player = { passed with pedals := pedals } ∧
          after.voice = (p.voice.setDamper .playback pedals.damper).setSoft .playback pedals.softPressed) ∧
        (¬ sounds → after.player = passed ∧ after.voice = p.voice)) ∧
      (e.kind = 4 → after.player = { passed with followTempo := clampTempo e.value } ∧ after.voice = p.voice ∧
        after.metronome.followAnchor = time ∧ after.metronome.followTempo = clampTempo e.value ∧
        after.metronome.followIndex = 1 ∧ after.metronome.gridSet = true) ∧
      (e.kind = 5 →
        let marked := passed.markAnchor e.target
        let jumps (take : TakeRecord) : Prop := take.loopB = some e.target ∧
          (p.player.endless = true ∨ 1 ≤ p.player.loopsRemaining)
        (∀ take anchor, p.player.take = some take → marked.anchor = some anchor → jumps take →
          after.player.state = .starved ∧ after.player.loopReread = true ∧
          after.player.loopsRemaining =
            (if p.player.endless then p.player.loopsRemaining else p.player.loopsRemaining - 1) ∧
          after.player.openKeys = [] ∧ after.player.pedals = anchor.pedals ∧
          after.player.followTempo = anchor.followTempo ∧ after.player.position = anchor.time ∧
          after.player.currentEvent = anchor.event ∧ after.player.lastTime = anchor.time ∧
          after.player.currentBuffer = 0 ∧ after.player.buffers[(0 : Fin 2)].state = .reading ∧
          after.player.buffers[(0 : Fin 2)].address = anchor.address ∧
          after.player.buffers[(0 : Fin 2)].index = anchor.blockIndex ∧
          after.player.buffers[(1 : Fin 2)].state = .empty) ∧
        (∀ take, p.player.take = some take → (marked.anchor = none ∨ ¬ jumps take) →
          after.player = marked ∧ after.voice = p.voice)) ∧
      (e.kind = 6 → after = { p with player := passed }) ∧
      (e.kind = 7 → after = Stage.naturalEnd { p with player := passed }))) ∧
  (∀ p : Stage,
    p.naturalEnd.player.openKeys = [] ∧
    ((∀ n, p.player.next = some n → n.settled = false) →
      p.naturalEnd.player = { p.player with
        state := .ended, openKeys := [], pedals := { damper := 0, soft := 0, softPressed := false } } ∧
      p.naturalEnd.metronome.gridSet = false) ∧
    (∀ n, p.player.next = some n → n.settled = true → p.player.buffers[(0 : Fin 2)].nextTake = false →
      p.player.buffers[(1 : Fin 2)].nextTake = false →
      p.naturalEnd.player.state = .loading ∧ p.naturalEnd.player.take = some n.take ∧ p.naturalEnd.player.next = none ∧
        p.naturalEnd.player.chained = true)) ∧
  (∀ (b : Fin 2) (block : ScoreBlock) (p : Stage), p.player.state = .starved → p.player.loopReread = true →
    p.player.currentBuffer = b →
    let entered := p.enterBlock
    p.blockValid b block = Stage.play { entered with
      player := { entered.player with state := .playing, loopReread := false, restartOwed := false }
      metronome := { entered.metronome with
        followAnchor := p.player.lastTime, followTempo := clampTempo p.player.followTempo, followIndex := 1
        gridSet := true } }) ∧
  (∀ (key : Fin 88) (p : Stage),
    let strike (used : Bool) : Strike := { key, stamp := p.hub.tracking, used }
    let kept (used : Bool) : List Strike := (p.player.strikes ++ [strike used]).drop (p.player.strikes.length + 1 - 16)
    (p.player.state ≠ .waiting → p.liveStrike key = { p with player := { p.player with strikes := kept false } }) ∧
    (p.player.state = .waiting → key ∉ p.player.expected →
      p.liveStrike key = { p with player := { p.player with strikes := kept false, misses := p.player.misses + 1 } }) ∧
    (∀ g, p.player.state = .waiting → p.player.held = some g → key ∈ p.player.expected →
      let left := p.player.expected.filter fun k => k ≠ key
      (left ≠ [] → p.liveStrike key = { p with
        player := { p.player with expected := left, struck := p.player.struck ++ [key], strikes := kept true } }) ∧
      (left = [] → p.liveStrike key = Stage.play (Stage.dispatchGroup g.time g.events { p with
        hub := (p.report 4 0 0).hub
        player := { p.player with
          state := .playing, expected := [], struck := [], held := none, strikes := kept true } })))) ∧
  ∀ s : State, s.mainUp = true →
    exec .scoreGroupDue s = .next (s.mapStage Stage.play) ∧
    (s.player.state ≠ .playing → exec .scoreGroupDue s = .next s) ∧
    (∀ g complete, s.player.state = .playing → s.player.view = .group g complete →
      (reached g.time s.player.position = false → exec .scoreGroupDue s = .next s) ∧
      (reached g.time s.player.position = true → complete = false → exec .scoreGroupDue s = .next { s with
        player := { s.player with state := .starved, position := g.time, positionPart := 0 } }) ∧
      (reached g.time s.player.position = true → complete = true → (g.events.any fun e => e.event.bad) = true →
        ∃ t, exec .scoreGroupDue s = .next t ∧ t.player.state = .faulted ∧ t.player.openKeys = []) ∧
      (∀ take, reached g.time s.player.position = true → complete = true → (g.events.any fun e => e.event.bad) = false →
        s.player.take = some take → take.follow = true → s.player.guideKeys [] g ≠ [] → s.player.strikes = [] →
        ∃ t, exec .scoreGroupDue s = .next t ∧ t = { s with
          hub := t.hub
          player := { s.player with
            state := .waiting, expected := s.player.guideKeys [] g, struck := [], held := some g
            waitStart := s.hub.tracking, position := g.time, positionPart := 0 } })) ∧
    (∀ take g, s.player.state = .waiting → s.player.take = some take → s.player.held = some g → take.followTimeout ≠ 0 →
      take.followTimeout * 1000000 ≤ (s.hub.tracking - s.player.waitStart).toNat →
      exec .waitTimeout s = .next (s.mapStage fun p =>
        Stage.play (Stage.dispatchGroup g.time g.events ((p.report 5 s.player.expected.length 0).onPlayer fun q =>
          { q with state := .playing, expected := [], struck := [], held := none }))))

/-- R151, R152: PLAY_NEXT fills the empty next-take slot, PLAY_SETTLE and PLAY_UNSETTLE set and clear its settled flag; a settled take
begins at once when no take is in progress. That the request is answered before the take it starts begins is log 27. The results are
stated for a player that is not PLAYING, where nothing else is due. -/
def Obligations.NextTakeSlotIsFilledAndSettled : Prop :=
  ∀ (slot : Fin 32) (tag : Word16) (a : List Byte) (s : State), s.hands slot = true →
    (∀ take, TakeRecord.parse a = some take → s.player.next = none →
      let settled := bitOf (u8At a 14) 5
      let filled : Player := { s.player with next := some { take, settled } }
      ∃ t, exec (.playNext slot tag a) s = .next t ∧ Answered slot tag .ok filled.status s t ∧
        (settled = false → s.player.state ≠ .playing → t.player = filled) ∧
        (settled = true → s.player.state ≠ .playing → s.player.state.inProgress = true →
          t.player.next = some { take, settled := true } ∧ t.player.take = s.player.take ∧
            t.player.state = s.player.state) ∧
        (settled = true → s.player.state.inProgress = false → s.player.buffers[(0 : Fin 2)].nextTake = false →
          s.player.buffers[(1 : Fin 2)].nextTake = false →
          t.player.state = .loading ∧ t.player.take = some take ∧ t.player.next = none)) ∧
    (∀ n, s.player.next = some n →
      let settled : Player := { s.player with next := some { n with settled := true } }
      let unsettled : Player := { s.player with next := some { n with settled := false } }
      (∃ t, exec (.playSettle slot tag a) s = .next t ∧ Answered slot tag .ok settled.status s t ∧
        (s.player.state ≠ .playing → s.player.state.inProgress = true →
          t.player.next = some { n with settled := true } ∧ t.player.take = s.player.take ∧
            t.player.state = s.player.state) ∧
        (s.player.state.inProgress = false → s.player.buffers[(0 : Fin 2)].nextTake = false →
          s.player.buffers[(1 : Fin 2)].nextTake = false →
          t.player.state = .loading ∧ t.player.take = some n.take ∧ t.player.next = none)) ∧
      (∃ t, exec (.playUnsettle slot tag a) s = .next t ∧ Answered slot tag .ok unsettled.status s t ∧
        t.player = { unsettled with buffers := t.player.buffers } ∧
        t.player.buffers[otherBuffer s.player.currentBuffer].nextTake = false)) ∧
    (s.player.next = none → ∀ c ∈ [Instr.playSettle slot tag a, .playUnsettle slot tag a], ∃ t, exec c s = .next t ∧
      t.hub.posted = s.hub.posted ++ s.hub.resultWrites slot tag .state [] 4 ∧ t = { s with hub := t.hub })

/-- R136: PLAY_TEMPO. Outside 25 to 200 percent it is refused INVALID, with no take in progress STATE. Otherwise the tempo takes the
value at once and the request completes OK with the player status; the position reached, the follow tempo, the metronome and the
next take are kept, and a PLAYING score clock advances at the new rate: at R133's 10,000 units a second at 100 percent, in the
microsecond of an idle step (log 1), held in ten-thousandths of a unit and wrapping at 32 bits (log 25). -/
def Obligations.PlayTempoChangesTheRate : Prop :=
  ∀ (slot : Fin 32) (tag : Word16) (a : List Byte) (s : State), s.hands slot = true →
    let n := u8At a 0
    let result := exec (.playTempo slot tag a) s
    (∀ code, ((n < 25 ∨ 200 < n) ∧ code = .invalid ∨
        25 ≤ n ∧ n ≤ 200 ∧ s.player.state.inProgress = false ∧ code = .state) →
      ∃ t, result = .next t ∧ t.hub.posted = s.hub.posted ++ s.hub.resultWrites slot tag code [] 4 ∧
        t = { s with hub := t.hub }) ∧
    (25 ≤ n → n ≤ 200 → s.player.state.inProgress = true →
      ∃ t, result = .next t ∧ t = { s with hub := t.hub, player := { s.player with tempo := n } } ∧
        Answered slot tag .ok t.player.status s t ∧
        (s.player.state = .playing →
          t.tick.player.position = s.player.position + BitVec.ofNat 32 ((s.player.positionPart + n) / 10000) ∧
            t.tick.player.positionPart = (s.player.positionPart + n) % 10000))

/-- R137: PLAY_PARTS changes the part modes of a take in progress and releases the open keys of the parts that leave SOUND; the
request answers with the player status. The modes are stated for a player that is not WAITING, whose wait may end with the change.
The codes of the modes in the argument byte are the model's reading (log 76). -/
def Obligations.PlayPartsChangesTheModes : Prop :=
  ∀ (slot : Fin 32) (tag : Word16) (a : List Byte) (s : State) (parts : Vector PartMode 4), s.hands slot = true →
    RequestsOwed s → parseParts (u8At a 0) = some parts → s.player.state.inProgress = true →
    ∃ t, exec (.playParts slot tag a) s = .next t ∧ Answered slot tag .ok t.player.status s t ∧
      (s.player.state ≠ .waiting → t.player.parts = parts ∧ t.player.state = s.player.state ∧
        t.player.position = s.player.position ∧
        t.player.openKeys = s.player.openKeys.filter fun o =>
          !(s.player.mode o.2 == some .sound && (({ s.player with parts := parts } : Player).mode o.2 != some .sound)))

/-- R144, R146, R147: PLAY_SEEK begins a silent scan from block 0; PLAY_PAUSE holds the clock and releases the open keys;
PLAY_RESUME starts a held wait afresh, at the group's time with fraction 0 (log 25), or goes on, or waits for its block, and
answers after what falls due at the resume, the model's choice (log 74); PLAY_STOP ends the take and releases keys and pedals.
R144, R145, R94: the scan passes one event after another; that it checks each event as it passes it, and not its whole group
first, is log 47, and that a PEDAL event of a part above 3 has no mode, so that its level is not stored, is log 26. At its marker
a seek hands the pedals and a restart, which sets the grid and, before PLAYING is entered, gives no beat (log 45), enters its
return state and completes OK; one that meets the take's end first is PAUSED at position 0, reads block 0 again and completes
NOT_FOUND. R130: a start scan at its marker enters PLAYING first and its restart, with the tempo the scan reached (log 57), gives
beat 1 of bar 1; one that misses hands no restart (log 58). R143: a restart that a paused loop re-read owes is handed as play
resumes, before PLAYING is entered (log 45). -/
def Obligations.SeekPauseResumeAndStop : Prop :=
  (∀ (n marker : Nat) (block : ScoreBlock) (e : ScoreEvent) (p : Stage), p.player.scan = some marker →
    p.player.currentBlock = some block → block.events[p.player.currentEvent]? = some e → e.bad = false →
    let time := p.player.lastTime + BitVec.ofNat 32 e.delta
    let passed : Player :=
      { p.player with currentEvent := p.player.currentEvent + 1, lastTime := time, position := time, positionPart := 0 }
    let after : Player :=
      match e.kind with
      | 3 =>
        if p.player.mode e.part = some .sound then { passed with pedals := p.player.pedals.store e.target (min 127 e.value) }
        else passed
      | 4 => { passed with followTempo := clampTempo e.value }
      | 5 => passed.markAnchor e.target
      | _ => passed
    let next : Stage := { p with player := after }
    p.scanRun (n + 1) =
      if e.kind = 7 then next.scanMissed else if e.kind = 5 ∧ e.target = marker then next.scanFound else next.scanRun n) ∧
  (∀ p : Stage,
    let q := p.player
    let voice := (p.voice.setDamper .playback q.pedals.damper).setSoft .playback q.pedals.softPressed
    let grid : Metronome := { p.metronome with
      followAnchor := q.position, followTempo := clampTempo q.followTempo, followIndex := 1, gridSet := true }
    let player (state : PlayerState) : Player := { q with state := state, scan := none, pendingSlot := none }
    (q.state = .seeking →
      let ended := player (if q.returnToPlaying then .playing else .paused)
      p.scanFound = { hub := p.hub.completeOptional q.pendingSlot .ok { ended with pendingSlot := q.pendingSlot }.status
                      voice := voice, metronome := grid, player := ended }) ∧
    (q.state = .loading →
      p.scanFound.player = player .playing ∧ p.scanFound.voice = voice ∧
      (p.metronome.settings.on = true → p.metronome.settings.mode = .follow → p.hub.attach ≠ .standby → p.hub.attach ≠ .woken →
        p.scanFound.metronome = { grid with beat := 1, bar := 1, click := some (p.metronome.startClick true) }) ∧
      (p.metronome.settings.on = false ∨ p.metronome.settings.mode = .free → p.scanFound.metronome = grid)) ∧
    (∀ take, q.take = some take →
      p.scanMissed.player.state = .paused ∧ p.scanMissed.player.scan = none ∧ p.scanMissed.player.position = 0 ∧
      p.scanMissed.player.pedals = .zero ∧ p.scanMissed.player.followTempo = clampTempo q.headerTempo ∧
      p.scanMissed.player.pendingSlot = none ∧ p.scanMissed.player.currentBuffer = 0 ∧
      p.scanMissed.player.buffers[(0 : Fin 2)].state = .reading ∧
      p.scanMissed.player.buffers[(0 : Fin 2)].address = take.firstBlock ∧ p.scanMissed.metronome = p.metronome)) ∧
  ∀ (slot : Fin 32) (tag : Word16) (a : List Byte) (s : State), s.hands slot = true → RequestsOwed s →
    (∀ take, u16At a 0 ≤ 255 → s.player.state ∈ [.playing, .waiting, .starved, .paused] → s.player.take = some take →
      ∃ t, exec (.playSeek slot tag a) s = .next t ∧ TakenAndHeld slot s t ∧
        t.player.state = .seeking ∧ t.player.scan = some (u16At a 0) ∧ t.player.pendingSlot = some slot ∧
        t.player.position = 0 ∧ t.player.openKeys = [] ∧ t.player.held = none ∧ t.player.anchor = none ∧
        t.player.returnToPlaying = decide (s.player.state ≠ .paused) ∧
        t.player.buffers[(0 : Fin 2)].state = .reading ∧ t.player.buffers[(0 : Fin 2)].address = take.firstBlock) ∧
    (s.player.state ∈ [.playing, .waiting, .starved, .paused, .seeking] →
      ∃ t, exec (.playPause slot tag a) s = .next t ∧ Answered slot tag .ok t.player.status s t ∧
        (s.player.state ∈ [.playing, .waiting, .starved] → t.player.state = .paused ∧ t.player.openKeys = [] ∧
          t.player.expected = [] ∧ t.player.held = s.player.held ∧ t.player.position = s.player.position) ∧
        (s.player.state = .paused → t.player = s.player) ∧
        (s.player.state = .seeking → t.player = { s.player with returnToPlaying := false })) ∧
    (s.player.state ∈ [.playing, .waiting, .starved, .paused, .seeking] →
      ∃ t, exec (.playResume slot tag a) s = .next t ∧ Answered slot tag .ok t.player.status s t ∧
        (s.player.state ∈ [.playing, .waiting, .starved] → t.player = s.player) ∧
        (s.player.state = .seeking → t.player = { s.player with returnToPlaying := true }) ∧
        (s.player.state = .paused → s.player.held = none → s.player.currentBlock = none →
          t.player = { s.player with state := .starved }) ∧
        (∀ g, s.player.state = .paused → s.player.held = some g → s.player.guideKeys [] g ≠ [] → s.player.strikes = [] →
          t.player = { s.player with
            state := .waiting, expected := s.player.guideKeys [] g, struck := [], waitStart := s.hub.tracking
            position := g.time, positionPart := 0 }) ∧
        (∀ g complete, s.player.state = .paused → s.player.held = none → s.player.restartOwed = false →
          s.player.view = .group g complete → reached g.time s.player.position = false →
          t.player = { s.player with state := .playing }) ∧
        (∀ g complete, s.player.state = .paused → s.player.held = none → s.player.restartOwed = true →
          s.player.view = .group g complete → reached g.time s.player.position = false →
          t.player = { s.player with state := .playing, restartOwed := false } ∧ t.metronome = { s.metronome with
            followAnchor := s.player.lastTime, followTempo := clampTempo s.player.followTempo, followIndex := 1
            gridSet := true })) ∧
    (∃ t, exec (.playStop slot tag a) s = .next t ∧ Answered slot tag .ok t.player.status s t ∧ t.player.state = .idle ∧
      (s.player.state.inProgress = true → t.player.openKeys = [] ∧ t.player.held = none ∧ t.player.scan = none ∧
        t.player.pedals = .zero ∧ t.player.pendingSlot = none) ∧
      t.player.next =
        if bitOf (u8At a 0) 0 then none
        else if s.player.state.inProgress then s.player.next.map fun n => { n with settled := false }
        else s.player.next)

/-! ### Take recording (08_take_recording.md) -/

/-- R156, R157: RECORD_START arms the recorder, empties the block list (at once: log 79) and reads the new one; a list that
arrives whole and whose every address is nonzero, a multiple of 4,096 and unlike the earlier ones starts the take, at once (with
the RECORDER record STARTED, detail code 0 by log 31, and CAUSE.PRACTICE before the completion) or at the first live key, and the
request completes OK with the state, the block count and, no entry being bad, 0xFF (log 28). A list with a bad entry returns the
recorder to IDLE and the request completes INVALID, naming the first; a failed read returns it to IDLE too, and completes FAILED
with no result data (all zeros, log 51), with CAUSE.FETCH of an ATTACHED part. -/
def Obligations.RecordStartArmsAndBegins : Prop :=
  ∀ s : State,
    (∀ (slot : Fin 32) (tag : Word16) (a : List Byte), s.hands slot = true → s.recorder.state = .idle → u64At a 0 ≠ 0 →
      s.hub.readsNumbered → u64At a 0 % 8 = 0 → 1 ≤ u8At a 14 → u8At a 14 ≤ 64 → 300 ≤ u16At a 12 → u16At a 12 ≤ 3000 → u8At a 15 ≤ 88 →
      u8At a 16 ≤ 1 →
      ∃ t, exec (.recordStart slot tag a) s = .next t ∧ TakenAndHeld slot s t ∧
        t.hub.askedFor s.hub.sched.nextReadId [(.list, BitVec.ofNat 64 (u64At a 0), 8 * u8At a 14)] ∧
        t = { s with
          hub := t.hub
          recorder := { s.recorder with
            state := .armed, takeId := BitVec.ofNat 32 (u32At a 8), headerTempo := u16At a 12, splitKey := u8At a 15
            onFirstKey := decide (u8At a 16 = 1), includePedals := bitOf (u8At a 17) 0, blockCount := u8At a 14, list := []
            listRead := false, openKeys := [], blocksUsed := 0, eventsWritten := 0, lastScoreTime := 0, nextMark := 0
            pendingSlot := some slot } }) ∧
    (∀ (id : Nat) (r : Read) (bytes : List Byte), s.mainUp = true → s.hub.outstandingRead id = some r →
      s.hub.now ≤ r.issuedAt + 2000 → r.discarded = false → r.tag = .list → s.recorder.state = .armed → s.recorder.listRead = false →
      let count := s.recorder.blockCount
      let address (i : Nat) : Nat := u64At (padded r.length bytes) (8 * i)
      let list : List Word64 := (List.range count).map fun i => BitVec.ofNat 64 (address i)
      let good (i : Nat) : Prop := address i ≠ 0 ∧ address i % 4096 = 0 ∧ ∀ j < i, address i ≠ address j
      let arrived := exec (.listReadArrival id (.data bytes)) s
      let answered (code : ResultCode) (data : List Byte) (t : State) : Prop :=
        ∀ slot, s.recorder.pendingSlot = some slot → Finished slot code data s t
      let idle := { s.recorder with state := .idle, pendingSlot := none }
      ((∀ i < count, good i) → s.recorder.onFirstKey = true → ∃ t, arrived = .next t ∧
        t = { s with hub := t.hub, recorder := { s.recorder with list := list, listRead := true, pendingSlot := none } } ∧
        answered .ok (le8 1 ++ le8 count ++ le8 0xFF) t) ∧
      ((∀ i < count, good i) → s.recorder.onFirstKey = false → ∃ t, arrived = .next t ∧
        t.recorder.state = .recording ∧ t.recorder.origin = s.hub.tracking ∧ t.recorder.takeClock = 0 ∧
        t.recorder.lastReading = s.hub.tracking ∧ t.recorder.list = list ∧ t.recorder.blocksUsed = 1 ∧
        t.recorder.pendingSlot = none ∧
        t.recorder.buffer.head? =
          some { delta := 0, kind := 4, target := 0, value := s.recorder.headerTempo, part := 0, aux := 0 } ∧
        t.recorder.buffer.length = (if s.recorder.includePedals then 4 else 1) ∧
        answered .ok (le8 2 ++ le8 count ++ le8 0xFF) t ∧
        let started := ((s.hub.retireRead id).note .recorder 1 (s.recorder.takeId.toNat % 65536) 0 0 {}).raise .practice
        t.hub = match s.recorder.pendingSlot with
          | none => started
          | some slot => started.completeRequest slot .ok (le8 2 ++ le8 count ++ le8 0xFF)) ∧
      (∀ bad < count, ¬ good bad → (∀ i < bad, good i) → ∃ t, arrived = .next t ∧
        t = { s with hub := t.hub, recorder := idle } ∧ answered .invalid (le8 0 ++ le8 count ++ le8 bad) t) ∧
      (∃ t, exec (.listReadArrival id .error) s = .next t ∧ t = { s with hub := t.hub, recorder := idle } ∧
        answered .failed [] t ∧ (s.hub.attach = .attached → t.hub.regs.cause.getLsbD 5 = true)))

/-- R158, R160: an event is appended at its score time behind the spacers its delta needs; the 508th event of a block that is not
the list's last has it written, and the next is begun; the 507th of the last block brings END, and the take ends FULL. A block is
written events first, then its header with count, LAST flag, next address and, in block 0, the tempo (Tables 12-8, 12-9). A take
that has ended appends nothing. R157, R159, Table 8-2: live KEY_DOWNs, KEY_UPs and PEDAL events, and the first key of an armed
recorder. R161: a MARK with the number given, or with the next one; that the answer to a mark which its spacers leave no room for
holds the number and the time it would have had is log 56, as is the next-mark number that goes up there. R162, R163: closing
appends a NOTE_OFF for each open key and END, the current block is written with LAST, a RECORD_STOP held completes with its
result, and the RECORDER record CLOSED or FULL is handed. That a close whose END is word 507 of the last block still ends STOPPED,
and that an END which comes as word 508 of a block that is not the last stands there, the block being turned before the take's
end, is log 29; the codes of the RECORDER record's details are log 31. TAKE_CLOCK_TICK reads the tracking clock into the take
clock; RECORD_STOP ends arming or closes the take. -/
def Obligations.RecorderMarksStopsAndCounts : Prop :=
  (∀ (time : Nat) (e : ScoreEvent) (d : Desk),
    let r := d.2
    let delta := time - r.lastScoreTime
    let n := (delta - 1) / 65535
    let spacer : ScoreEvent := { delta := 65535, kind := 6, target := 0, value := 0, part := 0, aux := 0 }
    (r.state = .recording ∨ r.state = .closing → r.buffer.length + n + 1 < 507 →
      d.appendAt time e = (d.1, { r with
        buffer := r.buffer ++ List.replicate n spacer ++ [{ e with delta := delta - 65535 * n }]
        eventsWritten := r.eventsWritten + n + 1, lastScoreTime := r.lastScoreTime + delta })) ∧
    (n = 0 → r.state = .recording ∨ r.state = .closing → d.appendAt time e = d.push { e with delta := delta }) ∧
    (r.state = .idle → d.appendAt time e = d)) ∧
  (∀ (e : ScoreEvent) (d : Desk),
    let r := d.2
    let entered : Recorder := { r with
      buffer := r.buffer ++ [e], eventsWritten := r.eventsWritten + 1, lastScoreTime := r.lastScoreTime + e.delta }
    let ending : ScoreEvent := { delta := 0, kind := 7, target := 0, value := 0, part := 0, aux := 0 }
    (r.currentBlock + 1 < r.list.length →
      (r.buffer.length ≠ 507 → d.push e = (d.1, entered)) ∧
      (r.buffer.length = 507 → d.push e = (entered.writeBlock false d.1, { entered with
        currentBlock := r.currentBlock + 1, buffer := [], blocksUsed := r.blocksUsed + 1 }))) ∧
    (r.list.length ≤ r.currentBlock + 1 →
      (r.buffer.length ≠ 506 → d.push e = (d.1, entered)) ∧
      (r.buffer.length = 506 → d.push e = Desk.finish true (d.1, { entered with
        buffer := r.buffer ++ [e, ending], eventsWritten := r.eventsWritten + 2 })))) ∧
  (∀ (last : Bool) (r : Recorder) (h : Hub), h.attach = .attached →
    let address := r.list.getD r.currentBlock 0
    let header := le32 0x4B475342 ++ le32 r.takeId.toNat ++ le16 r.currentBlock ++ le16 r.buffer.length ++
      le8 (if last then 1 else 0) ++ [0, 0, 0] ++ le64 (if last then 0 else (r.list.getD (r.currentBlock + 1) 0).toNat) ++
      le16 (if r.currentBlock = 0 then r.headerTempo else 0) ++ [0, 0, 0, 0, 0, 0]
    let events := r.buffer.flatMap fun e =>
      le16 e.delta ++ le8 e.kind ++ le8 e.target ++ le16 e.value ++ le8 e.part ++ le8 e.aux
    r.writeBlock last h = { h with
      posted := h.posted ++ (if r.buffer = [] then [] else [{ writer := .recorder, address := address + 32, data := events }]) ++
        [{ writer := .recorder, address, data := header }] }) ∧
  (∀ (full : Bool) (d : Desk),
    let r := d.2
    let result := le8 r.blocksUsed ++ le8 (if full then 1 else 0) ++ [0, 0] ++ le32 r.eventsWritten ++ le64 r.lastScoreTime
    let written := (r.writeBlock true d.1).completeOptional r.pendingSlot .ok result
    d.finish full =
      ((written.note .recorder r.blocksUsed (r.takeId.toNat % 65536) (if full then 2 else 1) 0 {}).raise .practice,
        { r with state := .idle, openKeys := [], pendingSlot := none })) ∧
  (∀ (key : Fin 88) (velocity level : Nat) (rep forced : Bool) (p : Fin 3) (emitted : Vector Nat 3) (d : Desk),
    let r := d.2
    let clock := r.takeClock + (d.1.tracking - r.lastReading).setWidth 64
    let time := max r.lastScoreTime (clock.toNat / 100)
    let read : Recorder := { r with takeClock := clock, lastReading := d.1.tracking }
    let part := if key.val < r.splitKey then 0 else 1
    let on : ScoreEvent :=
      { delta := 0, kind := 1, target := key.val, value := velocity, part := part, aux := if rep then 1 else 0 }
    let off : ScoreEvent :=
      { delta := 0, kind := 2, target := key.val, value := velocity, part := part, aux := if forced then 2 else 0 }
    let moved : ScoreEvent :=
      { delta := 0, kind := 3, target := p.val, value := level, part := 2, aux := if forced then 2 else 0 }
    let mark (number : Nat) : ScoreEvent := { delta := 0, kind := 5, target := number, value := 0, part := 0, aux := 0 }
    (r.state = .recording →
      d.keyDown key velocity rep emitted = Desk.appendAt time on
        (d.1, { read with openKeys := if key ∈ r.openKeys then r.openKeys else r.openKeys ++ [key] }) ∧
      (key ∈ r.openKeys → d.keyUp key velocity forced =
        Desk.appendAt time off (d.1, { read with openKeys := r.openKeys.filter fun k => k ≠ key })) ∧
      (key ∉ r.openKeys → d.keyUp key velocity forced = (d.1, read)) ∧
      (r.includePedals = true → d.pedal p level forced = Desk.appendAt time moved (d.1, read)) ∧
      (r.includePedals = false → d.pedal p level forced = (d.1, read)) ∧
      (∀ number, d.mark (some number) = Desk.appendAt time (mark number) (d.1, read)) ∧
      d.mark none = Desk.appendAt time (mark r.nextMark) (d.1, { read with nextMark := (r.nextMark + 1) % 256 })) ∧
    (r.state ≠ .recording → d.keyUp key velocity forced = d ∧ d.pedal p level forced = d ∧
      (r.state ≠ .armed ∨ r.listRead = false ∨ r.onFirstKey = false → d.keyDown key velocity rep emitted = d)) ∧
    (r.state = .armed → r.listRead = true → r.onFirstKey = true → r.openKeys = [] →
      let begun := d.keyDown key velocity rep emitted
      let tempo : ScoreEvent := { delta := 0, kind := 4, target := 0, value := r.headerTempo, part := 0, aux := 0 }
      let pedals : List ScoreEvent := if r.includePedals then
          (List.finRange 3).map fun q => { delta := 0, kind := 3, target := q.val, value := emitted[q], part := 2, aux := 0 }
        else []
      begun.2 = { r with
        state := .recording, origin := d.1.tracking, takeClock := 0, lastReading := d.1.tracking, currentBlock := 0
        blocksUsed := 1, openKeys := [key], buffer := tempo :: pedals ++ [on]
        eventsWritten := r.eventsWritten + (if r.includePedals then 5 else 2) } ∧
      begun.1 = (d.1.note .recorder 1 (r.takeId.toNat % 65536) 0 0 {}).raise .practice)) ∧
  (∀ d : Desk, d.2.state = .recording →
    let r := d.2
    let clock := r.takeClock + (d.1.tracking - r.lastReading).setWidth 64
    let time := max r.lastScoreTime (clock.toNat / 100)
    let delta := time - r.lastScoreTime
    let n := (delta - 1) / 65535
    let closing : Recorder := { r with state := .closing, takeClock := clock, lastReading := d.1.tracking }
    let spacer : ScoreEvent := { delta := 65535, kind := 6, target := 0, value := 0, part := 0, aux := 0 }
    let off (key : Fin 88) (delta : Nat) : ScoreEvent :=
      { delta, kind := 2, target := key.val, value := 64, part := if key.val < r.splitKey then 0 else 1, aux := 2 }
    let ending : ScoreEvent := { delta := 0, kind := 7, target := 0, value := 0, part := 0, aux := 0 }
    let keys := (List.finRange 88).filter fun k => k ∈ r.openKeys
    (keys = [] →
      let ended : Recorder := { closing with buffer := r.buffer ++ [ending], eventsWritten := r.eventsWritten + 1 }
      (r.buffer.length < 507 → d.close = Desk.finish false (d.1, ended)) ∧
      (r.buffer.length = 507 → r.currentBlock + 1 < r.list.length → d.close = Desk.finish false (ended.writeBlock false d.1,
        { ended with currentBlock := r.currentBlock + 1, buffer := [], blocksUsed := r.blocksUsed + 1 }))) ∧
    (∀ first rest, keys = first :: rest → r.buffer.length + n + rest.length + 2 < 507 →
      d.close = Desk.finish false (d.1, { closing with
        buffer := r.buffer ++ List.replicate n spacer ++ off first (delta - 65535 * n) :: rest.map (fun k => off k 0) ++ [ending]
        eventsWritten := r.eventsWritten + n + rest.length + 2, lastScoreTime := time }))) ∧
  (∀ (slot : Fin 32) (s : State), s.recorder.state = .recording →
    actRecordStop slot s = s.mapRecorder fun d => Desk.close (d.1, { d.2 with pendingSlot := some slot })) ∧
  ∀ s : State,
    (s.mainUp = true → s.recorder.state = .recording → exec .takeClockTick s = .next { s with
      recorder := { s.recorder with
        takeClock := s.recorder.takeClock + (s.hub.tracking - s.recorder.lastReading).setWidth 64
        lastReading := s.hub.tracking } }) ∧
    (s.mainUp = true → s.recorder.state ≠ .recording → exec .takeClockTick s = .next s) ∧
    (∀ (slot : Fin 32) (tag : Word16) (a : List Byte), s.hands slot = true → RequestsOwed s → s.recorder.state = .recording →
      u16At a 0 ≤ 256 →
      let clock := s.recorder.takeClock + (s.hub.tracking - s.recorder.lastReading).setWidth 64
      let time := max s.recorder.lastScoreTime (clock.toNat / 100)
      let number := if u16At a 0 = 256 then s.recorder.nextMark else u16At a 0
      ∃ t, exec (.recordMark slot tag a) s = .next t ∧
        Answered slot tag .ok
          (le8 number ++ le8 t.recorder.state.code ++ List.replicate 6 0 ++ le64 time) s t ∧
        t.recorder.nextMark = (if u16At a 0 = 256 then (s.recorder.nextMark + 1) % 256 else s.recorder.nextMark) ∧
        (time ≤ s.recorder.lastScoreTime + 65535 → s.recorder.buffer.length < 506 →
          t.recorder.state = .recording ∧ t.recorder.lastScoreTime = time ∧
          t.recorder.buffer = s.recorder.buffer ++
            [{ delta := time - s.recorder.lastScoreTime, kind := 5, target := number, value := 0, part := 0, aux := 0 }])) ∧
    (∀ (slot : Fin 32) (tag : Word16) (a : List Byte), s.hands slot = true → RequestsOwed s →
      (s.recorder.state = .armed → ∃ t, exec (.recordStop slot tag a) s = .next t ∧ Answered slot tag .ok [] s t ∧
        t = { s with hub := t.hub, recorder := { s.recorder with state := .idle, pendingSlot := none } }) ∧
      (s.recorder.state = .recording → ∃ t full, exec (.recordStop slot tag a) s = .next t ∧
        Answered slot tag .ok (t.recorder.stopResult full) s t ∧ t.recorder.state = .idle ∧ t.recorder.openKeys = [] ∧
        t.recorder.pendingSlot = none))

/-! ### The event journal (09_the_event_journal.md) -/

/-- R167, R168: a record handed to a writer that is not OFF joins the queue with the running gap as its tag, or is dropped at 128 and
counted. R169 to R172: an IDLE writer with a record claims a page; a FILLING one writes its queue record after record, the first of
a page giving it its gap, its first timestamp and its fill start, until the 63rd, which seals it, or a record with a gap, which
seals it first and waits for the next page. R171: what a seal writes and leaves. R173, R174: the writer claims a FREE page and fills
it from the queue, waits for a page that is not FREE, seals a page whose period is over, reads again when its wait is over, and
flushes on request. -/
def Obligations.JournalPagesAreClaimedAndSealed : Prop :=
  (∀ (rec : JournalRecord) (h : Hub),
    let j := h.journal
    (j.state = .off → h.hand rec = h) ∧
    (j.state ≠ .off → 128 ≤ j.queue.length → h.hand rec = { h with journal := { j with
      handed := j.handed + 1, runningGap := j.runningGap + 1, gapTotal := j.gapTotal + 1 } }) ∧
    (j.state ≠ .off → j.queue.length < 128 →
      let joined : Hub := { h with journal := { j with
        handed := j.handed + 1, queue := j.queue ++ [(rec, j.runningGap)], runningGap := 0 } }
      (j.state = .claiming ∨ j.state = .waiting → h.hand rec = joined) ∧
      (j.state = .idle → h.hand rec = joined.claimPage) ∧
      (j.state = .filling → h.hand rec = joined.fillFrom (j.queue ++ [(rec, j.runningGap)])))) ∧
  (∀ h : Hub, h.claimPage = Hub.requestRead .pageHeader (h.pageAddress 0) 16 0
    { h with journal := { h.journal with state := .claiming } }) ∧
  (∀ h : Hub, h.attach = .attached →
    let j := h.journal
    let write (offset : Nat) (data : List Byte) : PostedWrite := { writer := .journal, address := h.pageAddress offset, data }
    (∀ (rec : JournalRecord) (gap : Word32) (rest : List (JournalRecord × Word32)),
      let written : Hub := { h with
        posted := h.posted ++ [write (16 + 16 * j.pageRecords) rec.bytes]
        journal := { j with
          queue := rest, pageRecords := j.pageRecords + 1, recordsWritten := j.recordsWritten + 1
          pageGap := if j.pageRecords = 0 then gap else j.pageGap
          firstTimestamp := if j.pageRecords = 0 then rec.timestamp else j.firstTimestamp
          fillStart := if j.pageRecords = 0 then h.now else j.fillStart } }
      (gap ≠ 0 → j.pageRecords ≠ 0 → h.fillFrom ((rec, gap) :: rest) = h.sealPage) ∧
      (gap = 0 ∨ j.pageRecords = 0 → j.pageRecords = 62 → h.fillFrom ((rec, gap) :: rest) = written.sealPage) ∧
      (gap = 0 ∨ j.pageRecords = 0 → j.pageRecords ≠ 62 → h.fillFrom ((rec, gap) :: rest) = written.fillFrom rest)) ∧
    h.fillFrom [] = h ∧
    let flagged : Hub := Hub.raise .journal { h with posted := h.posted ++
      [write 1 (le8 j.pageRecords ++ [0, 0] ++ le32 j.sequence.toNat ++ le32 j.pageGap.toNat ++
        le32 j.firstTimestamp.toNat), write 0 (le8 2)] }
    let sealed : Hub := { flagged with journal := { j with
      state := .idle, sequence := j.sequence + 1, sealed := j.sealed + 1, gapsWritten := j.gapsWritten + j.pageGap
      cursor := if j.cursor + 1 < j.pages then j.cursor + 1 else 0, pageGap := 0, pageRecords := 0 } }
    h.sealPage = (if j.queue = [] then sealed else sealed.claimPage) ∧
      sealed.regs = { h.regs with cause := h.regs.cause ||| 2#8 } ∧ sealed.sched = h.sched) ∧
  ∀ s : State, s.mainUp = true → s.hub.attach = .attached →
    let j := s.hub.journal
    let write (offset : Nat) (data : List Byte) : PostedWrite :=
      { writer := .journal, address := s.hub.pageAddress offset, data }
    (∀ (id : Nat) (r : Read) (bytes : List Byte), s.hub.outstandingRead id = some r → s.hub.now ≤ r.issuedAt + 2000 →
      r.discarded = false → r.tag = .pageHeader → j.state = .claiming →
      let retired := s.hub.retireRead id
      let waits (h : Hub) : Hub := Hub.raise .journal { h with journal := { j with state := .waiting, waitStart := s.hub.now } }
      (u8At (padded r.length bytes) 0 ≠ 0 → ∃ t, exec (.pageHeaderReadArrival id (.data bytes)) s = .next t ∧
        t = { s with hub := waits retired } ∧ t.hub.journal = { j with state := .waiting, waitStart := s.hub.now } ∧
        t.hub.regs.cause.getLsbD 1 = true) ∧
      (∃ t, exec (.pageHeaderReadArrival id .error) s = .next t ∧ t = { s with hub := waits (retired.raise .fetch) } ∧
        t.hub.journal = { j with state := .waiting, waitStart := s.hub.now } ∧ t.hub.regs.cause.getLsbD 1 = true ∧
        t.hub.regs.cause.getLsbD 5 = true) ∧
      (∀ rec gap, u8At (padded r.length bytes) 0 = 0 → j.queue = [(rec, gap)] →
        ∃ t, exec (.pageHeaderReadArrival id (.data bytes)) s = .next t ∧ t = { s with hub := t.hub } ∧
          t.hub.posted = s.hub.posted ++ [write 0 (le8 1), write 16 rec.bytes] ∧
          t.hub.journal = { j with
            state := .filling, queue := [], pageRecords := 1, recordsWritten := j.recordsWritten + 1, pageGap := gap
            firstTimestamp := rec.timestamp, fillStart := s.hub.now }) ∧
      (u8At (padded r.length bytes) 0 = 0 →
        let claimed : Hub := { retired with
          posted := s.hub.posted ++ [write 0 (le8 1)], journal := { j with state := .filling, pageRecords := 0 } }
        exec (.pageHeaderReadArrival id (.data bytes)) s = .next { s with hub := claimed.fillFrom j.queue })) ∧
    (j.state = .filling → j.fillStart + 1000 * j.sealPeriod ≤ s.hub.now →
      ∃ t, exec .sealPeriodExpiry s = .next t ∧ t = { s with hub := s.hub.sealPage } ∧
        t.hub.posted = s.hub.posted ++
          [write 1 (le8 j.pageRecords ++ [0, 0] ++ le32 j.sequence.toNat ++ le32 j.pageGap.toNat ++
            le32 j.firstTimestamp.toNat), write 0 (le8 2)] ∧
        t.hub.journal = { j with
          state := if j.queue.isEmpty then .idle else .claiming, sequence := j.sequence + 1, sealed := j.sealed + 1
          gapsWritten := j.gapsWritten + j.pageGap, cursor := if j.cursor + 1 < j.pages then j.cursor + 1 else 0
          pageGap := 0, pageRecords := 0 } ∧
        t.hub.regs.cause.getLsbD 1 = true) ∧
    (j.state = .waiting → j.waitStart + 1000 * j.sealPeriod ≤ s.hub.now →
      ∃ t, exec .waitRereadExpiry s = .next t ∧ t = { s with hub := s.hub.claimPage } ∧
        t.hub.journal = { j with state := .claiming } ∧
        (s.hub.readsNumbered → t.hub.askedFor s.hub.sched.nextReadId [(.pageHeader, s.hub.pageAddress 0, 16)])) ∧
    (∀ (slot : Fin 32) (tag : Word16) (a : List Byte), s.hands slot = true →
      (j.state ≠ .filling → ∃ t, exec (.journalFlush slot tag a) s = .next t ∧ t = { s with hub := t.hub } ∧
        Answered slot tag .ok (s.hub.flushResult none) s t ∧ t.hub.journal = j) ∧
      (j.state = .filling → j.queue = [] → ∃ t, exec (.journalFlush slot tag a) s = .next t ∧ t = { s with hub := t.hub } ∧
        Answered slot tag .ok (t.hub.flushResult (some (j.sequence, j.pageRecords))) s t ∧
        t.hub.journal.state = .idle ∧ t.hub.journal.sealed = j.sealed + 1 ∧ t.hub.journal.sequence = j.sequence + 1))

/-! ### The exchange region (10_the_exchange_region.md) -/

/-- R177, R187, R188, Tables 10-1 and 10-2: what a write to each offset of the register window does and what a read of it answers;
a condition sets its flag while the part is ATTACHED, and none otherwise; an interrupt message falls due when the summary goes
from false to true, by a flag or by an enable, and at a CAUSE write that leaves it true, and is sent if the MSI capability is then
enabled, a free value (log 6). R186: a NOTIFY write notifies the board, the pages, both (the board first, log 10) or, with neither
bit set or in a part that is not ATTACHED, nothing. -/
def Obligations.RegisterWritesTakeEffect : Prop :=
  (∀ h : Hub,
    let control := h.readRegister 0x0C
    h.readRegister 0x00 = 0x4B880001 ∧ h.readRegister 0x04 = h.regs.regionLo ∧ h.readRegister 0x08 = h.regs.regionHi ∧
    h.readRegister 0x10 = 0 ∧ h.readRegister 0x14 = h.regs.cause.setWidth 32 ∧
    (∀ offset, offset ≠ 0x00 → offset ≠ 0x04 → offset ≠ 0x08 → offset ≠ 0x0C → offset ≠ 0x14 →
      h.readRegister offset = 0) ∧
    (control.getLsbD 0 = true ↔ h.attach = .validating ∨ h.attach = .attached) ∧
    (control.extractLsb' 1 3).toNat = (match h.attach with
      | .detached => 0
      | .validating => 1
      | .attached => 2
      | .rejected => 3
      | .standby => 4
      | .woken => 5) ∧
    (control.extractLsb' 4 4).toNat = (match h.regs.reject with
      | .none => 0
      | .magic => 1
      | .version => 2
      | .pages => 3
      | .layout => 4
      | .readFail => 5) ∧
    control.getLsbD 8 = h.regs.master ∧ control.extractLsb' 16 8 = h.regs.enables ∧
    control.extractLsb' 9 7 = 0 ∧ control.extractLsb' 24 8 = 0) ∧
  (∀ (flag : CauseFlag) (h : Hub),
    let bit : BitVec 8 := match flag with
      | .board => 1
      | .journal => 2
      | .rail => 4
      | .practice => 8
      | .sense => 16
      | .fetch => 32
      | .region => 64
      | .wake => 128
    let summary (cause : BitVec 8) : Bool := h.regs.master && decide (cause &&& h.regs.enables ≠ 0)
    let due := summary (h.regs.cause ||| bit) && !summary h.regs.cause
    h.setFlag flag = { h with
      regs := { h.regs with cause := h.regs.cause ||| bit }, msiDue := h.msiDue + flagBit due
      msiSent := h.msiSent + flagBit (due && Config.msiCapabilityEnabled h.msiDue) } ∧
    (h.attach = .attached → h.raise flag = h.setFlag flag) ∧ (h.attach ≠ .attached → h.raise flag = h)) ∧
  ∀ (value : Word32) (s : State), s.mainUp = true →
    let summary (master : Bool) (enables cause : BitVec 8) : Bool := master && decide (cause &&& enables ≠ 0)
    let old := summary s.hub.regs.master s.hub.regs.enables s.hub.regs.cause
    (exec (.registerWrite 0x04 value) s =
      .next { s with hub := { s.hub with regs := { s.hub.regs with regionLo := value } } }) ∧
    (exec (.registerWrite 0x08 value) s =
      .next { s with hub := { s.hub with regs := { s.hub.regs with regionHi := value } } }) ∧
    (exec (.registerWrite 0x0C value) s = if value.getLsbD 0 then exec (.runSet value) s else exec (.runClear value) s) ∧
    (value.getLsbD 0 = true → value.getLsbD 1 = false → exec (.registerWrite 0x10 value) s = exec .notifyBoard s) ∧
    (value.getLsbD 0 = false → value.getLsbD 1 = true → exec (.registerWrite 0x10 value) s = exec .notifyPages s) ∧
    (value.getLsbD 0 = true → value.getLsbD 1 = true →
      ∃ t, exec .notifyBoard s = .next t ∧ exec (.registerWrite 0x10 value) s = exec .notifyPages t) ∧
    (value.getLsbD 0 = false → value.getLsbD 1 = false → exec (.registerWrite 0x10 value) s = .next s) ∧
    (s.hub.attach ≠ .attached → exec (.registerWrite 0x10 value) s = .next s ∧ exec .notifyBoard s = .next s ∧
      exec .notifyPages s = .next s) ∧
    (exec (.registerWrite 0x14 value) s = exec (.causeClear value) s) ∧
    (∀ offset, offset ≠ 0x04 → offset ≠ 0x08 → offset ≠ 0x0C → offset ≠ 0x10 → offset ≠ 0x14 →
      exec (.registerWrite offset value) s = .next s) ∧
    (let master := value.getLsbD 8
      let enables := (value >>> 16).setWidth 8
      let due := summary master enables s.hub.regs.cause && !old
      exec (.controlEnableWrite value) s = .next { s with hub := { s.hub with
        regs := { s.hub.regs with master := master, enables := enables }, msiDue := s.hub.msiDue + flagBit due
        msiSent := s.hub.msiSent + flagBit (due && Config.msiCapabilityEnabled s.hub.msiDue) } }) ∧
    (let cause := s.hub.regs.cause &&& ~~~(value.setWidth 8)
      let due := summary s.hub.regs.master s.hub.regs.enables cause
      exec (.causeClear value) s = .next { s with hub := { s.hub with
        regs := { s.hub.regs with cause := cause }, msiDue := s.hub.msiDue + flagBit due
        msiSent := s.hub.msiSent + flagBit (due && Config.msiCapabilityEnabled s.hub.msiDue) } })

/-- R178, R181, R187: RUN 1 begins an attach from DETACHED or REJECTED: a base that is not a multiple of 4,096 is rejected with
LAYOUT, any other has the region header read, 64 bytes at the base. RUN 0 abandons a validation or detaches, and a PORT reset
leaves the part DETACHED with its registers at their initial values. A detach keeps the cause flags. In every state a RUN write
stores the enable fields it carries, before RUN acts (log 10), and where RUN changes nothing nothing else changes but the
messages the enables bring (R188). R198: RUN 1 and a PORT reset are also the exits from STANDBY and WOKEN: scanner, thresholds
and pulse are gone, the output's standby flag is clear, the seated level is taken afresh, the lamp is back in its mode, the
metronome's grid starts again, and every enabled lane in OFF begins a probe; RUN 1 in WOKEN sets CAUSE.WAKE. -/
def Obligations.AttachBeginsAndEnds : Prop :=
  ∀ (value : Word32) (s : State), s.mainUp = true →
    let base : Word64 := s.hub.regs.regionHi ++ s.hub.regs.regionLo
    let left (t : State) : Prop :=
      t.standby = { s.standby with thresholds := noThresholds, scanner := noScanner, pulse := .idle } ∧
      t.output = { s.output with standby := false } ∧ t.rail.seated = s.pins.seated ∧ t.rail.seatedPending = none ∧
      (t.lamp.shown = match s.railConfig.lampMode with
        | .show p => p
        | .auto => autoPattern s.railConfig t.rail) ∧
      (s.metronome.settings.on = false → t.metronome = s.metronome) ∧
      (s.metronome.settings.on = true → s.metronome.settings.mode = .free → t.metronome.beat = 1 ∧ t.metronome.bar = 1 ∧
        t.metronome.index = 1 ∧ t.metronome.anchor = s.voice.sampleClock.toNat) ∧
      (s.metronome.settings.on = true → s.metronome.settings.mode = .follow → t.metronome.beat = 0 ∧ t.metronome.bar = 0) ∧
      ∀ i : Fin 9, t.lanes[i] =
        if s.lanes[i].state = .off ∧ s.lanes[i].enabled = true then
          { s.lanes[i] with
            state := .probing, expected := none, errorWindow := [], silence := 0, phase := .hold (s.hub.now + 1500) }
        else s.lanes[i]
    let unchanged (c : Instr) : Prop :=
      let summary (master : Bool) (enables : BitVec 8) : Bool := master && decide (s.hub.regs.cause &&& enables ≠ 0)
      let master := value.getLsbD 8
      let enables := (value >>> 16).setWidth 8
      let due := summary master enables && !summary s.hub.regs.master s.hub.regs.enables
      ∃ t, exec c s = .next t ∧ t = { s with hub := { s.hub with
        regs := { s.hub.regs with master := master, enables := enables }
        msiDue := s.hub.msiDue + flagBit due, msiSent := t.hub.msiSent } } ∧
      s.hub.msiSent ≤ t.hub.msiSent ∧ t.hub.msiSent ≤ s.hub.msiSent + flagBit due
    (s.hub.attach = .standby ∨ s.hub.attach = .woken → ∃ t, exec (.runSet value) s = .next t ∧ left t ∧
      let cause := if s.hub.attach = .woken then s.hub.regs.cause ||| 128#8 else s.hub.regs.cause
      t.hub.region.base = base ∧
      (base.toNat % 4096 = 0 → t.hub.attach = .validating ∧ t.hub.regs.cause = cause ∧
        (s.hub.readsNumbered → t.hub.askedFor s.hub.sched.nextReadId [(.regionHeader, base, 64)])) ∧
      (base.toNat % 4096 ≠ 0 → t.hub.attach = .rejected ∧ t.hub.regs.reject = .layout ∧
        t.hub.regs.cause = cause ||| 64#8)) ∧
    ((s.hub.attach = .detached ∨ s.hub.attach = .rejected) → ∃ t, exec (.runSet value) s = .next t ∧
      t = { s with hub := t.hub } ∧ t.hub.region.base = base ∧
      (base.toNat % 4096 = 0 → t.hub.attach = .validating ∧ t.hub.regs.reject = .none ∧
        (s.hub.readsNumbered → t.hub.askedFor s.hub.sched.nextReadId [(.regionHeader, base, 64)]) ∧
        t.hub.regs.cause = s.hub.regs.cause) ∧
      (base.toNat % 4096 ≠ 0 → t.hub.attach = .rejected ∧ t.hub.regs.reject = .layout ∧
        t.hub.regs.cause = s.hub.regs.cause ||| 64#8)) ∧
    (∀ run : Bool, ∃ t, exec (if run then .runSet value else .runClear value) s = .next t ∧
      t.hub.regs.master = value.getLsbD 8 ∧ t.hub.regs.enables = (value >>> 16).setWidth 8) ∧
    ((s.hub.attach = .validating ∨ s.hub.attach = .attached) → unchanged (.runSet value)) ∧
    (s.hub.attach = .validating → ∃ t, exec (.runClear value) s = .next t ∧ t = { s with hub := t.hub } ∧
      t.hub.attach = .detached) ∧
    ((s.hub.attach = .detached ∨ s.hub.attach = .rejected ∨ s.hub.attach = .standby ∨ s.hub.attach = .woken) →
      unchanged (.runClear value)) ∧
    (s.hub.attach = .attached → ∃ t, exec (.runClear value) s = .next t ∧ t.hub.attach = .detached ∧
      t.hub.inFlight = [] ∧ t.hub.posted = s.hub.posted ∧ t.hub.journal.state = .off ∧ t.hub.journal.queue = [] ∧
      t.hub.sched.waiting = [] ∧ (∀ r ∈ t.hub.sched.outstanding, r.discarded = true) ∧
      t.hub.regs.cause = s.hub.regs.cause ∧ t.player.state = .idle ∧ t.recorder.state = .idle ∧
      t.tracker.window = none ∧ t.tracker.load = none ∧ t.voice.queue = [] ∧ t.voice.load = none ∧ t.rail.next = none ∧
      t.entry = none) ∧
    (∃ t, exec .portReset s = .next t ∧ t.hub.attach = .detached ∧ t.hub.regs = .reset ∧ t.hub.posted = s.hub.posted ∧
      (s.hub.attach = .attached → t.hub.inFlight = [] ∧ t.hub.journal.state = .off ∧ t.player.state = .idle ∧
        t.recorder.state = .idle) ∧
      (s.hub.attach = .standby ∨ s.hub.attach = .woken → left t) ∧
      ((s.hub.attach = .detached ∨ s.hub.attach = .rejected ∨ s.hub.attach = .validating) → t = { s with hub := t.hub }))

/-- R179, R180, R187, Tables 10-4 and 12-1: the region header that a validation has read is checked in the order of Table 10-4, its fields
standing where Table 12-1 gives them. The first check that fails rejects the attach with its reason and CAUSE.REGION, and so does a
read that fails, with READ_FAIL and CAUSE.FETCH too. A header that passes every check makes the part ATTACHED, with the performance
clock 0, no request in flight, LATEST written NONE and the first sweep begun with its four reads of 512 bytes, the journal writer at
page 0 with the seal period of the header, or 5 ms where that is 0 (R167), and the totals of R83 and R86 at 0. -/
def Obligations.HeaderIsCheckedAndAttached : Prop :=
  ∀ (id : Nat) (r : Read) (bytes : List Byte) (s : State), s.mainUp = true → s.hub.outstandingRead id = some r →
    s.hub.now ≤ r.issuedAt + 2000 → r.discarded = false → r.tag = .regionHeader → s.hub.attach = .validating →
    let header := padded r.length bytes
    let base := s.hub.region.base
    let pages := u16At header 6
    let size := u64At header 8
    let board := u32At header 16
    let ring := u32At header 20
    let triplet := u32At header 24
    let period := u16At header 28
    let apart (a lengthA b lengthB : Nat) : Prop := a + lengthA ≤ b ∨ b + lengthB ≤ a
    let layout : Prop :=
      board % 64 = 0 ∧ ring % 64 = 0 ∧ triplet % 64 = 0 ∧ period ≤ 100 ∧
      64 ≤ size ∧ board + 2048 ≤ size ∧ ring + 1024 * pages ≤ size ∧ triplet + 1544 ≤ size ∧
      apart 0 64 board 2048 ∧ apart 0 64 ring (1024 * pages) ∧ apart 0 64 triplet 1544 ∧
      apart board 2048 ring (1024 * pages) ∧ apart board 2048 triplet 1544 ∧ apart ring (1024 * pages) triplet 1544 ∧
      base.toNat + size ≤ 2 ^ 64
    let rejected (reason : RejectReason) : Prop :=
      ∃ t, exec (.headerReadArrival id (.data bytes)) s = .next t ∧ t = { s with hub := t.hub } ∧ t.hub.attach = .rejected ∧
        t.hub.regs.reject = reason ∧ t.hub.regs.cause = s.hub.regs.cause ||| 64#8
    (u32At header 0 ≠ 0x4B475848 → rejected .magic) ∧
    (u32At header 0 = 0x4B475848 → u16At header 4 ≠ 1 → rejected .version) ∧
    (u32At header 0 = 0x4B475848 → u16At header 4 = 1 → pages < 4 ∨ 64 < pages → rejected .pages) ∧
    (u32At header 0 = 0x4B475848 → u16At header 4 = 1 → 4 ≤ pages → pages ≤ 64 → ¬ layout → rejected .layout) ∧
    (∃ t, exec (.headerReadArrival id .error) s = .next t ∧ t = { s with hub := t.hub } ∧ t.hub.attach = .rejected ∧
      t.hub.regs.reject = .readFail ∧ t.hub.regs.cause = s.hub.regs.cause ||| 96#8) ∧
    (u32At header 0 = 0x4B475848 → u16At header 4 = 1 → 4 ≤ pages → pages ≤ 64 → layout →
      ∃ t, exec (.headerReadArrival id (.data bytes)) s = .next t ∧
        t.hub.attach = .attached ∧ t.hub.performance = 0 ∧ t.hub.inFlight = [] ∧ t.hub.cursor = 0 ∧
        t.hub.region = { base := base, board := board, ring := ring, triplet := triplet, pages := pages } ∧
        t.hub.posted = s.hub.posted ++
          [{ writer := .exchange, address := base + BitVec.ofNat 64 (triplet + 1536), data := le32 3 }] ∧
        t.hub.sweep = { parts := some (List.replicate 4 none), held := false, timer := some (s.hub.now + 10000) } ∧
        (s.hub.readsNumbered → t.hub.askedFor s.hub.sched.nextReadId
          (readsOf (n := 4) .board (base + BitVec.ofNat 64 board))) ∧
        t.hub.snapshot.timer = some (s.hub.now + 10000) ∧ t.hub.snapshot.latest = none ∧ t.hub.snapshot.sequence = 0 ∧
        t.hub.journal.state = .idle ∧ t.hub.journal.sequence = 0 ∧ t.hub.journal.handed = 0 ∧ t.hub.journal.queue = [] ∧
        t.hub.journal.pages = pages ∧ t.hub.journal.cursor = 0 ∧
        t.hub.journal.sealPeriod = (if period = 0 then 5 else period) ∧ t.hub.regs.cause = s.hub.regs.cause ∧
        t.output = { s.output with clips := 0 } ∧ t.voice = { s.voice with steals := 0, drops := 0, underruns := 0 })

/-- R183, R186, R189, R173: NOTIFY BOARD and the sweep timer make a board sweep fall due, NOTIFY PAGES has a WAITING writer read its page
again, and the snapshot timer makes a snapshot fall due. One that falls due while another is in progress is held; otherwise its reads
are requested: the board in four of 512 bytes (R183), the page header in one of 16 (R169), the HOLD word in one of 4 (R190). -/
def Obligations.SweepsAndSnapshotsFallDue : Prop :=
  ∀ s : State, s.mainUp = true → s.hub.attach = .attached →
    let sweep := s.hub.sweep
    let snapshot := s.hub.snapshot
    let asked (t : State) (wanted : List (ReadTag × Word64 × Nat)) : Prop :=
      s.hub.readsNumbered → t.hub.askedFor s.hub.sched.nextReadId wanted
    let board := readsOf (n := 4) .board (s.hub.regionAddress s.hub.region.board)
    let hold : List (ReadTag × Word64 × Nat) := [(.hold, s.hub.regionAddress (s.hub.region.triplet + 1540), 4)]
    (∀ c timer, (c = .notifyBoard ∧ timer = sweep.timer ∨
        ∃ due, sweep.timer = some due ∧ due ≤ s.hub.now ∧ c = .sweepTimerExpiry ∧ timer = some (due + 10000)) →
      s.entry = none → ∃ t, exec c s = .next t ∧ t = { s with hub := t.hub } ∧
        (sweep.parts = none → t.hub.sweep = { parts := some (List.replicate 4 none), held := false, timer := timer } ∧
          asked t board) ∧
        (sweep.parts.isSome = true → t.hub = { s.hub with sweep := { parts := sweep.parts, held := true, timer := timer } })) ∧
    (s.hub.journal.state = .waiting → ∃ t, exec .notifyPages s = .next t ∧ t = { s with hub := t.hub } ∧
      t.hub.journal = { s.hub.journal with state := .claiming } ∧ asked t [(.pageHeader, s.hub.pageAddress 0, 16)]) ∧
    (s.hub.journal.state ≠ .waiting → exec .notifyPages s = .next s) ∧
    (∀ due, snapshot.timer = some due → due ≤ s.hub.now → ∃ t, exec .snapshotTimerExpiry s = .next t ∧
      t = { s with hub := t.hub } ∧
      (snapshot.inProgress = true → t.hub = { s.hub with
        snapshot := { snapshot with held := true, timer := some (due + 10000) } }) ∧
      (snapshot.inProgress = false → t.hub.snapshot = { snapshot with
          inProgress := true, held := false, serving := snapshot.waiting, waiting := [], timer := some (due + 10000) } ∧
        asked t hold)) ∧
    (∀ (slot : Fin 32) (tag : Word16) (a : List Byte), s.hands slot = true →
      ∃ t, exec (.snapshotNow slot tag a) s = .next t ∧ TakenAndHeld slot s t ∧ t = { s with hub := t.hub } ∧
        (snapshot.inProgress = true →
          t.hub.snapshot = { snapshot with held := true, waiting := snapshot.waiting ++ [slot] }) ∧
        (snapshot.inProgress = false → t.hub.snapshot = { snapshot with
          inProgress := true, held := false, serving := snapshot.waiting ++ [slot], waiting := [] } ∧ asked t hold))

/-- R190: when the HOLD word arrives, the picture of the machine at that moment is written to the lowest-numbered buffer that is
neither the latest nor the one held, and LATEST then names it; a failed read sets CAUSE.FETCH and abandons the snapshot with
nothing of it written. R189: the requests it serves complete, OK with the buffer and the sequence number or FAILED without data
(all zeros, log 51). R203, Table 12-7: where each field of the picture lies, the other bytes being 0; that the take id of an
absent take is 0 is log 28. -/
def Obligations.SnapshotsArePublishedBesideTheHeldBuffer : Prop :=
  (∀ s : State,
    let picture := padded 512 s.picture
    let at_ (offset : Nat) (bytes : List Byte) : Prop := slice picture offset bytes.length = bytes
    let voice := s.voice
    let player := s.player
    at_ 0 (le32 s.hub.snapshot.sequence.toNat ++ le32 s.hub.performance.toNat) ∧
    at_ 8 (le8 s.hub.attach.code ++ le8 s.standby.cause.code ++ le8 s.standby.cause.which ++ [0]) ∧
    (∀ i : Fin 9, let l := s.lanes[i]
      at_ (12 + i.val) (le8 (l.state.code + 16 * l.absentReason.code + 128 * if l.enabled then 1 else 0))) ∧
    at_ 21 [0, 0, 0] ∧
    (∀ k : Fin 88, u8At picture (24 + k.val / 2) / (if k.val % 2 = 0 then 1 else 16) % 16 = s.keys[k].state.code) ∧
    at_ 68 (le8 s.pedals.level[(0 : Fin 3)] ++ le8 s.pedals.level[(1 : Fin 3)] ++ le8 s.pedals.level[(2 : Fin 3)] ++
      le8 ((if s.pedals.sostenuto then 1 else 0) + 2 * if s.pedals.soft then 1 else 0) ++ le8 s.pedals.capture.length) ∧
    at_ 73 (le8 (voice.inPhase .sounding) ++ le8 (voice.inPhase .damping) ++ le8 (voice.inPhase .cutting) ++
      le8 voice.queue.length ++ [0, 0, 0]) ∧
    at_ 80 (le32 voice.steals.toNat ++ le32 voice.drops.toNat ++ le32 voice.underruns.toNat) ∧
    at_ 92 (le8 s.rail.state.code ++ le8 (positionClass s.railConfig s.rail).code ++
      (match s.rail.active with
        | some m => le8 m.kind.code
        | none => [0xFF]) ++
      (match s.rail.next with
        | some n => if n.settled then [2] else [1]
        | none => [0]) ++
      le8 s.rail.lastCause.code ++ le8 (if s.rail.homed then 1 else 0) ++ [0, 0]) ∧
    at_ 100 (lei32 s.rail.position) ∧
    at_ 104 (match s.rail.active with
      | some m => if m.kind = .home then [0, 0, 0, 0] else le32 (m.target - s.rail.position).natAbs
      | none => [0, 0, 0, 0]) ∧
    at_ 108 (le8 player.state.code ++ le8 player.expected.length ++ le8 player.loopsRemaining ++
      le8 (if player.endless then 1 else 0)) ∧
    at_ 112 (match player.take with
      | some take => le32 take.takeId.toNat
      | none => [0, 0, 0, 0]) ∧
    at_ 116 (le32 player.position.toNat ++ le32 player.misses.toNat) ∧
    at_ 124 (le8 s.recorder.state.code ++ le8 s.recorder.blocksUsed ++ [0, 0] ++ le32 s.recorder.eventsWritten) ∧
    at_ 132 (le32 s.hub.journal.sealed.toNat ++ le32 s.hub.journal.gapTotal.toNat) ∧
    at_ 140 (le8 (if s.jack.inserted then 1 else 0) ++ le8 s.output.setting ++ le8 s.output.muteState ++ [0]) ∧
    at_ 144 (le32 s.output.clips.toNat ++ le8 s.metronome.beat ++ [0] ++ le16 s.metronome.bar) ∧
    at_ 152 (List.replicate 360 0)) ∧
  ∀ (id : Nat) (r : Read) (bytes : List Byte) (s : State), s.mainUp = true → s.hub.attach = .attached →
    s.hub.outstandingRead id = some r → s.hub.now ≤ r.issuedAt + 2000 → r.discarded = false → r.tag = .hold →
    let held := u32At (padded r.length bytes) 0
    let snapshot := s.hub.snapshot
    let answered (code : ResultCode) (data : List Byte) (after : List PostedWrite) : Prop :=
      (snapshot.serving = [] → after = []) ∧
      ∀ slot ∈ snapshot.serving, ∀ e, s.hub.inFlightEntry slot = some e →
        s.hub.resultWrites slot e.tag code data 3 <:+: after
    (∃ t b after, exec (.holdReadArrival id (.data bytes)) s = .next t ∧ t = { s with hub := t.hub } ∧
      some b ≠ snapshot.latest ∧ (b : Fin 3).val ≠ held ∧
      (∀ c : Fin 3, c < b → some c = snapshot.latest ∨ c.val = held) ∧
      t.hub.posted = s.hub.posted ++
        [{ writer := .exchange, address := s.hub.regionAddress (s.hub.region.triplet + 512 * b.val), data := padded 512 s.picture },
          { writer := .exchange, address := s.hub.regionAddress (s.hub.region.triplet + 1536), data := le32 b.val }] ++ after ∧
      answered .ok (le8 b.val ++ [0, 0, 0] ++ le32 snapshot.sequence.toNat) after ∧
      t.hub.snapshot.latest = some b ∧ t.hub.snapshot.sequence = snapshot.sequence + 1 ∧
      (∀ slot ∈ snapshot.serving, t.hub.holdsSlot slot = false) ∧
      (snapshot.held = false → t.hub.snapshot.inProgress = false ∧ t.hub.snapshot.serving = []) ∧
      (snapshot.held = true → t.hub.snapshot.inProgress = true ∧ t.hub.snapshot.serving = snapshot.waiting)) ∧
    (∃ t after, exec (.holdReadArrival id .error) s = .next t ∧ t = { s with hub := t.hub } ∧
      t.hub.posted = s.hub.posted ++ after ∧ answered .failed [] after ∧ t.hub.regs.cause.getLsbD 5 = true ∧
      t.hub.snapshot.latest = snapshot.latest ∧ t.hub.snapshot.sequence = snapshot.sequence ∧
      (∀ slot ∈ snapshot.serving, t.hub.holdsSlot slot = false) ∧
      (snapshot.held = false → t.hub.snapshot.inProgress = false ∧ t.hub.snapshot.serving = []) ∧
      (snapshot.held = true → t.hub.snapshot.inProgress = true ∧ t.hub.snapshot.serving = snapshot.waiting))

/-- R183, R184, R192: a part of the board copy is kept until all four are in; the slots are then visited in cyclic order from the
cursor. A slot whose copy is not POSTED, or that is in flight, is passed over; a POSTED one acts as its request's row (log 4), a
kind of no code of Table 12-3 is refused UNKNOWN_KIND, and the visit ends at a POSTED slot with eight requests in flight, where the
cursor stays, and after a STANDBY_ENTER (R194). A failed read ends the sweep, and a read without completion for 2 ms fails,
which its requester is told unless it was discarded; that a discarded read's timeout sets CAUSE.FETCH all the same is log 32. R191: the
scheduler keeps four reads outstanding while reads wait, and takes the read that has waited more than 1 ms first, the earliest of
several, else the first class, in it the earliest deadline of the voices or the earliest request. -/
def Obligations.BoardCopiesAreSweptAndReadsTimeOut : Prop :=
  (∀ (now : Nat) (waiting : List Read), waiting.Pairwise (fun a b => a.requestedAt ≤ b.requestedAt) →
    let aged (q : Read) : Prop := q.requestedAt + 1000 < now
    let cls (q : Read) : Nat :=
      match q.tag with
      | .voice .. => 0
      | .block .. => 1
      | .table _ | .keymap _ | .list => 2
      | _ => 3
    (chooseRead now waiting = none ↔ waiting = []) ∧
    ∀ r, chooseRead now waiting = some r → r ∈ waiting ∧
      ((∃ q ∈ waiting, aged q) → aged r ∧ ∀ q ∈ waiting, aged q → r.requestedAt ≤ q.requestedAt) ∧
      ((∀ q ∈ waiting, ¬ aged q) → ∀ q ∈ waiting, cls r ≤ cls q ∧
        (cls q = cls r → cls r ≠ 0 → r.requestedAt ≤ q.requestedAt) ∧
        (cls q = 0 → cls r = 0 → r.deadline ≤ q.deadline ∧ (r.deadline = q.deadline → r.requestedAt ≤ q.requestedAt)))) ∧
  (∀ h : Hub,
    (4 ≤ h.sched.outstanding.length → h.issueReads = h) ∧
    (∀ r, h.sched.outstanding.length < 4 → chooseRead h.now h.sched.waiting = some r →
      h.issueOne = { h with sched := { h.sched with
        waiting := h.sched.waiting.filter fun q => q.id ≠ r.id
        outstanding := h.sched.outstanding ++ [{ r with issuedAt := h.now }] } }) ∧
    (h.issueReads.sched.waiting = [] ∨ 4 ≤ h.issueReads.sched.outstanding.length) ∧
    (∀ id, ∃ g : Hub, h.retireRead id = g.issueReads ∧
      g = { h with sched := { h.sched with outstanding := h.sched.outstanding.filter fun q => q.id ≠ id } }) ∧
    (∀ tag address length deadline, ∃ g : Hub, h.requestRead tag address length deadline = g.issueReads ∧
      g = { h with sched := { h.sched with
        nextReadId := h.sched.nextReadId + 1
        waiting := h.sched.waiting ++ [{ id := h.sched.nextReadId, tag, address, length, deadline, requestedAt := h.now
                                         issuedAt := 0, discarded := false }] } })) ∧
  ((List.range 34).map (fun code => RequestKind.ofCode (code + 1)) = [RequestKind.laneControl, .senseConfig, .calibrateKeys,
      .calibAbort, .tableLoad, .pedalConfig, .voiceConfig, .voiceCut, .outputConfig, .metronome, .railConfig, .railQuery, .railMove,
      .railStop, .railHalt, .railClear, .railSettle, .railUnsettle, .playStart, .playNext, .playSettle, .playUnsettle, .playTempo,
      .playParts, .playSeek, .playPause, .playResume, .playStop, .recordStart, .recordStop, .recordMark, .journalFlush,
      .snapshotNow, .standbyEnter].map some ∧
    ∀ code, RequestKind.ofCode code = none ↔ code = 0 ∨ 34 < code) ∧
  (∀ (copy : List Byte) (slot : Fin 32) (rest : List (Fin 32)) (s : State), s.mainUp = true → s.hub.attach = .attached →
    let from_ := 64 * slot.val
    let due : Prop := u8At copy from_ = 1 ∧ s.hub.holdsSlot slot = false
    let kind := RequestKind.ofCode (u8At copy (from_ + 1))
    let tag : Word16 := BitVec.ofNat 16 (u16At copy (from_ + 2))
    let visited := s.visitSlots copy (slot :: rest)
    s.visitSlots copy [] = s ∧
    (s.entry.isSome = true → visited = s) ∧
    (s.entry = none →
      (¬ due → visited = s.visitSlots copy rest) ∧
      (due → 8 ≤ s.hub.inFlight.length → visited = { s with hub := { s.hub with cursor := slot } }) ∧
      (due → s.hub.inFlight.length < 8 →
        (kind = none → visited =
          State.visitSlots copy rest { s with hub := { s.hub.refuseRequest slot tag .unknownKind with cursor := slot + 1 } }) ∧
        (∀ c k, kind = some k → requestOf c = some { slot, kind := k, tag, args := slice copy (from_ + 8) 24 } →
          ∃ t, exec c s = .next t ∧ visited = t.visitSlots copy rest)))) ∧
  ∀ (id : Nat) (r : Read) (bytes : List Byte) (s : State), s.mainUp = true → s.hub.outstandingRead id = some r →
    (∀ part parts, s.hub.now ≤ r.issuedAt + 2000 → r.discarded = false → r.tag = .board part →
      s.hub.sweep.parts = some parts →
      let chunks := putChunk parts part.val (padded r.length bytes)
      let retired := s.hub.retireRead id
      retired.cursor = s.hub.cursor ∧ retired.inFlight = s.hub.inFlight ∧ retired.posted = s.hub.posted ∧
        retired.regs = s.hub.regs ∧ retired.attach = s.hub.attach ∧ retired.now = s.hub.now ∧ retired.region = s.hub.region ∧
      (allChunks chunks = none → exec (.boardReadArrival id (.data bytes)) s = .next { s with hub := { retired with
        sweep := { s.hub.sweep with parts := some chunks } } }) ∧
      (∀ copy, allChunks chunks = some copy → exec (.boardReadArrival id (.data bytes)) s = .next
        (State.endSweep (State.visitSlots copy ((List.finRange 32).map fun j => s.hub.cursor + j) { s with hub := retired }))) ∧
      (s.hub.sweep.held = false → exec (.boardReadArrival id .error) s = .next { s with hub :=
        { (retired.raise .fetch).dropReads ReadTag.isBoard with sweep := { s.hub.sweep with parts := none } } })) ∧
    (r.issuedAt + 2000 ≤ s.hub.now →
      let u : State := { s with hub := (s.hub.retireRead id).raise .fetch }
      u.hub.posted = s.hub.posted ∧ (s.hub.attach = .attached → u.hub.regs.cause = s.hub.regs.cause ||| 32#8) ∧
      (r.discarded = true → exec (.readTimeout id) s = .next u) ∧
      (r.discarded = false → exec (.readTimeout id) s = .next (u.readFailed r.tag)))

/-! ### Standby, wake and start-up (11_standby_wake_and_start_up.md) -/

/-- R194, R195, R18: STANDBY_ENTER stores its codes with the apply flag set, stops the player, asks the recorder to close (a
closing in progress is awaited; ARMED is disarmed, and a RECORD_START still pending completes ABORTED), and, once the recorder is
idle, cuts every voice, empties the pending-start queue and seals the open journal page; the shutdown step completes it: the
request is answered, the part detaches and is in STANDBY, its lanes OFF or set aside, its output muted and its rail driver off.
Which of the two rows takes each step of R195 is the model's choice (log 30). R196: the key lanes that were ACTIVE pass to the
wake scanner, which writes 2 to their START registers and leaves their reset lines inactive; all other lanes' lines are active;
the unmasked keys of those lanes get wake thresholds. The scanner expects no sequence number at first, the model's choice (log
75). R18, R36: an ACTIVE key lane hands its lane-lost notice before it is OFF, so the rail is told false at the entry and a quiet
condition that is true after it has been held for no time. -/
def Obligations.StandbyIsEntered : Prop :=
  ∀ s : State,
    (∀ (slot : Fin 32) (tag : Word16) (a : List Byte), s.hands slot = true → RequestsOwed s → s.rail.state.still = true →
      (bitOf (u8At a 0) 0 = true → u8At a 1 ≤ 50 ∧ 1 ≤ u8At a 2 ∧ u8At a 2 ≤ 20) →
      ∃ t, exec (.standbyEnter slot tag a) s = .next t ∧ TakenAndHeld slot s t ∧ t.player.state = .idle ∧
        (s.player.state.inProgress = true → t.player.openKeys = [] ∧ t.player.held = none ∧ t.player.pedals = .zero ∧
          t.player.pendingSlot = none) ∧
        (s.player.state.inProgress = true ∨ s.recorder.state = .recording → t.hub.regs.cause.getLsbD 3 = true) ∧
        (s.recorder.state = .closing → t.entry = some (slot, .recorderClose) ∧ t.recorder = s.recorder) ∧
        (s.recorder.state = .idle → t.recorder = s.recorder) ∧
        (s.recorder.state = .armed → t.recorder = { s.recorder with state := .idle, pendingSlot := none } ∧
          ∀ k, s.recorder.pendingSlot = some k → Finished k .aborted [] s t) ∧
        (s.recorder.state = .recording → t.recorder.state = .idle ∧ t.recorder.openKeys = [] ∧ t.recorder.pendingSlot = none ∧
          ∃ h : Hub, h.tracking = s.hub.tracking ∧ t.recorder = (Desk.close (h, { s.recorder with pendingSlot := none })).2) ∧
        (s.recorder.state ≠ .closing → t.entry = some (slot, .journalSeal) ∧ t.voice.queue = [] ∧
          (∀ k : Fin 96, let v := s.voice.voices[k]
            (v.phase = .sounding ∨ v.phase = .damping → v.firstFill = true → t.voice.voices[k].phase = .free) ∧
            (v.phase = .sounding ∨ v.phase = .damping → v.firstFill = false → ∃ n, s.voice.cuts ≤ n ∧ t.voice.voices[k] = { v with
              phase := .cutting, keyDown := false, sostenutoHeld := false, cutTime := s.voice.sampleClock.toNat
              cutLevel := v.level, cutNumber := n }) ∧
            t.voice.voices[k].phase ≠ .sounding ∧ t.voice.voices[k].phase ≠ .damping) ∧
          t.hub.journal.state ≠ .filling ∧
          (s.hub.journal.state = .filling → t.hub.journal.sealed = s.hub.journal.sealed + 1 ∧
            t.hub.journal.sequence = s.hub.journal.sequence + 1) ∧
          (s.hub.journal.state ≠ .filling → t.hub.journal.sealed = s.hub.journal.sealed)) ∧
        (bitOf (u8At a 0) 0 = true → t.standby = { s.standby with delay := u8At a 1, width := u8At a 2 }) ∧
        (bitOf (u8At a 0) 0 = false → t.standby = s.standby)) ∧
    (∀ slot e, s.mainUp = true → s.hub.attach = .attached → s.entry = some (slot, .journalSeal) →
      s.hub.inFlightEntry slot = some e → ∃ t, exec .standbyShutdownStep s = .next t ∧
        t.hub.posted =
          s.hub.posted ++ s.hub.resultWrites slot e.tag .ok (le8 s.standby.delay ++ le8 s.standby.width) 3 ∧
        t.hub.attach = .standby ∧ t.hub.inFlight = [] ∧ t.entry = none ∧ t.hub.journal.state = .off ∧
        (∀ i : Fin 9, t.lanes[i].state = .off ∨ t.lanes[i].state = .absent) ∧ t.output.standby = true ∧
        t.metronome.click = none ∧ t.rail.drvEn = false ∧ t.standby.pulse = .idle ∧ t.standby.lastPulse = none ∧
        t.standby.cause = .none ∧ t.laneResetActive 8 = true ∧
        (∀ n : Fin 8, s.lanes[n.castSucc].state = .active → t.rail.quiet = true → t.rail.quietSince = s.hub.now) ∧
        (∀ n : Fin 8, (t.laneResetActive n.castSucc = true ↔ s.lanes[n.castSucc].state ≠ .active) ∧
          t.standby.scanner[n] =
            if s.lanes[n.castSucc].state = .active then
              some
                { exchange := some
                    { step := .startLowRate, value := some 2, number := s.lanes[n.castSucc].exchangeNumber + 1, attempt := 1
                      sentAt := s.hub.now, firstSentAt := s.hub.now }
                  expected := none, last := none }
            else none) ∧
        (∀ k : Fin 88, t.standby.thresholds[k] =
          if s.lanes[(laneOf k).castSucc].state = .active ∧ s.keys[k].masked = false then
            some { rest := s.calibration[k].keyRest, bottom := s.calibration[k].keyBottom, press := s.calibration[k].press }
          else none)) ∧
    (∀ slot, s.mainUp = true → s.entry = some (slot, .recorderClose) → s.recorder.state = .closing →
      exec .standbyShutdownStep s = .next s) ∧
    (∀ slot, s.mainUp = true → s.entry = some (slot, .recorderClose) → s.recorder.state ≠ .closing →
      ∃ u : State, exec .standbyShutdownStep s = exec .standbyShutdownStep { u with entry := some (slot, .journalSeal) } ∧
        u = { s with hub := u.hub, voice := u.voice } ∧ u.voice.queue = [] ∧
        (∀ k : Fin 96, u.voice.voices[k].phase ≠ .sounding ∧ u.voice.voices[k].phase ≠ .damping) ∧
        u.hub.journal.state ≠ .filling ∧ u.hub.attach = s.hub.attach ∧ u.hub.inFlight = s.hub.inFlight) ∧
    (s.mainUp = true → s.entry = none → exec .standbyShutdownStep s = .next s)

/-- R196, R197, R198: in standby a good frame of a lane with the wake scanner keeps its readings, a bad one counts as an error
(that a lane from which no sequence number is expected takes any is the model's choice, log 75); a lane whose START write is
acknowledged is heard, and one whose write fails three times is dropped, its reset line active again; a due wake delay begins the
pulse and makes the part WOKEN, and the pulse ends after its width. A key of the lane whose depth under its wake threshold reaches
PRESS from above it is a wake event, the keys taken in ascending order. A wake event sets the pulse due while the timer is IDLE,
after the wake delay and not before the last pulse's start plus delay and width, and is the wake cause if there is none; in DELAY
and PULSING it leaves the timer. WAKE_N is low in a pulse alone. -/
def Obligations.WakeScannerAndPulse : Prop :=
  (∀ (now : Nat) (cause : WakeCause) (b : Standby),
    let woken := b.wakeEvent now cause
    let soonest := now + 10000 * b.delay
    woken = { b with pulse := woken.pulse, cause := if b.cause = .none then cause else b.cause } ∧
    (b.pulse = .idle → b.lastPulse = none → woken.pulse = .delay soonest) ∧
    (∀ start, b.pulse = .idle → b.lastPulse = some start →
      woken.pulse = .delay (max soonest (start + 10000 * b.delay + 20000 * b.width))) ∧
    (b.pulse ≠ .idle → woken.pulse = b.pulse) ∧
    (b.wakeHigh = false ↔ ∃ until_, b.pulse = .pulsing until_)) ∧
  (∀ (now : Nat) (lane : Fin 8) (last readings : List Nat) (b : Standby),
    let depth (t : WakeThreshold) (raw : Nat) : Nat :=
      min 1000 ((((raw : Int) - t.rest) * 1000).tdiv ((t.bottom : Int) - t.rest)).toNat
    let crosses (j : Fin 11) : Bool :=
      match b.thresholds[laneKey lane j] with
      | some t => decide (depth t (last.getD j.val 0) < t.press ∧ t.press ≤ depth t (readings.getD j.val 0))
      | none => false
    b.scanKeys now lane last readings =
      ((List.finRange 11).filter crosses).foldl (fun x j => x.wakeEvent now (.key (laneKey lane j))) b) ∧
  ∀ s : State,
    (∀ (lane : Fin 8) (bytes : List Byte) (r : ScannerLane) (f : Frame) (crcGood : Bool),
      s.standby.scanner[lane] = some r → r.exchange = none → parseFrame 11 bytes = some (f, crcGood) →
      let put (x : ScannerLane) (b : Standby) : Standby := { b with scanner := b.scanner.set lane (some x) }
      let result := exec (.wakeScanFrame lane bytes) s
      let kept : ScannerLane := { exchange := none, expected := some (f.sequence + 1), last := some f.readings }
      (crcGood = true → (r.expected = none ∨ r.expected = some f.sequence) →
        (r.last = none → result = .next { s with standby := put kept s.standby }) ∧
        (∀ last, r.last = some last →
          result = .next { s with standby := put kept (s.standby.scanKeys s.hub.now lane last f.readings) })) ∧
      (∀ next, (crcGood = false ∧ next = r.expected.map (fun e => e + 1) ∨
          ∃ e, crcGood = true ∧ r.expected = some e ∧ e ≠ f.sequence ∧ next = some (f.sequence + 1)) →
        ∃ t, result = .next t ∧ t.standby = put { r with expected := next } s.standby ∧
          (s.mainUp = true → t.lanes[lane.castSucc].errors = s.lanes[lane.castSucc].errors + 1))) ∧
    (∀ (lane : Fin 8) (r : ScannerLane) (e : LaneExchange), s.standby.scanner[lane] = some r → r.exchange = some e →
      e.step = .startLowRate → s.lanes[lane.castSucc].exchange = none →
      (∀ body, s.hub.now ≤ e.sentAt + 100 →
        exec (.managementReply lane.castSucc e.number .acknowledge body (crc8 body)) s = .next { s with
          standby := { s.standby with scanner := s.standby.scanner.set lane (some { r with exchange := none }) } }) ∧
      (e.sentAt + 100 ≤ s.hub.now → e.attempt < 3 → ∃ t, exec (.exchangeTimeout lane.castSucc) s = .next t ∧
        t.standby.scanner[lane] = some { r with exchange := some { e with
          attempt := e.attempt + 1, number := s.lanes[lane.castSucc].exchangeNumber + 1, sentAt := s.hub.now } }) ∧
      (e.sentAt + 100 ≤ s.hub.now → 3 ≤ e.attempt → ∃ t, exec (.exchangeTimeout lane.castSucc) s = .next t ∧
        t.standby.scanner[lane] = none ∧
        (s.lanes[lane.castSucc].state = .off → t.laneResetActive lane.castSucc = true))) ∧
    (∀ due, s.standby.pulse = .delay due → due ≤ s.hub.now → exec .wakeDelayExpiry s = .next { s with
      standby := { s.standby with
        pulse := .pulsing (s.hub.now + s.standby.width * 20000), lastPulse := some s.hub.now }
      hub := { s.hub with attach := if s.hub.attach = .standby then .woken else s.hub.attach } }) ∧
    (∀ until_, s.standby.pulse = .pulsing until_ → until_ ≤ s.hub.now →
      exec .wakePulseEnd s = .next { s with standby := { s.standby with pulse := .idle } })

/-- R1, R98, R193, R199, Table 11-2: a POWER-ON reset returns the whole part to its initial values and a MAIN reset its main domain, both
held in reset until the reset's end, which begins the lane probes; every lane's reset line is active meanwhile and through the reset
hold that follows. A MAIN reset leaves the standby domain as it stood, but for the scanner, the thresholds and the pulse (R199), and the
rail's position and homed flag where the rail was at rest (R98). Without V_MAIN the main domain stops. What the part has already written and
the model's own counts and numbers stay (log 34). -/
def Obligations.ResetsReturnTheirDomains : Prop :=
  ∀ s : State,
    (∃ t, exec .powerOnReset s = .next t ∧ t.resetHeld = some .powerOn ∧ t.hub.attach = .detached ∧ t.hub.regs = .reset ∧
      t.hub.inFlight = [] ∧ t.hub.posted = s.hub.posted ∧
      (∀ i : Fin 9, t.lanes[i] = { Lane.reset with exchangeNumber := s.lanes[i].exchangeNumber } ∧
        t.laneResetActive i = true) ∧
      t.tracker = State.reset.tracker ∧ t.pedals = State.reset.pedals ∧ t.jack = State.reset.jack ∧
      t.lamp = { shown := .off, since := s.hub.now, brightness := 0 } ∧ t.keys = State.reset.keys ∧ t.calibration = State.reset.calibration ∧ t.curve = State.reset.curve ∧
      t.pedalSettings = .reset ∧ t.switches = State.reset.switches ∧ t.actions = State.reset.actions ∧ t.voice = .reset ∧
      t.output = .reset ∧ t.metronome = .reset ∧ t.rail = .reset ∧ t.railConfig = .default ∧ t.player = .reset ∧
      t.recorder = .reset ∧ t.standby = .reset ∧ t.entry = none) ∧
    (s.resetHeld ≠ some .powerOn → ∃ t, exec .mainReset s = .next t ∧ t.resetHeld = some .main ∧ t.hub.attach = .detached ∧
      t.hub.regs = .reset ∧ t.hub.inFlight = [] ∧ t.hub.posted = s.hub.posted ∧
      (∀ i : Fin 9, t.lanes[i] = { Lane.reset with exchangeNumber := s.lanes[i].exchangeNumber } ∧
        t.laneResetActive i = true) ∧
      t.tracker = State.reset.tracker ∧ t.pedals = State.reset.pedals ∧ t.jack = State.reset.jack ∧
      t.lamp = { shown := .off, since := s.hub.now, brightness := 0 } ∧ t.keys = State.reset.keys ∧
      t.calibration = State.reset.calibration ∧ t.curve = State.reset.curve ∧ t.pedalSettings = .reset ∧
      t.actions = State.reset.actions ∧ t.metronome = .reset ∧ t.entry = none ∧ t.standby.pulse = .idle ∧
      t.standby.thresholds = noThresholds ∧ t.standby.scanner = noScanner ∧
      t.voice = .reset ∧ t.output = .reset ∧ t.player = .reset ∧ t.recorder = .reset ∧ t.railConfig = s.railConfig ∧
      t.switches = s.switches ∧ t.standby.delay = s.standby.delay ∧ t.standby.width = s.standby.width ∧
      t.standby.cause = s.standby.cause ∧ t.rail.position = s.rail.position ∧
      t.rail.homed = (s.rail.homed && s.rail.motion.isNone) ∧ t.rail.state = (if t.rail.homed then .idle else .unknown)) ∧
    (s.resetHeld = some .powerOn → exec .mainReset s = .next s) ∧
    (∀ kind pins, s.resetHeld = some kind → ∃ t, exec (.mainResetEnd pins) s = .next t ∧ t.resetHeld = none ∧ t.pins = pins ∧
      (∀ i : Fin 9, t.lanes[i].state = s.lanes[i].state ∧ t.lanes[i].phase = .hold (s.hub.now + 1500) ∧
        (s.lanes[i].state = .probing → s.scannerLane i = none → t.laneResetActive i = true)) ∧
      t.output.i2sSince = some s.hub.now ∧ t.rail.seated = pins.seated ∧
      (kind = .powerOn → t.switches[(0 : Fin 2)].high = pins.fs1High ∧ t.switches[(1 : Fin 2)].high = pins.fs2High)) ∧
    (∀ pins, s.resetHeld = none → exec (.mainResetEnd pins) s = .next s) ∧
    exec .vmainRemoved s = .next { s with mainOn := false }

end
end

