-- ==== Sys2Proof/Laws/State.lean ====
section
/-! SUPPORT. What each update of State leaves in each field: one lemma per field and update, true by rfl. -/

namespace Sys2Proof.Machine

/-! ### State.mapHub -/

@[simp] theorem State.mapHub_pending (f : Hub → Hub) (s : State) : (s.mapHub f).pending = s.pending := rfl
@[simp] theorem State.mapHub_mainOn (f : Hub → Hub) (s : State) : (s.mapHub f).mainOn = s.mainOn := rfl
@[simp] theorem State.mapHub_resetHeld (f : Hub → Hub) (s : State) : (s.mapHub f).resetHeld = s.resetHeld := rfl
@[simp] theorem State.mapHub_pins (f : Hub → Hub) (s : State) : (s.mapHub f).pins = s.pins := rfl
@[simp] theorem State.mapHub_hub (f : Hub → Hub) (s : State) : (s.mapHub f).hub = f s.hub := rfl
@[simp] theorem State.mapHub_lanes (f : Hub → Hub) (s : State) : (s.mapHub f).lanes = s.lanes := rfl
@[simp] theorem State.mapHub_keys (f : Hub → Hub) (s : State) : (s.mapHub f).keys = s.keys := rfl
@[simp] theorem State.mapHub_calibration (f : Hub → Hub) (s : State) : (s.mapHub f).calibration = s.calibration := rfl
@[simp] theorem State.mapHub_curve (f : Hub → Hub) (s : State) : (s.mapHub f).curve = s.curve := rfl
@[simp] theorem State.mapHub_tracker (f : Hub → Hub) (s : State) : (s.mapHub f).tracker = s.tracker := rfl
@[simp] theorem State.mapHub_pedals (f : Hub → Hub) (s : State) : (s.mapHub f).pedals = s.pedals := rfl
@[simp] theorem State.mapHub_pedalSettings (f : Hub → Hub) (s : State) : (s.mapHub f).pedalSettings = s.pedalSettings := rfl
@[simp] theorem State.mapHub_switches (f : Hub → Hub) (s : State) : (s.mapHub f).switches = s.switches := rfl
@[simp] theorem State.mapHub_actions (f : Hub → Hub) (s : State) : (s.mapHub f).actions = s.actions := rfl
@[simp] theorem State.mapHub_jack (f : Hub → Hub) (s : State) : (s.mapHub f).jack = s.jack := rfl
@[simp] theorem State.mapHub_voice (f : Hub → Hub) (s : State) : (s.mapHub f).voice = s.voice := rfl
@[simp] theorem State.mapHub_output (f : Hub → Hub) (s : State) : (s.mapHub f).output = s.output := rfl
@[simp] theorem State.mapHub_metronome (f : Hub → Hub) (s : State) : (s.mapHub f).metronome = s.metronome := rfl
@[simp] theorem State.mapHub_rail (f : Hub → Hub) (s : State) : (s.mapHub f).rail = s.rail := rfl
@[simp] theorem State.mapHub_railConfig (f : Hub → Hub) (s : State) : (s.mapHub f).railConfig = s.railConfig := rfl
@[simp] theorem State.mapHub_lamp (f : Hub → Hub) (s : State) : (s.mapHub f).lamp = s.lamp := rfl
@[simp] theorem State.mapHub_player (f : Hub → Hub) (s : State) : (s.mapHub f).player = s.player := rfl
@[simp] theorem State.mapHub_recorder (f : Hub → Hub) (s : State) : (s.mapHub f).recorder = s.recorder := rfl
@[simp] theorem State.mapHub_standby (f : Hub → Hub) (s : State) : (s.mapHub f).standby = s.standby := rfl
@[simp] theorem State.mapHub_entry (f : Hub → Hub) (s : State) : (s.mapHub f).entry = s.entry := rfl

/-! ### State.mapVoice -/

@[simp] theorem State.mapVoice_pending (f : Engine → Engine) (s : State) : (s.mapVoice f).pending = s.pending := rfl
@[simp] theorem State.mapVoice_mainOn (f : Engine → Engine) (s : State) : (s.mapVoice f).mainOn = s.mainOn := rfl
@[simp] theorem State.mapVoice_resetHeld (f : Engine → Engine) (s : State) : (s.mapVoice f).resetHeld = s.resetHeld := rfl
@[simp] theorem State.mapVoice_pins (f : Engine → Engine) (s : State) : (s.mapVoice f).pins = s.pins := rfl
@[simp] theorem State.mapVoice_hub (f : Engine → Engine) (s : State) : (s.mapVoice f).hub = (f (s.hub, s.voice)).1 := rfl
@[simp] theorem State.mapVoice_lanes (f : Engine → Engine) (s : State) : (s.mapVoice f).lanes = s.lanes := rfl
@[simp] theorem State.mapVoice_keys (f : Engine → Engine) (s : State) : (s.mapVoice f).keys = s.keys := rfl
@[simp] theorem State.mapVoice_calibration (f : Engine → Engine) (s : State) : (s.mapVoice f).calibration = s.calibration := rfl
@[simp] theorem State.mapVoice_curve (f : Engine → Engine) (s : State) : (s.mapVoice f).curve = s.curve := rfl
@[simp] theorem State.mapVoice_tracker (f : Engine → Engine) (s : State) : (s.mapVoice f).tracker = s.tracker := rfl
@[simp] theorem State.mapVoice_pedals (f : Engine → Engine) (s : State) : (s.mapVoice f).pedals = s.pedals := rfl
@[simp] theorem State.mapVoice_pedalSettings (f : Engine → Engine) (s : State) : (s.mapVoice f).pedalSettings = s.pedalSettings := rfl
@[simp] theorem State.mapVoice_switches (f : Engine → Engine) (s : State) : (s.mapVoice f).switches = s.switches := rfl
@[simp] theorem State.mapVoice_actions (f : Engine → Engine) (s : State) : (s.mapVoice f).actions = s.actions := rfl
@[simp] theorem State.mapVoice_jack (f : Engine → Engine) (s : State) : (s.mapVoice f).jack = s.jack := rfl
@[simp] theorem State.mapVoice_voice (f : Engine → Engine) (s : State) : (s.mapVoice f).voice = (f (s.hub, s.voice)).2 := rfl
@[simp] theorem State.mapVoice_output (f : Engine → Engine) (s : State) : (s.mapVoice f).output = s.output := rfl
@[simp] theorem State.mapVoice_metronome (f : Engine → Engine) (s : State) : (s.mapVoice f).metronome = s.metronome := rfl
@[simp] theorem State.mapVoice_rail (f : Engine → Engine) (s : State) : (s.mapVoice f).rail = s.rail := rfl
@[simp] theorem State.mapVoice_railConfig (f : Engine → Engine) (s : State) : (s.mapVoice f).railConfig = s.railConfig := rfl
@[simp] theorem State.mapVoice_lamp (f : Engine → Engine) (s : State) : (s.mapVoice f).lamp = s.lamp := rfl
@[simp] theorem State.mapVoice_player (f : Engine → Engine) (s : State) : (s.mapVoice f).player = s.player := rfl
@[simp] theorem State.mapVoice_recorder (f : Engine → Engine) (s : State) : (s.mapVoice f).recorder = s.recorder := rfl
@[simp] theorem State.mapVoice_standby (f : Engine → Engine) (s : State) : (s.mapVoice f).standby = s.standby := rfl
@[simp] theorem State.mapVoice_entry (f : Engine → Engine) (s : State) : (s.mapVoice f).entry = s.entry := rfl

/-! ### State.updateVoice -/

@[simp] theorem State.updateVoice_pending (f : VoiceEngine → VoiceEngine) (s : State) : (s.updateVoice f).pending = s.pending := rfl
@[simp] theorem State.updateVoice_mainOn (f : VoiceEngine → VoiceEngine) (s : State) : (s.updateVoice f).mainOn = s.mainOn := rfl
@[simp] theorem State.updateVoice_resetHeld (f : VoiceEngine → VoiceEngine) (s : State) : (s.updateVoice f).resetHeld = s.resetHeld := rfl
@[simp] theorem State.updateVoice_pins (f : VoiceEngine → VoiceEngine) (s : State) : (s.updateVoice f).pins = s.pins := rfl
@[simp] theorem State.updateVoice_hub (f : VoiceEngine → VoiceEngine) (s : State) : (s.updateVoice f).hub = s.hub := rfl
@[simp] theorem State.updateVoice_lanes (f : VoiceEngine → VoiceEngine) (s : State) : (s.updateVoice f).lanes = s.lanes := rfl
@[simp] theorem State.updateVoice_keys (f : VoiceEngine → VoiceEngine) (s : State) : (s.updateVoice f).keys = s.keys := rfl
@[simp] theorem State.updateVoice_calibration (f : VoiceEngine → VoiceEngine) (s : State) : (s.updateVoice f).calibration = s.calibration := rfl
@[simp] theorem State.updateVoice_curve (f : VoiceEngine → VoiceEngine) (s : State) : (s.updateVoice f).curve = s.curve := rfl
@[simp] theorem State.updateVoice_tracker (f : VoiceEngine → VoiceEngine) (s : State) : (s.updateVoice f).tracker = s.tracker := rfl
@[simp] theorem State.updateVoice_pedals (f : VoiceEngine → VoiceEngine) (s : State) : (s.updateVoice f).pedals = s.pedals := rfl
@[simp] theorem State.updateVoice_pedalSettings (f : VoiceEngine → VoiceEngine) (s : State) : (s.updateVoice f).pedalSettings = s.pedalSettings := rfl
@[simp] theorem State.updateVoice_switches (f : VoiceEngine → VoiceEngine) (s : State) : (s.updateVoice f).switches = s.switches := rfl
@[simp] theorem State.updateVoice_actions (f : VoiceEngine → VoiceEngine) (s : State) : (s.updateVoice f).actions = s.actions := rfl
@[simp] theorem State.updateVoice_jack (f : VoiceEngine → VoiceEngine) (s : State) : (s.updateVoice f).jack = s.jack := rfl
@[simp] theorem State.updateVoice_voice (f : VoiceEngine → VoiceEngine) (s : State) : (s.updateVoice f).voice = f s.voice := rfl
@[simp] theorem State.updateVoice_output (f : VoiceEngine → VoiceEngine) (s : State) : (s.updateVoice f).output = s.output := rfl
@[simp] theorem State.updateVoice_metronome (f : VoiceEngine → VoiceEngine) (s : State) : (s.updateVoice f).metronome = s.metronome := rfl
@[simp] theorem State.updateVoice_rail (f : VoiceEngine → VoiceEngine) (s : State) : (s.updateVoice f).rail = s.rail := rfl
@[simp] theorem State.updateVoice_railConfig (f : VoiceEngine → VoiceEngine) (s : State) : (s.updateVoice f).railConfig = s.railConfig := rfl
@[simp] theorem State.updateVoice_lamp (f : VoiceEngine → VoiceEngine) (s : State) : (s.updateVoice f).lamp = s.lamp := rfl
@[simp] theorem State.updateVoice_player (f : VoiceEngine → VoiceEngine) (s : State) : (s.updateVoice f).player = s.player := rfl
@[simp] theorem State.updateVoice_recorder (f : VoiceEngine → VoiceEngine) (s : State) : (s.updateVoice f).recorder = s.recorder := rfl
@[simp] theorem State.updateVoice_standby (f : VoiceEngine → VoiceEngine) (s : State) : (s.updateVoice f).standby = s.standby := rfl
@[simp] theorem State.updateVoice_entry (f : VoiceEngine → VoiceEngine) (s : State) : (s.updateVoice f).entry = s.entry := rfl

/-! ### State.mapMetronome -/

@[simp] theorem State.mapMetronome_pending (f : Beater → Beater) (s : State) : (s.mapMetronome f).pending = s.pending := rfl
@[simp] theorem State.mapMetronome_mainOn (f : Beater → Beater) (s : State) : (s.mapMetronome f).mainOn = s.mainOn := rfl
@[simp] theorem State.mapMetronome_resetHeld (f : Beater → Beater) (s : State) : (s.mapMetronome f).resetHeld = s.resetHeld := rfl
@[simp] theorem State.mapMetronome_pins (f : Beater → Beater) (s : State) : (s.mapMetronome f).pins = s.pins := rfl
@[simp] theorem State.mapMetronome_hub (f : Beater → Beater) (s : State) : (s.mapMetronome f).hub = (f (s.hub, s.metronome)).1 := rfl
@[simp] theorem State.mapMetronome_lanes (f : Beater → Beater) (s : State) : (s.mapMetronome f).lanes = s.lanes := rfl
@[simp] theorem State.mapMetronome_keys (f : Beater → Beater) (s : State) : (s.mapMetronome f).keys = s.keys := rfl
@[simp] theorem State.mapMetronome_calibration (f : Beater → Beater) (s : State) : (s.mapMetronome f).calibration = s.calibration := rfl
@[simp] theorem State.mapMetronome_curve (f : Beater → Beater) (s : State) : (s.mapMetronome f).curve = s.curve := rfl
@[simp] theorem State.mapMetronome_tracker (f : Beater → Beater) (s : State) : (s.mapMetronome f).tracker = s.tracker := rfl
@[simp] theorem State.mapMetronome_pedals (f : Beater → Beater) (s : State) : (s.mapMetronome f).pedals = s.pedals := rfl
@[simp] theorem State.mapMetronome_pedalSettings (f : Beater → Beater) (s : State) : (s.mapMetronome f).pedalSettings = s.pedalSettings := rfl
@[simp] theorem State.mapMetronome_switches (f : Beater → Beater) (s : State) : (s.mapMetronome f).switches = s.switches := rfl
@[simp] theorem State.mapMetronome_actions (f : Beater → Beater) (s : State) : (s.mapMetronome f).actions = s.actions := rfl
@[simp] theorem State.mapMetronome_jack (f : Beater → Beater) (s : State) : (s.mapMetronome f).jack = s.jack := rfl
@[simp] theorem State.mapMetronome_voice (f : Beater → Beater) (s : State) : (s.mapMetronome f).voice = s.voice := rfl
@[simp] theorem State.mapMetronome_output (f : Beater → Beater) (s : State) : (s.mapMetronome f).output = s.output := rfl
@[simp] theorem State.mapMetronome_metronome (f : Beater → Beater) (s : State) : (s.mapMetronome f).metronome = (f (s.hub, s.metronome)).2 := rfl
@[simp] theorem State.mapMetronome_rail (f : Beater → Beater) (s : State) : (s.mapMetronome f).rail = s.rail := rfl
@[simp] theorem State.mapMetronome_railConfig (f : Beater → Beater) (s : State) : (s.mapMetronome f).railConfig = s.railConfig := rfl
@[simp] theorem State.mapMetronome_lamp (f : Beater → Beater) (s : State) : (s.mapMetronome f).lamp = s.lamp := rfl
@[simp] theorem State.mapMetronome_player (f : Beater → Beater) (s : State) : (s.mapMetronome f).player = s.player := rfl
@[simp] theorem State.mapMetronome_recorder (f : Beater → Beater) (s : State) : (s.mapMetronome f).recorder = s.recorder := rfl
@[simp] theorem State.mapMetronome_standby (f : Beater → Beater) (s : State) : (s.mapMetronome f).standby = s.standby := rfl
@[simp] theorem State.mapMetronome_entry (f : Beater → Beater) (s : State) : (s.mapMetronome f).entry = s.entry := rfl

/-! ### State.mapRecorder -/

@[simp] theorem State.mapRecorder_pending (f : Desk → Desk) (s : State) : (s.mapRecorder f).pending = s.pending := rfl
@[simp] theorem State.mapRecorder_mainOn (f : Desk → Desk) (s : State) : (s.mapRecorder f).mainOn = s.mainOn := rfl
@[simp] theorem State.mapRecorder_resetHeld (f : Desk → Desk) (s : State) : (s.mapRecorder f).resetHeld = s.resetHeld := rfl
@[simp] theorem State.mapRecorder_pins (f : Desk → Desk) (s : State) : (s.mapRecorder f).pins = s.pins := rfl
@[simp] theorem State.mapRecorder_hub (f : Desk → Desk) (s : State) : (s.mapRecorder f).hub = (f (s.hub, s.recorder)).1 := rfl
@[simp] theorem State.mapRecorder_lanes (f : Desk → Desk) (s : State) : (s.mapRecorder f).lanes = s.lanes := rfl
@[simp] theorem State.mapRecorder_keys (f : Desk → Desk) (s : State) : (s.mapRecorder f).keys = s.keys := rfl
@[simp] theorem State.mapRecorder_calibration (f : Desk → Desk) (s : State) : (s.mapRecorder f).calibration = s.calibration := rfl
@[simp] theorem State.mapRecorder_curve (f : Desk → Desk) (s : State) : (s.mapRecorder f).curve = s.curve := rfl
@[simp] theorem State.mapRecorder_tracker (f : Desk → Desk) (s : State) : (s.mapRecorder f).tracker = s.tracker := rfl
@[simp] theorem State.mapRecorder_pedals (f : Desk → Desk) (s : State) : (s.mapRecorder f).pedals = s.pedals := rfl
@[simp] theorem State.mapRecorder_pedalSettings (f : Desk → Desk) (s : State) : (s.mapRecorder f).pedalSettings = s.pedalSettings := rfl
@[simp] theorem State.mapRecorder_switches (f : Desk → Desk) (s : State) : (s.mapRecorder f).switches = s.switches := rfl
@[simp] theorem State.mapRecorder_actions (f : Desk → Desk) (s : State) : (s.mapRecorder f).actions = s.actions := rfl
@[simp] theorem State.mapRecorder_jack (f : Desk → Desk) (s : State) : (s.mapRecorder f).jack = s.jack := rfl
@[simp] theorem State.mapRecorder_voice (f : Desk → Desk) (s : State) : (s.mapRecorder f).voice = s.voice := rfl
@[simp] theorem State.mapRecorder_output (f : Desk → Desk) (s : State) : (s.mapRecorder f).output = s.output := rfl
@[simp] theorem State.mapRecorder_metronome (f : Desk → Desk) (s : State) : (s.mapRecorder f).metronome = s.metronome := rfl
@[simp] theorem State.mapRecorder_rail (f : Desk → Desk) (s : State) : (s.mapRecorder f).rail = s.rail := rfl
@[simp] theorem State.mapRecorder_railConfig (f : Desk → Desk) (s : State) : (s.mapRecorder f).railConfig = s.railConfig := rfl
@[simp] theorem State.mapRecorder_lamp (f : Desk → Desk) (s : State) : (s.mapRecorder f).lamp = s.lamp := rfl
@[simp] theorem State.mapRecorder_player (f : Desk → Desk) (s : State) : (s.mapRecorder f).player = s.player := rfl
@[simp] theorem State.mapRecorder_recorder (f : Desk → Desk) (s : State) : (s.mapRecorder f).recorder = (f (s.hub, s.recorder)).2 := rfl
@[simp] theorem State.mapRecorder_standby (f : Desk → Desk) (s : State) : (s.mapRecorder f).standby = s.standby := rfl
@[simp] theorem State.mapRecorder_entry (f : Desk → Desk) (s : State) : (s.mapRecorder f).entry = s.entry := rfl

/-! ### State.mapStage -/

@[simp] theorem State.mapStage_pending (f : Stage → Stage) (s : State) : (s.mapStage f).pending = s.pending := rfl
@[simp] theorem State.mapStage_mainOn (f : Stage → Stage) (s : State) : (s.mapStage f).mainOn = s.mainOn := rfl
@[simp] theorem State.mapStage_resetHeld (f : Stage → Stage) (s : State) : (s.mapStage f).resetHeld = s.resetHeld := rfl
@[simp] theorem State.mapStage_pins (f : Stage → Stage) (s : State) : (s.mapStage f).pins = s.pins := rfl
@[simp] theorem State.mapStage_hub (f : Stage → Stage) (s : State) : (s.mapStage f).hub = (f s.stage).hub := rfl
@[simp] theorem State.mapStage_lanes (f : Stage → Stage) (s : State) : (s.mapStage f).lanes = s.lanes := rfl
@[simp] theorem State.mapStage_keys (f : Stage → Stage) (s : State) : (s.mapStage f).keys = s.keys := rfl
@[simp] theorem State.mapStage_calibration (f : Stage → Stage) (s : State) : (s.mapStage f).calibration = s.calibration := rfl
@[simp] theorem State.mapStage_curve (f : Stage → Stage) (s : State) : (s.mapStage f).curve = s.curve := rfl
@[simp] theorem State.mapStage_tracker (f : Stage → Stage) (s : State) : (s.mapStage f).tracker = s.tracker := rfl
@[simp] theorem State.mapStage_pedals (f : Stage → Stage) (s : State) : (s.mapStage f).pedals = s.pedals := rfl
@[simp] theorem State.mapStage_pedalSettings (f : Stage → Stage) (s : State) : (s.mapStage f).pedalSettings = s.pedalSettings := rfl
@[simp] theorem State.mapStage_switches (f : Stage → Stage) (s : State) : (s.mapStage f).switches = s.switches := rfl
@[simp] theorem State.mapStage_actions (f : Stage → Stage) (s : State) : (s.mapStage f).actions = s.actions := rfl
@[simp] theorem State.mapStage_jack (f : Stage → Stage) (s : State) : (s.mapStage f).jack = s.jack := rfl
@[simp] theorem State.mapStage_voice (f : Stage → Stage) (s : State) : (s.mapStage f).voice = (f s.stage).voice := rfl
@[simp] theorem State.mapStage_output (f : Stage → Stage) (s : State) : (s.mapStage f).output = s.output := rfl
@[simp] theorem State.mapStage_metronome (f : Stage → Stage) (s : State) : (s.mapStage f).metronome = (f s.stage).metronome := rfl
@[simp] theorem State.mapStage_rail (f : Stage → Stage) (s : State) : (s.mapStage f).rail = s.rail := rfl
@[simp] theorem State.mapStage_railConfig (f : Stage → Stage) (s : State) : (s.mapStage f).railConfig = s.railConfig := rfl
@[simp] theorem State.mapStage_lamp (f : Stage → Stage) (s : State) : (s.mapStage f).lamp = s.lamp := rfl
@[simp] theorem State.mapStage_player (f : Stage → Stage) (s : State) : (s.mapStage f).player = (f s.stage).player := rfl
@[simp] theorem State.mapStage_recorder (f : Stage → Stage) (s : State) : (s.mapStage f).recorder = s.recorder := rfl
@[simp] theorem State.mapStage_standby (f : Stage → Stage) (s : State) : (s.mapStage f).standby = s.standby := rfl
@[simp] theorem State.mapStage_entry (f : Stage → Stage) (s : State) : (s.mapStage f).entry = s.entry := rfl

/-! ### State.mapDeck -/

@[simp] theorem State.mapDeck_pending (f : Deck → Deck) (s : State) : (s.mapDeck f).pending = s.pending := rfl
@[simp] theorem State.mapDeck_mainOn (f : Deck → Deck) (s : State) : (s.mapDeck f).mainOn = s.mainOn := rfl
@[simp] theorem State.mapDeck_resetHeld (f : Deck → Deck) (s : State) : (s.mapDeck f).resetHeld = s.resetHeld := rfl
@[simp] theorem State.mapDeck_pins (f : Deck → Deck) (s : State) : (s.mapDeck f).pins = s.pins := rfl
@[simp] theorem State.mapDeck_hub (f : Deck → Deck) (s : State) : (s.mapDeck f).hub = (f s.deck).hub := rfl
@[simp] theorem State.mapDeck_lanes (f : Deck → Deck) (s : State) : (s.mapDeck f).lanes = s.lanes := rfl
@[simp] theorem State.mapDeck_keys (f : Deck → Deck) (s : State) : (s.mapDeck f).keys = s.keys := rfl
@[simp] theorem State.mapDeck_calibration (f : Deck → Deck) (s : State) : (s.mapDeck f).calibration = s.calibration := rfl
@[simp] theorem State.mapDeck_curve (f : Deck → Deck) (s : State) : (s.mapDeck f).curve = s.curve := rfl
@[simp] theorem State.mapDeck_tracker (f : Deck → Deck) (s : State) : (s.mapDeck f).tracker = s.tracker := rfl
@[simp] theorem State.mapDeck_pedals (f : Deck → Deck) (s : State) : (s.mapDeck f).pedals = s.pedals := rfl
@[simp] theorem State.mapDeck_pedalSettings (f : Deck → Deck) (s : State) : (s.mapDeck f).pedalSettings = s.pedalSettings := rfl
@[simp] theorem State.mapDeck_switches (f : Deck → Deck) (s : State) : (s.mapDeck f).switches = s.switches := rfl
@[simp] theorem State.mapDeck_actions (f : Deck → Deck) (s : State) : (s.mapDeck f).actions = s.actions := rfl
@[simp] theorem State.mapDeck_jack (f : Deck → Deck) (s : State) : (s.mapDeck f).jack = s.jack := rfl
@[simp] theorem State.mapDeck_voice (f : Deck → Deck) (s : State) : (s.mapDeck f).voice = { s.voice with atSilent := (f s.deck).sync.atSilent } := rfl
@[simp] theorem State.mapDeck_output (f : Deck → Deck) (s : State) : (s.mapDeck f).output = s.output := rfl
@[simp] theorem State.mapDeck_metronome (f : Deck → Deck) (s : State) : (s.mapDeck f).metronome = s.metronome := rfl
@[simp] theorem State.mapDeck_rail (f : Deck → Deck) (s : State) : (s.mapDeck f).rail = (f s.deck).rail := rfl
@[simp] theorem State.mapDeck_railConfig (f : Deck → Deck) (s : State) : (s.mapDeck f).railConfig = s.railConfig := rfl
@[simp] theorem State.mapDeck_lamp (f : Deck → Deck) (s : State) : (s.mapDeck f).lamp = (f s.deck).sync.lamp := rfl
@[simp] theorem State.mapDeck_player (f : Deck → Deck) (s : State) : (s.mapDeck f).player = s.player := rfl
@[simp] theorem State.mapDeck_recorder (f : Deck → Deck) (s : State) : (s.mapDeck f).recorder = s.recorder := rfl
@[simp] theorem State.mapDeck_standby (f : Deck → Deck) (s : State) : (s.mapDeck f).standby = s.standby := rfl
@[simp] theorem State.mapDeck_entry (f : Deck → Deck) (s : State) : (s.mapDeck f).entry = s.entry := rfl

/-! ### State.setKey -/

@[simp] theorem State.setKey_pending (k : Fin 88) (key : Key) (s : State) : (s.setKey k key).pending = s.pending := rfl
@[simp] theorem State.setKey_mainOn (k : Fin 88) (key : Key) (s : State) : (s.setKey k key).mainOn = s.mainOn := rfl
@[simp] theorem State.setKey_resetHeld (k : Fin 88) (key : Key) (s : State) : (s.setKey k key).resetHeld = s.resetHeld := rfl
@[simp] theorem State.setKey_pins (k : Fin 88) (key : Key) (s : State) : (s.setKey k key).pins = s.pins := rfl
@[simp] theorem State.setKey_hub (k : Fin 88) (key : Key) (s : State) : (s.setKey k key).hub = s.hub := rfl
@[simp] theorem State.setKey_lanes (k : Fin 88) (key : Key) (s : State) : (s.setKey k key).lanes = s.lanes := rfl
@[simp] theorem State.setKey_keys (k : Fin 88) (key : Key) (s : State) : (s.setKey k key).keys = s.keys.set k key := rfl
@[simp] theorem State.setKey_calibration (k : Fin 88) (key : Key) (s : State) : (s.setKey k key).calibration = s.calibration := rfl
@[simp] theorem State.setKey_curve (k : Fin 88) (key : Key) (s : State) : (s.setKey k key).curve = s.curve := rfl
@[simp] theorem State.setKey_tracker (k : Fin 88) (key : Key) (s : State) : (s.setKey k key).tracker = s.tracker := rfl
@[simp] theorem State.setKey_pedals (k : Fin 88) (key : Key) (s : State) : (s.setKey k key).pedals = s.pedals := rfl
@[simp] theorem State.setKey_pedalSettings (k : Fin 88) (key : Key) (s : State) : (s.setKey k key).pedalSettings = s.pedalSettings := rfl
@[simp] theorem State.setKey_switches (k : Fin 88) (key : Key) (s : State) : (s.setKey k key).switches = s.switches := rfl
@[simp] theorem State.setKey_actions (k : Fin 88) (key : Key) (s : State) : (s.setKey k key).actions = s.actions := rfl
@[simp] theorem State.setKey_jack (k : Fin 88) (key : Key) (s : State) : (s.setKey k key).jack = s.jack := rfl
@[simp] theorem State.setKey_voice (k : Fin 88) (key : Key) (s : State) : (s.setKey k key).voice = s.voice := rfl
@[simp] theorem State.setKey_output (k : Fin 88) (key : Key) (s : State) : (s.setKey k key).output = s.output := rfl
@[simp] theorem State.setKey_metronome (k : Fin 88) (key : Key) (s : State) : (s.setKey k key).metronome = s.metronome := rfl
@[simp] theorem State.setKey_rail (k : Fin 88) (key : Key) (s : State) : (s.setKey k key).rail = s.rail := rfl
@[simp] theorem State.setKey_railConfig (k : Fin 88) (key : Key) (s : State) : (s.setKey k key).railConfig = s.railConfig := rfl
@[simp] theorem State.setKey_lamp (k : Fin 88) (key : Key) (s : State) : (s.setKey k key).lamp = s.lamp := rfl
@[simp] theorem State.setKey_player (k : Fin 88) (key : Key) (s : State) : (s.setKey k key).player = s.player := rfl
@[simp] theorem State.setKey_recorder (k : Fin 88) (key : Key) (s : State) : (s.setKey k key).recorder = s.recorder := rfl
@[simp] theorem State.setKey_standby (k : Fin 88) (key : Key) (s : State) : (s.setKey k key).standby = s.standby := rfl
@[simp] theorem State.setKey_entry (k : Fin 88) (key : Key) (s : State) : (s.setKey k key).entry = s.entry := rfl

/-! ### State.setLane -/

@[simp] theorem State.setLane_pending (lane : Fin 9) (l : Lane) (s : State) : (s.setLane lane l).pending = s.pending := rfl
@[simp] theorem State.setLane_mainOn (lane : Fin 9) (l : Lane) (s : State) : (s.setLane lane l).mainOn = s.mainOn := rfl
@[simp] theorem State.setLane_resetHeld (lane : Fin 9) (l : Lane) (s : State) : (s.setLane lane l).resetHeld = s.resetHeld := rfl
@[simp] theorem State.setLane_pins (lane : Fin 9) (l : Lane) (s : State) : (s.setLane lane l).pins = s.pins := rfl
@[simp] theorem State.setLane_hub (lane : Fin 9) (l : Lane) (s : State) : (s.setLane lane l).hub = s.hub := rfl
@[simp] theorem State.setLane_lanes (lane : Fin 9) (l : Lane) (s : State) : (s.setLane lane l).lanes = s.lanes.set lane l := rfl
@[simp] theorem State.setLane_keys (lane : Fin 9) (l : Lane) (s : State) : (s.setLane lane l).keys = s.keys := rfl
@[simp] theorem State.setLane_calibration (lane : Fin 9) (l : Lane) (s : State) : (s.setLane lane l).calibration = s.calibration := rfl
@[simp] theorem State.setLane_curve (lane : Fin 9) (l : Lane) (s : State) : (s.setLane lane l).curve = s.curve := rfl
@[simp] theorem State.setLane_tracker (lane : Fin 9) (l : Lane) (s : State) : (s.setLane lane l).tracker = s.tracker := rfl
@[simp] theorem State.setLane_pedals (lane : Fin 9) (l : Lane) (s : State) : (s.setLane lane l).pedals = s.pedals := rfl
@[simp] theorem State.setLane_pedalSettings (lane : Fin 9) (l : Lane) (s : State) : (s.setLane lane l).pedalSettings = s.pedalSettings := rfl
@[simp] theorem State.setLane_switches (lane : Fin 9) (l : Lane) (s : State) : (s.setLane lane l).switches = s.switches := rfl
@[simp] theorem State.setLane_actions (lane : Fin 9) (l : Lane) (s : State) : (s.setLane lane l).actions = s.actions := rfl
@[simp] theorem State.setLane_jack (lane : Fin 9) (l : Lane) (s : State) : (s.setLane lane l).jack = s.jack := rfl
@[simp] theorem State.setLane_voice (lane : Fin 9) (l : Lane) (s : State) : (s.setLane lane l).voice = s.voice := rfl
@[simp] theorem State.setLane_output (lane : Fin 9) (l : Lane) (s : State) : (s.setLane lane l).output = s.output := rfl
@[simp] theorem State.setLane_metronome (lane : Fin 9) (l : Lane) (s : State) : (s.setLane lane l).metronome = s.metronome := rfl
@[simp] theorem State.setLane_rail (lane : Fin 9) (l : Lane) (s : State) : (s.setLane lane l).rail = s.rail := rfl
@[simp] theorem State.setLane_railConfig (lane : Fin 9) (l : Lane) (s : State) : (s.setLane lane l).railConfig = s.railConfig := rfl
@[simp] theorem State.setLane_lamp (lane : Fin 9) (l : Lane) (s : State) : (s.setLane lane l).lamp = s.lamp := rfl
@[simp] theorem State.setLane_player (lane : Fin 9) (l : Lane) (s : State) : (s.setLane lane l).player = s.player := rfl
@[simp] theorem State.setLane_recorder (lane : Fin 9) (l : Lane) (s : State) : (s.setLane lane l).recorder = s.recorder := rfl
@[simp] theorem State.setLane_standby (lane : Fin 9) (l : Lane) (s : State) : (s.setLane lane l).standby = s.standby := rfl
@[simp] theorem State.setLane_entry (lane : Fin 9) (l : Lane) (s : State) : (s.setLane lane l).entry = s.entry := rfl

/-! ### State.setCapture -/

@[simp] theorem State.setCapture_pending (keys : List (Fin 88)) (s : State) : (s.setCapture keys).pending = s.pending := rfl
@[simp] theorem State.setCapture_mainOn (keys : List (Fin 88)) (s : State) : (s.setCapture keys).mainOn = s.mainOn := rfl
@[simp] theorem State.setCapture_resetHeld (keys : List (Fin 88)) (s : State) : (s.setCapture keys).resetHeld = s.resetHeld := rfl
@[simp] theorem State.setCapture_pins (keys : List (Fin 88)) (s : State) : (s.setCapture keys).pins = s.pins := rfl
@[simp] theorem State.setCapture_hub (keys : List (Fin 88)) (s : State) : (s.setCapture keys).hub = s.hub := rfl
@[simp] theorem State.setCapture_lanes (keys : List (Fin 88)) (s : State) : (s.setCapture keys).lanes = s.lanes := rfl
@[simp] theorem State.setCapture_keys (keys : List (Fin 88)) (s : State) : (s.setCapture keys).keys = s.keys := rfl
@[simp] theorem State.setCapture_calibration (keys : List (Fin 88)) (s : State) : (s.setCapture keys).calibration = s.calibration := rfl
@[simp] theorem State.setCapture_curve (keys : List (Fin 88)) (s : State) : (s.setCapture keys).curve = s.curve := rfl
@[simp] theorem State.setCapture_tracker (keys : List (Fin 88)) (s : State) : (s.setCapture keys).tracker = s.tracker := rfl
@[simp] theorem State.setCapture_pedals (keys : List (Fin 88)) (s : State) : (s.setCapture keys).pedals = { s.pedals with capture := keys } := rfl
@[simp] theorem State.setCapture_pedalSettings (keys : List (Fin 88)) (s : State) : (s.setCapture keys).pedalSettings = s.pedalSettings := rfl
@[simp] theorem State.setCapture_switches (keys : List (Fin 88)) (s : State) : (s.setCapture keys).switches = s.switches := rfl
@[simp] theorem State.setCapture_actions (keys : List (Fin 88)) (s : State) : (s.setCapture keys).actions = s.actions := rfl
@[simp] theorem State.setCapture_jack (keys : List (Fin 88)) (s : State) : (s.setCapture keys).jack = s.jack := rfl
@[simp] theorem State.setCapture_voice (keys : List (Fin 88)) (s : State) : (s.setCapture keys).voice = s.voice.setCapture keys := rfl
@[simp] theorem State.setCapture_output (keys : List (Fin 88)) (s : State) : (s.setCapture keys).output = s.output := rfl
@[simp] theorem State.setCapture_metronome (keys : List (Fin 88)) (s : State) : (s.setCapture keys).metronome = s.metronome := rfl
@[simp] theorem State.setCapture_rail (keys : List (Fin 88)) (s : State) : (s.setCapture keys).rail = s.rail := rfl
@[simp] theorem State.setCapture_railConfig (keys : List (Fin 88)) (s : State) : (s.setCapture keys).railConfig = s.railConfig := rfl
@[simp] theorem State.setCapture_lamp (keys : List (Fin 88)) (s : State) : (s.setCapture keys).lamp = s.lamp := rfl
@[simp] theorem State.setCapture_player (keys : List (Fin 88)) (s : State) : (s.setCapture keys).player = s.player := rfl
@[simp] theorem State.setCapture_recorder (keys : List (Fin 88)) (s : State) : (s.setCapture keys).recorder = s.recorder := rfl
@[simp] theorem State.setCapture_standby (keys : List (Fin 88)) (s : State) : (s.setCapture keys).standby = s.standby := rfl
@[simp] theorem State.setCapture_entry (keys : List (Fin 88)) (s : State) : (s.setCapture keys).entry = s.entry := rfl

/-! ### State.setPedals -/

@[simp] theorem State.setPedals_pending (p : PedalSettings) (s : State) : (s.setPedals p).pending = s.pending := rfl
@[simp] theorem State.setPedals_mainOn (p : PedalSettings) (s : State) : (s.setPedals p).mainOn = s.mainOn := rfl
@[simp] theorem State.setPedals_resetHeld (p : PedalSettings) (s : State) : (s.setPedals p).resetHeld = s.resetHeld := rfl
@[simp] theorem State.setPedals_pins (p : PedalSettings) (s : State) : (s.setPedals p).pins = s.pins := rfl
@[simp] theorem State.setPedals_hub (p : PedalSettings) (s : State) : (s.setPedals p).hub = s.hub := rfl
@[simp] theorem State.setPedals_lanes (p : PedalSettings) (s : State) : (s.setPedals p).lanes = s.lanes := rfl
@[simp] theorem State.setPedals_keys (p : PedalSettings) (s : State) : (s.setPedals p).keys = s.keys := rfl
@[simp] theorem State.setPedals_calibration (p : PedalSettings) (s : State) : (s.setPedals p).calibration = s.calibration := rfl
@[simp] theorem State.setPedals_curve (p : PedalSettings) (s : State) : (s.setPedals p).curve = s.curve := rfl
@[simp] theorem State.setPedals_tracker (p : PedalSettings) (s : State) : (s.setPedals p).tracker = s.tracker := rfl
@[simp] theorem State.setPedals_pedals (p : PedalSettings) (s : State) : (s.setPedals p).pedals = s.pedals := rfl
@[simp] theorem State.setPedals_pedalSettings (p : PedalSettings) (s : State) : (s.setPedals p).pedalSettings = p := rfl
@[simp] theorem State.setPedals_switches (p : PedalSettings) (s : State) : (s.setPedals p).switches = s.switches := rfl
@[simp] theorem State.setPedals_actions (p : PedalSettings) (s : State) : (s.setPedals p).actions = s.actions := rfl
@[simp] theorem State.setPedals_jack (p : PedalSettings) (s : State) : (s.setPedals p).jack = s.jack := rfl
@[simp] theorem State.setPedals_voice (p : PedalSettings) (s : State) : (s.setPedals p).voice = s.voice.setDamperLimits p.damperFree p.damperHold := rfl
@[simp] theorem State.setPedals_output (p : PedalSettings) (s : State) : (s.setPedals p).output = s.output := rfl
@[simp] theorem State.setPedals_metronome (p : PedalSettings) (s : State) : (s.setPedals p).metronome = s.metronome := rfl
@[simp] theorem State.setPedals_rail (p : PedalSettings) (s : State) : (s.setPedals p).rail = s.rail := rfl
@[simp] theorem State.setPedals_railConfig (p : PedalSettings) (s : State) : (s.setPedals p).railConfig = s.railConfig := rfl
@[simp] theorem State.setPedals_lamp (p : PedalSettings) (s : State) : (s.setPedals p).lamp = s.lamp := rfl
@[simp] theorem State.setPedals_player (p : PedalSettings) (s : State) : (s.setPedals p).player = s.player := rfl
@[simp] theorem State.setPedals_recorder (p : PedalSettings) (s : State) : (s.setPedals p).recorder = s.recorder := rfl
@[simp] theorem State.setPedals_standby (p : PedalSettings) (s : State) : (s.setPedals p).standby = s.standby := rfl
@[simp] theorem State.setPedals_entry (p : PedalSettings) (s : State) : (s.setPedals p).entry = s.entry := rfl

/-! ### whenUp -/

theorem State.whenUp_of_up (f : State → State) (s : State) (h : s.mainUp = true) : s.whenUp f = f s := by
  simp [State.whenUp, h]

theorem State.whenUp_of_down (f : State → State) (s : State) (h : s.mainUp = false) : s.whenUp f = s := by
  simp [State.whenUp, h]

/-- A relation that holds of a state with itself and of a state with its image holds with the image of a main-domain effect. -/
theorem State.whenUp_rel {R : State → State → Prop} (f : State → State) (s : State) (refl : R s s) (image : R s (f s)) :
    R s (s.whenUp f) := by
  unfold State.whenUp
  split
  · exact image
  · exact refl

/-- R133: a score time has been reached where the position stands at it. -/
@[simp] theorem reached_self (time : Word32) : reached time time = true := by simp [reached]

/-- R133: the times reached by a position that has not wrapped since are those at or before it. -/
theorem reached_iff {time position : Word32} (near : position.toNat < time.toNat + 2147483648)
    (near' : time.toNat < position.toNat + 2147483648) : reached time position = true ↔ time.toNat ≤ position.toNat := by
  have := time.isLt
  have := position.isLt
  simp only [reached, BitVec.toNat_sub, decide_eq_true_eq]
  omega

end Sys2Proof.Machine
end

