-- ==== Sys2Proof/Laws/Hub.lean ====
section
/-! SUPPORT. What the shared operations on the hub can do, each said once: the moves from which every block's work on the hub is made, and the facts that all of them keep. -/

namespace Sys2Proof.Machine

/-- One operation of a block on the hub: a posted write, a cause raised, a record handed, a read requested or dropped, a request
completed, or the bookkeeping of a snapshot or a sweep. -/
inductive HubMove : Hub → Hub → Prop
  | post (writer : Writer) (address : Word64) (data : List Byte) (h : Hub) : HubMove h (h.post writer address data)
  | raise (f : CauseFlag) (h : Hub) : HubMove h (h.raise f)
  | hand (r : JournalRecord) (h : Hub) : HubMove h (h.hand r)
  | request (tag : ReadTag) (address : Word64) (length deadline : Nat) (h : Hub) :
      HubMove h (h.requestRead tag address length deadline)
  | drop (which : ReadTag → Bool) (h : Hub) : HubMove h (h.dropReads which)
  | complete (slot : Fin 32) (code : ResultCode) (data : List Byte) (h : Hub) : HubMove h (h.completeRequest slot code data)
  | snapshot (x : Snapshot) (h : Hub) : HubMove h { h with snapshot := x }
  | sweep (x : Sweep) (h : Hub) : HubMove h { h with sweep := x }

/-- The hubs that a block's work can lead to. -/
inductive HubReach : Hub → Hub → Prop
  | refl (h : Hub) : HubReach h h
  | step {a b c : Hub} : HubReach a b → HubMove b c → HubReach a c

namespace HubReach

theorem one {a b : Hub} (m : HubMove a b) : HubReach a b := .step (.refl a) m

theorem trans {a b c : Hub} (x : HubReach a b) (y : HubReach b c) : HubReach a c := by
  induction y with
  | refl => exact x
  | step _ m ih => exact .step ih m

/-- What every move keeps, every reach keeps. -/
theorem induct {P : Hub → Prop} (keep : ∀ a b, HubMove a b → P a → P b) {a b : Hub} (x : HubReach a b) (p : P a) : P b := by
  induction x with
  | refl => exact p
  | step _ m ih => exact keep _ _ m ih

/-- A value that no move changes is the same after a reach. -/
theorem same {β : Type} (f : Hub → β) (keep : ∀ a b, HubMove a b → f b = f a) {a b : Hub} (x : HubReach a b) : f b = f a := by
  induction x with
  | refl => rfl
  | step _ m ih => rw [keep _ _ m, ih]

end HubReach

/-! ### What each operation leaves alone

The fields that no move changes: the clocks, the attach state, the region in use and the board cursor. -/

/-- What no move changes. -/
structure Hub.Steady where
  now : Nat
  tracking : Word32
  performance : Word32
  attach : AttachState
  region : Region
  cursor : Fin 32
  master : Bool
  enables : BitVec 8

/-- The steady part of a hub. -/
def Hub.steady (h : Hub) : Hub.Steady :=
  { now := h.now, tracking := h.tracking, performance := h.performance, attach := h.attach, region := h.region
    cursor := h.cursor, master := h.regs.master, enables := h.regs.enables }

@[simp] theorem Hub.post_steady (w : Writer) (a : Word64) (d : List Byte) (h : Hub) : (h.post w a d).steady = h.steady := by
  unfold Hub.post; split <;> rfl

@[simp] theorem Hub.messageDue_steady (h : Hub) : h.messageDue.steady = h.steady := rfl

@[simp] theorem Hub.setFlag_steady (f : CauseFlag) (h : Hub) : (h.setFlag f).steady = h.steady := by
  unfold Hub.setFlag Hub.setRegisters; simp only; split <;> rfl

@[simp] theorem Hub.raise_steady (f : CauseFlag) (h : Hub) : (h.raise f).steady = h.steady := by
  unfold Hub.raise; split <;> simp

@[simp] theorem Hub.issueOne_steady (h : Hub) : h.issueOne.steady = h.steady := by
  unfold Hub.issueOne; split
  · split <;> rfl
  · rfl

@[simp] theorem Hub.issueReads_steady (h : Hub) : h.issueReads.steady = h.steady := by simp [Hub.issueReads]

@[simp] theorem Hub.requestRead_steady (t : ReadTag) (a : Word64) (n d : Nat) (h : Hub) :
    (h.requestRead t a n d).steady = h.steady := by
  unfold Hub.requestRead; simp only [Hub.issueReads_steady]; rfl

@[simp] theorem Hub.dropReads_steady (w : ReadTag → Bool) (h : Hub) : (h.dropReads w).steady = h.steady := rfl

@[simp] theorem Hub.writeResult_steady (slot : Fin 32) (tag : Word16) (code : ResultCode) (data : List Byte) (final : Nat)
    (h : Hub) : (h.writeResult slot tag code data final).steady = h.steady := by simp [Hub.writeResult]

@[simp] theorem Hub.completeRequest_steady (slot : Fin 32) (code : ResultCode) (data : List Byte) (h : Hub) :
    (h.completeRequest slot code data).steady = h.steady := by
  unfold Hub.completeRequest; split
  · rfl
  · simp only [Hub.writeResult_steady]; rfl

@[simp] theorem Hub.claimPage_steady (h : Hub) : h.claimPage.steady = h.steady := by
  unfold Hub.claimPage; simp only [Hub.requestRead_steady]; rfl

@[simp] theorem Hub.sealPage_steady (h : Hub) : h.sealPage.steady = h.steady := by
  have key : ∀ (x : Hub) (j : Journal), ({ x with journal := j } : Hub).steady = x.steady := fun _ _ => rfl
  unfold Hub.sealPage; dsimp only; split <;> simp [key]

@[simp] theorem Hub.writeRecord_steady (r : JournalRecord) (tag : Word32) (rest : List (JournalRecord × Word32)) (h : Hub) :
    (h.writeRecord r tag rest).steady = h.steady := by
  have key : ∀ (x : Hub) (j : Journal), ({ x with journal := j } : Hub).steady = x.steady := fun _ _ => rfl
  unfold Hub.writeRecord; simp [key]

@[simp] theorem Hub.fillFrom_steady (l : List (JournalRecord × Word32)) (h : Hub) : (h.fillFrom l).steady = h.steady := by
  induction l generalizing h with
  | nil => rfl
  | cons e l ih =>
    obtain ⟨r, tag⟩ := e
    unfold Hub.fillFrom
    split
    · simp
    · dsimp only; split <;> simp [ih]

@[simp] theorem Hub.runWriter_steady (h : Hub) : h.runWriter.steady = h.steady := by
  unfold Hub.runWriter; split
  · split <;> simp
  · simp
  · rfl

@[simp] theorem Hub.hand_steady (r : JournalRecord) (h : Hub) : (h.hand r).steady = h.steady := by
  unfold Hub.hand; dsimp only; split
  · rfl
  · split
    · rfl
    · simp only [Hub.runWriter_steady]; rfl

theorem HubMove.steady {a b : Hub} (m : HubMove a b) : b.steady = a.steady := by
  cases m <;> first | rfl | simp

theorem HubReach.steady {a b : Hub} (x : HubReach a b) : b.steady = a.steady := x.same _ fun _ _ m => m.steady

theorem HubReach.attach {a b : Hub} (x : HubReach a b) : b.attach = a.attach := congrArg Hub.Steady.attach x.steady
theorem HubReach.now {a b : Hub} (x : HubReach a b) : b.now = a.now := congrArg Hub.Steady.now x.steady
theorem HubReach.tracking {a b : Hub} (x : HubReach a b) : b.tracking = a.tracking := congrArg Hub.Steady.tracking x.steady
theorem HubReach.performance {a b : Hub} (x : HubReach a b) : b.performance = a.performance :=
  congrArg Hub.Steady.performance x.steady
theorem HubReach.region {a b : Hub} (x : HubReach a b) : b.region = a.region := congrArg Hub.Steady.region x.steady
theorem HubReach.cursor {a b : Hub} (x : HubReach a b) : b.cursor = a.cursor := congrArg Hub.Steady.cursor x.steady

/-! ### Requests in flight -/

@[simp] theorem Hub.post_inFlight (w : Writer) (a : Word64) (d : List Byte) (h : Hub) : (h.post w a d).inFlight = h.inFlight := by
  unfold Hub.post; split <;> rfl

@[simp] theorem Hub.setFlag_inFlight (f : CauseFlag) (h : Hub) : (h.setFlag f).inFlight = h.inFlight := by
  unfold Hub.setFlag Hub.setRegisters; simp only; split <;> rfl

@[simp] theorem Hub.raise_inFlight (f : CauseFlag) (h : Hub) : (h.raise f).inFlight = h.inFlight := by
  unfold Hub.raise; split <;> simp

@[simp] theorem Hub.issueOne_inFlight (h : Hub) : h.issueOne.inFlight = h.inFlight := by
  unfold Hub.issueOne; split
  · split <;> rfl
  · rfl

@[simp] theorem Hub.requestRead_inFlight (t : ReadTag) (a : Word64) (n d : Nat) (h : Hub) :
    (h.requestRead t a n d).inFlight = h.inFlight := by simp [Hub.requestRead, Hub.issueReads]

@[simp] theorem Hub.writeResult_inFlight (slot : Fin 32) (tag : Word16) (code : ResultCode) (data : List Byte) (final : Nat)
    (h : Hub) : (h.writeResult slot tag code data final).inFlight = h.inFlight := by simp [Hub.writeResult]

/-- R185: a completion removes the slot's entry. -/
theorem Hub.completeRequest_inFlight (slot : Fin 32) (code : ResultCode) (data : List Byte) (h : Hub) :
    (h.completeRequest slot code data).inFlight = h.inFlight.filter fun q => q.slot ≠ slot := by
  unfold Hub.completeRequest
  split
  · next none =>
    rw [Hub.inFlightEntry, List.find?_eq_none] at none
    symm
    rw [List.filter_eq_self]
    intro q hq
    have := none q hq
    simpa using this
  · simp

@[simp] theorem Hub.claimPage_inFlight (h : Hub) : h.claimPage.inFlight = h.inFlight := by simp [Hub.claimPage]

@[simp] theorem Hub.sealPage_inFlight (h : Hub) : h.sealPage.inFlight = h.inFlight := by
  unfold Hub.sealPage; dsimp only; split <;> simp

@[simp] theorem Hub.writeRecord_inFlight (r : JournalRecord) (tag : Word32) (rest : List (JournalRecord × Word32)) (h : Hub) :
    (h.writeRecord r tag rest).inFlight = h.inFlight := by simp [Hub.writeRecord]

@[simp] theorem Hub.fillFrom_inFlight (l : List (JournalRecord × Word32)) (h : Hub) : (h.fillFrom l).inFlight = h.inFlight := by
  induction l generalizing h with
  | nil => rfl
  | cons e l ih =>
    obtain ⟨r, tag⟩ := e
    unfold Hub.fillFrom
    split
    · simp
    · dsimp only; split <;> simp [ih]

@[simp] theorem Hub.runWriter_inFlight (h : Hub) : h.runWriter.inFlight = h.inFlight := by
  unfold Hub.runWriter; split
  · split <;> simp
  · simp
  · rfl

@[simp] theorem Hub.hand_inFlight (r : JournalRecord) (h : Hub) : (h.hand r).inFlight = h.inFlight := by
  unfold Hub.hand; dsimp only; split
  · rfl
  · split <;> simp

/-- A move takes requests out of the table and puts none in. -/
theorem HubMove.inFlight {a b : Hub} (m : HubMove a b) : b.inFlight.Sublist a.inFlight := by
  cases m <;> try simp
  · simp [Hub.dropReads]
  · rw [Hub.completeRequest_inFlight]; exact List.filter_sublist

theorem HubReach.inFlight {a b : Hub} (x : HubReach a b) : b.inFlight.Sublist a.inFlight := by
  induction x with
  | refl => exact List.Sublist.refl _
  | step _ m ih => exact m.inFlight.trans ih

/-! ### Posted writes -/

@[simp] theorem Hub.setFlag_posted (f : CauseFlag) (h : Hub) : (h.setFlag f).posted = h.posted := by
  unfold Hub.setFlag Hub.setRegisters; simp only; split <;> rfl

@[simp] theorem Hub.raise_posted (f : CauseFlag) (h : Hub) : (h.raise f).posted = h.posted := by
  unfold Hub.raise; split <;> simp

@[simp] theorem Hub.issueOne_posted (h : Hub) : h.issueOne.posted = h.posted := by
  unfold Hub.issueOne; split
  · split <;> rfl
  · rfl

@[simp] theorem Hub.requestRead_posted (t : ReadTag) (a : Word64) (n d : Nat) (h : Hub) :
    (h.requestRead t a n d).posted = h.posted := by simp [Hub.requestRead, Hub.issueReads]

/-- R192: a write of an ATTACHED part stands last in what has been posted. -/
theorem Hub.post_posted (w : Writer) (a : Word64) (d : List Byte) (h : Hub) (attached : h.attach = .attached) :
    (h.post w a d).posted = h.posted ++ [{ writer := w, address := a, data := d }] := by simp [Hub.post, attached]

theorem Hub.post_prefix (w : Writer) (a : Word64) (d : List Byte) (h : Hub) : h.posted <+: (h.post w a d).posted := by
  unfold Hub.post; split
  · exact List.prefix_append _ _
  · exact List.prefix_refl _

theorem Hub.writeResult_prefix (slot : Fin 32) (tag : Word16) (code : ResultCode) (data : List Byte) (final : Nat) (h : Hub) :
    h.posted <+: (h.writeResult slot tag code data final).posted := by
  unfold Hub.writeResult
  rw [Hub.raise_posted]
  exact (((Hub.post_prefix _ _ _ _).trans (Hub.post_prefix _ _ _ _)).trans (Hub.post_prefix _ _ _ _)).trans
    (Hub.post_prefix _ _ _ _)

theorem Hub.sealPage_prefix (h : Hub) : h.posted <+: h.sealPage.posted := by
  unfold Hub.sealPage; dsimp only
  split <;> simp only [Hub.claimPage, Hub.requestRead_posted, Hub.raise_posted] <;>
    exact (Hub.post_prefix _ _ _ _).trans (Hub.post_prefix _ _ _ _)

theorem Hub.writeRecord_prefix (r : JournalRecord) (tag : Word32) (rest : List (JournalRecord × Word32)) (h : Hub) :
    h.posted <+: (h.writeRecord r tag rest).posted := by
  unfold Hub.writeRecord; exact Hub.post_prefix _ _ _ _

theorem Hub.fillFrom_prefix (l : List (JournalRecord × Word32)) (h : Hub) : h.posted <+: (h.fillFrom l).posted := by
  induction l generalizing h with
  | nil => exact List.prefix_refl _
  | cons e l ih =>
    obtain ⟨r, tag⟩ := e
    unfold Hub.fillFrom
    split
    · exact Hub.sealPage_prefix _
    · dsimp only
      split
      · exact (Hub.writeRecord_prefix _ _ _ _).trans (Hub.sealPage_prefix _)
      · exact (Hub.writeRecord_prefix _ _ _ _).trans (ih _)

theorem Hub.runWriter_prefix (h : Hub) : h.posted <+: h.runWriter.posted := by
  unfold Hub.runWriter; split
  · split
    · exact List.prefix_refl _
    · simp [Hub.claimPage]
  · exact Hub.fillFrom_prefix _ _
  · exact List.prefix_refl _

theorem Hub.runWriter_prefix_of {p : List PostedWrite} {h : Hub} (e : p = h.posted) : p <+: h.runWriter.posted :=
  e ▸ h.runWriter_prefix

theorem Hub.writeResult_prefix_of {p : List PostedWrite} {h : Hub} {slot : Fin 32} {tag : Word16} {code : ResultCode}
    {data : List Byte} {final : Nat} (e : p = h.posted) : p <+: (h.writeResult slot tag code data final).posted :=
  e ▸ h.writeResult_prefix slot tag code data final

theorem HubMove.posted {a b : Hub} (m : HubMove a b) : a.posted <+: b.posted := by
  cases m with
  | post w ad d h => exact Hub.post_prefix _ _ _ _
  | raise f h => simp
  | hand r h =>
    unfold Hub.hand; dsimp only; split
    · exact List.prefix_refl _
    · split
      · exact List.prefix_refl _
      · exact Hub.runWriter_prefix_of rfl
  | request t ad n d h => simp
  | drop w h => exact List.prefix_refl _
  | complete slot code data h =>
    unfold Hub.completeRequest; split
    · exact List.prefix_refl _
    · exact Hub.writeResult_prefix_of rfl
  | snapshot x h => exact List.prefix_refl _
  | sweep x h => exact List.prefix_refl _

/-- What has been posted stays, and is added to at its end. -/
theorem HubReach.posted {a b : Hub} (x : HubReach a b) : a.posted <+: b.posted := by
  induction x with
  | refl => exact List.prefix_refl _
  | step _ m ih => exact ih.trans m.posted

end Sys2Proof.Machine
end

