-- ==== Sys2Proof/Laws/Reach.lean ====
section
/-! SUPPORT. The work of the voice engine, the metronome and the recorder on the hub is made of the moves of Laws/Hub: one lemma per operation, each carrying a reach through it. -/

namespace Sys2Proof.Machine

/-! ### Combining -/

theorem HubReach.foldl {α β : Type} (hub : α → Hub) {f : α → β → α} {a : Hub}
    (one : ∀ x b, HubReach a (hub x) → HubReach a (hub (f x b))) (l : List β) {x : α} (p : HubReach a (hub x)) :
    HubReach a (hub (l.foldl f x)) := by
  induction l generalizing x with
  | nil => exact p
  | cons b l ih => exact ih (one x b p)

theorem HubReach.ite {c : Prop} [Decidable c] {a x y : Hub} (p : HubReach a x) (q : HubReach a y) :
    HubReach a (if c then x else y) := by
  split
  · exact p
  · exact q

section Hub
variable {a h : Hub}

theorem Hub.post_reach (w : Writer) (ad : Word64) (d : List Byte) (x : HubReach a h) : HubReach a (h.post w ad d) :=
  .step x (.post ..)
theorem Hub.raise_reach (f : CauseFlag) (x : HubReach a h) : HubReach a (h.raise f) := .step x (.raise ..)
theorem Hub.hand_reach (r : JournalRecord) (x : HubReach a h) : HubReach a (h.hand r) := .step x (.hand ..)
theorem Hub.note_reach (kind : RecordKind) (p q r s : Nat) (fl : RecordFlags) (x : HubReach a h) :
    HubReach a (h.note kind p q r s fl) := .step x (.hand ..)
theorem Hub.requestRead_reach (t : ReadTag) (ad : Word64) (n d : Nat) (x : HubReach a h) :
    HubReach a (h.requestRead t ad n d) := .step x (.request ..)
theorem Hub.dropReads_reach (w : ReadTag → Bool) (x : HubReach a h) : HubReach a (h.dropReads w) := .step x (.drop ..)
theorem Hub.completeRequest_reach (s : Fin 32) (c : ResultCode) (d : List Byte) (x : HubReach a h) :
    HubReach a (h.completeRequest s c d) := .step x (.complete ..)
theorem Hub.snapshot_reach (y : Snapshot) (x : HubReach a h) : HubReach a { h with snapshot := y } := .step x (.snapshot ..)
theorem Hub.sweep_reach (y : Sweep) (x : HubReach a h) : HubReach a { h with sweep := y } := .step x (.sweep ..)

theorem Hub.completeOptional_reach (s : Option (Fin 32)) (c : ResultCode) (d : List Byte) (x : HubReach a h) :
    HubReach a (h.completeOptional s c d) := by
  cases s with
  | none => exact x
  | some k => exact Hub.completeRequest_reach k c d x

theorem Hub.requestParts_reach {n : Nat} (t : Fin n → ReadTag) (ad : Word64) (z : Nat) (x : HubReach a h) :
    HubReach a (h.requestParts t ad z) :=
  HubReach.foldl (fun y : Hub => y) (fun _ _ p => Hub.requestRead_reach _ _ _ _ p) _ x

theorem Hub.beginSnapshot_reach (x : HubReach a h) : HubReach a h.beginSnapshot :=
  Hub.requestRead_reach _ _ _ _ (Hub.snapshot_reach _ x)

theorem Hub.snapshotDue_reach (x : HubReach a h) : HubReach a h.snapshotDue := by
  unfold Hub.snapshotDue
  split
  · exact x
  · split
    · exact Hub.snapshot_reach _ x
    · exact Hub.beginSnapshot_reach x

theorem Hub.endSnapshot_reach (x : HubReach a h) : HubReach a h.endSnapshot := by
  unfold Hub.endSnapshot
  dsimp only
  split
  · exact Hub.beginSnapshot_reach (Hub.snapshot_reach _ x)
  · exact Hub.snapshot_reach _ x

theorem Hub.beginSweep_reach (x : HubReach a h) : HubReach a h.beginSweep :=
  Hub.requestParts_reach _ _ _ (Hub.sweep_reach _ x)

theorem Hub.sweepDue_reach (x : HubReach a h) : HubReach a h.sweepDue := by
  unfold Hub.sweepDue
  split
  · exact x
  · split
    · exact Hub.sweep_reach _ x
    · exact Hub.beginSweep_reach x

theorem Hub.requestFill_reach (k : Fin 96) (st : Word16) (t : FillTarget) (d : Nat) (ad : Word64) (r : List (Nat × Nat))
    (x : HubReach a h) : HubReach a (h.requestFill k st t d ad r) := by
  unfold Hub.requestFill
  split
  · exact Hub.requestRead_reach _ _ _ _ x
  · exact Hub.requestRead_reach _ _ _ _ (Hub.requestRead_reach _ _ _ _ x)
  · exact x

end Hub

/-! ### The voice engine -/

section Engine
variable {a : Hub} {e : Engine}

theorem Engine.freeVoice_reach (k : Fin 96) (x : HubReach a e.1) : HubReach a (e.freeVoice k).1 := by
  unfold Engine.freeVoice; dsimp only; split
  · dsimp only; exact Hub.dropReads_reach _ x
  · exact x

theorem Engine.cutVoice_reach (k : Fin 96) (x : HubReach a e.1) : HubReach a (e.cutVoice k).1 := by
  unfold Engine.cutVoice; dsimp only; split
  · split
    · exact Engine.freeVoice_reach k x
    · exact x
  · exact x

theorem Engine.cutAll_reach (p : Voice → Bool) (x : HubReach a e.1) : HubReach a (e.cutAll p).1 := by
  unfold Engine.cutAll
  refine HubReach.foldl (fun y : Engine => y.1) (fun y k q => ?_) _ x
  split
  · exact Engine.cutVoice_reach k q
  · exact q

theorem Engine.startIn_reach (k : Fin 96) (key : Fin 88) (s : Source) (v : Nat) (x : HubReach a e.1) :
    HubReach a (e.startIn k key s v).1 := by
  unfold Engine.startIn; exact Hub.requestFill_reach _ _ _ _ _ _ x

theorem Engine.drop_reach (key : Fin 88) (s : Source) (v r : Nat) (x : HubReach a e.1) : HubReach a (e.drop key s v r).1 := by
  unfold Engine.drop Hub.noteVoice; exact Hub.note_reach _ _ _ _ _ _ x

theorem Engine.serveOne_reach (x : HubReach a e.1) : HubReach a e.serveOne.1 := by
  unfold Engine.serveOne
  split
  · dsimp only
    split
    · apply Engine.drop_reach; (try dsimp only); exact x
    · split
      · apply Engine.drop_reach; (try dsimp only); exact x
      · apply Engine.startIn_reach; (try dsimp only); exact x
  · exact x

theorem Engine.steal_reach (k : Fin 96) (x : HubReach a e.1) : HubReach a (e.steal k).1 := by
  unfold Engine.steal; exact Engine.cutVoice_reach k x

theorem Engine.settleFor_reach (j : Bool) (n : Nat) (x : HubReach a e.1) : HubReach a (e.settleFor j n).1 := by
  induction n generalizing e with
  | zero => exact x
  | succ n ih =>
    unfold Engine.settleFor
    split
    · exact x
    · split
      · exact ih (Engine.serveOne_reach x)
      · split
        · exact x
        · split
          · split
            · exact x
            · exact ih (Engine.steal_reach _ x)
          · exact x

theorem Engine.settle_reach (j : Bool) (x : HubReach a e.1) : HubReach a (e.settle j).1 := by
  unfold Engine.settle; exact Engine.settleFor_reach j 256 x

theorem Engine.release_reach (k : Fin 96) (x : HubReach a e.1) : HubReach a (e.release k).1 := by
  unfold Engine.release; exact Engine.settle_reach false (Engine.freeVoice_reach k x)

theorem Engine.supersede_reach (key : Fin 88) (s : Source) (x : HubReach a e.1) : HubReach a (e.supersede key s).1 := by
  unfold Engine.supersede
  apply Engine.settle_reach
  apply Engine.cutAll_reach
  exact HubReach.foldl (fun y : Engine => y.1) (fun _ k q => Engine.release_reach k q) _ x

theorem Engine.noteOn_reach (key : Fin 88) (s : Source) (v : Nat) (x : HubReach a e.1) : HubReach a (e.noteOn key s v).1 := by
  unfold Engine.noteOn
  split
  · exact x
  · dsimp only
    have y := Engine.supersede_reach key s x
    split
    · split
      · exact Engine.startIn_reach _ _ _ _ y
      · split
        · exact Engine.drop_reach _ _ _ _ y
        · apply Engine.settle_reach; (try dsimp only); exact y
    · split
      · exact Engine.drop_reach _ _ _ _ y
      · apply Engine.settle_reach; (try dsimp only); exact y

theorem Engine.cutExcess_reach (n : Nat) (x : HubReach a e.1) : HubReach a (e.cutExcess n).1 := by
  induction n generalizing e with
  | zero => exact x
  | succ n ih =>
    unfold Engine.cutExcess
    split
    · exact x
    · exact ih (Engine.cutVoice_reach _ x)

theorem Engine.setTarget_reach (t : Nat) (x : HubReach a e.1) : HubReach a (e.setTarget t).1 := by
  unfold Engine.setTarget; dsimp only; split
  · apply Engine.settle_reach; (try dsimp only); exact x
  · apply Engine.settle_reach; apply Engine.cutExcess_reach; (try dsimp only); exact x

theorem Engine.cutSources_reach (m : Nat) (x : HubReach a e.1) : HubReach a (e.cutSources m).1 := by
  unfold Engine.cutSources; dsimp only
  apply Engine.settle_reach; apply Engine.cutAll_reach; (try dsimp only); exact x

theorem Engine.detach_reach (x : HubReach a e.1) : HubReach a e.detach.1 := by
  unfold Engine.detach; dsimp only
  apply Hub.dropReads_reach; apply Engine.cutAll_reach; (try dsimp only); exact x

theorem Engine.underrun_reach (k : Fin 96) (x : HubReach a e.1) : HubReach a (e.underrun k).1 := by
  unfold Engine.underrun; dsimp only; split
  · exact Engine.release_reach k x
  · apply Engine.release_reach; exact Hub.note_reach _ _ _ _ _ _ x

theorem Engine.refill_reach (k : Fin 96) (x : HubReach a e.1) : HubReach a (e.refill k).1 := by
  unfold Engine.refill; dsimp only; split
  · exact x
  · exact Hub.requestFill_reach _ _ _ _ _ _ x

theorem Engine.advance_reach (k : Fin 96) (x : HubReach a e.1) : HubReach a (e.advance k).1 := by
  unfold Engine.advance; dsimp only
  split
  · split
    · exact x
    · apply Engine.release_reach; (try dsimp only); exact x
  · split
    · apply Engine.release_reach; (try dsimp only); exact x
    · split
      · exact x
      · split
        · apply Engine.refill_reach; (try dsimp only); exact x
        · apply Engine.underrun_reach; (try dsimp only); exact x

theorem Engine.endFade_reach (k : Fin 96) (x : HubReach a e.1) : HubReach a (e.endFade k).1 := by
  unfold Engine.endFade; split
  · exact Engine.release_reach k x
  · exact x

theorem Engine.endFades_reach (n : Nat) (x : HubReach a e.1) : HubReach a (e.endFades n).1 := by
  induction n generalizing e with
  | zero => exact x
  | succ n ih =>
    unfold Engine.endFades; split
    · exact x
    · exact ih (Engine.release_reach _ x)

theorem Engine.playVoice_reach (k : Fin 96) {p : Engine × Int} (x : HubReach a p.1.1) :
    HubReach a (Engine.playVoice k p).1.1 := by
  unfold Engine.playVoice; dsimp only; split
  · exact Engine.advance_reach k x
  · exact x

theorem Engine.period_reach (x : HubReach a e.1) : HubReach a e.period.1.1 := by
  unfold Engine.period; dsimp only
  refine HubReach.foldl (fun p : Engine × Int => p.1.1) (fun p k q => Engine.playVoice_reach k q) _ ?_
  exact Engine.endFades_reach _ x

theorem Engine.voiceRead_reach (t : ReadTag) (b : Option (List Byte)) (x : HubReach a e.1) :
    HubReach a (e.voiceRead t b).1 := by
  unfold Engine.voiceRead
  split
  · dsimp only; split
    · split
      · apply Engine.release_reach; exact Hub.note_reach _ _ _ _ _ _ x
      · exact x
      · exact x
      · exact x
    · exact x
  · exact x

theorem Engine.applyKeymap_reach (slot : Fin 32) (b : List Byte) (x : HubReach a e.1) :
    HubReach a (e.applyKeymap slot b).1 := by
  unfold Engine.applyKeymap; split <;> exact Hub.completeRequest_reach _ _ _ x

theorem Engine.keymapRead_reach (t : ReadTag) (b : Option (List Byte)) (x : HubReach a e.1) :
    HubReach a (e.keymapRead t b).1 := by
  unfold Engine.keymapRead; split
  · split
    · exact Hub.completeRequest_reach _ _ _ (Hub.dropReads_reach _ x)
    · dsimp only; split
      · exact x
      · exact Engine.applyKeymap_reach _ _ x
  · exact x

theorem Engine.startKeymapLoad_reach (slot : Fin 32) (ad : Nat) (x : HubReach a e.1) :
    HubReach a (e.startKeymapLoad slot ad).1 := by
  unfold Engine.startKeymapLoad; dsimp only; exact Hub.requestParts_reach _ _ _ x

theorem Engine.configure_reach (b : List Byte) (x : HubReach a e.1) : HubReach a (e.configure b).1 := by
  unfold Engine.configure; split
  · apply Engine.setTarget_reach; (try dsimp only); exact x
  · exact x

end Engine

/-! ### The metronome -/

section Beater
variable {a : Hub} {b : Beater}

theorem Beater.beat_reach (one first : Bool) (x : HubReach a b.1) : HubReach a (b.beat one first).1 := by
  unfold Beater.beat; dsimp only
  have y : HubReach a (if b.2.settings.journalBeats = true then
      b.1.note .beat (if (one || decide (b.2.beat = 0) || decide (b.2.settings.beats ≤ b.2.beat)) = true then 1 else b.2.beat + 1)
        (if first = true then 1 else if (if (one || decide (b.2.beat = 0) || decide (b.2.settings.beats ≤ b.2.beat)) = true then 1
          else b.2.beat + 1) = 1 then nextBar b.2.bar else b.2.bar)
        b.2.settings.mode.code 0 { playback := b.2.settings.mode == .follow } else b.1) :=
    HubReach.ite (Hub.note_reach _ _ _ _ _ _ x) x
  exact HubReach.ite (Hub.snapshotDue_reach y) y

theorem Beater.freeBeat_reach (x : HubReach a b.1) : HubReach a b.freeBeat.1 := Beater.beat_reach false false x
theorem Beater.followBeat_reach (x : HubReach a b.1) : HubReach a b.followBeat.1 := Beater.beat_reach false false x

theorem Beater.restart_reach (p : Word32) (t : Nat) (q r : Bool) (x : HubReach a b.1) : HubReach a (b.restart p t q r).1 := by
  unfold Beater.restart; dsimp only; split
  · apply Beater.beat_reach; (try dsimp only); exact x
  · exact x

theorem Beater.switchOn_reach (c : Nat) (p : Word32) (x : HubReach a b.1) : HubReach a (b.switchOn c p).1 := by
  unfold Beater.switchOn; dsimp only; split
  · apply Beater.beat_reach; (try dsimp only); exact x
  · exact x

theorem Beater.configure_reach (n : MetronomeSettings) (c : Nat) (p : Word32) (x : HubReach a b.1) : HubReach a (b.configure n c p).1 := by
  unfold Beater.configure; dsimp only; split
  · exact x
  · split
    · apply Beater.switchOn_reach; (try dsimp only); exact x
    · exact x

theorem Beater.toggle_reach (c : Nat) (p : Word32) (x : HubReach a b.1) : HubReach a (b.toggle c p).1 := by
  unfold Beater.toggle; exact Hub.raise_reach _ (Beater.configure_reach _ _ _ x)

end Beater

/-! ### The recorder -/

section Desk
variable {a : Hub} {d : Desk}

theorem Desk.report_reach (n : Nat) (x : HubReach a d.1) : HubReach a (d.report n).1 := by
  unfold Desk.report; exact Hub.raise_reach _ (Hub.note_reach _ _ _ _ _ _ x)

theorem Recorder.writeBlock_reach (l : Bool) (r : Recorder) {h : Hub} (x : HubReach a h) : HubReach a (r.writeBlock l h) := by
  unfold Recorder.writeBlock; dsimp only
  exact Hub.post_reach _ _ _ (HubReach.ite x (Hub.post_reach _ _ _ x))

theorem Desk.finish_reach (f : Bool) (x : HubReach a d.1) : HubReach a (d.finish f).1 := by
  unfold Desk.finish; dsimp only
  apply Desk.report_reach
  exact Hub.completeOptional_reach _ _ _ (Recorder.writeBlock_reach _ _ x)

theorem Desk.turnBlock_reach (x : HubReach a d.1) : HubReach a d.turnBlock.1 := by
  unfold Desk.turnBlock; exact Recorder.writeBlock_reach _ _ x

theorem Desk.push_reach (e : ScoreEvent) (x : HubReach a d.1) : HubReach a (d.push e).1 := by
  unfold Desk.push; dsimp only
  split
  · split
    · apply Desk.finish_reach; (try dsimp only); exact x
    · exact x
  · split
    · apply Desk.turnBlock_reach; (try dsimp only); exact x
    · exact x

theorem Desk.pushSpacers_reach (n : Nat) (x : HubReach a d.1) : HubReach a (d.pushSpacers n).1 := by
  induction n generalizing d with
  | zero => exact x
  | succ n ih =>
    unfold Desk.pushSpacers; split
    · exact ih (Desk.push_reach _ x)
    · exact x

theorem Desk.appendAt_reach (t : Nat) (e : ScoreEvent) (x : HubReach a d.1) : HubReach a (d.appendAt t e).1 := by
  unfold Desk.appendAt; dsimp only
  split
  · exact Desk.push_reach _ (Desk.pushSpacers_reach _ x)
  · exact Desk.pushSpacers_reach _ x

theorem Desk.readClock_reach (x : HubReach a d.1) : HubReach a d.readClock.1 := by unfold Desk.readClock; exact x

theorem Desk.recordKeyDown_reach (k : Fin 88) (v : Nat) (r : Bool) (x : HubReach a d.1) :
    HubReach a (d.recordKeyDown k v r).1 := by
  unfold Desk.recordKeyDown; dsimp only; apply Desk.appendAt_reach; (try dsimp only); exact x

theorem Desk.begin_reach (em : Vector Nat 3) (f : Option (Fin 88 × Nat × Bool)) (x : HubReach a d.1) :
    HubReach a (d.begin_ em f).1 := by
  unfold Desk.begin_
  apply Desk.report_reach
  have fold : ∀ (y : Desk), HubReach a y.1 → HubReach a ((List.finRange 3).foldl
      (fun d p => d.push { delta := 0, kind := 3, target := p.val, value := em[p], part := 2, aux := 0 }) y).1 :=
    fun y q => HubReach.foldl (fun y : Desk => y.1) (fun y p q => Desk.push_reach _ q) _ q
  dsimp only
  split
  · apply Desk.recordKeyDown_reach
    split
    · apply fold; apply Desk.push_reach; (try dsimp only); exact x
    · apply Desk.push_reach; (try dsimp only); exact x
  · split
    · apply fold; apply Desk.push_reach; (try dsimp only); exact x
    · apply Desk.push_reach; (try dsimp only); exact x

theorem Desk.keyDown_reach (k : Fin 88) (v : Nat) (r : Bool) (em : Vector Nat 3) (x : HubReach a d.1) :
    HubReach a (d.keyDown k v r em).1 := by
  unfold Desk.keyDown; split
  · exact Desk.recordKeyDown_reach _ _ _ (Desk.readClock_reach x)
  · split
    · exact Desk.begin_reach _ _ x
    · exact x
  · exact x

theorem Desk.keyUp_reach (k : Fin 88) (v : Nat) (f : Bool) (x : HubReach a d.1) : HubReach a (d.keyUp k v f).1 := by
  unfold Desk.keyUp; split
  · dsimp only; split
    · apply Desk.appendAt_reach; exact Desk.readClock_reach x
    · exact Desk.readClock_reach x
  · exact x

theorem Desk.pedal_reach (p : Fin 3) (v : Nat) (f : Bool) (x : HubReach a d.1) : HubReach a (d.pedal p v f).1 := by
  unfold Desk.pedal; split
  · dsimp only; split
    · apply Desk.appendAt_reach; exact Desk.readClock_reach x
    · exact Desk.readClock_reach x
  · exact x

theorem Desk.mark_reach (n : Option Nat) (x : HubReach a d.1) : HubReach a (d.mark n).1 := by
  unfold Desk.mark; dsimp only
  apply Desk.appendAt_reach
  split
  · exact Desk.readClock_reach x
  · exact Desk.readClock_reach x

theorem Desk.close_reach (x : HubReach a d.1) : HubReach a d.close.1 := by
  unfold Desk.close
  dsimp only
  have fold : ∀ (keys : List (Fin 88)) (stop : Nat) (y : Desk), HubReach a y.1 → HubReach a (keys.foldl (fun d k =>
      if d.2.running then
        d.appendAt (max stop d.2.lastScoreTime)
          { delta := 0, kind := 2, target := k.val, value := 64, part := d.2.partOf k, aux := 2 }
      else d) y).1 := fun keys stop y q => HubReach.foldl (fun y : Desk => y.1) (fun y k q => by
        split
        · exact Desk.appendAt_reach _ _ q
        · exact q) _ q
  split
  · apply Desk.finish_reach
    split
    · apply Desk.turnBlock_reach; apply fold; exact Desk.readClock_reach x
    · apply fold; exact Desk.readClock_reach x
  · apply fold; exact Desk.readClock_reach x

theorem Desk.disarm_reach (x : HubReach a d.1) : HubReach a d.disarm.1 := by
  unfold Desk.disarm; exact Hub.completeOptional_reach _ _ _ (Hub.dropReads_reach _ x)

theorem Desk.closeForStandby_reach (x : HubReach a d.1) : HubReach a d.closeForStandby.1 := by
  unfold Desk.closeForStandby; split
  · apply Desk.close_reach; (try dsimp only); exact x
  · exact Desk.disarm_reach x
  · exact x

theorem Desk.detach_reach (x : HubReach a d.1) : HubReach a d.detach.1 := by
  unfold Desk.detach; exact Hub.dropReads_reach _ x

theorem Desk.listRead_reach (em : Vector Nat 3) (b : Option (List Byte)) (x : HubReach a d.1) :
    HubReach a (d.listRead em b).1 := by
  unfold Desk.listRead; dsimp only; split
  · split
    · exact Hub.completeOptional_reach _ _ _ x
    · split
      · exact Hub.completeOptional_reach _ _ _ x
      · apply Hub.completeOptional_reach
        split
        · exact x
        · apply Desk.begin_reach; (try dsimp only); exact x
  · exact x

theorem Desk.start_reach (s : Fin 32) (b : List Byte) (x : HubReach a d.1) : HubReach a (d.start s b).1 := by
  unfold Desk.start; exact Hub.requestRead_reach _ _ _ _ x

end Desk

end Sys2Proof.Machine
end

