-- ==== Sys2Proof/Laws/ReachPlay.lean ====
section
/-! SUPPORT. The player's work on the hub is made of the moves of Laws/Hub: one lemma per operation. -/

namespace Sys2Proof.Machine

section Stage
variable {a : Hub} {p : Stage}

theorem Stage.onHub_reach {f : Hub → Hub} (one : ∀ h, HubReach a h → HubReach a (f h)) (x : HubReach a p.hub) :
    HubReach a (p.onHub f).hub := one _ x

theorem Stage.onEngine_reach {f : Engine → Engine} (one : ∀ e : Engine, HubReach a e.1 → HubReach a (f e).1)
    (x : HubReach a p.hub) : HubReach a (p.onEngine f).hub := one _ x

theorem Stage.onPlayer_reach {f : Player → Player} (x : HubReach a p.hub) : HubReach a (p.onPlayer f).hub := x

theorem Stage.report_reach (d s i : Nat) (x : HubReach a p.hub) : HubReach a (p.report d s i).hub := by
  unfold Stage.report
  exact Stage.onHub_reach (fun h q => Hub.raise_reach _ (Hub.note_reach _ _ _ _ _ _ q)) x

theorem Stage.reportNote_reach (kind : RecordKind) (k v n : Nat) (f : Bool) (x : HubReach a p.hub) :
    HubReach a (p.reportNote kind k v n f).hub := by
  unfold Stage.reportNote; split
  · split
    · exact Stage.onHub_reach (fun h q => Hub.note_reach _ _ _ _ _ _ q) x
    · exact x
  · exact x

theorem Stage.completePending_reach (c : ResultCode) (x : HubReach a p.hub) : HubReach a (p.completePending c).hub := by
  unfold Stage.completePending; exact Hub.completeOptional_reach _ _ _ x

theorem Stage.emptyBuffer_reach (b : Fin 2) (x : HubReach a p.hub) : HubReach a (p.emptyBuffer b).hub := by
  unfold Stage.emptyBuffer; exact Hub.dropReads_reach _ x

theorem Stage.emptyBuffers_reach (x : HubReach a p.hub) : HubReach a p.emptyBuffers.hub := by
  unfold Stage.emptyBuffers; exact Stage.emptyBuffer_reach 1 (Stage.emptyBuffer_reach 0 x)

theorem Stage.readBlock_reach (b : Fin 2) (ad : Word64) (i : Nat) (n : Bool) (x : HubReach a p.hub) :
    HubReach a (p.readBlock b ad i n).hub := by
  unfold Stage.readBlock; dsimp only; exact Hub.requestParts_reach _ _ _ x

theorem Stage.readAhead_reach (x : HubReach a p.hub) : HubReach a p.readAhead.hub := by
  unfold Stage.readAhead; split
  · dsimp only; split
    · exact Stage.readBlock_reach _ _ _ _ (Stage.emptyBuffer_reach _ x)
    · exact x
  · exact x

theorem Stage.dropReadAhead_reach (x : HubReach a p.hub) : HubReach a p.dropReadAhead.hub := by
  unfold Stage.dropReadAhead; dsimp only; split
  · exact Stage.emptyBuffer_reach _ x
  · exact x

theorem Stage.enterBlock_reach (x : HubReach a p.hub) : HubReach a p.enterBlock.hub := by
  unfold Stage.enterBlock; split
  · exact x
  · dsimp only; split
    · split
      · exact x
      · exact Stage.readAhead_reach (Stage.emptyBuffer_reach _ x)
    · exact Stage.readBlock_reach _ _ _ _ (Stage.emptyBuffer_reach _ x)

theorem Stage.advanceBlock_reach (x : HubReach a p.hub) : HubReach a p.advanceBlock.hub := by
  unfold Stage.advanceBlock; apply Stage.enterBlock_reach; exact x

theorem Stage.releaseOpen_reach (w : Nat → Bool) (x : HubReach a p.hub) : HubReach a (p.releaseOpen w).hub := by
  unfold Stage.releaseOpen; dsimp only
  apply Stage.onPlayer_reach
  refine HubReach.foldl (fun y : Stage => y.hub) (fun y k q => ?_) _ x
  split
  · apply Stage.reportNote_reach; exact q
  · exact q

theorem Stage.releaseAll_reach (x : HubReach a p.hub) : HubReach a p.releaseAll.hub := by
  unfold Stage.releaseAll; exact Stage.releaseOpen_reach _ x

theorem Stage.handPedals_reach (q : PlaybackPedals) (x : HubReach a p.hub) : HubReach a (p.handPedals q).hub := by
  unfold Stage.handPedals; exact x

theorem Stage.restart_reach (n : Word32) (t : Nat) (b : Bool) (x : HubReach a p.hub) : HubReach a (p.restart n t b).hub := by
  unfold Stage.restart; dsimp only; apply Beater.restart_reach; exact x

theorem Stage.dropGrid_reach (x : HubReach a p.hub) : HubReach a p.dropGrid.hub := x

theorem Stage.clearTake_reach (x : HubReach a p.hub) : HubReach a p.clearTake.hub := by
  unfold Stage.clearTake; exact Stage.dropGrid_reach (Stage.onPlayer_reach (Stage.emptyBuffers_reach x))

theorem Stage.fault_reach (f : Bool) (x : HubReach a p.hub) : HubReach a (p.fault f).hub := by
  unfold Stage.fault; dsimp only
  exact Stage.onPlayer_reach (Stage.report_reach _ _ _ (Stage.completePending_reach _ (Stage.clearTake_reach
    (Stage.handPedals_reach _ (Stage.releaseAll_reach x)))))

theorem Stage.stop_reach (x : HubReach a p.hub) : HubReach a p.stop.hub := by
  unfold Stage.stop; split
  · dsimp only
    exact Stage.onPlayer_reach (Stage.report_reach _ _ _ (Stage.completePending_reach _ (Stage.clearTake_reach
      (Stage.handPedals_reach _ (Stage.releaseAll_reach x)))))
  · exact Stage.onPlayer_reach x

theorem Stage.detach_reach (x : HubReach a p.hub) : HubReach a p.detach.hub := by
  unfold Stage.detach
  exact Stage.onPlayer_reach (Stage.clearTake_reach (Stage.handPedals_reach _ (Stage.releaseAll_reach x)))

theorem Stage.setTake_reach (t : TakeRecord) (s : Option (Fin 32)) (c : Bool) (x : HubReach a p.hub) :
    HubReach a (p.setTake t s c).hub := by unfold Stage.setTake; exact Stage.onPlayer_reach x

theorem Stage.readFirst_reach (x : HubReach a p.hub) : HubReach a p.readFirst.hub := by
  unfold Stage.readFirst; split
  · exact x
  · exact Stage.readBlock_reach _ _ _ _ (Stage.onPlayer_reach (Stage.emptyBuffers_reach x))

theorem Stage.startTake_reach (t : TakeRecord) (s : Option (Fin 32)) (x : HubReach a p.hub) :
    HubReach a (p.startTake t s).hub := by unfold Stage.startTake; exact Stage.readFirst_reach (Stage.setTake_reach _ _ _ x)

theorem Stage.rewind_reach (x : HubReach a p.hub) : HubReach a p.rewind.hub := by
  unfold Stage.rewind; exact Stage.onPlayer_reach (Stage.handPedals_reach _ x)

theorem Stage.scanMissed_reach (x : HubReach a p.hub) : HubReach a p.scanMissed.hub := by
  unfold Stage.scanMissed; dsimp only
  have y := Stage.completePending_reach .notFound (Stage.readFirst_reach (Stage.onPlayer_reach
    (f := fun q => { q with state := .paused, scan := none }) (Stage.rewind_reach x)))
  split
  · exact y
  · split
    · exact Stage.report_reach _ _ _ y
    · exact Stage.report_reach _ _ _ y

theorem Stage.scanFound_reach (x : HubReach a p.hub) : HubReach a p.scanFound.hub := by
  unfold Stage.scanFound; dsimp only
  split
  · exact Stage.completePending_reach _ (Stage.onPlayer_reach (Stage.restart_reach _ _ _ (Stage.onPlayer_reach
      (Stage.handPedals_reach _ x))))
  · have y := Stage.completePending_reach .ok (Stage.restart_reach p.player.position p.player.followTempo true
      (Stage.onPlayer_reach (f := fun q => { q with state := .playing }) (Stage.onPlayer_reach
        (f := fun q => { q with scan := none }) (Stage.handPedals_reach p.player.pedals x))))
    split
    · exact y
    · exact Stage.report_reach _ _ _ y

theorem Stage.scanRun_reach (n : Nat) (x : HubReach a p.hub) : HubReach a (p.scanRun n).hub := by
  induction n generalizing p with
  | zero => exact x
  | succ n ih =>
    unfold Stage.scanRun; split
    · split
      · split
        · exact Stage.fault_reach _ x
        · dsimp only; split
          · exact Stage.scanMissed_reach (Stage.onPlayer_reach x)
          · split
            · exact Stage.scanFound_reach (Stage.onPlayer_reach x)
            · exact ih (Stage.onPlayer_reach x)
      · split
        · exact Stage.scanMissed_reach x
        · split
          · exact ih (Stage.advanceBlock_reach x)
          · exact x
    · exact x

theorem Stage.beginTake_reach (b : ScoreBlock) (x : HubReach a p.hub) : HubReach a (p.beginTake b).hub := by
  unfold Stage.beginTake; dsimp only
  have y : HubReach a ((p.onPlayer fun q =>
      { q with headerTempo := b.tempo, followTempo := clampTempo b.tempo }).handPedals .zero).hub :=
    Stage.handPedals_reach _ (Stage.onPlayer_reach x)
  split
  · split
    · exact Stage.completePending_reach _ (Stage.restart_reach _ _ _ (Stage.onPlayer_reach y))
    · exact Stage.report_reach _ _ _ (Stage.completePending_reach _ (Stage.restart_reach _ _ _ (Stage.onPlayer_reach y)))
  · exact Stage.scanRun_reach _ (Stage.onPlayer_reach y)

theorem Stage.beginNext_reach (t : TakeRecord) (x : HubReach a p.hub) : HubReach a (p.beginNext t).hub := by
  unfold Stage.beginNext; dsimp only
  have y : HubReach a (((p.setTake t none true).onPlayer fun q => { q with next := none }).report 7 0 0).hub :=
    Stage.report_reach _ _ _ (Stage.onPlayer_reach (Stage.setTake_reach _ _ _ x))
  split
  · exact Stage.beginTake_reach _ (Stage.enterBlock_reach (Stage.onPlayer_reach y))
  · exact Stage.readFirst_reach y

theorem Stage.naturalEnd_reach (x : HubReach a p.hub) : HubReach a p.naturalEnd.hub := by
  unfold Stage.naturalEnd; dsimp only
  have y : HubReach a ((p.releaseAll.handPedals .zero).report 1 0 0).hub :=
    Stage.report_reach _ _ _ (Stage.handPedals_reach _ (Stage.releaseAll_reach x))
  split
  · split
    · exact Stage.beginNext_reach _ y
    · exact y
  · exact y

theorem Stage.beginSettled_reach (x : HubReach a p.hub) : HubReach a p.beginSettled.hub := by
  unfold Stage.beginSettled; split
  · split
    · exact Stage.beginNext_reach _ x
    · exact x
  · exact x

theorem Stage.loopJump_reach (m : Nat) (n : LoopAnchor) (x : HubReach a p.hub) : HubReach a (p.loopJump m n).hub := by
  unfold Stage.loopJump; dsimp only
  exact Stage.onPlayer_reach (Stage.report_reach _ _ _ (Stage.readBlock_reach _ _ _ _ (Stage.onPlayer_reach
    (Stage.emptyBuffers_reach (Stage.handPedals_reach _ (Stage.releaseAll_reach x))))))

theorem Stage.dispatchMark_reach (m : Nat) (x : HubReach a p.hub) : HubReach a (p.dispatchMark m).hub := by
  unfold Stage.dispatchMark; dsimp only
  have y : HubReach a ((p.report 2 m 0).onPlayer (Player.markAnchor m)).hub := Stage.onPlayer_reach (Stage.report_reach _ _ _ x)
  split
  · split
    · exact Stage.loopJump_reach _ _ y
    · exact y
  · exact y

theorem Stage.dispatchNoteOn_reach (k : Fin 88) (v n : Nat) (x : HubReach a p.hub) : HubReach a (p.dispatchNoteOn k v n).hub := by
  unfold Stage.dispatchNoteOn; dsimp only; split
  · exact Stage.onEngine_reach (fun e q => Engine.noteOn_reach _ _ _ q) (Stage.onPlayer_reach (Stage.reportNote_reach _ _ _ _ _ x))
  · exact Stage.reportNote_reach _ _ _ _ _ x

theorem Stage.dispatchNoteOff_reach (k : Fin 88) (v n : Nat) (x : HubReach a p.hub) :
    HubReach a (p.dispatchNoteOff k v n).hub := by
  unfold Stage.dispatchNoteOff
  extract_lets p1
  have y : HubReach a p1.hub := Stage.reportNote_reach _ _ _ _ _ x
  clear_value p1
  split
  · exact y
  · exact y

theorem Stage.dispatchPedal_reach (d v n : Nat) (x : HubReach a p.hub) : HubReach a (p.dispatchPedal d v n).hub := by
  unfold Stage.dispatchPedal; dsimp only
  have y : HubReach a (p.onHub fun h => h.note .pedal d v n 0 { playback := true }).hub :=
    Stage.onHub_reach (fun h q => Hub.note_reach _ _ _ _ _ _ q) x
  split
  · exact Stage.handPedals_reach _ y
  · exact y

theorem Stage.dispatchEvent_reach (t : Word32) (g : GroupEvent) (x : HubReach a p.hub) : HubReach a (p.dispatchEvent t g).hub := by
  unfold Stage.dispatchEvent
  extract_lets p0 p1 e
  have y0 : HubReach a p0.hub := by
    unfold p0; split
    · exact x
    · exact Stage.advanceBlock_reach x
  have y : HubReach a p1.hub := Stage.onPlayer_reach y0
  clear_value p1
  split
  · split
    · exact Stage.dispatchNoteOn_reach _ _ _ y
    · exact y
  · split
    · exact Stage.dispatchNoteOff_reach _ _ _ y
    · exact y
  · exact Stage.dispatchPedal_reach _ _ _ y
  · exact Stage.restart_reach _ _ _ (Stage.onPlayer_reach y)
  · exact Stage.dispatchMark_reach _ y
  · exact Stage.naturalEnd_reach y
  · exact y

theorem Stage.dispatchGroup_reach (t : Word32) (l : List GroupEvent) (x : HubReach a p.hub) :
    HubReach a (p.dispatchGroup t l).hub := by
  induction l generalizing p with
  | nil => exact x
  | cons g l ih =>
    unfold Stage.dispatchGroup; dsimp only; split
    · exact Stage.dispatchEvent_reach _ _ x
    · exact ih (Stage.dispatchEvent_reach _ _ x)

theorem Stage.endWait_reach (x : HubReach a p.hub) : HubReach a p.endWait.hub := by
  unfold Stage.endWait; dsimp only; split
  · exact Stage.dispatchGroup_reach _ _ (Stage.onPlayer_reach x)
  · exact Stage.onPlayer_reach x

theorem Stage.beginWait_reach (g : Group) (x : HubReach a p.hub) : HubReach a (p.beginWait g).hub := by
  unfold Stage.beginWait
  extract_lets window p1
  split
  · exact Stage.endWait_reach (Stage.onPlayer_reach x)
  · exact Stage.report_reach _ _ _ (Stage.onPlayer_reach x)

theorem Stage.takeGroup_reach (g : Group) (x : HubReach a p.hub) : HubReach a (p.takeGroup g).hub := by
  unfold Stage.takeGroup
  extract_lets follow
  split
  · exact Stage.fault_reach _ x
  · split
    · exact Stage.beginWait_reach _ x
    · exact Stage.dispatchGroup_reach _ _ x

theorem Stage.playRun_reach (n : Nat) (x : HubReach a p.hub) : HubReach a (p.playRun n).hub := by
  induction n generalizing p with
  | zero => exact x
  | succ n ih =>
    unfold Stage.playRun; split
    · exact x
    · split
      · exact Stage.onPlayer_reach x
      · exact ih (Stage.naturalEnd_reach x)
      · exact ih (Stage.advanceBlock_reach x)
      · exact Stage.onPlayer_reach x
      · split
        · split
          · exact ih (Stage.takeGroup_reach _ x)
          · exact Stage.onPlayer_reach x
        · exact x

theorem Stage.play_reach (x : HubReach a p.hub) : HubReach a p.play.hub := by
  unfold Stage.play; exact Stage.playRun_reach _ x

theorem Stage.blockValid_reach (b : Fin 2) (k : ScoreBlock) (x : HubReach a p.hub) : HubReach a (p.blockValid b k).hub := by
  unfold Stage.blockValid
  extract_lets c p1 p2
  have y : HubReach a p1.hub := by
    unfold p1; split
    · exact Stage.enterBlock_reach x
    · exact x
  split
  · split
    · exact Stage.play_reach (Stage.scanRun_reach _ y)
    · split
      · exact Stage.play_reach (Stage.beginTake_reach _ y)
      · exact y
  · exact Stage.play_reach (Stage.scanRun_reach _ y)
  · apply Stage.play_reach
    apply Stage.onPlayer_reach
    unfold p2
    split
    · exact Stage.restart_reach _ _ _ y
    · exact y
  · split
    · exact Stage.onPlayer_reach y
    · exact y
  · exact Stage.play_reach y
  · exact y

theorem Stage.blockRead_reach (b : Fin 2) (n : Nat) (d : Option (List Byte)) (x : HubReach a p.hub) :
    HubReach a (p.blockRead b n d).hub := by
  unfold Stage.blockRead
  extract_lets buffer takeId reject
  have y : ∀ f, HubReach a (reject f).hub := fun f => by
    unfold reject; split
    · exact Stage.emptyBuffer_reach _ x
    · split
      · exact Stage.fault_reach _ x
      · exact x
  clear_value reject
  split
  · exact x
  · split
    · exact y _
    · extract_lets chunks
      split
      · exact Stage.onPlayer_reach x
      · extract_lets block p1
        split
        · split
          · exact Stage.onPlayer_reach x
          · exact Stage.blockValid_reach _ _ (Stage.onPlayer_reach x)
        · exact y _

theorem Stage.liveStrike_reach (k : Fin 88) (x : HubReach a p.hub) : HubReach a (p.liveStrike k).hub := by
  unfold Stage.liveStrike
  extract_lets waiting hit strike p1
  split
  · exact Stage.play_reach (Stage.endWait_reach (Stage.report_reach _ _ _ (Stage.onPlayer_reach x)))
  · exact Stage.onPlayer_reach x

theorem Stage.skipWait_reach (x : HubReach a p.hub) : HubReach a p.skipWait.hub := by
  unfold Stage.skipWait; exact Stage.play_reach (Stage.endWait_reach (Stage.report_reach _ _ _ x))

theorem Stage.pause_reach (x : HubReach a p.hub) : HubReach a p.pause.hub := by
  unfold Stage.pause; exact Stage.onPlayer_reach (Stage.releaseAll_reach x)

theorem Stage.resume_reach (x : HubReach a p.hub) : HubReach a p.resume.hub := by
  unfold Stage.resume; split
  · exact Stage.play_reach (Stage.beginWait_reach _ x)
  · split
    · apply Stage.play_reach
      apply Stage.onPlayer_reach
      split
      · exact Stage.restart_reach _ _ _ x
      · exact x
    · exact Stage.onPlayer_reach x

theorem Stage.toggle_reach (x : HubReach a p.hub) : HubReach a p.toggle.hub := by
  unfold Stage.toggle; dsimp only
  refine Stage.onHub_reach (fun h q => Hub.raise_reach _ q) ?_
  split
  · exact Stage.resume_reach x
  · exact Stage.onPlayer_reach x
  · exact Stage.pause_reach x

theorem Stage.setParts_reach (v : Vector PartMode 4) (x : HubReach a p.hub) : HubReach a (p.setParts v).hub := by
  unfold Stage.setParts
  extract_lets leaving p1 p2
  have y1 : HubReach a p1.hub := Stage.onPlayer_reach (Stage.releaseOpen_reach _ x)
  have y : HubReach a p2.hub := by
    unfold p2; split
    · exact Stage.handPedals_reach _ y1
    · exact y1
  clear_value p2
  split
  · dsimp only; split
    · exact Stage.play_reach (Stage.endWait_reach (Stage.report_reach _ _ _ (Stage.onPlayer_reach y)))
    · exact Stage.onPlayer_reach y
  · exact y

theorem Stage.seek_reach (s : Fin 32) (m : Nat) (x : HubReach a p.hub) : HubReach a (p.seek s m).hub := by
  unfold Stage.seek; dsimp only
  exact Stage.rewind_reach (Stage.readFirst_reach (Stage.onPlayer_reach (Stage.releaseAll_reach x)))

theorem Stage.answer_reach (s : Fin 32) (x : HubReach a p.hub) : HubReach a (p.answer s).hub := by
  unfold Stage.answer; exact Stage.onHub_reach (fun h q => Hub.completeRequest_reach _ _ _ q) x

end Stage

end Sys2Proof.Machine
end

