-- ==== Sys2Proof/Laws/ReachRail.lean ====
section
/-! SUPPORT. The rail controller's work on the hub is made of the moves of Laws/Hub, and it leaves the configuration and the pins alone: one lemma per operation. -/

namespace Sys2Proof.Machine

/-- What every rail operation keeps, from a deck `a`: the hub is reached by moves, and the configuration and pins are the same. -/
structure DeckReach (a d : Deck) : Prop where
  hub : HubReach a.hub d.hub
  config : d.config = a.config
  pins : d.pins = a.pins

theorem DeckReach.refl (a : Deck) : DeckReach a a := ⟨.refl _, rfl, rfl⟩

section Deck
variable {a d : Deck}

theorem Deck.onHub_reach {f : Hub → Hub} (one : ∀ b h, HubReach b h → HubReach b (f h)) (x : DeckReach a d) :
    DeckReach a (d.onHub f) := ⟨one _ _ x.hub, x.config, x.pins⟩

theorem Deck.onRail_reach {f : Rail → Rail} (x : DeckReach a d) : DeckReach a (d.onRail f) := ⟨x.hub, x.config, x.pins⟩

theorem Deck.sync_reach (x : DeckReach a d) : DeckReach a d.sync := ⟨x.hub, x.config, x.pins⟩

theorem Deck.note_reach (s e i : Nat) (x : DeckReach a d) : DeckReach a (d.note s e i) := by
  unfold Deck.note; exact Deck.onHub_reach (fun b h q => Hub.note_reach _ _ _ _ _ _ q) x

theorem Deck.beginReturn_reach (p : Profile) (x : DeckReach a d) : DeckReach a (d.beginReturn p) := by
  unfold Deck.beginReturn; exact Deck.onRail_reach x

theorem Deck.beginHoming_reach (p : Profile) (x : DeckReach a d) : DeckReach a (d.beginHoming p) := by
  unfold Deck.beginHoming; split
  · exact Deck.onRail_reach x
  · exact Deck.beginReturn_reach _ (Deck.onRail_reach x)

theorem Deck.setQuiet_reach (q : Bool) (x : DeckReach a d) : DeckReach a (d.setQuiet q) := by
  unfold Deck.setQuiet; split
  · exact x
  · exact Deck.onRail_reach x

theorem Deck.leaveGate_reach (x : DeckReach a d) : DeckReach a d.leaveGate := by
  unfold Deck.leaveGate; split
  · exact x
  · split
    · exact Deck.beginHoming_reach _ (Deck.onRail_reach x)
    · exact Deck.onRail_reach x

theorem Deck.enterGate_reach (x : DeckReach a d) : DeckReach a d.enterGate := by
  unfold Deck.enterGate
  extract_lets d1
  have y : DeckReach a d1 := Deck.onRail_reach x
  split
  · exact Deck.leaveGate_reach y
  · exact y

theorem Deck.activateCore_reach (m : MoveRequest) (x : DeckReach a d) : DeckReach a (d.activateCore m).1 := by
  unfold Deck.activateCore
  extract_lets target move d1
  have y : DeckReach a d1 := Deck.onRail_reach x
  clear_value d1
  split
  · split
    · dsimp only; exact Deck.onRail_reach y
    · exact y
  · split
    · exact Deck.enterGate_reach y
    · dsimp only; exact Deck.onRail_reach y

theorem Deck.endBasic_reach (c : StopCause) (x : DeckReach a d) : DeckReach a (d.endBasic c) := by
  unfold Deck.endBasic; split
  · exact x
  · exact Deck.onHub_reach (fun b h q => Hub.completeOptional_reach _ _ _ q)
      (Deck.onHub_reach (fun b h q => Hub.raise_reach _ q) (Deck.note_reach _ _ _ (Deck.sync_reach (Deck.onRail_reach x))))

theorem Deck.startNext_reach (n : Bool) (m : MoveRequest) (x : DeckReach a d) : DeckReach a (d.startNext n m) := by
  unfold Deck.startNext
  extract_lets d0 e d1
  have y : DeckReach a d0 := Deck.onRail_reach x
  split
  · exact Deck.onHub_reach (fun b h q => Hub.completeOptional_reach _ _ _ q) y
  · have z : DeckReach a d1 := by
      unfold d1; split
      · exact Deck.note_reach _ _ _ (Deck.activateCore_reach _ y)
      · exact Deck.activateCore_reach _ y
    split
    · exact Deck.endBasic_reach _ z
    · exact z

theorem Deck.endMove_reach (c : StopCause) (x : DeckReach a d) : DeckReach a (d.endMove c) := by
  unfold Deck.endMove
  extract_lets d1
  have y : DeckReach a d1 := Deck.endBasic_reach _ x
  clear_value d1
  split
  · exact y
  · split
    · split
      · exact Deck.startNext_reach _ _ y
      · exact y
    · exact Deck.onRail_reach y

theorem Deck.activate_reach (m : MoveRequest) (x : DeckReach a d) : DeckReach a (d.activate m) := by
  unfold Deck.activate
  extract_lets e
  split
  · exact Deck.endMove_reach _ (Deck.activateCore_reach _ x)
  · exact Deck.activateCore_reach _ x

theorem Deck.arrive_reach (x : DeckReach a d) : DeckReach a d.arrive := by
  unfold Deck.arrive; split
  · exact x
  · extract_lets d1 d2
    have y : DeckReach a d1 := Deck.onRail_reach x
    have z : DeckReach a d2 := Deck.onRail_reach y
    clear_value d2 d1
    split
    · split
      · exact Deck.endMove_reach _ z
      · exact z
    · exact Deck.endMove_reach _ y

theorem Deck.resume_reach (x : DeckReach a d) : DeckReach a d.resume := by
  unfold Deck.resume; split
  · exact x
  · extract_lets d1
    have y : DeckReach a d1 := Deck.note_reach _ _ _ x
    clear_value d1
    split
    · exact Deck.beginHoming_reach _ y
    · exact Deck.onRail_reach y

theorem Deck.comeToRest_reach (x : DeckReach a d) : DeckReach a d.comeToRest := by
  unfold Deck.comeToRest
  extract_lets d1
  have y : DeckReach a d1 := Deck.onRail_reach x
  clear_value d1
  split
  · exact Deck.endMove_reach _ y
  · split
    · exact y
    · split
      · exact Deck.arrive_reach y
      · split
        · exact Deck.endMove_reach _ y
        · split
          · exact Deck.resume_reach y
          · exact y

theorem Deck.decelerate_reach (x : DeckReach a d) : DeckReach a d.decelerate := by
  unfold Deck.decelerate; split
  · split
    · exact Deck.onRail_reach x
    · exact Deck.comeToRest_reach x
  · exact Deck.comeToRest_reach x

theorem Deck.launchNotice_reach (x : DeckReach a d) : DeckReach a d.launchNotice := by
  unfold Deck.launchNotice; split
  · exact Deck.decelerate_reach (Deck.onRail_reach (Deck.note_reach _ _ _ x))
  · exact x

theorem Deck.driverFaulted_reach (x : DeckReach a d) : DeckReach a d.driverFaulted := by
  unfold Deck.driverFaulted; split
  · exact Deck.endMove_reach _ x
  · exact Deck.onHub_reach (fun b h q => Hub.raise_reach _ q) (Deck.note_reach _ _ _ (Deck.onRail_reach x))

theorem Deck.afterPulse_reach (m : ActiveMove) (n : Motion) (x : DeckReach a d) : DeckReach a (d.afterPulse m n) := by
  unfold Deck.afterPulse
  extract_lets p now span setMotion
  have y : ∀ m', DeckReach a (setMotion m') := fun m' => Deck.onRail_reach x
  clear_value setMotion
  split
  · split
    · exact Deck.arrive_reach x
    · split
      · exact y _
      · exact x
  · split
    · exact Deck.comeToRest_reach x
    · exact x
  · split
    · exact Deck.endMove_reach _ x
    · exact x
  · split
    · exact Deck.beginReturn_reach _ x
    · exact y _
  · split
    · exact Deck.endMove_reach _ x
    · exact x
  · split
    · exact Deck.endMove_reach _ x
    · exact y _

theorem Deck.pulse_reach (n f : Bool) (x : DeckReach a d) : DeckReach a (d.pulse n f) := by
  unfold Deck.pulse; split
  · split
    · exact Deck.endMove_reach _ x
    · extract_lets d1
      have y : DeckReach a d1 := Deck.onRail_reach x
      clear_value d1
      split
      · exact Deck.endMove_reach _ y
      · split
        · exact Deck.afterPulse_reach _ _ y
        · exact y
  · exact x

theorem Deck.homeChanged_reach (n : Bool) (x : DeckReach a d) : DeckReach a (d.homeChanged n) := by
  unfold Deck.homeChanged; split
  · split
    · exact Deck.onRail_reach x
    · exact Deck.onRail_reach x
    · exact x
  · exact x

theorem Deck.index_reach (x : DeckReach a d) : DeckReach a d.index := by
  unfold Deck.index; split
  · exact x
  · split
    · exact x
    · split
      · split
        · unfold Deck.finishHome; exact Deck.endMove_reach _ (Deck.onRail_reach x)
        · exact Deck.onRail_reach x
      · split
        · exact Deck.endMove_reach _ x
        · exact Deck.onRail_reach x

theorem Deck.stopMove_reach (x : DeckReach a d) : DeckReach a d.stopMove := by
  unfold Deck.stopMove; split
  · split
    · exact x
    · exact Deck.decelerate_reach (Deck.onRail_reach x)
  · split
    · exact x
    · exact Deck.decelerate_reach (Deck.onRail_reach x)
  · extract_lets d1
    have y : DeckReach a d1 := Deck.onRail_reach x
    clear_value d1
    split
    · exact Deck.endMove_reach _ y
    · exact y
  · exact Deck.endMove_reach _ x
  · exact Deck.endMove_reach _ x
  · exact x

theorem Deck.discardNext_reach (x : DeckReach a d) : DeckReach a d.discardNext := by
  unfold Deck.discardNext; split
  · exact x
  · exact Deck.onHub_reach (fun b h q => Hub.completeOptional_reach _ _ _ q) (Deck.onRail_reach x)

theorem Deck.toggle_reach (x : DeckReach a d) : DeckReach a d.toggle := by
  unfold Deck.toggle; split
  · exact Deck.activate_reach _ x
  · exact x

theorem Deck.quietReached_reach (x : DeckReach a d) : DeckReach a d.quietReached := by
  unfold Deck.quietReached; split
  · exact Deck.leaveGate_reach x
  · split
    · exact Deck.resume_reach x
    · exact x
  · exact x

theorem Deck.driverSettled_reach (x : DeckReach a d) : DeckReach a d.driverSettled := by
  unfold Deck.driverSettled
  extract_lets d1
  have y : DeckReach a d1 := Deck.onRail_reach x
  clear_value d1
  split
  · exact Deck.driverFaulted_reach y
  · exact y

theorem Deck.pauseEnds_reach (x : DeckReach a d) : DeckReach a d.pauseEnds := by
  unfold Deck.pauseEnds; split
  · exact Deck.endMove_reach _ x
  · exact Deck.onRail_reach x

theorem Deck.seatedAccepted_reach (x : DeckReach a d) : DeckReach a d.seatedAccepted := by
  unfold Deck.seatedAccepted
  extract_lets level d1
  have y : DeckReach a d1 := Deck.onRail_reach x
  clear_value d1
  split
  · split
    · exact Deck.note_reach _ _ _ y
    · exact Deck.onHub_reach (fun b h q => Hub.raise_reach _ q) (Deck.note_reach _ _ _ y)
  · split
    · exact Deck.endMove_reach _ y
    · exact y

theorem Deck.discardIf_reach (b : List Byte) (x : DeckReach a d) : DeckReach a (d.discardIf b) := by
  unfold Deck.discardIf; split
  · exact Deck.discardNext_reach x
  · exact x

end Deck

/-! ### The lamp (R125) -/

/-- After a rail operation the lamp shows what the rail and the configuration ask for. -/
theorem State.mapDeck_lampFollows (f : Deck → Deck) (s : State) (config : (f s.deck).config = s.railConfig) :
    LampFollows (s.mapDeck f) := by
  have shown : (s.mapDeck f).lamp.shown = wantedPattern (s.mapDeck f).railConfig (s.mapDeck f).rail
      ((s.mapDeck f).hub.attach == .standby || (s.mapDeck f).hub.attach == .woken) (f s.deck).lamp.shown := by
    rw [State.mapDeck_lamp, State.mapDeck_railConfig, State.mapDeck_rail, State.mapDeck_hub, ← config]
    simp only [Deck.sync, Lamp.showPattern]
    split
    · next h => exact h.symm
    · rfl
  generalize s.mapDeck f = t at shown ⊢
  constructor
  · intro _ asleep
    have h : (t.hub.attach == .standby || t.hub.attach == .woken) = true := by simpa using asleep
    rw [shown, h]
    exact ⟨fun choice => by simp [wantedPattern, choice], fun choice => by simp [wantedPattern, choice]⟩
  · intro _ standby woken p mode
    rw [shown]
    simp [wantedPattern, standby, woken, mode]
  · intro _ standby woken mode
    rw [shown]
    refine ⟨fun state => ?_, fun state => ?_, fun state => ?_⟩
    · simp only [List.mem_cons, List.not_mem_nil, or_false] at state
      rcases state with state | state | state | state | state <;> simp [wantedPattern, autoPattern, standby, woken, mode, state]
    · simp only [List.mem_cons, List.not_mem_nil, or_false] at state
      rcases state with state | state <;> simp [wantedPattern, autoPattern, standby, woken, mode, state]
    · by_cases silent : t.rail.position = t.railConfig.silent ∧ t.rail.seated = true
      · simp [wantedPattern, autoPattern, positionClass, standby, woken, mode, state, silent]
      · by_cases clear : t.rail.position < t.railConfig.crossStart
        · simp [wantedPattern, autoPattern, positionClass, standby, woken, mode, state, silent, clear]
        · by_cases crossing : t.rail.position ≤ t.railConfig.crossEnd <;>
            simp [wantedPattern, autoPattern, positionClass, standby, woken, mode, state, silent, clear, crossing]

/-- What the lamp follows: a state that agrees with one in which it follows the rail agrees in that too. -/
theorem LampFollows.congr {s t : State} (x : LampFollows s) (held : t.resetHeld = s.resetHeld) (attach : t.hub.attach = s.hub.attach)
    (config : t.railConfig = s.railConfig) (rail : t.rail = s.rail) (lamp : t.lamp.shown = s.lamp.shown) : LampFollows t := by
  obtain ⟨a, b, c⟩ := x
  constructor <;> rw [held, attach, config, lamp]
  · exact a
  · exact b
  · rw [rail]; exact c

end Sys2Proof.Machine
end

