-- ==== Sys2Proof/Laws/Work.lean ====
section
/-! SUPPORT. What the operations on the whole state can do, each said once: the pieces they may change, and that their work on the hub is made of the moves of Laws/Hub. -/

namespace Sys2Proof.Machine

/-- From `a` to `s` the queue is unchanged, every piece outside `l` is unchanged, and the hub is reached by moves. -/
structure Work (l : List Piece) (a s : State) : Prop where
  pending : s.pending = a.pending
  same : ∀ p, p ∉ l → p.same a s
  reach : HubReach a.hub s.hub

theorem Piece.same_refl (s : State) (p : Piece) : p.same s s := by cases p <;> first | rfl | exact ⟨rfl, rfl⟩

theorem Piece.same_trans {s t u : State} {p : Piece} (x : p.same s t) (y : p.same t u) : p.same s u := by
  cases p <;> first
    | exact Eq.trans y x
    | exact ⟨y.1.trans x.1, y.2.trans x.2⟩

theorem Work.refl (l : List Piece) (s : State) : Work l s s := ⟨rfl, fun p _ => p.same_refl s, .refl _⟩

theorem Work.trans {l : List Piece} {a s t : State} (x : Work l a s) (y : Work l s t) : Work l a t :=
  ⟨y.pending.trans x.pending, fun p h => Piece.same_trans (x.same p h) (y.same p h), x.reach.trans y.reach⟩

theorem Work.mono {l m : List Piece} {a s : State} (sub : l ⊆ m) (x : Work l a s) : Work m a s :=
  ⟨x.pending, fun p h => x.same p fun q => h (sub q), x.reach⟩

theorem Work.foldl {α : Type} {l : List Piece} {a : State} {f : State → α → State}
    (one : ∀ s b, Work l a s → Work l a (f s b)) (xs : List α) {s : State} (x : Work l a s) : Work l a (xs.foldl f s) := by
  induction xs generalizing s with
  | nil => exact x
  | cons b xs ih => exact ih (one s b x)

section
variable {l : List Piece} {a s : State}

/-- A state that differs from `s` in named pieces and keeps the hub. -/
theorem Work.put {t : State} (x : Work l a s) (m : List Piece) (sub : m ⊆ l) (pending : t.pending = s.pending)
    (hub : t.hub = s.hub) (same : ∀ p, p ∉ m → p.same s t) : Work l a t :=
  x.trans (Work.mono sub ⟨pending, same, hub ▸ .refl _⟩)

/-! ### The lifts -/

theorem State.mapHub_work {f : Hub → Hub} (sub : [.hub] ⊆ l) (one : ∀ b h, HubReach b h → HubReach b (f h))
    (x : Work l a s) : Work l a (s.mapHub f) :=
  x.trans (Work.mono sub ⟨rfl, fun p h => by cases p <;> first | exact absurd (by decide) h | rfl | exact ⟨rfl, rfl⟩,
    one _ _ (.refl _)⟩)

theorem State.mapVoice_work {f : Engine → Engine} (sub : [.hub, .voice] ⊆ l)
    (one : ∀ b (e : Engine), HubReach b e.1 → HubReach b (f e).1) (x : Work l a s) : Work l a (s.mapVoice f) :=
  x.trans (Work.mono sub ⟨rfl, fun p h => by cases p <;> first | exact absurd (by decide) h | rfl | exact ⟨rfl, rfl⟩,
    one _ _ (.refl _)⟩)

theorem State.updateVoice_work {f : VoiceEngine → VoiceEngine} (sub : [.voice] ⊆ l) (x : Work l a s) :
    Work l a (s.updateVoice f) :=
  x.trans (Work.mono sub ⟨rfl, fun p h => by cases p <;> first | exact absurd (by decide) h | rfl | exact ⟨rfl, rfl⟩, .refl _⟩)

theorem State.mapMetronome_work {f : Beater → Beater} (sub : [.hub, .metronome] ⊆ l)
    (one : ∀ b (e : Beater), HubReach b e.1 → HubReach b (f e).1) (x : Work l a s) : Work l a (s.mapMetronome f) :=
  x.trans (Work.mono sub ⟨rfl, fun p h => by cases p <;> first | exact absurd (by decide) h | rfl | exact ⟨rfl, rfl⟩,
    one _ _ (.refl _)⟩)

theorem State.mapRecorder_work {f : Desk → Desk} (sub : [.hub, .recorder] ⊆ l)
    (one : ∀ b (e : Desk), HubReach b e.1 → HubReach b (f e).1) (x : Work l a s) : Work l a (s.mapRecorder f) :=
  x.trans (Work.mono sub ⟨rfl, fun p h => by cases p <;> first | exact absurd (by decide) h | rfl | exact ⟨rfl, rfl⟩,
    one _ _ (.refl _)⟩)

theorem State.mapStage_work {f : Stage → Stage} (sub : playPieces ⊆ l)
    (one : ∀ b (p : Stage), HubReach b p.hub → HubReach b (f p).hub) (x : Work l a s) : Work l a (s.mapStage f) :=
  x.trans (Work.mono sub ⟨rfl, fun p h => by cases p <;> first | exact absurd (by decide) h | rfl | exact ⟨rfl, rfl⟩,
    one _ _ (.refl _)⟩)

theorem State.mapDeck_work {f : Deck → Deck} (sub : railPieces ⊆ l) (one : ∀ b d, DeckReach b d → DeckReach b (f d))
    (x : Work l a s) : Work l a (s.mapDeck f) :=
  x.trans (Work.mono sub ⟨rfl, fun p h => by cases p <;> first | exact absurd (by decide) h | rfl | exact ⟨rfl, rfl⟩,
    (one s.deck s.deck (.refl _)).hub⟩)

theorem State.whenUp_work {f : State → State} (one : Work l a s → Work l a (f s)) (x : Work l a s) : Work l a (s.whenUp f) := by
  unfold State.whenUp
  split
  · exact one x
  · exact x

/-! ### Output block and metronome -/

theorem State.metronomeToggle_work (sub : [.hub, .metronome] ⊆ l) (x : Work l a s) : Work l a s.metronomeToggle := by
  unfold State.metronomeToggle
  exact State.mapMetronome_work sub (fun b e q => Beater.toggle_reach _ _ q) x

theorem State.samplePeriod_work (x : Work l a s) (sub : [.hub, .voice, .metronome, .output] ⊆ l) :
    Work l a s.samplePeriod := by
  have r : HubReach s.hub (Engine.period (s.hub, s.voice)).1.1 := Engine.period_reach (e := (s.hub, s.voice)) (.refl _)
  unfold State.samplePeriod
  generalize Engine.period (s.hub, s.voice) = q at r
  refine x.trans (Work.mono sub ⟨rfl, fun p h => ?_, r⟩)
  cases p <;> first | exact absurd (by decide) h | rfl | exact ⟨rfl, rfl⟩

/-! ### The key tracker -/

theorem State.setKey_work (k : Fin 88) (key : Key) (sub : [.keys] ⊆ l) (x : Work l a s) : Work l a (s.setKey k key) :=
  x.put [.keys] sub rfl rfl
    (fun p h => by cases p <;> first | exact absurd (by decide) h | rfl | exact ⟨rfl, rfl⟩)

theorem State.noteDown_work (k : Fin 88) (v : Nat) (r : Bool) (sub : .recorder :: playPieces ⊆ l) (x : Work l a s) :
    Work l a (s.noteDown k v r) := by
  unfold State.noteDown
  refine State.mapStage_work (List.Subset.trans (by decide) sub) (fun b p q => Stage.liveStrike_reach _ q) ?_
  refine State.mapRecorder_work (List.Subset.trans (by decide) sub) (fun b p q => Desk.keyDown_reach _ _ _ _ q) ?_
  refine State.mapHub_work (List.Subset.trans (by decide) sub) (fun b p q => Hub.note_reach _ _ _ _ _ _ q) ?_
  exact State.mapVoice_work (List.Subset.trans (by decide) sub) (fun b p q => Engine.noteOn_reach _ _ _ q) x

theorem State.noteUp_work (k : Fin 88) (v w : Nat) (f : Bool) (sub : [.hub, .voice, .recorder] ⊆ l) (x : Work l a s) :
    Work l a (s.noteUp k v w f) := by
  unfold State.noteUp
  refine State.mapRecorder_work (List.Subset.trans (by decide) sub) (fun b p q => Desk.keyUp_reach _ _ _ q) ?_
  refine State.mapHub_work (List.Subset.trans (by decide) sub) (fun b p q => Hub.note_reach _ _ _ _ _ _ q) ?_
  exact State.updateVoice_work (List.Subset.trans (by decide) sub) x

theorem State.handEvent_work (k : Fin 88) (e : KeyEvent) (sub : .recorder :: .rail :: .lamp :: playPieces ⊆ l)
    (x : Work l a s) : Work l a (s.handEvent k e) := by
  unfold State.handEvent; split
  · exact State.noteDown_work _ _ _ (List.Subset.trans (by decide) sub) x
  · exact State.noteUp_work _ _ _ _ (List.Subset.trans (by decide) sub) x
  · exact State.mapDeck_work (List.Subset.trans (by decide) sub) (fun b d q => Deck.launchNotice_reach q) x

theorem State.trackKey_work (k : Fin 88) (r h : Nat) (sub : .keys :: .recorder :: .rail :: .lamp :: playPieces ⊆ l)
    (x : Work l a s) : Work l a (s.trackKey k r h) := by
  unfold State.trackKey
  exact Work.foldl (fun s e y => State.handEvent_work k e (List.Subset.trans (by decide) sub) y) _
    (State.setKey_work _ _ (List.Subset.trans (by decide) sub) x)

theorem State.reevalQuiet_work (sub : railPieces ⊆ l) (x : Work l a s) : Work l a s.reevalQuiet := by
  unfold State.reevalQuiet
  exact State.mapDeck_work sub (fun b d q => Deck.setQuiet_reach _ q) x

theorem State.keyFrame_work (n : Fin 8) (r : List Nat) (sub : .keys :: .recorder :: .rail :: .lamp :: playPieces ⊆ l)
    (x : Work l a s) : Work l a (s.keyFrame n r) := by
  unfold State.keyFrame
  exact State.reevalQuiet_work (List.Subset.trans (by decide) sub)
    (Work.foldl (fun s j y => State.trackKey_work _ _ _ sub y) _ x)

theorem State.forceKey_work (k : Fin 88) (key : Key) (sub : [.keys, .hub, .voice, .recorder] ⊆ l) (x : Work l a s) :
    Work l a (s.forceKey k key) := by
  unfold State.forceKey
  have y : Work l a (s.setKey k key) := State.setKey_work k key (List.Subset.trans (by decide) sub) x
  dsimp only
  split
  · exact State.noteUp_work _ _ _ _ (List.Subset.trans (by decide) sub) y
  · exact y

theorem State.setCapture_work (ks : List (Fin 88)) (sub : [.pedals, .voice] ⊆ l) (x : Work l a s) :
    Work l a (s.setCapture ks) :=
  x.put [.pedals, .voice] sub rfl rfl
    (fun p h => by cases p <;> first | exact absurd (by decide) h | rfl | exact ⟨rfl, rfl⟩)

theorem State.loseKey_work (k : Fin 88) (sub : [.keys, .pedals, .hub, .voice, .recorder] ⊆ l) (x : Work l a s) :
    Work l a (s.loseKey k) := by
  unfold State.loseKey
  extract_lets old closed s1
  have y : Work l a s1 := State.forceKey_work _ _ (List.Subset.trans (by decide) sub) x
  clear_value s1
  split
  · unfold State.uncapture; split
    · exact State.setCapture_work _ (List.Subset.trans (by decide) sub) y
    · exact y
  · exact y

theorem State.keyLaneLost_work (n : Fin 8) (sub : [.keys, .pedals, .hub, .voice, .recorder, .rail, .lamp] ⊆ l)
    (x : Work l a s) : Work l a (s.keyLaneLost n) := by
  unfold State.keyLaneLost
  exact State.reevalQuiet_work (List.Subset.trans (by decide) sub)
    (Work.foldl (fun s j y => State.loseKey_work _ (List.Subset.trans (by decide) sub) y) _ x)

theorem State.keyLaneUp_work (n : Fin 8) (sub : .keys :: railPieces ⊆ l) (x : Work l a s) : Work l a (s.keyLaneUp n) := by
  unfold State.keyLaneUp
  refine State.reevalQuiet_work (List.Subset.trans (by decide) sub) (Work.foldl (fun s j y => ?_) _ x)
  dsimp only; split
  · exact y
  · exact State.setKey_work _ _ (List.Subset.trans (by decide) sub) y

theorem State.maskKey_work (k : Fin 88) (m : Bool) (sub : [.keys, .hub, .voice, .recorder] ⊆ l) (x : Work l a s) :
    Work l a (s.maskKey k m) := by
  unfold State.maskKey; dsimp only; split
  · exact x
  · split
    · exact State.forceKey_work _ _ sub x
    · exact State.setKey_work _ _ (List.Subset.trans (by decide) sub) x

theorem State.openKey_work (k : Fin 88) (sub : [.keys, .hub, .voice, .recorder] ⊆ l) (x : Work l a s) :
    Work l a (s.openKey k) := by
  unfold State.openKey; dsimp only; split
  · exact x
  · exact State.forceKey_work _ _ sub x

theorem State.openWindow_work (w : CalibWindow) (sub : [.keys, .tracker, .hub, .voice, .recorder] ⊆ l) (x : Work l a s) :
    Work l a (s.openWindow w) := by
  unfold State.openWindow
  extract_lets s1
  have y : Work l a s1 := Work.foldl (fun s k y => State.openKey_work _ (List.Subset.trans (by decide) sub) y) _ x
  clear_value s1
  refine State.mapHub_work (List.Subset.trans (by decide) sub) (fun b h q => Hub.note_reach _ _ _ _ _ _ q) ?_
  exact y.put [.tracker] (List.Subset.trans (by decide) sub) rfl rfl
    (fun p h => by cases p <;> first | exact absurd (by decide) h | rfl | exact ⟨rfl, rfl⟩)

theorem State.finishWindow_work (w : CalibWindow) (sub : [.calibration, .keys, .tracker, .hub, .rail, .lamp, .voice] ⊆ l)
    (x : Work l a s) : Work l a (s.finishWindow w) := by
  unfold State.finishWindow
  refine State.reevalQuiet_work (List.Subset.trans (by decide) sub) ?_
  refine State.mapHub_work (List.Subset.trans (by decide) sub) (fun b h q => ?_) ?_
  · exact Hub.raise_reach _ (Hub.note_reach _ _ _ _ _ _ (Hub.completeRequest_reach _ _ _ (Hub.post_reach _ _ _ q)))
  · exact x.put [.calibration, .keys, .tracker] (List.Subset.trans (by decide) sub) rfl rfl
      (fun p h => by cases p <;> first | exact absurd (by decide) h | rfl | exact ⟨rfl, rfl⟩)

theorem State.abortWindow_work (w : CalibWindow) (sub : [.keys, .tracker, .hub] ⊆ l) (x : Work l a s) :
    Work l a (s.abortWindow w) := by
  unfold State.abortWindow
  refine State.mapHub_work (List.Subset.trans (by decide) sub) (fun b h q => ?_) ?_
  · exact Hub.raise_reach _ (Hub.note_reach _ _ _ _ _ _ (Hub.completeRequest_reach _ _ _ q))
  · exact x.put [.keys, .tracker] (List.Subset.trans (by decide) sub) rfl rfl
      (fun p h => by cases p <;> first | exact absurd (by decide) h | rfl | exact ⟨rfl, rfl⟩)

theorem State.startTableLoad_work (slot : Fin 32) (c : Bool) (ad : Word64) (sub : [.tracker, .hub] ⊆ l) (x : Work l a s) :
    Work l a (s.startTableLoad slot c ad) := by
  unfold State.startTableLoad
  refine State.mapHub_work (List.Subset.trans (by decide) sub) (fun b h q => ?_) ?_
  · dsimp only; split
    · exact Hub.requestRead_reach _ _ _ _ (Hub.requestRead_reach _ _ _ _ (Hub.requestRead_reach _ _ _ _
        (Hub.requestRead_reach _ _ _ _ q)))
    · exact Hub.requestRead_reach _ _ _ _ q
  · exact x.put [.tracker] (List.Subset.trans (by decide) sub) rfl rfl
      (fun p h => by cases p <;> first | exact absurd (by decide) h | rfl | exact ⟨rfl, rfl⟩)

theorem State.endTableLoad_work (slot : Fin 32) (c : ResultCode) (d : List Byte) (sub : [.tracker, .hub] ⊆ l)
    (x : Work l a s) : Work l a (s.endTableLoad slot c d) := by
  unfold State.endTableLoad
  refine State.mapHub_work (List.Subset.trans (by decide) sub) (fun b h q => Hub.completeRequest_reach _ _ _ q) ?_
  exact x.put [.tracker] (List.Subset.trans (by decide) sub) rfl rfl
    (fun p h => by cases p <;> first | exact absurd (by decide) h | rfl | exact ⟨rfl, rfl⟩)

theorem State.applyCurve_work (slot : Fin 32) (t : List Byte) (sub : [.tracker, .hub, .curve] ⊆ l) (x : Work l a s) :
    Work l a (s.applyCurve slot t) := by
  unfold State.applyCurve; split
  · exact State.endTableLoad_work _ _ _ (List.Subset.trans (by decide) sub) x
  · refine State.endTableLoad_work _ _ _ (List.Subset.trans (by decide) sub) ?_
    exact x.put [.curve] (List.Subset.trans (by decide) sub) rfl rfl
      (fun p h => by cases p <;> first | exact absurd (by decide) h | rfl | exact ⟨rfl, rfl⟩)

theorem State.reloadKey_work (k : Fin 88) (sub : [.keys, .hub, .voice, .recorder] ⊆ l) (x : Work l a s) :
    Work l a (s.reloadKey k) := by
  unfold State.reloadKey; dsimp only
  split
  · exact State.setKey_work _ _ (List.Subset.trans (by decide) sub) x
  · exact State.forceKey_work _ _ sub x

theorem State.applyCalib_work (slot : Fin 32) (t : List Byte)
    (sub : [.tracker, .hub, .calibration, .keys, .voice, .recorder, .rail, .lamp] ⊆ l) (x : Work l a s) :
    Work l a (s.applyCalib slot t) := by
  unfold State.applyCalib
  extract_lets record
  split
  · exact State.endTableLoad_work _ _ _ (List.Subset.trans (by decide) sub) x
  · refine State.endTableLoad_work _ _ _ (List.Subset.trans (by decide) sub) ?_
    refine State.reevalQuiet_work (List.Subset.trans (by decide) sub) ?_
    refine State.mapHub_work (List.Subset.trans (by decide) sub) (fun b h q => Hub.note_reach _ _ _ _ _ _ q) ?_
    refine Work.foldl (fun s k y => State.reloadKey_work _ (List.Subset.trans (by decide) sub) y) _ ?_
    exact x.put [.calibration] (List.Subset.trans (by decide) sub) rfl rfl
      (fun p h => by cases p <;> first | exact absurd (by decide) h | rfl | exact ⟨rfl, rfl⟩)

theorem State.tableRead_work (t : ReadTag) (b : Option (List Byte))
    (sub : [.tracker, .hub, .curve, .calibration, .keys, .voice, .recorder, .rail, .lamp] ⊆ l) (x : Work l a s) :
    Work l a (s.tableRead t b) := by
  unfold State.tableRead; split
  · split
    · refine State.endTableLoad_work _ _ _ (List.Subset.trans (by decide) sub) ?_
      exact State.mapHub_work (List.Subset.trans (by decide) sub) (fun b h q => Hub.dropReads_reach _ q) x
    · dsimp only; split
      · exact x.put [.tracker] (List.Subset.trans (by decide) sub) rfl rfl
          (fun p h => by cases p <;> first | exact absurd (by decide) h | rfl | exact ⟨rfl, rfl⟩)
      · split
        · exact State.applyCalib_work _ _ (List.Subset.trans (by decide) sub) x
        · exact State.applyCurve_work _ _ (List.Subset.trans (by decide) sub) x
  · exact x

/-- A table read that fails ends the load and touches nothing else. -/
theorem State.tableRead_none_work (t : ReadTag) (sub : [.tracker, .hub] ⊆ l) (x : Work l a s) :
    Work l a (s.tableRead t none) := by
  unfold State.tableRead; split
  · refine State.endTableLoad_work _ _ _ sub ?_
    exact State.mapHub_work (List.Subset.trans (by decide) sub) (fun b h q => Hub.dropReads_reach _ q) x
  · exact x

theorem State.trackerDetach_work (sub : [.keys, .tracker, .hub] ⊆ l) (x : Work l a s) : Work l a s.trackerDetach :=
  x.trans (Work.mono sub ⟨rfl, fun p h => by cases p <;> first | exact absurd (by decide) h | rfl | exact ⟨rfl, rfl⟩,
    Hub.dropReads_reach _ (.refl _)⟩)

theorem State.setLeds_work (b : List Byte) (sub : [.lanes] ⊆ l) (x : Work l a s) : Work l a (s.setLeds b) :=
  x.put [.lanes] sub rfl rfl
    (fun p h => by cases p <;> first | exact absurd (by decide) h | rfl | exact ⟨rfl, rfl⟩)

/-! ### The pedal and input block -/

theorem State.pedalEvent_work (p : Fin 3) (v d : Nat) (f : Bool) (sub : [.hub, .recorder] ⊆ l) (x : Work l a s) :
    Work l a (s.pedalEvent p v d f) := by
  unfold State.pedalEvent
  refine State.mapRecorder_work sub (fun b p q => Desk.pedal_reach _ _ _ q) ?_
  exact State.mapHub_work (List.Subset.trans (by decide) sub) (fun b p q => Hub.note_reach _ _ _ _ _ _ q) x

theorem State.emitPedal_work (p : Fin 3) (c b : Bool) (sub : [.pedals, .hub, .recorder] ⊆ l) (x : Work l a s) :
    Work l a (s.emitPedal p c b) := by
  unfold State.emitPedal; dsimp only; split
  · refine State.pedalEvent_work _ _ _ _ (List.Subset.trans (by decide) sub) ?_
    exact x.put [.pedals] (List.Subset.trans (by decide) sub) rfl rfl
      (fun p h => by cases p <;> first | exact absurd (by decide) h | rfl | exact ⟨rfl, rfl⟩)
  · exact x

theorem State.pedalFrame_work (r : List Nat) (sub : [.pedals, .hub, .voice, .recorder] ⊆ l) (x : Work l a s) :
    Work l a (s.pedalFrame r) := by
  unfold State.pedalFrame
  extract_lets level sost soft sc fc old s1 s2 s3
  have y1 : Work l a s1 := x.put [.pedals, .voice] (List.Subset.trans (by decide) sub) rfl rfl
    (fun p h => by cases p <;> first | exact absurd (by decide) h | rfl | exact ⟨rfl, rfl⟩)
  have y2 : Work l a s2 := by
    unfold s2; split
    · exact State.setCapture_work _ (List.Subset.trans (by decide) sub) y1
    · exact y1
  have y3 : Work l a s3 := by
    unfold s3; split
    · exact State.updateVoice_work (List.Subset.trans (by decide) sub) y2
    · exact y2
  exact State.emitPedal_work _ _ _ (List.Subset.trans (by decide) sub) (State.emitPedal_work _ _ _
    (List.Subset.trans (by decide) sub) (State.emitPedal_work _ _ _ (List.Subset.trans (by decide) sub) y3))

theorem State.pedalLaneLost_work (sub : [.pedals, .hub, .voice, .recorder] ⊆ l) (x : Work l a s) :
    Work l a s.pedalLaneLost := by
  unfold State.pedalLaneLost
  refine State.pedalEvent_work _ _ _ _ (List.Subset.trans (by decide) sub) (State.pedalEvent_work _ _ _ _
    (List.Subset.trans (by decide) sub) (State.pedalEvent_work _ _ _ _ (List.Subset.trans (by decide) sub) ?_))
  exact x.put [.pedals, .voice] (List.Subset.trans (by decide) sub) rfl rfl
    (fun p h => by cases p <;> first | exact absurd (by decide) h | rfl | exact ⟨rfl, rfl⟩)

theorem State.pedalLaneUp_work (sub : [.pedals] ⊆ l) (x : Work l a s) : Work l a s.pedalLaneUp :=
  x.put [.pedals] sub rfl rfl
    (fun p h => by cases p <;> first | exact absurd (by decide) h | rfl | exact ⟨rfl, rfl⟩)

theorem State.switchAction_work (c : SwitchAction)
    (sub : [.hub, .voice, .metronome, .player, .recorder, .rail, .lamp] ⊆ l) (x : Work l a s) :
    Work l a (s.switchAction c).1 := by
  unfold State.switchAction; split
  · exact x
  · split
    · exact x
    · split
      · split
        · exact State.mapStage_work (List.Subset.trans (by decide) sub) (fun b p q => Stage.toggle_reach q) x
        · exact x
      · exact State.metronomeToggle_work (List.Subset.trans (by decide) sub) x
      · split
        · exact State.mapRecorder_work (List.Subset.trans (by decide) sub) (fun b p q => Desk.mark_reach _ q) x
        · exact x
      · split
        · exact State.mapDeck_work (List.Subset.trans (by decide) sub) (fun b p q => Deck.toggle_reach q) x
        · exact x
      · exact x

theorem State.switchEdge_work (i : Fin 2) (high : Bool)
    (sub : [.hub, .voice, .metronome, .player, .recorder, .rail, .lamp] ⊆ l) (x : Work l a s) :
    Work l a (s.switchEdge i high) := by
  unfold State.switchEdge
  exact State.mapHub_work (List.Subset.trans (by decide) sub) (fun b p q => Hub.note_reach _ _ _ _ _ _ q)
    (State.switchAction_work _ sub x)

theorem State.acceptSwitch_work (i : Fin 2) (sub : switchPieces ⊆ l) (x : Work l a s) : Work l a (s.acceptSwitch i) := by
  unfold State.acceptSwitch
  extract_lets stage high s1
  have y : Work l a s1 := x.put [.switches] (List.Subset.trans (by decide) sub) rfl rfl
    (fun p h => by cases p <;> first | exact absurd (by decide) h | rfl | exact ⟨rfl, rfl⟩)
  clear_value s1
  split
  · split
    · split
      · exact y.put [.standby] (List.Subset.trans (by decide) sub) rfl rfl
          (fun p h => by cases p <;> first | exact absurd (by decide) h | rfl | exact ⟨rfl, rfl⟩)
      · exact y
    · split
      · exact State.switchEdge_work _ _ (List.Subset.trans (by decide) sub) y
      · exact y
  · exact y

theorem State.acceptHeld_work (i : Fin 2) (sub : switchPieces ⊆ l) (x : Work l a s) : Work l a (s.acceptHeld i) := by
  unfold State.acceptHeld; split
  · exact State.acceptSwitch_work _ sub x
  · exact x

theorem State.acceptJack_work (sub : [.jack, .output, .hub] ⊆ l) (x : Work l a s) : Work l a s.acceptJack := by
  unfold State.acceptJack
  extract_lets ins out s1
  have y : Work l a s1 := x.put [.jack, .output] (List.Subset.trans (by decide) sub) rfl rfl
    (fun p h => by cases p <;> first | exact absurd (by decide) h | rfl | exact ⟨rfl, rfl⟩)
  clear_value s1
  split
  · exact y
  · exact State.mapHub_work (List.Subset.trans (by decide) sub) (fun b p q => Hub.note_reach _ _ _ _ _ _ q) y

theorem State.setSwitch_work (i : Fin 2) (n : Nat) (sub : [.switches, .actions] ⊆ l) (x : Work l a s) :
    Work l a (s.setSwitch i n) := by
  unfold State.setSwitch; split
  · exact x
  · exact x.put [.switches, .actions] sub rfl rfl
      (fun p h => by cases p <;> first | exact absurd (by decide) h | rfl | exact ⟨rfl, rfl⟩)

theorem State.setPedals_work (v : PedalSettings) (sub : [.pedalSettings, .voice] ⊆ l) (x : Work l a s) :
    Work l a (s.setPedals v) :=
  x.put [.pedalSettings, .voice] sub rfl rfl
    (fun p h => by cases p <;> first | exact absurd (by decide) h | rfl | exact ⟨rfl, rfl⟩)

/-! ### The lane controller -/

theorem State.setLane_work (n : Fin 9) (v : Lane) (sub : [.lanes] ⊆ l) (x : Work l a s) : Work l a (s.setLane n v) :=
  x.put [.lanes] sub rfl rfl
    (fun p h => by cases p <;> first | exact absurd (by decide) h | rfl | exact ⟨rfl, rfl⟩)

theorem State.laneLost_work (n : Fin 9) (sub : lanePieces ⊆ l) (x : Work l a s) : Work l a (s.laneLost n) := by
  unfold State.laneLost; split
  · exact State.keyLaneLost_work _ (List.Subset.trans (by decide) sub) x
  · exact State.pedalLaneLost_work (List.Subset.trans (by decide) sub) x

theorem State.laneUp_work (n : Fin 9) (sub : lanePieces ⊆ l) (x : Work l a s) : Work l a (s.laneUp n) := by
  unfold State.laneUp; split
  · exact State.keyLaneUp_work _ (List.Subset.trans (by decide) sub) x
  · exact State.pedalLaneUp_work (List.Subset.trans (by decide) sub) x

theorem State.laneReadings_work (n : Fin 9) (r : List Nat) (sub : .player :: .metronome :: lanePieces ⊆ l) (x : Work l a s) :
    Work l a (s.laneReadings n r) := by
  unfold State.laneReadings; split
  · exact State.keyFrame_work _ _ (List.Subset.trans (by decide) sub) x
  · exact State.pedalFrame_work _ (List.Subset.trans (by decide) sub) x

theorem State.noteLane_work (n : Fin 9) (d : LaneDetail) (sub : [.hub] ⊆ l) (x : Work l a s) : Work l a (s.noteLane n d) := by
  unfold State.noteLane
  refine State.mapHub_work sub (fun b h q => ?_) x
  dsimp only; split
  · exact Hub.raise_reach _ (Hub.note_reach _ _ _ _ _ _ q)
  · exact Hub.note_reach _ _ _ _ _ _ q

theorem State.changeLane_work (n : Fin 9) (v : Lane) (d : LaneDetail) (sub : lanePieces ⊆ l) (x : Work l a s) :
    Work l a (s.changeLane n v d) := by
  unfold State.changeLane
  extract_lets lost s1
  have y : Work l a s1 := by
    unfold s1; split
    · exact State.laneLost_work _ sub x
    · exact x
  exact State.noteLane_work _ _ (List.Subset.trans (by decide) sub)
    (State.reevalQuiet_work (List.Subset.trans (by decide) sub)
      (State.setLane_work _ _ (List.Subset.trans (by decide) sub) y))

theorem State.enterRecovering_work (n : Fin 9) (d : LaneDetail) (sub : lanePieces ⊆ l) (x : Work l a s) :
    Work l a (s.enterRecovering n d) := by
  unfold State.enterRecovering; dsimp only; split
  · exact State.changeLane_work _ _ _ sub x
  · split
    · exact State.changeLane_work _ _ _ sub x
    · exact State.changeLane_work _ _ _ sub x

theorem State.stepFails_work (n : Fin 9) (sub : lanePieces ⊆ l) (x : Work l a s) : Work l a (s.stepFails n) := by
  unfold State.stepFails; dsimp only; split
  · exact State.changeLane_work _ _ _ sub x
  · exact State.enterRecovering_work _ _ sub x
  · exact x

theorem State.exchangeSucceeds_work (n : Fin 9) (e : LaneExchange) (v : Word16) (sub : lanePieces ⊆ l) (x : Work l a s) :
    Work l a (s.exchangeSucceeds n e v) := by
  have set : ∀ v, Work l a (s.setLane n v) := fun v => State.setLane_work n v (List.Subset.trans (by decide) sub) x
  unfold State.exchangeSucceeds; dsimp only; split
  · split
    · exact set _
    · exact State.changeLane_work _ _ _ sub x
    · exact State.stepFails_work _ sub (set _)
  · exact set _
  · split
    · exact set _
    · split
      · exact State.stepFails_work _ sub x
      · exact set _
  · exact set _
  · exact x

theorem State.exchangeFails_work (n : Fin 9) (e : LaneExchange) (sub : lanePieces ⊆ l) (x : Work l a s) :
    Work l a (s.exchangeFails n e) := by
  unfold State.exchangeFails; split
  · exact State.stepFails_work _ sub (State.setLane_work _ _ (List.Subset.trans (by decide) sub) x)
  · exact State.stepFails_work _ sub x

theorem State.setScanner_work (n : Fin 9) (r : Option ScannerLane) (sub : [.standby] ⊆ l) (x : Work l a s) :
    Work l a (s.setScanner n r) := by
  unfold State.setScanner; split
  · exact x.put [.standby] sub rfl rfl
      (fun p h => by cases p <;> first | exact absurd (by decide) h | rfl | exact ⟨rfl, rfl⟩)
  · exact x

theorem State.retryExchange_work (n : Fin 9) (e : LaneExchange) (sub : lanePieces ⊆ l) (x : Work l a s) :
    Work l a (s.retryExchange n e) := by
  unfold State.retryExchange; dsimp only; split
  · exact State.setLane_work _ _ (List.Subset.trans (by decide) sub) x
  · exact State.exchangeFails_work _ _ sub x

theorem State.retryScanner_work (n : Fin 9) (r : ScannerLane) (e : LaneExchange) (sub : [.standby, .lanes] ⊆ l)
    (x : Work l a s) : Work l a (s.retryScanner n r e) := by
  unfold State.retryScanner; dsimp only; split
  · exact State.setScanner_work _ _ (List.Subset.trans (by decide) sub)
      (State.setLane_work _ _ (List.Subset.trans (by decide) sub) x)
  · exact State.setScanner_work _ _ (List.Subset.trans (by decide) sub) x

theorem State.takeFrameError_work (n : Fin 9) (e : BitVec 4) (sub : lanePieces ⊆ l) (x : Work l a s) :
    Work l a (s.takeFrameError n e) := by
  unfold State.takeFrameError; dsimp only
  have y := State.setLane_work n (s.lanes[n].frameError e) (List.Subset.trans (by decide) sub) x
  split
  · exact State.enterRecovering_work _ _ sub y
  · exact y

theorem State.firstFrame_work (n : Fin 9) (f : Frame) (sub : .player :: .metronome :: lanePieces ⊆ l) (x : Work l a s) :
    Work l a (s.firstFrame n f) := by
  unfold State.firstFrame; dsimp only
  exact State.noteLane_work _ _ (List.Subset.trans (by decide) sub)
    (State.reevalQuiet_work (List.Subset.trans (by decide) sub) (State.laneReadings_work _ _ sub
      (State.laneUp_work _ (List.Subset.trans (by decide) sub) (State.setLane_work _ _ (List.Subset.trans (by decide) sub) x))))

theorem State.activeFrame_work (n : Fin 9) (f : Frame) (c : Bool) (sub : .player :: .metronome :: lanePieces ⊆ l)
    (x : Work l a s) : Work l a (s.activeFrame n f c) := by
  unfold State.activeFrame; dsimp only; split
  · exact State.takeFrameError_work _ _ (List.Subset.trans (by decide) sub) x
  · split
    · exact State.takeFrameError_work _ _ (List.Subset.trans (by decide) sub) x
    · exact State.laneReadings_work _ _ sub (State.setLane_work _ _ (List.Subset.trans (by decide) sub) x)

theorem State.awaitedFrame_work (n : Fin 9) (f : Frame) (c : Bool) (sub : .player :: .metronome :: lanePieces ⊆ l)
    (x : Work l a s) : Work l a (s.awaitedFrame n f c) := by
  unfold State.awaitedFrame; dsimp only; split
  · exact State.firstFrame_work _ _ sub x
  · exact State.setLane_work _ _ (List.Subset.trans (by decide) sub) x

theorem State.endPeriod_work (n : Fin 9) (sub : lanePieces ⊆ l) (x : Work l a s) : Work l a (s.endPeriod n) := by
  unfold State.endPeriod; dsimp only
  have set : ∀ v, Work l a (s.setLane n v) := fun v => State.setLane_work n v (List.Subset.trans (by decide) sub) x
  split
  · split
    · exact State.enterRecovering_work _ _ sub (set _)
    · exact set _
  · exact set _

theorem State.moveLane_work (n : Fin 9) (v : Lane) (d : LaneDetail) (sub : lanePieces ⊆ l) (x : Work l a s) :
    Work l a (s.moveLane n v d) := by
  unfold State.moveLane; split
  · exact State.setLane_work _ _ (List.Subset.trans (by decide) sub) x
  · exact State.changeLane_work _ _ _ sub x

theorem State.laneAction_work (n : Fin 9) (c : Nat) (sub : lanePieces ⊆ l) (x : Work l a s) : Work l a (s.laneAction n c) := by
  unfold State.laneAction; dsimp only; split
  · split
    · exact State.moveLane_work _ _ _ sub x
    · exact State.setLane_work _ _ (List.Subset.trans (by decide) sub) x
  · exact State.moveLane_work _ _ _ sub x
  · exact State.moveLane_work _ _ _ sub x
  · exact x

theorem State.laneToStandby_work (n : Fin 9) (sub : lanePieces ⊆ l) (x : Work l a s) : Work l a (s.laneToStandby n) := by
  unfold State.laneToStandby; dsimp only; split
  · exact State.changeLane_work _ _ _ sub x
  · exact State.changeLane_work _ _ _ sub x
  · exact State.changeLane_work _ _ _ sub x
  · exact x

theorem State.laneFromStandby_work (n : Fin 9) (sub : lanePieces ⊆ l) (x : Work l a s) : Work l a (s.laneFromStandby n) := by
  unfold State.laneFromStandby; dsimp only; split
  · exact State.changeLane_work _ _ _ sub x
  · exact x

end

end Sys2Proof.Machine
end

