-- ==== Sys2Proof/Laws/Quiet.lean ====
section
/-! SUPPORT. What a lane-lost notice and a change of a lane's state tell the rail of the quiet condition (R14, R18, R32, R36). -/

namespace Sys2Proof.Machine

variable {s : State}

/-- R36: after an evaluation the rail's copy is the condition. -/
theorem State.reevalQuiet_quiet (s : State) : s.reevalQuiet.rail.quiet = s.quietCondition := by
  rw [State.reevalQuiet, State.mapDeck_rail, Deck.setQuiet]
  split
  · next h => exact h.symm
  · rfl

/-- R36, R107: a condition that an evaluation turns true has been held from then on. -/
theorem State.reevalQuiet_since (h : s.rail.quiet = false) (q : s.reevalQuiet.rail.quiet = true) :
    s.reevalQuiet.rail.quietSince = s.hub.now := by
  have changed : s.quietCondition ≠ s.rail.quiet := by rw [h, ← State.reevalQuiet_quiet, q]; decide
  rw [State.reevalQuiet, State.mapDeck_rail, Deck.setQuiet, if_neg (show ¬ s.quietCondition = s.deck.rail.quiet from changed)]
  rfl

/-- R32: a key of a lost lane is DISABLED, without an open note or a reading; the other keys are as before. -/
theorem State.loseKey_keys (k : Fin 88) (s : State) :
    (s.loseKey k).keys =
      s.keys.set k { s.keys[k].closed with state := .disabled, lastRaw := none, extremes := none } := by
  have up : ∀ (t : State) v w f, (t.noteUp k v w f).keys = t.keys := fun t v w f =>
    (State.noteUp_work k v w f (List.Subset.refl _) (Work.refl _ t)).same .keys (by decide)
  have un : ∀ t : State, (t.uncapture k).keys = t.keys := fun t => by unfold State.uncapture; split <;> rfl
  have force : ∀ key : Key, (s.forceKey k key).keys = s.keys.set k key := fun key => by
    unfold State.forceKey; dsimp only; split
    · rw [up]; rfl
    · rfl
  unfold State.loseKey; dsimp only; split
  · rw [un, force]
  · exact force _

/-- R32: a lane-lost notice leaves key `k` of the lane without a reading, whatever the notice does to the others. -/
theorem State.loseKeys_lastRaw (k : Fin 88) (ks : List (Fin 88)) (s : State) (h : k ∈ ks ∨ s.keys[k].lastRaw = none) :
    (ks.foldl (fun t j => t.loseKey j) s).keys[k].lastRaw = none := by
  induction ks generalizing s with
  | nil => exact h.resolve_left (by simp)
  | cons j ks ih =>
    refine ih _ ?_
    by_cases e : j = k
    · subst e; right; simp [State.loseKey_keys]
    · have off : j.val ≠ k.val := fun x => e (Fin.ext x)
      rcases h with h | h
      · exact .inl ((List.mem_cons.mp h).resolve_left fun x => e x.symm)
      · right; simpa [State.loseKey_keys, Vector.getElem_set, off] using h

/-- R36: a key of an ACTIVE lane without a reading makes the quiet condition false. -/
theorem State.quietCondition_of_unread (n : Fin 8) (j : Fin 11) (active : s.lanes[n.castSucc].state = .active)
    (unread : s.keys[laneKey n j].lastRaw = none) : s.quietCondition = false := by
  refine List.all_eq_false.mpr ⟨n, List.mem_finRange n, ?_⟩
  have lane : (s.keyLane n).state = .active := active
  simp only [lane, List.all_eq_true]
  intro all
  have clear := all j (List.mem_finRange j)
  rw [State.hammerClear, unread] at clear
  exact absurd clear Bool.false_ne_true

/-- R14, R32, R36: at the notice of a key lane that still reads ACTIVE the rail is told false. -/
theorem State.keyLaneLost_quiet (n : Fin 8) (active : s.lanes[n.castSucc].state = .active) :
    (s.keyLaneLost n).rail.quiet = false := by
  unfold State.keyLaneLost
  rw [State.reevalQuiet_quiet]
  refine State.quietCondition_of_unread n 0 ?_ ?_
  · rw [(Work.foldl (l := [.keys, .pedals, .hub, .voice, .recorder]) (a := s)
      (fun t j y => State.loseKey_work _ (List.Subset.refl _) y) _ (Work.refl _ s)).same .lanes (by decide)]
    exact active
  · rw [← List.foldl_map (f := laneKey n) (g := fun (t : State) k => t.loseKey k)]
    exact State.loseKeys_lastRaw _ _ _ (.inl (List.mem_map_of_mem (List.mem_finRange 0)))

/-- No work moves the time. -/
theorem Work.now {l : List Piece} {a t : State} (x : Work l a t) : t.hub.now = a.hub.now :=
  congrArg (fun y : Hub.Steady => y.now) x.reach.steady

/-- R14, R15, R18: a key lane that leaves ACTIVE hands its notice, then its record changes and the condition is evaluated. -/
theorem State.changeLane_of_lost (n : Fin 8) (l : Lane) (d : LaneDetail) (active : s.lanes[n.castSucc].state = .active)
    (leaves : l.state ≠ .active) :
    s.changeLane n.castSucc l d = ((s.keyLaneLost n).setLane n.castSucc l).reevalQuiet.noteLane n.castSucc d := by
  have lost : s.laneLost n.castSucc = s.keyLaneLost n := dif_pos n.isLt
  have leaving : (decide (s.lanes[n.castSucc].state = .active) && decide (l.state ≠ .active)) = true := by
    rw [active]; exact decide_eq_true leaves
  unfold State.changeLane
  dsimp only
  rw [if_pos leaving, lost]

/-- R18, R36: a key lane that leaves ACTIVE has told the rail false, so a quiet condition that is true after the change has been
held since that moment. -/
theorem State.changeLane_quiet (n : Fin 8) (l : Lane) (d : LaneDetail) (active : s.lanes[n.castSucc].state = .active)
    (leaves : l.state ≠ .active) (q : (s.changeLane n.castSucc l d).rail.quiet = true) :
    (s.changeLane n.castSucc l d).rail.quietSince = s.hub.now := by
  have old : (s.keyLaneLost n).rail.quiet = false := State.keyLaneLost_quiet n active
  have now : (s.keyLaneLost n).hub.now = s.hub.now := (State.keyLaneLost_work n (List.Subset.refl _) (Work.refl _ s)).now
  rw [State.changeLane_of_lost n l d active leaves] at q ⊢
  generalize s.keyLaneLost n = t at old now q ⊢
  exact (State.reevalQuiet_since (s := t.setLane n.castSucc l) old q).trans now

end Sys2Proof.Machine
end

