-- ==== Sys2Proof/Laws/Reads.lean ====
section
/-! SUPPORT. What asking the board for reads does: the scheduler then holds exactly the reads asked for, under the next numbers. -/

namespace Sys2Proof.Machine

/-- The reads that wait or are outstanding. -/
def Hub.reads (h : Hub) : List Read := h.sched.waiting ++ h.sched.outstanding

/-- The read numbered `i` is the one asked for, and has neither arrived nor been withdrawn. -/
structure Hub.HoldsRead (i : Nat) (tag : ReadTag) (address : Word64) (length : Nat) (h : Hub) : Prop where
  there : ∃ r ∈ h.reads, r.id = i
  only : ∀ r ∈ h.reads, r.id = i → r.tag = tag ∧ r.address = address ∧ r.length = length ∧ r.discarded = false

theorem chooseRead_mem {now : Nat} {l : List Read} {r : Read} (e : chooseRead now l = some r) : r ∈ l := by
  have fold : ∀ (rest : List Read) (best : Read),
      rest.foldl (fun best q => if best.goesBefore q then best else q) best ∈ best :: rest := by
    intro rest
    induction rest with
    | nil => intro best; exact List.mem_cons_self
    | cons q rest ih =>
      intro best
      rw [List.foldl_cons]
      rcases List.mem_cons.mp (ih (if best.goesBefore q then best else q)) with h | h
      · rw [h]; split <;> simp
      · exact List.mem_cons_of_mem _ (List.mem_cons_of_mem _ h)
  cases l with
  | nil => cases e
  | cons x rest =>
    simp only [chooseRead] at e
    split at e
    · next aged found => exact Option.some.inj e ▸ List.mem_of_find?_eq_some found
    · exact Option.some.inj e ▸ fold rest x

/-- Every read after an issue was there before it, but for the time of its issue; a number that was there stays there. -/
theorem Hub.issueOne_reads (h : Hub) :
    (∀ r ∈ h.issueOne.reads, ∃ q ∈ h.reads, ∃ t, r = q ∨ r = { q with issuedAt := t }) ∧
    (∀ q ∈ h.reads, ∃ r ∈ h.issueOne.reads, r.id = q.id) ∧ h.issueOne.sched.nextReadId = h.sched.nextReadId := by
  unfold Hub.issueOne
  split
  · split
    · exact ⟨fun r m => ⟨r, m, 0, .inl rfl⟩, fun q m => ⟨q, m, rfl⟩, rfl⟩
    · next r e =>
      have mem := chooseRead_mem e
      refine ⟨fun q m => ?_, fun q m => ?_, rfl⟩
      · rcases List.mem_append.mp m with m | m
        · exact ⟨q, List.mem_append_left _ (List.mem_filter.mp m).1, 0, .inl rfl⟩
        · rcases List.mem_append.mp m with m | m
          · exact ⟨q, List.mem_append_right _ m, 0, .inl rfl⟩
          · exact ⟨r, List.mem_append_left _ mem, h.now, .inr (List.mem_singleton.mp m)⟩
      · by_cases same : q.id = r.id
        · exact ⟨{ r with issuedAt := h.now }, by simp [Hub.reads], same.symm⟩
        · rcases List.mem_append.mp m with m | m
          · exact ⟨q, List.mem_append_left _ (List.mem_filter.mpr ⟨m, by simpa using same⟩), rfl⟩
          · exact ⟨q, List.mem_append_right _ (List.mem_append_left _ m), rfl⟩
  · exact ⟨fun r m => ⟨r, m, 0, .inl rfl⟩, fun q m => ⟨q, m, rfl⟩, rfl⟩

theorem Hub.HoldsRead.issueOne {i : Nat} {tag : ReadTag} {address : Word64} {length : Nat} {h : Hub}
    (x : h.HoldsRead i tag address length) : h.issueOne.HoldsRead i tag address length where
  there := by
    obtain ⟨q, m, e⟩ := x.there
    obtain ⟨r, n, f⟩ := h.issueOne_reads.2.1 q m
    exact ⟨r, n, f.trans e⟩
  only := by
    intro r m e
    obtain ⟨q, n, t, rfl | rfl⟩ := h.issueOne_reads.1 r m
    · exact x.only _ n e
    · exact x.only q n e

theorem Hub.HoldsRead.issueReads {i : Nat} {tag : ReadTag} {address : Word64} {length : Nat} {h : Hub}
    (x : h.HoldsRead i tag address length) : h.issueReads.HoldsRead i tag address length :=
  x.issueOne.issueOne.issueOne.issueOne

theorem Hub.issueOne_readsNumbered {h : Hub} (x : h.readsNumbered) : h.issueOne.readsNumbered := by
  intro r m
  rw [h.issueOne_reads.2.2]
  obtain ⟨q, n, t, rfl | rfl⟩ := h.issueOne_reads.1 r m
  · exact x _ n
  · exact x q n

@[simp] theorem Hub.requestRead_nextReadId (tag : ReadTag) (address : Word64) (length deadline : Nat) (h : Hub) :
    (h.requestRead tag address length deadline).sched.nextReadId = h.sched.nextReadId + 1 := by
  simp only [Hub.requestRead, Hub.issueReads, (Hub.issueOne_reads _).2.2]

/-- The reads once one more waits, before any is issued. -/
theorem Hub.reads_wait (h : Hub) (r q : Read) (next : Nat) :
    q ∈ Hub.reads { h with sched := { h.sched with waiting := h.sched.waiting ++ [r], nextReadId := next } } ↔ q ∈ h.reads ∨ q = r := by
  simp only [Hub.reads, List.mem_append, List.mem_singleton]
  tauto

theorem Hub.requestRead_readsNumbered (tag : ReadTag) (address : Word64) (length deadline : Nat) {h : Hub} (x : h.readsNumbered) :
    (h.requestRead tag address length deadline).readsNumbered := by
  refine Hub.issueOne_readsNumbered (Hub.issueOne_readsNumbered (Hub.issueOne_readsNumbered (Hub.issueOne_readsNumbered ?_)))
  intro q m
  rcases (Hub.reads_wait h _ q _).mp m with m | rfl
  · exact Nat.lt_succ_of_lt (x q m)
  · exact Nat.lt_succ_self _

/-- R191: the read asked for is held under the next number. -/
theorem Hub.requestRead_holds (tag : ReadTag) (address : Word64) (length deadline : Nat) {h : Hub} (x : h.readsNumbered) :
    (h.requestRead tag address length deadline).HoldsRead h.sched.nextReadId tag address length := by
  refine Hub.HoldsRead.issueReads ⟨⟨_, (Hub.reads_wait h _ _ _).mpr (.inr rfl), rfl⟩, fun q m e => ?_⟩
  rcases (Hub.reads_wait h _ q _).mp m with m | rfl
  · exact absurd e (Nat.ne_of_lt (x q m))
  · exact ⟨rfl, rfl, rfl, rfl⟩

/-- R191: a further read leaves the ones held as they are. -/
theorem Hub.HoldsRead.requestRead {i : Nat} {tag : ReadTag} {address : Word64} {length : Nat} {h : Hub}
    (x : h.HoldsRead i tag address length) (below : i < h.sched.nextReadId) (t : ReadTag) (a : Word64) (n d : Nat) :
    (h.requestRead t a n d).HoldsRead i tag address length := by
  obtain ⟨q, m, e⟩ := x.there
  refine Hub.HoldsRead.issueReads ⟨⟨q, (Hub.reads_wait h _ _ _).mpr (.inl m), e⟩, fun q m e => ?_⟩
  rcases (Hub.reads_wait h _ q _).mp m with m | rfl
  · exact x.only q m e
  · exact absurd e (Nat.ne_of_gt below)

/-- Reads asked for one after the other. -/
def Hub.requestAll (wanted : List (ReadTag × Word64 × Nat)) (h : Hub) : Hub :=
  wanted.foldl (fun h w => h.requestRead w.1 w.2.1 w.2.2 0) h

theorem Hub.HoldsRead.requestAll (wanted : List (ReadTag × Word64 × Nat)) {i : Nat} {tag : ReadTag} {address : Word64} {length : Nat}
    {h : Hub} (x : h.HoldsRead i tag address length) (below : i < h.sched.nextReadId) :
    (h.requestAll wanted).HoldsRead i tag address length := by
  induction wanted generalizing h with
  | nil => exact x
  | cons w rest ih => exact ih (x.requestRead below ..) (by simp; omega)

/-- R191: reads asked for one after the other are held under the next numbers, in their order. -/
theorem Hub.requestAll_asked (wanted : List (ReadTag × Word64 × Nat)) {h : Hub} (x : h.readsNumbered) :
    (h.requestAll wanted).readsNumbered ∧ (h.requestAll wanted).askedFor h.sched.nextReadId wanted := by
  induction wanted generalizing h with
  | nil => exact ⟨x, rfl, fun i hi => absurd hi (Nat.not_lt_zero i)⟩
  | cons w rest ih =>
    obtain ⟨numbered, count, held⟩ := ih (Hub.requestRead_readsNumbered w.1 w.2.1 w.2.2 0 x)
    refine ⟨numbered, ?_, fun i hi => ?_⟩
    · simp only [Hub.requestRead_nextReadId] at count
      simp only [Hub.requestAll, List.foldl_cons, List.length_cons] at count ⊢
      omega
    · cases i with
      | zero =>
        have first := (Hub.requestRead_holds w.1 w.2.1 w.2.2 0 x).requestAll rest (by simp)
        obtain ⟨r, m, e⟩ := first.there
        obtain ⟨a, b, c, d⟩ := first.only r m e
        exact ⟨r, m, e, a, b, c, d⟩
      | succ i =>
        obtain ⟨r, m, e, others⟩ := held i (by simpa using hi)
        refine ⟨r, m, ?_, by simpa using others⟩
        simp only [Hub.requestRead_nextReadId] at e
        omega

/-- R191: one read asked for. -/
theorem Hub.requestRead_asked (tag : ReadTag) (address : Word64) (length : Nat) {h : Hub} (x : h.readsNumbered) :
    (h.requestRead tag address length 0).askedFor h.sched.nextReadId [(tag, address, length)] :=
  (Hub.requestAll_asked [(tag, address, length)] x).2

/-- R191: the reads of 512 bytes that cover a structure. -/
theorem Hub.requestParts_asked {n : Nat} (tag : Fin n → ReadTag) (address : Word64) {h : Hub} (x : h.readsNumbered) :
    (h.requestParts tag address 512).askedFor h.sched.nextReadId (readsOf tag address) := by
  have same : h.requestParts tag address 512 = h.requestAll (readsOf tag address) := by
    simp only [Hub.requestParts, Hub.requestAll, readsOf, List.foldl_map, Nat.mul_comm 512]
  rw [same]
  exact (Hub.requestAll_asked _ x).2

end Sys2Proof.Machine
end

