-- ==== Sys2Proof/Laws/Voices.lean ====
section
/-! SUPPORT. What cutting voices does to the engine (R64, R78, R195): each record cut is FREE or CUTTING, every other one stands. -/

namespace Sys2Proof.Machine

/-- R64: a voice after `cutVoice`: FREE if it awaited its first fill, else CUTTING from its level and its moment. -/
def Voice.cutAt (clock n : Nat) (v : Voice) : Voice :=
  if v.firstFill then { Voice.reset with startNumber := v.startNumber }
  else { v with phase := .cutting, keyDown := false, sostenutoHeld := false, cutTime := clock, cutLevel := v.level, cutNumber := n }

/-- A record that takes a value reads as it, and every other record as before. -/
theorem VoiceEngine.get_put (j k : Fin 96) (v : Voice) (ve : VoiceEngine) :
    (ve.put k v).get j = if j = k then v else ve.get j := by
  unfold VoiceEngine.get VoiceEngine.put
  by_cases h : j = k
  · subst h; simp
  · simp [h, Ne.symm (mt Fin.ext h)]

/-- R64: what `cutVoice` does to every record. -/
theorem Engine.cutVoice_get (k j : Fin 96) (e : Engine) :
    (e.cutVoice k).2.get j = (if j = k ∧ (e.2.get k).alive then (e.2.get k).cutAt e.2.sampleClock.toNat e.2.cuts else e.2.get j) ∧
    (e.cutVoice k).2.sampleClock = e.2.sampleClock ∧ (e.cutVoice k).2.queue = e.2.queue ∧ e.2.cuts ≤ (e.cutVoice k).2.cuts := by
  unfold Engine.cutVoice
  by_cases a : (e.2.get k).alive = true
  · by_cases f : (e.2.get k).firstFill = true
    · have u : (e.2.get k).inUse = true := by
        revert a; unfold Voice.alive Voice.inUse; cases (e.2.get k).phase <;> decide
      simp only [a, f, if_true, Engine.freeVoice, u, and_true, Voice.cutAt]
      refine ⟨?_, rfl, rfl, Nat.le_refl _⟩
      exact VoiceEngine.get_put _ _ _ _
    · simp only [a, f, if_true, and_true, Voice.cutAt]
      refine ⟨?_, rfl, rfl, Nat.le_succ _⟩
      exact VoiceEngine.get_put _ _ _ _
  · simp [a]
/-- R78, R195: what a cut of the voices with a property does, along a list of records. -/
theorem Engine.cutFold_get (p : Voice → Bool) (alive : ∀ v, p v = true → v.alive = true) (records : List (Fin 96))
    (once : records.Nodup) (e : Engine) :
    let e' := records.foldl (fun e k => if p (e.2.get k) then e.cutVoice k else e) e
    (∀ j, j ∉ records ∨ p (e.2.get j) = false → e'.2.get j = e.2.get j) ∧
    (∀ j ∈ records, p (e.2.get j) = true →
      ∃ n, e.2.cuts ≤ n ∧ e'.2.get j = (e.2.get j).cutAt e.2.sampleClock.toNat n) ∧
    e'.2.sampleClock = e.2.sampleClock ∧ e'.2.queue = e.2.queue ∧ e.2.cuts ≤ e'.2.cuts := by
  induction records generalizing e with
  | nil => exact ⟨fun _ _ => rfl, fun j h => absurd h List.not_mem_nil, rfl, rfl, Nat.le_refl _⟩
  | cons k rest ih =>
    obtain ⟨out, once'⟩ := List.nodup_cons.mp once
    by_cases c : p (e.2.get k) = true
    · obtain ⟨g, cl, q, n⟩ : (∀ j, (e.cutVoice k).2.get j =
          if j = k then (e.2.get k).cutAt e.2.sampleClock.toNat e.2.cuts else e.2.get j) ∧ _ :=
        ⟨fun j => by simpa [alive _ c] using (e.cutVoice_get k j).1, (e.cutVoice_get k k).2⟩
      obtain ⟨keep, cut, cl', q', n'⟩ := ih once' (e.cutVoice k)
      simp only [List.foldl_cons, c, if_true]
      refine ⟨fun j h => ?_, fun j h pj => ?_, cl'.trans cl, q'.trans q, Nat.le_trans n n'⟩
      · have jk : j ≠ k := by
          rintro rfl
          rcases h with h | h
          · exact h List.mem_cons_self
          · rw [c] at h; cases h
        rw [keep j (by
          rw [g, if_neg jk]
          exact h.imp (fun h m => h (List.mem_cons_of_mem _ m)) id), g, if_neg jk]
      · by_cases jk : j = k
        · subst jk
          exact ⟨_, Nat.le_refl _, by rw [keep j (.inl out), g, if_pos rfl]⟩
        · have same : (e.cutVoice k).2.get j = e.2.get j := by rw [g, if_neg jk]
          obtain ⟨m, lo, eq⟩ := cut j ((List.mem_cons.mp h).resolve_left jk) (by rw [same]; exact pj)
          exact ⟨m, Nat.le_trans n lo, by rw [eq, same, cl]⟩
    · obtain ⟨keep, cut, more⟩ := ih once' e
      simp only [List.foldl_cons, c, if_false, Bool.false_eq_true]
      refine ⟨fun j h => keep j ?_, fun j h pj => cut j ?_ pj, more⟩
      · exact h.imp (fun h m => h (List.mem_cons_of_mem _ m)) id
      · exact (List.mem_cons.mp h).resolve_left (by rintro rfl; exact c pj)

/-- The serving of an empty queue does nothing (R74, R75). -/
theorem Engine.settle_empty (joined : Bool) (e : Engine) (none : e.2.queue = []) : e.settle joined = e := by
  unfold Engine.settle Engine.settleFor; simp [none]

/-- R78, R195: the cut of both sources empties the queue and leaves no voice SOUNDING or DAMPING: each is FREE if it awaited its
first fill, else CUTTING; the other records stand. -/
theorem Engine.cutSources_both (e : Engine) :
    let e' := e.cutSources 3
    e'.2.queue = [] ∧
    (∀ k, (e.2.get k).alive = false → e'.2.get k = e.2.get k) ∧
    ∀ k, (e.2.get k).alive = true → ∃ n, e.2.cuts ≤ n ∧ e'.2.get k = (e.2.get k).cutAt e.2.sampleClock.toNat n := by
  have both : ∀ x : Source, x.inMask 3 = true := by intro x; cases x <;> decide
  have gone : e.2.queue.filter (fun p => !p.source.inMask 3) = [] := by
    rw [List.filter_eq_nil_iff]; intro p _; simp [both]
  obtain ⟨keep, cut, _, q, _⟩ := Engine.cutFold_get (fun v => v.source.inMask 3 && v.alive) (fun v h => by simpa [both] using h)
    (List.finRange 96) (List.nodup_finRange 96) (e.1, { e.2 with queue := [] })
  unfold Engine.cutSources Engine.cutAll
  rw [gone]
  dsimp only
  rw [Engine.settle_empty _ _ q]
  exact ⟨q, fun k h => keep k (.inr (by rw [both, Bool.true_and]; exact h)),
    fun k h => cut k (List.mem_finRange k) (by rw [both, Bool.true_and]; exact h)⟩

/-- A voice just cut is neither SOUNDING nor DAMPING (R64). -/
theorem Voice.cutAt_not_alive (clock n : Nat) (v : Voice) : (v.cutAt clock n).alive = false := by
  unfold Voice.cutAt; split <;> rfl

end Sys2Proof.Machine
end

