-- ==== Sys2Proof/Laws/Writer.lean ====
section
/-! SUPPORT. What a block's work on the hub does to the journal page: an open page is sealed at most once and none is opened (R169 to R171), and a flush leaves none open (R174, R176). -/

namespace Sys2Proof.Machine

/-- The writer's state, its sealed pages and its next sequence number. -/
def Journal.mark (j : Journal) : WriterState × Word32 × Word32 := (j.state, j.sealed, j.sequence)

/-- From the writer `a` to the writer `b` no page is opened, an open page is still open or has been sealed, and nothing else is
sealed. -/
def Journal.sealsOnce (a b : Journal) : Prop :=
  b.mark = a.mark ∨
    b.state ≠ .filling ∧
      if a.state = .filling then b.sealed = a.sealed + 1 ∧ b.sequence = a.sequence + 1
      else b.sealed = a.sealed ∧ b.sequence = a.sequence

theorem Journal.sealsOnce.of_mark {a b : Journal} (same : b.mark = a.mark) : a.sealsOnce b := .inl same

theorem Journal.sealsOnce.trans {a b c : Journal} (x : a.sealsOnce b) (y : b.sealsOnce c) : a.sealsOnce c := by
  rcases x with x | ⟨nb, x⟩
  · simp only [Journal.mark, Prod.mk.injEq] at x
    obtain ⟨x1, x2, x3⟩ := x
    rcases y with y | ⟨nc, y⟩
    · simp only [Journal.mark, Prod.mk.injEq] at y
      exact .inl (by simp [Journal.mark, x1, x2, x3, y])
    · exact .inr ⟨nc, by rw [x1, x2, x3] at y; exact y⟩
  · rcases y with y | ⟨nc, y⟩
    · simp only [Journal.mark, Prod.mk.injEq] at y
      obtain ⟨y1, y2, y3⟩ := y
      exact .inr ⟨by rw [y1]; exact nb, by rw [y2, y3]; exact x⟩
    · rw [if_neg nb] at y
      exact .inr ⟨nc, by rw [y.1, y.2]; exact x⟩

/-! ### The operations that leave the writer alone -/

@[simp] theorem Hub.post_journal (w : Writer) (a : Word64) (d : List Byte) (h : Hub) : (h.post w a d).journal = h.journal := by
  unfold Hub.post; split <;> rfl

@[simp] theorem Hub.setFlag_journal (f : CauseFlag) (h : Hub) : (h.setFlag f).journal = h.journal := by
  unfold Hub.setFlag Hub.setRegisters; simp only; split <;> rfl

@[simp] theorem Hub.raise_journal (f : CauseFlag) (h : Hub) : (h.raise f).journal = h.journal := by
  unfold Hub.raise; split <;> simp

@[simp] theorem Hub.issueOne_journal (h : Hub) : h.issueOne.journal = h.journal := by
  unfold Hub.issueOne; split
  · split <;> rfl
  · rfl

@[simp] theorem Hub.requestRead_journal (t : ReadTag) (a : Word64) (n d : Nat) (h : Hub) :
    (h.requestRead t a n d).journal = h.journal := by simp [Hub.requestRead, Hub.issueReads]

@[simp] theorem Hub.writeResult_journal (slot : Fin 32) (tag : Word16) (code : ResultCode) (data : List Byte) (final : Nat)
    (h : Hub) : (h.writeResult slot tag code data final).journal = h.journal := by simp [Hub.writeResult]

@[simp] theorem Hub.completeRequest_journal (slot : Fin 32) (code : ResultCode) (data : List Byte) (h : Hub) :
    (h.completeRequest slot code data).journal = h.journal := by
  unfold Hub.completeRequest; split
  · rfl
  · simp

/-! ### The writer at work -/

/-- R169: a claim. -/
@[simp] theorem Hub.claimPage_journal (h : Hub) : h.claimPage.journal = { h.journal with state := .claiming } := by
  simp [Hub.claimPage]

/-- R171: a seal of the open page. -/
theorem Hub.sealPage_sealed (h : Hub) : h.sealPage.journal.state ≠ .filling ∧
    h.sealPage.journal.sealed = h.journal.sealed + 1 ∧ h.sealPage.journal.sequence = h.journal.sequence + 1 := by
  unfold Hub.sealPage; dsimp only; split <;> simp

theorem Hub.sealPage_once (h : Hub) (open_ : h.journal.state = .filling) : h.journal.sealsOnce h.sealPage.journal :=
  .inr ⟨h.sealPage_sealed.1, by rw [if_pos open_]; exact h.sealPage_sealed.2⟩

/-- R170, R172: records written into the open page. -/
theorem Hub.fillFrom_once (l : List (JournalRecord × Word32)) (h : Hub) (open_ : h.journal.state = .filling) :
    h.journal.sealsOnce (h.fillFrom l).journal := by
  induction l generalizing h with
  | nil => exact .of_mark rfl
  | cons e l ih =>
    obtain ⟨r, tag⟩ := e
    unfold Hub.fillFrom
    split
    · exact h.sealPage_once open_
    · have w : (h.writeRecord r tag l).journal.mark = h.journal.mark := rfl
      have o : (h.writeRecord r tag l).journal.state = .filling := open_
      dsimp only
      split
      · exact (Journal.sealsOnce.of_mark w).trans (Hub.sealPage_once _ o)
      · exact (Journal.sealsOnce.of_mark w).trans (ih _ o)

theorem Hub.runWriter_once (h : Hub) : h.journal.sealsOnce h.runWriter.journal := by
  unfold Hub.runWriter; split
  · next idle =>
    split
    · exact .of_mark rfl
    · exact .inr (by simp [idle])
  · next filling => exact h.fillFrom_once _ filling
  · exact .of_mark rfl

theorem Hub.hand_once (r : JournalRecord) (h : Hub) : h.journal.sealsOnce (h.hand r).journal := by
  unfold Hub.hand; dsimp only; split
  · exact .of_mark rfl
  · split
    · exact .of_mark rfl
    · exact (Journal.sealsOnce.of_mark rfl).trans (Hub.runWriter_once _)

/-- A block's work on the hub opens no page, and seals the open page at most once. -/
theorem HubReach.sealsOnce {a b : Hub} (x : HubReach a b) : a.journal.sealsOnce b.journal := by
  refine x.induct (P := fun b => a.journal.sealsOnce b.journal) (fun b c m p => p.trans ?_) (.of_mark rfl)
  cases m with
  | hand r _ => exact Hub.hand_once r _
  | _ => exact .of_mark (by simp [Hub.dropReads])

/-- R174, R176: after a flush no page is open, and the page that was open has been sealed. -/
theorem Hub.flush_once (h : Hub) : h.journal.sealsOnce h.flush.1.journal ∧ h.flush.1.journal.state ≠ .filling := by
  unfold Hub.flush
  split
  · next filling =>
    dsimp only
    have w := h.runWriter_once
    split
    · next still => exact ⟨w.trans (Hub.sealPage_once _ still), (Hub.sealPage_sealed _).1⟩
    · next done => exact ⟨w, done⟩
  · next none => exact ⟨.of_mark rfl, none⟩

/-- Work that ends with no page open: what it has sealed is known. -/
theorem Journal.sealsOnce.closed {a b : Journal} (x : a.sealsOnce b) (none : b.state ≠ .filling) :
    if a.state = .filling then b.sealed = a.sealed + 1 ∧ b.sequence = a.sequence + 1
    else b.sealed = a.sealed ∧ b.sequence = a.sequence := by
  rcases x with x | x
  · simp only [Journal.mark, Prod.mk.injEq] at x
    rw [if_neg (by rw [← x.1]; exact none)]
    exact x.2
  · exact x.2

end Sys2Proof.Machine
end

