-- ==== Sys2Proof/WellFormed.lean ====
section
/-! DEFINITION. Which commands are well formed: the bounds that a command's operands have by the rules of its row. A register number, lane, key, voice or slot out of range cannot be written at all (its type is a Fin). -/

namespace Sys2Proof

/-- R182, Table 12-2: the argument area of a request slot is 24 bytes. -/
def argumentsWellFormed (args : List Byte) : Bool := args.length == 24

/-- R191: a read is of at most 512 bytes, and its completion brings no more. -/
def outcomeWellFormed : ReadOutcome → Bool
  | .data bytes => bytes.length ≤ 512
  | .error => true

/-- R8: a key lane's frame has 46 bytes and a pedal lane's 8; an arrival may be shorter. -/
def frameWellFormed (lane : Fin 9) (bytes : List Byte) : Bool := bytes.length ≤ (if lane = 8 then 8 else 46)

/-- The operand bounds of every command. -/
def Instr.wellFormed : Instr → Bool
  | .powerOnReset => true
  | .mainReset => true
  | .vmainRemoved => true
  | .portReset => true
  | .resetHoldEnd _ => true
  | .managementReply _ _ _ _ _ => true
  | .exchangeTimeout _ => true
  | .statusPoll _ => true
  | .firstFrameTimeout _ => true
  | .laneFrame lane bytes => frameWellFormed lane bytes
  | .framePeriodEnd _ => true
  | .retryWindowClose _ => true
  | .laneControl _ _ args => argumentsWellFormed args
  | .senseConfig _ _ args => argumentsWellFormed args
  | .calibrateKeys _ _ args => argumentsWellFormed args
  | .calibWindowEnd => true
  | .calibAbort _ _ args => argumentsWellFormed args
  | .tableLoad _ _ args => argumentsWellFormed args
  | .tableReadArrival _ outcome => outcomeWellFormed outcome
  | .footswitchInputChange _ _ => true
  | .footswitchDebounceExpiry _ => true
  | .jackInputChange _ => true
  | .jackDebounceExpiry => true
  | .pedalConfig _ _ args => argumentsWellFormed args
  | .keymapReadArrival _ outcome => outcomeWellFormed outcome
  | .voiceConfig _ _ args => argumentsWellFormed args
  | .voiceCut _ _ args => argumentsWellFormed args
  | .outputSamplePeriod => true
  | .cutFadeEnd _ => true
  | .voiceReadArrival _ outcome => outcomeWellFormed outcome
  | .outputConfig _ _ args => argumentsWellFormed args
  | .metronome _ _ args => argumentsWellFormed args
  | .freeBeatDue => true
  | .followBeatDue => true
  | .clickEnd => true
  | .railConfig _ _ args => argumentsWellFormed args
  | .railQuery _ _ args => argumentsWellFormed args
  | .railMove _ _ args => argumentsWellFormed args
  | .drvEnSettle => true
  | .stepPulse _ _ => true
  | .quietHoldReached => true
  | .gateTimeout => true
  | .pauseTimeout => true
  | .seatedInputChange _ => true
  | .seatedFilterExpiry => true
  | .seatTimeout => true
  | .homeSensorChange _ => true
  | .indexPulse => true
  | .driverFault _ => true
  | .railStop _ _ args => argumentsWellFormed args
  | .railHalt _ _ args => argumentsWellFormed args
  | .railClear _ _ args => argumentsWellFormed args
  | .railSettle _ _ args => argumentsWellFormed args
  | .railUnsettle _ _ args => argumentsWellFormed args
  | .lampPhaseTick => true
  | .playStart _ _ args => argumentsWellFormed args
  | .blockReadArrival _ outcome => outcomeWellFormed outcome
  | .scoreGroupDue => true
  | .waitTimeout => true
  | .playNext _ _ args => argumentsWellFormed args
  | .playSettle _ _ args => argumentsWellFormed args
  | .playUnsettle _ _ args => argumentsWellFormed args
  | .playTempo _ _ args => argumentsWellFormed args
  | .playParts _ _ args => argumentsWellFormed args
  | .playSeek _ _ args => argumentsWellFormed args
  | .playPause _ _ args => argumentsWellFormed args
  | .playResume _ _ args => argumentsWellFormed args
  | .playStop _ _ args => argumentsWellFormed args
  | .recordStart _ _ args => argumentsWellFormed args
  | .listReadArrival _ outcome => outcomeWellFormed outcome
  | .takeClockTick => true
  | .recordMark _ _ args => argumentsWellFormed args
  | .recordStop _ _ args => argumentsWellFormed args
  | .pageHeaderReadArrival _ outcome => outcomeWellFormed outcome
  | .sealPeriodExpiry => true
  | .waitRereadExpiry => true
  | .journalFlush _ _ args => argumentsWellFormed args
  | .registerWrite offset _ => offset < 4096
  | .runSet value => value.getLsbD 0
  | .runClear value => !value.getLsbD 0
  | .controlEnableWrite _ => true
  | .notifyBoard => true
  | .notifyPages => true
  | .causeClear _ => true
  | .headerReadArrival _ outcome => outcomeWellFormed outcome
  | .sweepTimerExpiry => true
  | .boardReadArrival _ outcome => outcomeWellFormed outcome
  | .snapshotTimerExpiry => true
  | .snapshotNow _ _ args => argumentsWellFormed args
  | .holdReadArrival _ outcome => outcomeWellFormed outcome
  | .readTimeout _ => true
  | .standbyEnter _ _ args => argumentsWellFormed args
  | .standbyShutdownStep => true
  | .wakeScanFrame _ bytes => bytes.length ≤ 24
  | .wakeDelayExpiry => true
  | .wakePulseEnd => true
  | .mainResetEnd _ => true

end Sys2Proof
end

