-- ==== Sys2Proof/Tests/Slice0.lean ====
section
/-! SUPPORT. Tests: the well-formedness checks, a few single steps, and for every statement of Obligations.lean that has hypotheses, concrete states and operands that meet the hypotheses of each of its clauses together. -/

namespace Sys2Proof.Tests

open Sys2Proof.Machine

set_option Elab.async false

/-! ### Well-formedness: an ill-formed term for each check, and a well-formed one -/

theorem test_short_arguments_are_ill_formed : (Instr.railQuery 0 1 []).wellFormed = false := by decide
theorem test_full_arguments_are_well_formed : (Instr.railQuery 0 1 (List.replicate 24 0)).wellFormed = true := by decide
theorem test_long_read_data_is_ill_formed :
    (Instr.boardReadArrival 0 (.data (List.replicate 513 0))).wellFormed = false := by decide +kernel
theorem test_read_error_is_well_formed : (Instr.boardReadArrival 0 .error).wellFormed = true := by decide
theorem test_long_pedal_frame_is_ill_formed : (Instr.laneFrame 8 (List.replicate 9 0)).wellFormed = false := by decide
theorem test_long_key_frame_is_ill_formed : (Instr.laneFrame 0 (List.replicate 47 0)).wellFormed = false := by decide
theorem test_key_frame_is_well_formed : (Instr.laneFrame 0 (List.replicate 46 0)).wellFormed = true := by decide
theorem test_offset_outside_the_window_is_ill_formed : (Instr.registerWrite 4096 0).wellFormed = false := by decide
theorem test_run_set_without_run_is_ill_formed : (Instr.runSet 0).wellFormed = false := by decide
theorem test_run_clear_with_run_is_ill_formed : (Instr.runClear 1).wellFormed = false := by decide
theorem test_long_scanner_frame_is_ill_formed : (Instr.wakeScanFrame 0 (List.replicate 25 0)).wellFormed = false := by decide
theorem test_no_word_spells_a_command : decodeTableWord 32 0 = none := by decide

/-! ### Small states -/

/-- An ATTACHED part at the time `now`, otherwise as after reset. -/
def ready (now : Nat) : State :=
  let s := State.reset
  { s with hub := { s.hub with
      now := now, attach := .attached, journal := { s.hub.journal with state := .idle }
      region := { base := 0x1000, board := 64, ring := 4096, triplet := 8192, pages := 4 } } }

def onHub (f : Hub → Hub) (s : State) : State := { s with hub := f s.hub }
def onLane (lane : Fin 9) (f : Lane → Lane) (s : State) : State := { s with lanes := s.lanes.set lane (f s.lanes[lane]) }
def onVoice (k : Fin 96) (f : Voice → Voice) (s : State) : State :=
  { s with voice := { s.voice with voices := s.voice.voices.set k (f s.voice.voices[k]) } }
def onRail (f : Rail → Rail) (s : State) : State := { s with rail := f s.rail }
def onPlayer (f : Player → Player) (s : State) : State := { s with player := f s.player }
def onRecorder (f : Recorder → Recorder) (s : State) : State := { s with recorder := f s.recorder }
def onMetronome (f : Metronome → Metronome) (s : State) : State := { s with metronome := f s.metronome }
def onStandby (f : Standby → Standby) (s : State) : State := { s with standby := f s.standby }

/-- Read 7, just issued, outstanding for `tag`. -/
def theRead (tag : ReadTag) (length : Nat) (s : State) : Read :=
  { id := 7, tag, address := 0x1000, length, deadline := 0, requestedAt := s.hub.now, issuedAt := s.hub.now, discarded := false }
def reading (tag : ReadTag) (length : Nat) (s : State) : State :=
  onHub (fun h => { h with sched := { h.sched with outstanding := [theRead tag length s] } }) s

/-- A request of the slot 3 in flight. -/
def holding (kind : RequestKind) (s : State) : State :=
  onHub (fun h => { h with inFlight := [{ slot := 3, kind, tag := 9, owner := kind.ownerFor [] }] }) s

/-- The next state of a command that answers one. -/
def after (c : Instr) (s : State) : State :=
  match exec c s with
  | .next t => t
  | _ => s

/-- A state with no request in flight owes none. -/
theorem requestsOwed_of_none (s : State) (owed : s.owedSlots = []) (table : s.hub.inFlight = [])
    (player : s.player.pendingSlot = none) (recorder : s.recorder.pendingSlot = none)
    (active : s.rail.active.isSome = !s.rail.state.still) (before : (s.rail.active.all fun m => m.before.still) = true)
    (snapshot : s.hub.snapshot.serving = []) : RequestsOwed s where
  owed := by rw [owed, table]; exact .nil
  once := by rw [table]; exact .nil
  detached _ := table
  player h := by rw [player] at h; cases h
  recorder h := by rw [recorder] at h; cases h
  active := active
  before m h := by rw [h] at before; exact before
  snapshot _ := snapshot

theorem requestsOwed_ready (now : Nat) : RequestsOwed (ready now) :=
  requestsOwed_of_none _ rfl rfl rfl rfl rfl rfl rfl

/-! ### A few single steps -/

theorem test_idle_step_counts_one_microsecond :
    (match step (ready 5) with | .next t => t.hub.now == 6 && t.hub.tracking == 1 | _ => false) = true := by decide
theorem test_idle_step_without_main_supply :
    (match step { State.reset with mainOn := false } with | .next t => t.hub.now == 1 && t.hub.tracking == 0 | _ => false) = true := by
  decide
theorem test_run_with_a_good_base_validates : (after (.runSet 1) State.reset).hub.attach = .validating := by decide
theorem test_run_with_a_bad_base_is_rejected :
    (after (.runSet 1) (onHub (fun h => { h with regs := { h.regs with regionLo := 4 } }) State.reset)).hub.regs.reject = .layout := by
  decide
theorem test_a_refused_request_writes_four_times :
    ((after (.laneControl 3 9 [9, 0]) (ready 0)).hub.posted.map fun w => (w.address, w.data)) =
      [(0x1102, [9, 0]), (0x1104, [2]), (0x1120, List.replicate 32 0), (0x1100, [4])] := by decide
theorem test_output_config_sets_the_volume :
    (after (.outputConfig 0 1 [3, 127, 1]) (ready 0)).output.setting = 127 ∧
      (after (.outputConfig 0 1 [3, 127, 1]) (ready 0)).output.mute = true := by decide
theorem test_the_reset_hold_ends_at_its_time :
    (after (.resetHoldEnd 0) (ready 1499)).lanes[(0 : Fin 9)].phase = .hold 1500 ∧
      (after (.resetHoldEnd 0) (ready 1500)).lanes[(0 : Fin 9)].phase =
        .exchanging { step := .ident, value := none, number := 1, attempt := 1, sentAt := 1500, firstSentAt := 1500 } := by decide
theorem test_crc_of_the_check_string : crc8 [0x31, 0x32, 0x33, 0x34, 0x35, 0x36, 0x37, 0x38, 0x39] = 0xFB := by decide +kernel

theorem test_the_unused_entry_is_not_the_last_used :
    zoneSetFault [⟨4, 2, 0, 0, 0, 50⟩, .blank, ⟨4, 2, 0, 0, 0, 127⟩, .blank] = some 2 := by decide
theorem test_a_late_reply_from_before_a_reset_is_not_taken :
    (after .mainReset (onLane 0 (fun l => { l with exchangeNumber := 6 }) (ready 0))).lanes[(0 : Fin 9)].exchangeNumber = 6 := by
  decide +kernel
theorem test_the_limit_pins_follow_a_pulse_that_is_not_due :
    (after (.stepPulse true false) (ready 0)).pins.limNear = true := by decide
theorem test_the_word_follows_the_slot_edge_by_one_bit_clock :
    ((List.range 28).map fun n => (i2sFrame 0x800001#24 (8 * n)).sdo) =
      [false, true] ++ List.replicate 22 false ++ [true, false, false, false] := by decide +kernel
theorem test_the_score_position_wraps :
    reached 0xFFFFFFFF#32 0#32 = true ∧ reached 0#32 0xFFFFFFFF#32 = false := by decide
theorem test_an_index_in_the_search_satisfies_its_check :
    (Rail.takeIndex { Rail.reset with indexPhase := some 0, position := -10, awaitIn := some 0 }).awaitIn = none := by decide

/-! ### The machine as a whole: states that meet the hypotheses of the statements -/

theorem test_hyp_IdleStepIsOneMicrosecond :
    (∃ s : State, s.pending = [] ∧ s.mainUp = false) ∧
    (∃ s : State, s.pending = [] ∧ s.mainUp = true ∧ s.player.state = .playing) ∧
    (∃ s : State, s.pending = [] ∧ s.mainUp = true ∧ s.player.state ≠ .playing) :=
  ⟨⟨{ State.reset with mainOn := false }, by decide⟩,
    ⟨onPlayer (fun p => { p with state := .playing }) (ready 0), by decide⟩, ⟨ready 0, by decide⟩⟩

theorem test_hyp_EveryCommandAnswersNext :
    ∃ (c : Instr) (s t : State), exec c s = .next t ∧ s.hub.attach ≠ .attached ∧ t.hub.attach ≠ .attached :=
  ⟨.runSet 1, State.reset, _, rfl, by decide, by decide⟩

theorem test_hyp_CommandsChangeOnlyTheirPieces :
    ∃ (c : Instr) (s t : State) (p : Piece), exec c s = .next t ∧ p ∉ changes c :=
  ⟨.vmainRemoved, State.reset, _, .rail, rfl, by decide⟩

theorem settingsInRange_ready : SettingsInRange (ready 0) where
  rail := by decide
  calibration := by decide
  extremes k e h := by
    rw [show (ready 0).keys[k] = Key.reset from Vector.getElem_replicate ..] at h
    cases h
  pedals := by decide
  voice := by decide
  output := by decide
  metronome := by unfold MetronomeSettings.inRange; decide
  curve i j h := by
    rw [show (ready 0).curve = State.reset.curve from rfl]
    simp only [State.reset, defaultCurve, Fin.getElem_fin, Vector.getElem_ofFn]
    omega
  leds := by decide
  tempo := by decide
  take x h := by cases h
  nextTake n h := by cases h
  recorder h := absurd rfl h
  wake := by decide

theorem hubInRange_ready : HubInRange (ready 0).hub where
  queue := by decide
  page := by decide
  outstanding := by decide
  reads r h := by cases h
  inFlight := by decide
  slots := .nil
  detached := by decide
  writer := by decide
  messages := by decide

theorem laneInRange_ready (i : Fin 9) : LaneInRange (ready 0).lanes[i] := by
  rw [show (ready 0).lanes[i] = { Lane.reset with phase := .hold Config.resetHold } from Vector.getElem_replicate ..]
  exact ⟨by decide, by decide, by decide, by decide, by decide, by decide⟩

theorem test_hyp_StepKeepsSettingsInRange : ∃ s t : State, SettingsInRange s ∧ step s = .next t :=
  ⟨ready 0, _, settingsInRange_ready, rfl⟩
theorem test_hyp_StepKeepsCapacities : ∃ s t : State, CapacitiesKept s ∧ step s = .next t :=
  ⟨ready 0, _, ⟨hubInRange_ready, by decide, laneInRange_ready, ⟨.nil, by decide⟩, ⟨⟨.nil, by decide⟩, ⟨.nil, by decide⟩, by decide⟩,
    ⟨⟨.nil, by decide⟩, by decide, by decide, by decide, by decide⟩⟩, rfl⟩
theorem test_hyp_StepKeepsTheJournalAccount : ∃ s t : State, JournalKept s.hub.journal ∧ step s = .next t :=
  ⟨ready 0, _, ⟨by unfold JournalAccount; decide, by decide, by decide⟩, rfl⟩

theorem count_ready (p : Voice → Bool) (h : p Voice.reset = false) : (ready 0).voice.count p = 0 := by
  show (Vector.replicate 96 Voice.reset).toList.countP p = 0
  simp [Vector.toList_replicate, h]

theorem voiceLaws_ready : VoiceLaws (ready 0) where
  openNote k h := by
    rw [show (ready 0).voice.voices[k] = Voice.reset from Vector.getElem_replicate ..] at h
    cases h
  openEntry p h := by cases h
  pairs key source := by
    simp only [VoiceEngine.pairInUse, VoiceEngine.pairAlive]
    rw [count_ready _ rfl, count_ready _ rfl]
    decide
  entries := .nil
  waiting p h := by cases h

theorem railLaws_ready : RailLaws (ready 0) where
  silent := by decide
  copy := by decide
  idle := by decide
  active := by decide
  before m h := by cases h

theorem test_hyp_StepKeepsThePolyphonyLimit :
    (∃ s t : State, WithinPolyphony s.voice ∧ step s = .next t) ∧ (∃ s t : State, VoiceLaws s ∧ step s = .next t) ∧
    (∃ (c : Instr) (s t : State), exec c s = .next t ∧ (∀ read outcome, c ≠ .boardReadArrival read outcome) ∧
      s.voice.policy = .never ∧ t.voice.policy = .never ∧ t.voice.voices[(95 : Fin 96)].inUse = true ∧
      t.voice.voices[(95 : Fin 96)].source = .live) :=
  let s := onVoice 95 (fun v => { v with phase := .sounding }) (ready 0)
  ⟨⟨ready 0, _, ⟨by decide +kernel, by decide, by decide, by decide⟩, rfl⟩, ⟨ready 0, _, voiceLaws_ready, rfl⟩,
    ⟨.vmainRemoved, { s with voice := { s.voice with policy := .never } }, _, rfl, fun _ _ => by simp, rfl, rfl, by decide, by decide⟩⟩
theorem test_hyp_StepKeepsCopiesInAgreement :
    (∃ s t : State, CopiesAgree s ∧ step s = .next t) ∧ (∃ s t : State, RailLaws s ∧ step s = .next t) :=
  ⟨⟨ready 0, _, ⟨by decide, by decide, by decide, by decide, by decide⟩, rfl⟩, ⟨ready 0, _, railLaws_ready, rfl⟩⟩
theorem test_hyp_StepKeepsRequestsOwed : ∃ s t : State, RequestsOwed s ∧ step s = .next t :=
  ⟨ready 0, _, requestsOwed_ready 0, rfl⟩

theorem test_hyp_TakenRequestReachesItsOwner :
    (∃ (c : Instr) (r : Request) (s : State), requestOf c = some r ∧ s.hands r.slot = true ∧
      refuseRequest r.kind r.args s = none) ∧
    (∃ (c : Instr) (r : Request) (s : State), requestOf c = some r ∧ s.hands r.slot = true ∧
      refuseRequest r.kind r.args s = none ∧ r.kind = .tableLoad) :=
  ⟨⟨.railQuery 31 1 [], _, ready 0, rfl, by decide, by decide⟩,
    ⟨.tableLoad 31 1 [4, 0, 0, 0, 0, 0, 0, 0, 2], _, ready 0, rfl, by decide, by decide, rfl⟩⟩

theorem test_hyp_RefusedRequestsHaveNoEffect :
    (∃ (c : Instr) (r : Request) (s : State), requestOf c = some r ∧ s.visits r.slot = false) ∧
    (∃ (c : Instr) (r : Request) (s : State), requestOf c = some r ∧ s.visits r.slot = true ∧ 8 ≤ s.hub.inFlight.length) ∧
    (∃ (c : Instr) (r : Request) (s : State) (code : ResultCode), requestOf c = some r ∧ s.hands r.slot = true ∧
      refuseRequest r.kind r.args s = some code) :=
  ⟨⟨.railQuery 31 1 [], _, State.reset, rfl, by decide⟩,
    ⟨.railQuery 31 1 [], _,
      onHub (fun h => { h with inFlight := List.replicate 8 { slot := 0, kind := .snapshotNow, tag := 0, owner := .exchangeController } }) (ready 0), rfl,
      by decide⟩,
    ⟨.laneControl 31 1 [9, 0], _, ready 0, .invalid, rfl, by decide⟩⟩

/-- A part with interrupts on, the enables given, and a CAUSE. -/
def alerting (enables cause : BitVec 8) (s : State) : State :=
  onHub (fun h => { h with regs := { h.regs with master := true, enables, cause } }) s

/-- R188: CAUSE.BOARD turns the summary true, or finds it so, or leaves it false. -/
theorem test_hyp_RefusedRequestsHaveNoEffect_message :
    ∀ p ∈ [((1 : BitVec 8), (0 : BitVec 8), 1), (1, 1, 0), (2, 0, 0)], ∃ (c : Instr) (r : Request) (s : State),
      requestOf c = some r ∧ s.hands r.slot = true ∧ refuseRequest r.kind r.args s = some .invalid ∧
      (after c s).hub.regs.cause = 1#8 ∧ (after c s).hub.msiDue = s.hub.msiDue + p.2.2 :=
  fun p h => ⟨.laneControl 31 1 [9, 0], _, alerting p.1 p.2.1 (ready 0), rfl, by revert p; decide, by revert p; decide, by
    revert p; decide, by revert p; decide⟩

theorem test_hyp_FinishedRequestsAreWrittenInOrder :
    ∃ (h : Hub) (slot : Fin 32) (e : InFlight), h.attach = .attached ∧ h.inFlightEntry slot = some e :=
  ⟨(holding .snapshotNow (ready 0)).hub, 3, _, rfl, rfl⟩

theorem test_hyp_TimersComeNoEarlier :
    (∃ s : State, s.lanes[(8 : Fin 9)].phase = .hold 1500 ∧ s.hub.now < 1500) ∧
    (∃ s : State, s.lanes[(0 : Fin 9)].phase = .statusWait 1 250 ∧ s.hub.now < 250) ∧
    (∃ s : State, s.lanes[(0 : Fin 9)].phase = .awaitFrame 0 ∧ s.hub.now < 0 + 2000) ∧
    (∃ s : State, s.lanes[(0 : Fin 9)].retryOpened = some 0 ∧ s.hub.now < 0 + 10000000) ∧
    (∃ s : State, s.hub.now < s.lanes[(0 : Fin 9)].periodEnd) ∧
    (∃ (s : State) (w : CalibWindow), s.tracker.window = some w ∧ s.hub.now < w.endsAt) ∧
    (∃ s : State, s.switches[(1 : Fin 2)].pendingSince = some 0 ∧ s.hub.now < 0 + s.switches[(1 : Fin 2)].debounce.micros) ∧
    (∃ s : State, s.jack.pendingSince = some 0 ∧ s.hub.now < 0 + 32000) ∧
    (∃ s : State, s.output.i2sSince = some 0 ∧ 48 * (s.hub.now - 0) < 1000 * (s.voice.sampleClock.toNat + 1)) ∧
    (∃ s : State, s.hub.journal.state = .filling ∧ s.hub.now < s.hub.journal.fillStart + 1000 * s.hub.journal.sealPeriod) ∧
    (∃ s : State, s.hub.journal.state = .waiting ∧ s.hub.now < s.hub.journal.waitStart + 1000 * s.hub.journal.sealPeriod) ∧
    (∃ s : State, s.hub.sweep.timer = some 10000 ∧ s.hub.now < 10000) ∧
    (∃ s : State, s.hub.snapshot.timer = some 10000 ∧ s.hub.now < 10000) ∧
    (∃ s : State, s.standby.pulse = .delay 500 ∧ s.hub.now < 500) ∧
    (∃ s : State, s.standby.pulse = .pulsing 500 ∧ s.hub.now < 500) ∧
    (∃ (s : State) (r : Read), s.hub.outstandingRead 7 = some r ∧ s.hub.now < r.issuedAt + 2000) :=
  ⟨⟨ready 1499, by decide⟩, ⟨onLane 0 (fun l => { l with phase := .statusWait 1 250 }) (ready 249), by decide⟩,
    ⟨onLane 0 (fun l => { l with phase := .awaitFrame 0 }) (ready 1999), by decide⟩,
    ⟨onLane 0 (fun l => { l with retryOpened := some 0 }) (ready 9999999), by decide⟩,
    ⟨onLane 0 (fun l => { l with periodEnd := 125 }) (ready 124), by decide⟩,
    ⟨{ ready 0 with tracker := { window := some { first := 0, last := 87, address := 4, endsAt := 2000000, slot := 3 }, load := none } },
      _, rfl, by decide⟩,
    ⟨{ ready 7999 with switches := (ready 0).switches.set 1 { SwitchStage.reset true with pendingSince := some 0 } }, by decide⟩,
    ⟨{ ready 31999 with jack := { inserted := false, pendingSince := some 0 } }, by decide⟩, ⟨ready 20, by decide⟩,
    ⟨onHub (fun h => { h with journal := { h.journal with state := .filling } }) (ready 4999), by decide⟩,
    ⟨onHub (fun h => { h with journal := { h.journal with state := .waiting } }) (ready 4999), by decide⟩,
    ⟨onHub (fun h => { h with sweep := { h.sweep with timer := some 10000 } }) (ready 9999), by decide⟩,
    ⟨onHub (fun h => { h with snapshot := { h.snapshot with timer := some 10000 } }) (ready 9999), by decide⟩,
    ⟨onStandby (fun b => { b with pulse := .delay 500 }) (ready 499), by decide⟩,
    ⟨onStandby (fun b => { b with pulse := .pulsing 500 }) (ready 499), by decide⟩,
    ⟨reading .hold 4 (ready 0), _, rfl, by decide⟩⟩

theorem test_hyp_TimersComeNoEarlier_parts :
    (∃ (s : State) (e : LaneExchange), s.lanes[(8 : Fin 9)].exchange = some e ∧ s.hub.now < e.sentAt + 100) ∧
    (∃ s : State, s.voice.voices[(95 : Fin 96)].phase = .cutting ∧
      s.voice.sampleClock.toNat < s.voice.voices[(95 : Fin 96)].cutTime + 240) ∧
    (∃ s : State, s.voice.voices[(95 : Fin 96)].phase ≠ .cutting) ∧
    (∃ (s : State) (c : Click), s.metronome.click = some c ∧ c.remaining ≠ 0) ∧ (∃ s : State, s.metronome.click = none) ∧
    (∃ s : State, s.voice.sampleClock.toNat <
      s.metronome.anchor + 2880000 * s.metronome.index / s.metronome.gridTempo) ∧
    (∃ s : State,
      reached (s.metronome.followAnchor + BitVec.ofNat 32 (6000000 * s.metronome.followIndex / s.metronome.followTempo))
        s.player.position = false) :=
  ⟨⟨onLane 8 (fun l => { l with
      phase := .exchanging { step := .ident, value := none, number := 1, attempt := 1, sentAt := 0, firstSentAt := 0 } }) (ready 99),
      _, rfl, by decide⟩,
    ⟨onVoice 95 (fun v => { v with phase := .cutting })
      { ready 4999 with voice := { (ready 4999).voice with sampleClock := 239 } }, by decide⟩, ⟨ready 0, by decide⟩,
    ⟨onMetronome (fun m => { m with click := some { remaining := 1, pitch := 6, volume := 0, elapsed := 479 } }) (ready 0), _, rfl,
      by decide⟩, ⟨ready 0, by decide⟩,
    ⟨onMetronome (fun m => { m with anchor := 1 }) (ready 0), by decide⟩,
    ⟨onMetronome (fun m => { m with followAnchor := 1 }) (ready 0), by decide⟩⟩

theorem test_hyp_TimersComeNoEarlier_rail :
    (∃ s : State, s.rail.drvEn = true ∧ s.hub.now < s.rail.drvEnSince + 1000) ∧ (∃ s : State, s.rail.quiet = false) ∧
    (∃ s : State, s.rail.quiet = true ∧ s.hub.now - s.rail.quietSince < 1000 * s.railConfig.quietHold) ∧
    (∃ s : State, s.rail.state = .gated ∧ s.hub.now < s.rail.gateSince + 100000 * s.railConfig.gateLimit) ∧
    (∃ s : State, s.rail.state = .paused ∧ s.hub.now < s.rail.pauseSince + 100000 * s.railConfig.pauseLimit) ∧
    (∃ s : State, s.rail.seatedPending = some 0 ∧ s.hub.now < 0 + 2000) ∧
    (∃ s : State, s.rail.state = .seating ∧ s.hub.now < s.rail.seatSince + 200000) :=
  ⟨⟨onRail (fun r => { r with drvEn := true }) (ready 999), by decide⟩, ⟨ready 0, by decide⟩,
    ⟨onRail (fun r => { r with quiet := true }) (ready 39999), by decide⟩,
    ⟨onRail (fun r => { r with state := .gated }) (ready 1999999), by decide⟩,
    ⟨onRail (fun r => { r with state := .paused }) (ready 2999999), by decide⟩,
    ⟨onRail (fun r => { r with seatedPending := some 0 }) (ready 1999), by decide⟩,
    ⟨onRail (fun r => { r with state := .seating }) (ready 199999), by decide⟩⟩

/-! ### Sensor lanes -/

/-- A lane that waits for the answer to the step given, sent at time 0. -/
def probing (step : ExchangeStep) (attempt : Nat) (l : Lane) : Lane :=
  { l with
    phase := .exchanging { step, value := step.value 8, number := 1, attempt, sentAt := 0, firstSentAt := 0 }, exchangeNumber := 1 }

theorem test_hyp_LaneTimersAct :
    (∃ s : State, s.mainUp = true ∧ s.lanes[(8 : Fin 9)].phase = .hold 1500 ∧ 1500 ≤ s.hub.now) ∧
    (∃ s : State, s.mainUp = true ∧ s.lanes[(0 : Fin 9)].phase = .statusWait 19 250 ∧ 250 ≤ s.hub.now) ∧
    (∃ s : State, s.mainUp = true ∧ s.lanes[(0 : Fin 9)].retryOpened = some 0 ∧ 0 + 10000000 ≤ s.hub.now) ∧
    (∃ s : State, s.mainUp = true ∧ s.lanes[(0 : Fin 9)].periodEnd ≤ s.hub.now ∧ s.lanes[(0 : Fin 9)].state = .active ∧
      (if s.lanes[(0 : Fin 9)].validInPeriod then s.lanes[(0 : Fin 9)].silence else s.lanes[(0 : Fin 9)].silence + 1) < 16) ∧
    (∃ s : State, s.mainUp = true ∧ s.lanes[(0 : Fin 9)].periodEnd ≤ s.hub.now ∧ s.lanes[(0 : Fin 9)].state = .active ∧
      16 ≤ (if s.lanes[(0 : Fin 9)].validInPeriod then s.lanes[(0 : Fin 9)].silence else s.lanes[(0 : Fin 9)].silence + 1)) ∧
    (∃ s : State, s.mainUp = true ∧ s.lanes[(0 : Fin 9)].periodEnd ≤ s.hub.now ∧ s.lanes[(0 : Fin 9)].state ≠ .active ∧
      s.lanes[(0 : Fin 9)].phase = .awaitFrame 0) :=
  ⟨⟨ready 1500, by decide⟩, ⟨onLane 0 (fun l => { l with phase := .statusWait 19 250 }) (ready 250), by decide⟩,
    ⟨onLane 0 (fun l => { l with retryOpened := some 0 }) (ready 10000000), by decide⟩,
    ⟨onLane 0 (fun l => { l with state := .active, silence := 14 }) (ready 0), by decide⟩,
    ⟨onLane 0 (fun l => { l with state := .active, silence := 15 }) (ready 0), by decide⟩,
    ⟨onLane 0 (fun l => { l with phase := .awaitFrame 0 }) (ready 0), by decide⟩⟩

theorem test_hyp_GoodReplyAdvancesTheProbe :
    (∃ (s : State) (e : LaneExchange) (v : Word16), s.mainUp = true ∧ s.lanes[(7 : Fin 9)].exchange = some e ∧
      s.hub.now ≤ e.sentAt + 100 ∧ e.step = .ident ∧ v &&& 0xFFF0#16 = 0x5A10#16 ∧ (v &&& 0xF#16).toNat = 7) ∧
    (∃ (s : State) (e : LaneExchange) (v : Word16), s.mainUp = true ∧ s.lanes[(8 : Fin 9)].exchange = some e ∧
      s.hub.now ≤ e.sentAt + 100 ∧ e.step = .ident ∧ v &&& 0xFFF0#16 = 0x5A20#16 ∧ (v &&& 0xF#16).toNat ≠ 8) ∧
    (∃ (s : State) (e : LaneExchange) (v : Word16), s.mainUp = true ∧ s.lanes[(0 : Fin 9)].exchange = some e ∧
      s.hub.now ≤ e.sentAt + 100 ∧ e.step = .ident ∧ v &&& 0xFFF0#16 ≠ 0x5A10#16 ∧ v &&& 0xFFF0#16 ≠ 0x5A20#16 ∧
      s.lanes[(0 : Fin 9)].state = .probing) ∧
    (∃ (s : State) (e : LaneExchange), s.mainUp = true ∧ s.lanes[(0 : Fin 9)].exchange = some e ∧
      s.hub.now ≤ e.sentAt + 100 ∧ e.step = .led) ∧
    (∃ (s : State) (e : LaneExchange) (v : Word16), s.mainUp = true ∧ s.lanes[(0 : Fin 9)].exchange = some e ∧
      s.hub.now ≤ e.sentAt + 100 ∧ e.step = .status 19 ∧ v.getLsbD 0 = true) ∧
    (∃ (s : State) (e : LaneExchange) (v : Word16), s.mainUp = true ∧ s.lanes[(0 : Fin 9)].exchange = some e ∧
      s.hub.now ≤ e.sentAt + 100 ∧ e.step = .status 18 ∧ v.getLsbD 0 = false) ∧
    (∃ (s : State) (e : LaneExchange) (v : Word16), s.mainUp = true ∧ s.lanes[(0 : Fin 9)].exchange = some e ∧
      s.hub.now ≤ e.sentAt + 100 ∧ e.step = .status 19 ∧ v.getLsbD 0 = false ∧ s.lanes[(0 : Fin 9)].state = .probing) ∧
    (∃ (s : State) (e : LaneExchange), s.mainUp = true ∧ s.lanes[(0 : Fin 9)].exchange = some e ∧
      s.hub.now ≤ e.sentAt + 100 ∧ e.step = .start) :=
  ⟨⟨onLane 7 (probing .ident 1) (ready 100), _, 0x5A17, rfl, rfl, by decide⟩,
    ⟨onLane 8 (probing .ident 1) (ready 100), _, 0x5A27, rfl, rfl, by decide⟩,
    ⟨onLane 0 (probing .ident 1) (ready 100), _, 0, rfl, rfl, by decide⟩,
    ⟨onLane 0 (probing .led 1) (ready 100), _, rfl, rfl, by decide⟩,
    ⟨onLane 0 (probing (.status 19) 1) (ready 100), _, 1, rfl, rfl, by decide⟩,
    ⟨onLane 0 (probing (.status 18) 1) (ready 100), _, 0, rfl, rfl, by decide⟩,
    ⟨onLane 0 (probing (.status 19) 1) (ready 100), _, 0, rfl, rfl, by decide⟩,
    ⟨onLane 0 (probing .start 1) (ready 100), _, rfl, rfl, by decide⟩⟩

/-- A RECOVERING lane with attempts made in a retry window. -/
def recovering (opened : Option Nat) (attempts : Nat) (l : Lane) : Lane :=
  { l with state := .recovering, retryOpened := opened, attempts := attempts }

theorem test_hyp_GoodReplyAdvancesTheProbe_discarded_or_recovering :
    (∃ (s : State) (e : LaneExchange) (number : Nat) (crc : Byte) (body : List Byte), s.mainUp = true ∧
      s.lanes[(0 : Fin 9)].exchange = some e ∧ number ≠ e.number ∧ crc ≠ crc8 body) ∧
    (∃ (s : State) (e : LaneExchange), s.mainUp = true ∧ s.lanes[(0 : Fin 9)].exchange = some e ∧ e.sentAt + 100 < s.hub.now) ∧
    (∀ p ∈ [(none, 0), (some 0, 2), (some 0, 3)], ∃ (s : State) (e : LaneExchange) (v : Word16), s.mainUp = true ∧
      s.lanes[(0 : Fin 9)].exchange = some e ∧ s.hub.now ≤ e.sentAt + 100 ∧ e.step = .ident ∧
      v &&& 0xFFF0#16 ≠ 0x5A10#16 ∧ v &&& 0xFFF0#16 ≠ 0x5A20#16 ∧ s.lanes[(0 : Fin 9)].state = .recovering ∧
      s.lanes[(0 : Fin 9)].retryOpened = p.1 ∧ s.lanes[(0 : Fin 9)].attempts = p.2) :=
  ⟨⟨onLane 0 (probing .ident 1) (ready 100), _, 2, 1, [], rfl, rfl, by decide⟩,
    ⟨onLane 0 (probing .ident 1) (ready 101), _, rfl, rfl, by decide⟩,
    fun p _ => ⟨onLane 0 (fun l => recovering p.1 p.2 (probing .ident 1 l)) (ready 100), _, 0, rfl, rfl, by
      refine ⟨?_, rfl, by decide, by decide, rfl, rfl, rfl⟩
      show 100 ≤ 0 + 100
      decide⟩⟩

theorem test_hyp_FailedProbesAreRetriedOrSetAside_identity :
    (∃ (s : State) (e : LaneExchange), s.mainUp = true ∧ s.lanes[(0 : Fin 9)].exchange = some e ∧ e.sentAt + 100 ≤ s.hub.now ∧
      3 ≤ e.attempt ∧ e.step = .ident) ∧
    (∃ s : State, s.mainUp = true ∧ s.lanes[(0 : Fin 9)].phase = .awaitFrame 0 ∧ 0 + 2000 ≤ s.hub.now ∧
      s.lanes[(0 : Fin 9)].state = .recovering ∧ s.lanes[(0 : Fin 9)].retryOpened = none) :=
  ⟨⟨onLane 0 (probing .ident 3) (ready 100), _, rfl, rfl, by decide⟩,
    ⟨onLane 0 (fun l => { recovering none 0 l with phase := .awaitFrame 0 }) (ready 2000), by decide⟩⟩

theorem test_hyp_FailedProbesAreRetriedOrSetAside :
    (∃ (s : State) (e : LaneExchange), s.mainUp = true ∧ s.lanes[(0 : Fin 9)].exchange = some e ∧ e.sentAt + 100 ≤ s.hub.now ∧
      e.attempt < 3) ∧
    (∃ (s : State) (e : LaneExchange), s.mainUp = true ∧ s.lanes[(0 : Fin 9)].exchange = some e ∧ e.sentAt + 100 ≤ s.hub.now ∧
      3 ≤ e.attempt ∧ s.lanes[(0 : Fin 9)].state = .probing) ∧
    (∃ s : State, s.mainUp = true ∧ s.lanes[(0 : Fin 9)].phase = .awaitFrame 0 ∧ 0 + 2000 ≤ s.hub.now ∧
      s.lanes[(0 : Fin 9)].state = .recovering ∧ s.lanes[(0 : Fin 9)].retryOpened = some 0 ∧ s.lanes[(0 : Fin 9)].attempts < 3) ∧
    (∃ s : State, s.mainUp = true ∧ s.lanes[(0 : Fin 9)].phase = .awaitFrame 0 ∧ 0 + 2000 ≤ s.hub.now ∧
      s.lanes[(0 : Fin 9)].state = .recovering ∧ s.lanes[(0 : Fin 9)].retryOpened = some 0 ∧ 3 ≤ s.lanes[(0 : Fin 9)].attempts) :=
  ⟨⟨onLane 0 (probing .led 2) (ready 100), _, rfl, rfl, by decide⟩, ⟨onLane 0 (probing .led 3) (ready 100), _, rfl, rfl, by decide⟩,
    ⟨onLane 0 (fun l => { l with phase := .awaitFrame 0, state := .recovering, retryOpened := some 0, attempts := 2 }) (ready 2000),
      by decide⟩,
    ⟨onLane 0 (fun l => { l with phase := .awaitFrame 0, state := .recovering, retryOpened := some 0, attempts := 3 }) (ready 2000),
      by decide⟩⟩

/-- A pedal lane's frame of readings 0 with its CRC, and the same with a wrong one. -/
def pedalFrame : List Byte := List.replicate 7 0 ++ [crc8 (List.replicate 7 0)]
def badFrame : List Byte := List.replicate 7 0 ++ [crc8 (List.replicate 7 0) + 1]

/-- An ACTIVE pedal lane that expects the sequence number `n`, with the periods of `window` in its error window. -/
def servingPedals (n : BitVec 4) (window : List Nat) : State :=
  onLane 8 (fun l => { l with state := .active, phase := .idle, expected := some n, errorWindow := window }) (ready 0)

theorem test_hyp_FramesAreCheckedAndTaken :
    (∃ s : State, s.mainUp = true ∧ s.lanes[(8 : Fin 9)].phase = .awaitFrame 0 ∧ s.lanes[(8 : Fin 9)].state ≠ .active ∧
      s.hub.now ≤ 0 + 2000 ∧ (parseFrame (frameReadings 8) pedalFrame).map Prod.snd = some true ∧
      (parseFrame (frameReadings 8) badFrame).map Prod.snd = some false) ∧
    (∃ s : State, s.mainUp = true ∧ s.lanes[(8 : Fin 9)].state = .active ∧ s.lanes[(8 : Fin 9)].expected = some 0 ∧
      parseFrame (frameReadings 8) pedalFrame = some ({ sequence := 0, readings := [0, 0, 0] }, true)) ∧
    (∃ s : State, s.mainUp = true ∧ s.lanes[(8 : Fin 9)].state = .active ∧ s.lanes[(8 : Fin 9)].expected = some 15 ∧
      parseFrame (frameReadings 8) pedalFrame = some ({ sequence := 0, readings := [0, 0, 0] }, true) ∧
      (0 :: s.lanes[(8 : Fin 9)].errorWindow).length < 9 ∧ ¬ s.lanes[(8 : Fin 9)].errorWindow.contains 0) ∧
    (∃ s : State, s.mainUp = true ∧ s.lanes[(8 : Fin 9)].state = .active ∧ s.lanes[(8 : Fin 9)].expected = some 0 ∧
      parseFrame (frameReadings 8) badFrame = some ({ sequence := 0, readings := [0, 0, 0] }, false) ∧
      9 ≤ (0 :: s.lanes[(8 : Fin 9)].errorWindow).length ∧ ¬ s.lanes[(8 : Fin 9)].errorWindow.contains 0) ∧
    (∃ (n : Fin 8) (lane : Fin 9), lane = n.castSucc) ∧ (∃ (n : Fin 8) (lane : Fin 9), lane ≠ n.castSucc) :=
  ⟨⟨onLane 8 (fun l => { l with phase := .awaitFrame 0 }) (ready 2000), by decide +kernel⟩,
    ⟨servingPedals 0 [], by decide +kernel⟩, ⟨servingPedals 15 (List.replicate 7 1), by decide +kernel⟩,
    ⟨servingPedals 0 (List.replicate 8 255), by decide +kernel⟩, ⟨7, 7, by decide⟩, ⟨7, 8, by decide⟩⟩

/-- A key in a state, with its hammer above GATE-LOW since time 0, and readings at time `stamp`. -/
def keyIn (state : KeyState) : Key := { Key.reset with state, gateLowStamp := some 0, openNote := state == .restriking }
def readingsAt (previous : Option (Nat × Nat)) (depth height : Nat) (stamp : Word32) : Readings := { depth, height, previous, stamp }

theorem test_hyp_FramesAreCheckedAndTaken_lines :
    let c := Calibration.default
    (79 < c.press ∧ c.press ≤ 80 ∧ 349 < c.damper ∧ c.damper ≤ 350 ∧ 249 < c.clear ∧ c.clear ≤ 250 ∧ 699 < c.gateLow ∧
      c.gateLow ≤ 700 ∧ 899 < c.gateHigh ∧ c.gateHigh ≤ 900) ∧
    (∀ state : KeyState, ∃ k : Key, k.state = state ∧ k.gateLowStamp = some 0) ∧
    (∀ p ∈ [(650, 649, true), (649, 648, false), (650, 650, false), (650, 349, true), (349, 350, false)],
      ∃ r : Readings, r.depth = p.2.1 ∧ (r.previous.any fun q => c.rearm ≤ q.1 && r.depth < c.rearm) = p.2.2) ∧
    (∀ p ∈ [(699, 700, true), (700, 701, false), (698, 699, false)],
      ∃ r : Readings, r.height = p.2.1 ∧ (r.previous.any fun q => q.2 < c.gateLow && c.gateLow ≤ r.height) = p.2.2) :=
  ⟨by decide, fun state => ⟨keyIn state, rfl, rfl⟩, fun p h => ⟨readingsAt (some (p.1, 0)) p.2.1 0 0, rfl, by revert p; decide⟩,
    fun p h => ⟨readingsAt (some (0, p.1)) 0 p.2.1 0, rfl, by revert p; decide⟩⟩

/-- A sounding key above PRESS and DAMPER after a frame: released, in REST unless it went down. -/
theorem test_hyp_FramesAreCheckedAndTaken_release :
    ∀ p ∈ [(some (49, 0), true, KeyState.returning), (some (50, 0), false, .rest), (some (51, 0), false, .rest), (none, false, .rest)],
      ∃ (r : Readings) (k : Key), k.state = .sounding ∧ r.depth < Calibration.default.damper ∧ r.depth < Calibration.default.press ∧
        (r.previous.any fun q => decide (q.1 < r.depth)) = p.2.1 ∧ (k.keyStep Calibration.default r).1.state = p.2.2 :=
  fun p h => ⟨readingsAt p.1 50 0 0, keyIn .sounding, rfl, by revert p; decide, by revert p; decide, by revert p; decide,
    by revert p; decide⟩

theorem test_hyp_FramesAreCheckedAndTaken_strikes :
    let curve : Vector Nat 127 := Vector.replicate 127 1000
    (∀ stamp ∈ [(0 : Word32), 125, 1000], ∃ i : Fin 127, max 125 (stamp - 0).toNat ≤ curve[i] ∧
      ∀ j : Fin 127, i < j → curve[j] < max 125 (stamp - 0).toNat) ∧
    (∀ i : Fin 127, curve[i] < max 125 ((1001 : Word32) - 0).toNat) ∧
    (∀ height ∈ [900, 899, 700, 699], ∀ depth ∈ [80, 79], ∃ r : Readings, r.height = height ∧ r.depth = depth) := by
  refine ⟨fun stamp h => ⟨Fin.last 126, ?_, fun j lt => absurd lt (Fin.not_lt.mpr (Fin.le_last j))⟩, fun i => ?_,
    fun height _ depth _ => ⟨readingsAt none depth height 0, rfl, rfl⟩⟩
  · simp only [Fin.getElem_fin, Vector.getElem_replicate]
    revert stamp; simp
  · simp only [Fin.getElem_fin, Vector.getElem_replicate]
    simp

theorem test_hyp_FramesAreCheckedAndTaken_keys :
    (∃ k : Key, k.state = .disabled) ∧ (∃ k : Key, k.state = .calibrating ∧ k.extremes = none) ∧
    (∃ (k : Key) (x : Extremes), k.state = .calibrating ∧ k.extremes = some x) ∧
    (∃ k : Key, k.state ≠ .disabled ∧ k.state ≠ .calibrating) :=
  ⟨⟨keyIn .disabled, rfl⟩, ⟨keyIn .calibrating, rfl, rfl⟩,
    ⟨{ keyIn .calibrating with extremes := some { keyLow := 0, keyHigh := 200, hammerLow := 823, hammerHigh := 1023 } }, _, rfl, rfl⟩,
    ⟨keyIn .rest, by decide⟩⟩

/-- A state with an open note of key 87, which the sostenuto pedal holds or not. -/
def withOpenNote (captured : Bool) : State :=
  let s := ready 0
  { s with
    keys := s.keys.set 87 { Key.reset with state := .sounding, openNote := true, masked := !captured }
    pedals := { s.pedals with capture := if captured then [87] else [] } }

theorem test_hyp_FramesAreCheckedAndTaken_lanes :
    (∀ captured : Bool, ∃ s : State, s.keys[(87 : Fin 88)].openNote = true ∧ s.keys[(87 : Fin 88)].masked = !captured ∧
      laneOf 87 = 7 ∧ (87 ∈ s.pedals.capture ↔ captured = true)) ∧
    (∃ s : State, s.keys[(0 : Fin 88)].openNote = false ∧ laneOf 0 ≠ 7) ∧
    (∃ (ve : VoiceEngine) (keys : List (Fin 88)), ve.voices[(95 : Fin 96)].source = .live ∧
      ve.voices[(95 : Fin 96)].phase = .damping ∧ ve.voices[(95 : Fin 96)].key ∈ keys) ∧
    (∀ phase ∈ [VoicePhase.sounding, .damping], ∃ (ve : VoiceEngine) (keys : List (Fin 88)), ve.voices[(95 : Fin 96)].source = .live ∧
      ve.voices[(95 : Fin 96)].phase = phase ∧ ve.voices[(95 : Fin 96)].key ∉ keys ∧
      ve.voices[(95 : Fin 96)].sostenutoHeld = true ∧ ve.voices[(95 : Fin 96)].keyDown = false) :=
  let one (v : Voice) : VoiceEngine := (onVoice 95 (fun _ => v) (ready 0)).voice
  ⟨fun captured => ⟨withOpenNote captured, by cases captured <;> decide⟩, ⟨ready 0, by decide⟩,
    ⟨one { Voice.reset with phase := .damping }, [0], by decide⟩,
    fun phase h => ⟨one { Voice.reset with phase, sostenutoHeld := true }, [], by revert phase; decide⟩⟩

theorem test_hyp_LaneControlActsOnOneLane :
    (∃ (a : List Byte) (s : State), s.hands 31 = true ∧ RequestsOwed s ∧ u8At a 0 = (8 : Fin 9).val ∧ u8At a 1 ≤ 3 ∧
      (u8At a 1 = 2 → s.lanes[(8 : Fin 9)].state ≠ .off)) :=
  ⟨[8, 2], ready 0, by decide, requestsOwed_ready 0, by decide⟩

theorem test_hyp_LaneControlActsOnOneLane_active :
    (∀ action ∈ [(1 : Byte), 2], ∃ (a : List Byte) (s : State), s.hands 31 = true ∧ RequestsOwed s ∧ u8At a 0 = (8 : Fin 9).val ∧
      u8At a 1 = action.toNat ∧ s.lanes[(8 : Fin 9)].state = .active) ∧
    (∀ action ∈ [(1 : Byte), 2], ∃ (a : List Byte) (s : State) (n : Fin 8), s.hands 31 = true ∧ RequestsOwed s ∧
      u8At a 0 = (7 : Fin 9).val ∧ u8At a 1 = action.toNat ∧ s.lanes[(7 : Fin 9)].state = .active ∧ (7 : Fin 9) = n.castSucc) ∧
    (∀ action ∈ [(0 : Byte), 3], ∃ (a : List Byte) (s : State), s.hands 31 = true ∧ RequestsOwed s ∧ u8At a 0 = (8 : Fin 9).val ∧
      u8At a 1 = action.toNat ∧ s.lanes[(8 : Fin 9)].state = .active) ∧
    (∃ (a : List Byte) (s : State), s.hands 31 = true ∧ RequestsOwed s ∧ u8At a 0 = (0 : Fin 9).val ∧ u8At a 1 = 1 ∧
      s.lanes[(0 : Fin 9)].state ≠ .active) :=
  let serving (lane : Fin 9) : State := onLane lane (fun l => { l with state := .active, phase := .idle, expected := some 0 }) (ready 0)
  ⟨fun action h => ⟨[8, action], serving 8, by decide, requestsOwed_of_none _ rfl rfl rfl rfl rfl rfl rfl, by revert action; decide⟩,
    fun action h => ⟨[7, action], serving 7, 7, by decide, requestsOwed_of_none _ rfl rfl rfl rfl rfl rfl rfl,
      by revert action; decide⟩,
    fun action h => ⟨[8, action], serving 8, by decide, requestsOwed_of_none _ rfl rfl rfl rfl rfl rfl rfl, by revert action; decide⟩,
    ⟨[0, 1], ready 0, by decide, requestsOwed_ready 0, by decide⟩⟩

/-! ### Keys and hammers -/

theorem test_hyp_SenseConfigSetsMasksAndLevels :
    ∃ (a : List Byte) (s : State), s.hands 31 = true ∧ RequestsOwed s ∧ bitOf (u8At a 0) 0 = true ∧ bitOf (u8At a 0) 1 = true ∧
      (∀ i : Fin 9, u8At a (12 + i.val) ≤ 15) ∧ maskBit a 1 87 = true ∧ s.keys[(87 : Fin 88)].masked = false ∧
      maskBit a 1 0 = s.keys[(0 : Fin 88)].masked :=
  ⟨List.replicate 1 3 ++ List.replicate 10 0 ++ [128] ++ List.replicate 9 15, ready 0, by decide, requestsOwed_ready 0, by decide⟩

theorem test_hyp_SenseConfigSetsMasksAndLevels_unmask :
    ∃ (a : List Byte) (s : State), s.hands 31 = true ∧ RequestsOwed s ∧ bitOf (u8At a 0) 0 = true ∧ bitOf (u8At a 0) 1 = false ∧
      maskBit a 1 87 = false ∧ s.keys[(87 : Fin 88)].masked = true ∧ s.lanes[(laneOf 87).castSucc].state = .active :=
  ⟨[1], onLane 7 (fun l => { l with state := .active, phase := .idle })
      { ready 0 with keys := (ready 0).keys.set 87 { Key.reset with masked := true } }, by decide,
    requestsOwed_of_none _ rfl rfl rfl rfl rfl rfl rfl, by decide⟩

/-- A calibration window over one key, open until `now`, its request in flight. -/
def calibrating (now : Nat) : State :=
  let s := holding .calibrateKeys (ready now)
  let k : Key := { Key.reset with
    state := .calibrating, extremes := some { keyLow := 0, keyHigh := 200, hammerLow := 823, hammerHigh := 1023 } }
  { s with
    tracker := { window := some { first := 87, last := 87, address := 4, endsAt := now, slot := 3 }, load := none }
    keys := s.keys.set 87 k }

theorem test_hyp_CalibrationOpensAndEnds :
    (∃ (a : List Byte) (s : State), s.hands 31 = true ∧ RequestsOwed s ∧ u8At a 8 ≤ u8At a 9 ∧ u8At a 9 ≤ 87 ∧ 2 ≤ u8At a 10 ∧
      u8At a 10 ≤ 30 ∧ u64At a 0 ≠ 0 ∧ u64At a 0 % 4 = 0 ∧ s.tracker.window = none ∧ s.tracker.load = none ∧
      u8At a 8 ≤ (87 : Fin 88).val ∧ s.keys[(87 : Fin 88)].state = .disabled) ∧
    (∃ (a : List Byte) (s : State), s.hands 31 = true ∧ RequestsOwed s ∧ u8At a 8 ≤ u8At a 9 ∧ u8At a 9 ≤ 87 ∧ 2 ≤ u8At a 10 ∧
      u8At a 10 ≤ 30 ∧ u64At a 0 ≠ 0 ∧ u64At a 0 % 4 = 0 ∧ s.tracker.window = none ∧ s.tracker.load = none ∧
      u8At a 8 ≤ (0 : Fin 88).val ∧ (0 : Fin 88).val ≤ u8At a 9 ∧ s.keys[(0 : Fin 88)].state ≠ .disabled) ∧
    (∃ (s : State) (w : CalibWindow) (e : InFlight), s.mainUp = true ∧ s.hub.attach = .attached ∧ s.tracker.window = some w ∧
      w.endsAt ≤ s.hub.now ∧ s.hub.inFlightEntry w.slot = some e ∧ s.keys[(87 : Fin 88)].state = .calibrating ∧
      s.keys[(0 : Fin 88)].state ≠ .calibrating ∧ s.keys[(0 : Fin 88)].extremes = none ∧
      s.keys[(87 : Fin 88)].extremes = some { keyLow := 0, keyHigh := 200, hammerLow := 823, hammerHigh := 1023 }) :=
  ⟨⟨[4, 0, 0, 0, 0, 0, 0, 0, 87, 87, 30], ready 0, by decide, requestsOwed_ready 0, by decide⟩,
    ⟨[4, 0, 0, 0, 0, 0, 0, 0, 0, 87, 2],
      { ready 0 with keys := (ready 0).keys.set 0 { Key.reset with state := .rest } }, by decide,
      requestsOwed_of_none _ rfl rfl rfl rfl rfl rfl rfl, by decide⟩,
    ⟨calibrating 2000000, _, _, rfl, rfl, rfl, by decide, rfl, by decide⟩⟩

theorem test_hyp_CalibAbortEndsTheWindow :
    (∃ s : State, s.hands 31 = true ∧ s.tracker.window = none) ∧
    (∃ (s : State) (w : CalibWindow) (e : InFlight), s.hands 31 = true ∧ s.tracker.window = some w ∧
      s.hub.inFlightEntry w.slot = some e ∧ s.hub.journal.state ≠ .off ∧ s.hub.journal.queue.length < 128 ∧
      s.hub.journal.state ≠ .filling) :=
  ⟨⟨ready 0, by decide⟩, ⟨calibrating 2000000, _, _, by decide, rfl, rfl, by decide⟩⟩

/-- A state with no read waiting or outstanding has its reads numbered. -/
theorem readsNumbered_of_none (h : Hub) (none : h.sched.waiting ++ h.sched.outstanding = []) : h.readsNumbered := by
  intro r mem
  rw [none] at mem
  cases mem

theorem test_hyp_TableLoadReadsItsTable :
    (ready 0).hub.readsNumbered ∧
    (∃ (a : List Byte) (s : State), s = ready 0 ∧ s.hands 31 = true ∧ u64At a 0 ≠ 0 ∧ u64At a 0 % 4 = 0 ∧ u8At a 8 = 0 ∧ s.tracker.load = none) ∧
    (∃ (a : List Byte) (s : State), s = ready 0 ∧ s.hands 31 = true ∧ u64At a 0 ≠ 0 ∧ u64At a 0 % 4 = 0 ∧ u8At a 8 = 1 ∧
      s.tracker.load = none ∧ s.tracker.window = none) ∧
    (∃ (a : List Byte) (s : State), s = ready 0 ∧ s.hands 31 = true ∧ u64At a 0 ≠ 0 ∧ u64At a 0 % 4 = 0 ∧ u8At a 8 = 2 ∧
      s.voice.load = none) :=
  ⟨readsNumbered_of_none _ rfl, ⟨[4], _, rfl, by decide⟩, ⟨[4, 0, 0, 0, 0, 0, 0, 0, 1], _, rfl, by decide⟩,
    ⟨[252, 255, 255, 255, 255, 255, 255, 255, 2], _, rfl, by decide⟩⟩

/-- A table load, or a key map load, one of whose reads has just been issued. -/
def loadingTable (calib : Bool) (chunks : List (Option (List Byte))) (part : Fin 4) (length : Nat) : State :=
  let s := reading (.table part) length (ready 0)
  { s with tracker := { window := none, load := some { calib, slot := 3, chunks } } }
def loadingKeymap (chunks : List (Option (List Byte))) (part : Fin 44) (length : Nat) : State :=
  let s := reading (.keymap part) length (ready 0)
  { s with voice := { s.voice with load := some { slot := 3, chunks } } }

/-- A calibration table of `n` default records. -/
def defaultRecords : Nat → List Byte
  | 0 => []
  | n + 1 => Calibration.default.bytes ++ defaultRecords n

theorem u8At_defaultRecords (n i : Nat) : u8At (defaultRecords (n + 1)) (20 + i) = u8At (defaultRecords n) i := by
  simp only [u8At, defaultRecords, List.getD_eq_getElem?_getD]
  rw [List.getElem?_append_right (by simp [Calibration.bytes, le16, leBytes])]
  congr 3
  simp [Calibration.bytes, le16, leBytes]

theorem parse_defaultRecords (n k : Nat) (h : k < n) : Calibration.parse (defaultRecords n) (20 * k) = Calibration.default := by
  induction k generalizing n with
  | zero =>
    obtain ⟨m, rfl⟩ : ∃ m, n = m + 1 := ⟨n - 1, by omega⟩
    rfl
  | succ k ih =>
    obtain ⟨m, rfl⟩ : ∃ m, n = m + 1 := ⟨n - 1, by omega⟩
    rw [← ih m (by omega)]
    simp only [Calibration.parse, u16At, show 20 * (k + 1) = 20 + 20 * k by omega, Nat.add_assoc, u8At_defaultRecords]

/-- What the arrival statements ask of the read 7 of a state: it is outstanding, in time and not discarded. -/
def Waiting (tag : ReadTag) (s : State) : Prop :=
  s.mainUp = true ∧ ∃ r, s.hub.outstandingRead 7 = some r ∧ s.hub.now ≤ r.issuedAt + 2000 ∧ r.discarded = false ∧ r.tag = tag

/-- CURVE[v] of a curve table. -/
abbrev curveAt (table : List Byte) (v : Nat) : Nat := u16At table (2 * (v - 1))

theorem test_hyp_TableReadsApplyValidTables_curve :
    (∃ (s : State) (x : TableLoad) (bytes : List Byte), Waiting (.table 3) s ∧ s.tracker.load = some x ∧
      allChunks (putChunk x.chunks 3 (padded 512 bytes)) = none) ∧
    (∃ (s : State) (x : TableLoad) (bytes table : List Byte), Waiting (.table 0) s ∧ s.tracker.load = some x ∧ x.calib = false ∧
      allChunks (putChunk x.chunks 0 (padded 254 bytes)) = some table ∧
      ∀ v < 128, 2 ≤ v → curveAt table v ≤ curveAt table (v - 1)) ∧
    (∀ v ∈ [2, 127], ∃ (s : State) (x : TableLoad) (bytes table : List Byte), Waiting (.table 0) s ∧ s.tracker.load = some x ∧
      x.calib = false ∧ allChunks (putChunk x.chunks 0 (padded 254 bytes)) = some table ∧ curveAt table (v - 1) < curveAt table v ∧
      ∀ w < v, 2 ≤ w → curveAt table w ≤ curveAt table (w - 1)) :=
  ⟨⟨loadingTable true (noChunks 4) 3 512, _, [], ⟨by decide, _, rfl, by decide⟩, rfl, by decide +kernel⟩,
    ⟨loadingTable false [none] 0 254, _, [], _, ⟨by decide, _, rfl, by decide⟩, rfl, rfl, rfl, by decide +kernel⟩,
    fun v h => ⟨loadingTable false [none] 0 254, _, List.replicate (2 * (v - 1)) 0 ++ [1], _, ⟨by decide, _, rfl, by decide⟩, rfl, rfl, rfl,
      by revert v; decide +kernel, by revert v; decide +kernel⟩⟩

/-- Three of the four parts of a calibration table of default records. -/
def threeParts : List (Option (List Byte)) :=
  [some (slice (defaultRecords 88) 0 512), some (slice (defaultRecords 88) 512 512), some (slice (defaultRecords 88) 1024 512), none]

/-- R20, R204: the record of a key in a calibration table is valid. -/
abbrev GoodRecord (table : List Byte) (k : Nat) : Prop :=
  let field (i : Nat) : Nat := u16At table (20 * k + 2 * i)
  (∀ i < 4, field i ≤ 1023) ∧ (field 0 + 200 ≤ field 1 ∨ field 1 + 200 ≤ field 0) ∧
    (field 2 + 200 ≤ field 3 ∨ field 3 + 200 ≤ field 2) ∧ field 4 < field 5 ∧ field 5 < field 6 ∧ field 6 ≤ 1000 ∧
    field 7 < field 8 ∧ field 8 < field 9 ∧ field 9 ≤ 1000

theorem goodRecord_defaultRecords (n k : Nat) (h : k < n) : GoodRecord (defaultRecords n) k := by
  have same := parse_defaultRecords n k h
  have f0 : u16At (defaultRecords n) (20 * k + 2 * 0) = Calibration.default.keyRest := congrArg Calibration.keyRest same
  have f1 : u16At (defaultRecords n) (20 * k + 2 * 1) = Calibration.default.keyBottom := congrArg Calibration.keyBottom same
  have f2 : u16At (defaultRecords n) (20 * k + 2 * 2) = Calibration.default.hammerRest := congrArg Calibration.hammerRest same
  have f3 : u16At (defaultRecords n) (20 * k + 2 * 3) = Calibration.default.hammerTop := congrArg Calibration.hammerTop same
  have f4 : u16At (defaultRecords n) (20 * k + 2 * 4) = Calibration.default.press := congrArg Calibration.press same
  have f5 : u16At (defaultRecords n) (20 * k + 2 * 5) = Calibration.default.damper := congrArg Calibration.damper same
  have f6 : u16At (defaultRecords n) (20 * k + 2 * 6) = Calibration.default.rearm := congrArg Calibration.rearm same
  have f7 : u16At (defaultRecords n) (20 * k + 2 * 7) = Calibration.default.clear := congrArg Calibration.clear same
  have f8 : u16At (defaultRecords n) (20 * k + 2 * 8) = Calibration.default.gateLow := congrArg Calibration.gateLow same
  have f9 : u16At (defaultRecords n) (20 * k + 2 * 9) = Calibration.default.gateHigh := congrArg Calibration.gateHigh same
  dsimp only [GoodRecord]
  rw [f0, f1, f2, f3, f4, f5, f6, f7, f8, f9]
  refine ⟨fun i hi => ?_, by decide⟩
  interval_cases i <;> simp only [f0, f1, f2, f3] <;> decide

theorem test_hyp_TableReadsApplyValidTables_calib :
    (∃ (s : State) (x : TableLoad) (bytes table : List Byte), Waiting (.table 3) s ∧ s.tracker.load = some x ∧ x.calib = true ∧
      allChunks (putChunk x.chunks 3 (padded 224 bytes)) = some table ∧ ∀ k < 88, GoodRecord table k) ∧
    (∀ k ∈ [0, 87], ∃ (s : State) (x : TableLoad) (bytes table : List Byte), Waiting (.table 3) s ∧ s.tracker.load = some x ∧
      x.calib = true ∧ allChunks (putChunk x.chunks 3 (padded 0 bytes)) = some table ∧ ¬ GoodRecord table k ∧
      ∀ j < k, GoodRecord table j) :=
  ⟨⟨loadingTable true threeParts 3 224, { calib := true, slot := 3, chunks := threeParts }, slice (defaultRecords 88) 1536 224,
      defaultRecords 88, ⟨by decide, _, rfl, by decide⟩, rfl, rfl, by decide +kernel, goodRecord_defaultRecords 88⟩,
    fun k h => ⟨loadingTable true [some (defaultRecords k), some [], some [], none] 3 0, _, [], defaultRecords k,
      ⟨rfl, _, rfl, Nat.zero_le _, rfl, rfl⟩, rfl, rfl, by revert k; decide +kernel, by revert k; decide +kernel,
      goodRecord_defaultRecords k⟩⟩

/-- R60, R204: an entry of a zone set of a key map table meets its conditions. -/
abbrev GoodEntry (table : List Byte) (set entry : Nat) : Prop :=
  let at_ := 128 * set + 32 * entry
  let top (entry : Nat) : Nat := u8At table (128 * set + 32 * entry + 22)
  let address := u64At table at_
  let length := u32At table (at_ + 8)
  let start := u32At table (at_ + 12)
  let loop := u32At table (at_ + 16)
  top entry = 0 ∨
    ((entry = 0 ∨ (top (entry - 1) ≠ 0 ∧ top (entry - 1) < top entry)) ∧
      (address ≠ 0 ∧ address % 4 = 0 ∧ length ≠ 0 ∧ length % 2 = 0 ∧ (loop = 0 → start = 0) ∧
        (loop ≠ 0 → 512 ≤ loop ∧ start % 2 = 0 ∧ loop % 2 = 0 ∧ start + loop ≤ length)) ∧
      ((∀ later < 4, entry < later → top later = 0) → top entry = 127))

/-- A key map table whose entries before one are unused, and that one has a velocity top and no sample. -/
def lateEntry (set entry : Nat) : List Byte := List.replicate (128 * set + 32 * entry + 22) 0 ++ [127]

theorem u8At_lateEntry (set entry i : Nat) (h : i < 128 * set + 32 * entry + 22) : u8At (lateEntry set entry) i = 0 := by
  unfold u8At lateEntry
  rw [List.getD_eq_getElem?_getD, List.getElem?_append_left (by simp; omega), List.getElem?_replicate_of_lt h]
  rfl

theorem goodEntry_lateEntry (set entry j e : Nat) (h : 128 * j + 32 * e < 128 * set + 32 * entry) :
    GoodEntry (lateEntry set entry) j e :=
  .inl (u8At_lateEntry set entry _ (by omega))

theorem badEntry_lateEntry (set entry : Nat) : ¬ GoodEntry (lateEntry set entry) set entry := by
  have top : u8At (lateEntry set entry) (128 * set + 32 * entry + 22) = 127 := by
    unfold u8At lateEntry
    rw [List.getD_eq_getElem?_getD, List.getElem?_append_right (by simp)]
    simp
  have address : u64At (lateEntry set entry) (128 * set + 32 * entry) = 0 := by
    simp (disch := omega) [u64At, u32At, u16At, u8At_lateEntry]
  rintro (unused | ⟨_, ⟨h, _⟩, _⟩)
  · exact absurd (top.symm.trans unused) (by decide)
  · exact h address

/-- A key map table with one looped zone in its first set, two zones that are not in its second, and no other. -/
def smallMap : List Byte :=
  padded 128 (le64 4 ++ le32 512 ++ le32 0 ++ le32 512 ++ le16 0 ++ [127]) ++
    padded 32 (le64 8 ++ le32 2 ++ le32 0 ++ le32 0 ++ le16 0 ++ [126]) ++ le64 12 ++ le32 2 ++ le32 0 ++ le32 0 ++ le16 0 ++ [127]

theorem goodEntry_smallMap (set : Nat) (_ : set < 176) (entry : Nat) (he : entry < 4) : GoodEntry smallMap set entry := by
  have first : ∀ i < 8, GoodEntry smallMap (i / 4) (i % 4) := by decide +kernel
  by_cases h : 4 * set + entry < 8
  · have one := first (4 * set + entry) h
    rwa [show (4 * set + entry) / 4 = set by omega, show (4 * set + entry) % 4 = entry by omega] at one
  · have unused : u8At smallMap (128 * set + 32 * entry + 22) = 0 := by
      rw [u8At, List.getD_eq_default _ _ (by rw [show smallMap.length = 183 from by decide +kernel]; omega)]
      rfl
    exact .inl unused

theorem test_hyp_TableReadsApplyValidTables_keymap :
    (∃ (s : State) (x : KeymapLoad) (bytes : List Byte), Waiting (.keymap 43) s ∧ s.voice.load = some x ∧
      allChunks (putChunk x.chunks 43 (padded 512 bytes)) = none) ∧
    (∃ (s : State) (x : KeymapLoad) (bytes table : List Byte), Waiting (.keymap 1) s ∧ s.voice.load = some x ∧
      allChunks (putChunk x.chunks 1 (padded 0 bytes)) = some table ∧ (∀ set < 176, ∀ entry < 4, GoodEntry table set entry) ∧
      u8At table 22 = 127 ∧ u8At table 150 = 126 ∧ u8At table 182 = 127) ∧
    (∀ p ∈ [(0, 0), (175, 3)], ∃ (s : State) (x : KeymapLoad) (bytes table : List Byte), Waiting (.keymap 1) s ∧
      s.voice.load = some x ∧ allChunks (putChunk x.chunks 1 (padded 0 bytes)) = some table ∧ ¬ GoodEntry table p.1 p.2 ∧
      (∀ e < p.2, GoodEntry table p.1 e) ∧ ∀ j < p.1, ∀ e < 4, GoodEntry table j e) :=
  ⟨⟨loadingKeymap (noChunks 44) 43 512, _, [], ⟨by decide, _, rfl, by decide⟩, rfl, by decide +kernel⟩,
    ⟨loadingKeymap [some smallMap, none] 1 0, _, [], smallMap, ⟨by decide, _, rfl, by decide⟩, rfl, by decide +kernel, goodEntry_smallMap,
      by decide +kernel⟩,
    fun p h => ⟨loadingKeymap [some (lateEntry p.1 p.2), none] 1 0, _, [], lateEntry p.1 p.2 ++ [],
      ⟨rfl, _, rfl, Nat.zero_le _, rfl, rfl⟩, rfl, rfl,
      by rw [List.append_nil]; exact badEntry_lateEntry _ _,
      fun e he => by rw [List.append_nil]; exact goodEntry_lateEntry _ _ _ _ (by omega),
      fun j hj e he => by rw [List.append_nil]; exact goodEntry_lateEntry _ _ _ _ (by omega)⟩⟩

theorem test_hyp_failed_loads_of_an_attached_part :
    (∃ (s : State) (x : TableLoad), Waiting (.table 3) s ∧ s.tracker.load = some x ∧ s.hub.attach = .attached) ∧
    (∃ (s : State) (x : KeymapLoad), Waiting (.keymap 43) s ∧ s.voice.load = some x ∧ s.hub.attach = .attached) :=
  ⟨⟨loadingTable true threeParts 3 224, _, ⟨by decide, _, rfl, by decide⟩, rfl, rfl⟩,
    ⟨loadingKeymap (noChunks 44) 43 512, _, ⟨by decide, _, rfl, by decide⟩, rfl, rfl⟩⟩

/-! ### Pedals, footswitches and jack sense -/

/-- A footswitch stage in an ATTACHED part, or in one in standby. -/
def withSwitch (g : SwitchStage) (s : State) : State := { s with switches := s.switches.set 1 g }
def standingBy (now : Nat) : State := onHub (fun h => { h with attach := .standby }) (ready now)

theorem test_hyp_InputChangesAreDebounced :
    (∃ s : State, s.resetHeld ≠ some .powerOn ∧ s.mainUp = true ∧ true ≠ s.pins.jackLow) ∧
    (∃ s : State, s.resetHeld ≠ some .powerOn ∧ false = s.pins.jackLow) ∧
    (∃ s : State, s.resetHeld ≠ some .powerOn ∧ s.mainUp = true ∧ s.jack.pendingSince = some 0 ∧ 0 + 32000 ≤ s.hub.now) ∧
    (∃ s : State, s.resetHeld ≠ some .powerOn ∧ false ≠ switchLevel 1 s.pins ∧ 0 < s.switches[(1 : Fin 2)].debounce.micros) ∧
    (∃ s : State, s.resetHeld ≠ some .powerOn ∧ false ≠ switchLevel 1 s.pins ∧ false ≠ s.switches[(1 : Fin 2)].high ∧
      s.switches[(1 : Fin 2)].debounce.micros = 0) ∧
    (∃ s : State, s.resetHeld ≠ some .powerOn ∧ true = switchLevel 1 s.pins) ∧
    (∃ s : State, s.resetHeld ≠ some .powerOn ∧ s.switches[(1 : Fin 2)].pendingSince = some 0 ∧
      0 + s.switches[(1 : Fin 2)].debounce.micros ≤ s.hub.now ∧
      s.switches[(1 : Fin 2)].edges.passes (!s.switches[(1 : Fin 2)].high) = false) ∧
    (∃ s : State, s.resetHeld ≠ some .powerOn ∧ s.switches[(1 : Fin 2)].pendingSince = some 0 ∧
      0 + s.switches[(1 : Fin 2)].debounce.micros ≤ s.hub.now ∧
      s.switches[(1 : Fin 2)].edges.passes (!s.switches[(1 : Fin 2)].high) = true ∧ s.switches[(1 : Fin 2)].wake = true ∧
      (s.hub.attach = .standby ∨ s.hub.attach = .woken)) :=
  ⟨⟨ready 0, by decide⟩, ⟨ready 0, by decide⟩, ⟨{ ready 32000 with jack := { inserted := true, pendingSince := some 0 } }, by decide⟩,
    ⟨ready 0, by decide⟩, ⟨withSwitch { SwitchStage.reset true with debounce := .ms0 } (ready 0), by decide⟩, ⟨ready 0, by decide⟩,
    ⟨withSwitch { SwitchStage.reset true with pendingSince := some 0, edges := .rising } (ready 8000), by decide⟩,
    ⟨withSwitch { SwitchStage.reset true with pendingSince := some 0, edges := .both, wake := true } (standingBy 8000), by decide⟩⟩

/-- The switch 1 at the end of its debounce time, both edges passed, with an action, in a part that is awake. -/
def pressed (action : SwitchAction) (s : State) : State :=
  { withSwitch { SwitchStage.reset true with pendingSince := some 0, edges := .both } (onHub (fun h => { h with now := 8000 }) s) with
    actions := s.actions.set 1 action }

/-- What the statements of the actions ask of the state. -/
abbrev Passed (action : SwitchAction) (s : State) : Prop :=
  s.resetHeld ≠ some .powerOn ∧ s.switches[(1 : Fin 2)].pendingSince = some 0 ∧
    0 + s.switches[(1 : Fin 2)].debounce.micros ≤ s.hub.now ∧
    s.switches[(1 : Fin 2)].edges.passes (!s.switches[(1 : Fin 2)].high) = true ∧ s.mainUp = true ∧
    s.hub.attach ≠ .standby ∧ s.hub.attach ≠ .woken ∧ s.actions[(1 : Fin 2)] = action

theorem test_hyp_InputChangesAreDebounced_actions :
    (∃ s : State, Passed .none s) ∧ (∃ s : State, Passed .mark s ∧ s.entry.isSome = true) ∧
    (∀ state : PlayerState, ∃ s : State, Passed .playToggle s ∧ s.entry = none ∧ s.player.state = state) ∧
    (∀ on : Bool, ∃ s : State, Passed .metronomeToggle s ∧ s.entry = none ∧ s.metronome.settings.on = on ∧
      s.metronome.settings.mode = .free ∧ s.hub.attach = .attached) ∧
    (∀ state : RecorderState, ∃ s : State, Passed .mark s ∧ s.entry = none ∧ s.recorder.state = state) ∧
    (∃ s : State, Passed .railToggle s ∧ s.entry = none ∧ s.rail.state ≠ .idle) ∧
    (∀ p ∈ [((3999 : Int), PositionClass.clear), (4000, .crossing), (11000, .crossing), (11001, .nearSilent), (12800, .silent)],
      ∃ s : State, Passed .railToggle s ∧ s.entry = none ∧ s.rail.state = .idle ∧ positionClass s.railConfig s.rail = p.2) :=
  ⟨⟨pressed .none (ready 0), by decide⟩, ⟨{ pressed .mark (ready 0) with entry := some (3, .recorderClose) }, by decide⟩,
    fun state => ⟨onPlayer (fun p => { p with state := state }) (pressed .playToggle (ready 0)), by cases state <;> decide⟩,
    fun on => ⟨onMetronome (fun m => { m with settings := { m.settings with on := on } }) (pressed .metronomeToggle (ready 0)), by
      cases on <;> decide⟩,
    fun state => ⟨onRecorder (fun r => { r with state := state }) (pressed .mark (ready 0)), by cases state <;> decide⟩,
    ⟨pressed .railToggle (ready 0), by decide⟩,
    fun p h => ⟨onRail (fun r => { r with state := .idle, position := p.1, seated := true }) (pressed .railToggle (ready 0)), by
      revert p; decide⟩⟩

theorem test_hyp_PedalConfigReplacesItsGroups :
    (∃ (a : List Byte) (s : State), s.hands 31 = true ∧ RequestsOwed s ∧ refusePedalConfig a = none ∧
      bitOf (u8At a 0) 0 = true ∧ bitOf (u8At a 0) 1 = true) ∧
    (∃ (a : List Byte) (s : State), s.hands 31 = true ∧ RequestsOwed s ∧ refusePedalConfig a = none ∧
      bitOf (u8At a 0) 0 = false ∧ bitOf (u8At a 0) 1 = false) :=
  ⟨⟨[3, 126, 127, 16, 0x42, 0xA1, 80, 0, 172, 3, 80, 0, 172, 3, 80, 0, 172, 3], ready 0, by decide, requestsOwed_ready 0, by decide⟩,
    ⟨[], ready 0, by decide, requestsOwed_ready 0, by decide⟩⟩

/-! ### The voice engine and the output -/

/-- A LIVE voice that sounds past its first fill. -/
def soundingVoice (v : Voice) : Voice := { v with phase := .sounding, startNumber := 5 }

theorem test_hyp_VoiceRequestsConfigureAndCut :
    (∃ (a : List Byte) (s : State), s.hands 31 = true ∧ bitOf (u8At a 0) 0 = false) ∧
    (∃ (a : List Byte) (s : State) (policy : LivePolicy), s.hands 31 = true ∧ bitOf (u8At a 0) 0 = true ∧
      LivePolicy.ofCode (u8At a 1) = some policy ∧ 16 ≤ u8At a 2 ∧ u8At a 2 ≤ 96 ∧ 50 ≤ u8At a 3 ∧ u8At a 3 ≤ 150 ∧
      100 ≤ u16At a 4 ∧ u16At a 4 ≤ 20000) ∧
    (∃ (a : List Byte) (s : State), s.hands 31 = true ∧ 1 ≤ u8At a 0 ∧ u8At a 0 ≤ 3 ∧
      s.voice.voices[(95 : Fin 96)].alive = true ∧ s.voice.voices[(95 : Fin 96)].source.inMask (u8At a 0) = true ∧
      s.voice.voices[(95 : Fin 96)].firstFill = false) :=
  ⟨⟨[], ready 0, by decide⟩, ⟨[1, 2, 16, 150, 32, 78], ready 0, .never, by decide⟩,
    ⟨[3], onVoice 95 soundingVoice (ready 0), by decide⟩⟩

/-- A voice engine whose gate is open, with a sample for every key, all its voices in one state. -/
def engineWith (v : Voice) (queue : List PendingStart) : VoiceEngine :=
  let zones : KeyZones := { normal := [⟨4, 512, 0, 0, 0, 127⟩], unaCorda := [] }
  { VoiceEngine.reset with
    policy := .always, voices := Vector.replicate 96 v, queue, keyMap := Vector.replicate 88 zones }
def aStart : PendingStart := { key := 1, source := .playback, velocity := 1 }

/-- A voice engine with no voice and no entry of the key 87. -/
abbrev NoPair (ve : VoiceEngine) : Prop :=
  (∀ j : Fin 96, ve.voices[j].phase ≠ .free → ¬ (ve.voices[j].key = 87 ∧ ve.voices[j].source = .live)) ∧
    ∀ p ∈ ve.queue, ¬ (p.key = 87 ∧ p.source = .live)

theorem test_hyp_VoiceRequestsConfigureAndCut_notes :
    (VoiceEngine.reset.policy = .silentOnly ∧ VoiceEngine.reset.atSilent = false) ∧
    (∃ ve : VoiceEngine, ve.policy = .always ∧ ve.keyMap[(87 : Fin 88)].normal ≠ [] ∧ NoPair ve ∧ ve.queue = [] ∧
      ve.firstFree = some 0 ∧ ve.inUse < ve.limit) ∧
    (∀ phase ∈ [VoicePhase.sounding, .damping, .cutting], ∃ ve : VoiceEngine, ve.policy = .always ∧
      ve.keyMap[(0 : Fin 88)].normal ≠ [] ∧ ve.voices[(95 : Fin 96)].key = 0 ∧ ve.voices[(95 : Fin 96)].source = .live ∧
      ve.voices[(95 : Fin 96)].phase = phase ∧ ve.voices[(95 : Fin 96)].firstFill = false) ∧
    (∃ ve : VoiceEngine, ve.policy = .always ∧ NoPair ve ∧ ve.firstFree = none ∧ 8 ≤ ve.queue.length ∧
      ve.queue.length ≤ ve.inPhase .cutting) ∧
    (∃ ve : VoiceEngine, ve.policy = .always ∧ NoPair ve ∧ ve.firstFree = none ∧ ve.queue.length < 8 ∧
      ve.queue.length < ve.inPhase .cutting) ∧
    (∃ (ve : VoiceEngine) (k : Fin 96), ve.policy = .always ∧ NoPair ve ∧ ve.firstFree = none ∧ ve.queue.length < 8 ∧
      ve.queue.length = ve.inPhase .cutting ∧ ve.victim = some k ∧ ve.voices[k].firstFill = false) ∧
    (∃ ve : VoiceEngine, ve.victim = none) :=
  ⟨by decide, ⟨engineWith .reset [], by decide +kernel⟩,
    fun phase h => ⟨engineWith { Voice.reset with phase } [], by revert phase; decide +kernel⟩,
    ⟨engineWith { Voice.reset with phase := .cutting } (List.replicate 8 aStart), by decide +kernel⟩,
    ⟨engineWith { Voice.reset with phase := .cutting } (List.replicate 7 aStart), by decide +kernel⟩,
    ⟨engineWith { Voice.reset with phase := .sounding } [], 0, by decide +kernel⟩, ⟨engineWith .reset [], by decide +kernel⟩⟩

/-- An engine in use by so many voices past or before their first fill, and those with equal levels and start times. -/
def engineOf (used : Nat) (firstFill : Bool) : VoiceEngine :=
  { VoiceEngine.reset with voices := Vector.ofFn fun k : Fin 96 =>
      if k.val < used then { Voice.reset with phase := .damping, firstFill } else .reset }

theorem test_hyp_VoiceRequestsConfigureAndCut_limit :
    (∃ (ve : VoiceEngine) (k : Fin 96), ve.victim = some k ∧ ve.voices[(95 : Fin 96)].phase = ve.voices[k].phase ∧
      ve.voices[(95 : Fin 96)].level = ve.voices[k].level ∧ ve.voices[(95 : Fin 96)].startTime = ve.voices[k].startTime ∧ k < 95) ∧
    (∀ firstFill : Bool, ∃ (e : Engine) (k : Fin 96), e.2.victim = some k ∧ e.2.voices[k].firstFill = firstFill) ∧
    (∀ used ∈ [0, 16], ∃ (a : List Byte) (s : State), s.hands 31 = true ∧ bitOf (u8At a 0) 0 = true ∧
      LivePolicy.ofCode (u8At a 1) = some .never ∧ 16 ≤ u8At a 2 ∧ u8At a 2 ≤ 96 ∧ 50 ≤ u8At a 3 ∧ u8At a 3 ≤ 150 ∧
      100 ≤ u16At a 4 ∧ u16At a 4 ≤ 20000 ∧ s.voice.inUse = used ∧ s.voice.inUse ≤ u8At a 2 ∧ s.voice.queue = []) ∧
    (∀ used ∈ [17, 96], ∃ (a : List Byte) (s : State), s.hands 31 = true ∧ bitOf (u8At a 0) 0 = true ∧
      LivePolicy.ofCode (u8At a 1) = some .never ∧ 16 ≤ u8At a 2 ∧ u8At a 2 ≤ 96 ∧ 50 ≤ u8At a 3 ∧ u8At a 3 ≤ 150 ∧
      100 ≤ u16At a 4 ∧ u16At a 4 ≤ 20000 ∧ s.voice.inUse = used ∧ u8At a 2 < s.voice.inUse ∧ s.voice.queue = [] ∧
      ∀ j : Fin 96, s.voice.voices[j].firstFill = false) :=
  ⟨⟨engineOf 96 false, 0, by decide +kernel⟩, fun firstFill => ⟨((ready 0).hub, engineOf 96 firstFill), 0, by
      cases firstFill <;> decide +kernel⟩,
    fun used h => ⟨[1, 2, 16, 50, 100, 0], { ready 0 with voice := engineOf used false }, by revert used; decide +kernel⟩,
    fun used h => ⟨[1, 2, 16, 150, 32, 78], { ready 0 with voice := engineOf used false }, by revert used; decide +kernel⟩⟩

theorem test_hyp_VoiceRequestsConfigureAndCut_release :
    (∃ e : Engine, e.2.voices[(95 : Fin 96)].phase ≠ .free ∧ e.2.inUse ≤ e.2.limit ∧ e.2.target = e.2.limit ∧ e.2.queue = [aStart] ∧
      e.2.gateAllows aStart.source = true ∧ e.2.zoneSet aStart.key aStart.source ≠ []) ∧
    (∃ e : Engine, e.2.voices[(95 : Fin 96)].phase ≠ .free ∧ e.2.inUse ≤ e.2.limit ∧ e.2.target = e.2.limit ∧ e.2.queue = [aStart] ∧
      e.2.zoneSet aStart.key aStart.source = []) ∧
    (∃ (e : Engine) (p : PendingStart), e.2.voices[(95 : Fin 96)].phase ≠ .free ∧ e.2.inUse ≤ e.2.limit ∧ e.2.target = e.2.limit ∧
      e.2.queue = [p] ∧ e.2.gateAllows p.source = false) :=
  let full := engineWith { Voice.reset with phase := .cutting } [aStart]
  ⟨⟨((ready 0).hub, full), by decide +kernel⟩, ⟨((ready 0).hub, { full with keyMap := emptyKeyMap }), by decide +kernel⟩,
    ⟨((ready 0).hub, { full with policy := .never, queue := [{ aStart with source := .live }] }), { aStart with source := .live },
      by decide +kernel⟩⟩

theorem test_hyp_SamplePeriodsMixAndEndFades_frame :
    (∀ t ∈ [0, 199, 200, 511], t < 512) ∧ (∀ p ∈ [(0, 0), (8, 1), (199, 24), (200, 25), (263, 0), (264, 1), (511, 31)], p.1 / 8 % 32 = p.2) ∧
    (∃ s : State, s.output.i2sSince = none) ∧ (∃ s : State, s.output.i2sSince = some 0) :=
  ⟨by decide, by decide, ⟨after .mainReset (ready 0), by decide⟩, ⟨ready 0, by decide⟩⟩

theorem test_hyp_SamplePeriodsMixAndEndFades :
    (∃ s : State, s.mainUp = true ∧ s.output.i2sSince = some 0 ∧
      1000 * (s.voice.sampleClock.toNat + 1) ≤ 48 * (s.hub.now - 0) ∧ s.output.toBeMuted = true) ∧
    (∃ s : State, s.mainUp = true ∧ s.output.i2sSince = some 0 ∧
      1000 * (s.voice.sampleClock.toNat + 1) ≤ 48 * (s.hub.now - 0) ∧ s.output.toBeMuted = false) ∧
    (∃ s : State, s.mainUp = true ∧ s.voice.voices[(95 : Fin 96)].phase = .cutting ∧
      s.voice.voices[(95 : Fin 96)].cutTime + 240 ≤ s.voice.sampleClock.toNat ∧ s.voice.queue = []) ∧
    (∃ (s : State) (c : Click), s.mainUp = true ∧ s.metronome.click = some c ∧ c.remaining = 0) :=
  ⟨⟨ready 21, by decide⟩, ⟨{ ready 21 with output := { (ready 21).output with jackInserted := true } }, by decide⟩,
    ⟨onVoice 95 (fun v => { v with phase := .cutting })
        { ready 5000 with voice := { (ready 5000).voice with sampleClock := 240 } }, by decide⟩,
    ⟨onMetronome (fun m => { m with click := some { remaining := 0, pitch := 6, volume := 0, elapsed := 480 } }) (ready 0), _, rfl, rfl,
      by decide⟩⟩

theorem test_hyp_SamplePeriodsMixAndEndFades_fades :
    (∃ (e : Engine) (k : Fin 96), e.2.voices[k].phase ≠ .free ∧ e.2.queue = []) ∧
    (∃ e : Engine, ∀ k : Fin 96, ¬ (e.2.voices[k].phase = .cutting ∧ e.2.voices[k].cutTime + 240 ≤ e.2.sampleClock.toNat)) ∧
    (∃ e : Engine, let faded (k : Fin 96) : Prop :=
        e.2.voices[k].phase = .cutting ∧ e.2.voices[k].cutTime + 240 ≤ e.2.sampleClock.toNat
      faded 0 ∧ faded 95 ∧ ∀ j, faded j → j ≠ 95 → e.2.voices[(95 : Fin 96)].cutNumber < e.2.voices[j].cutNumber) :=
  let cut (number : Nat) : Voice := { Voice.reset with phase := .cutting, cutNumber := number }
  let engine (clock : Word64) (v w : Voice) : Engine :=
    ((ready 0).hub, { (onVoice 0 (fun _ => v) (onVoice 95 (fun _ => w) (ready 0))).voice with sampleClock := clock })
  ⟨⟨engine 0 .reset (cut 1), 95, by decide⟩, ⟨engine 239 (cut 2) (cut 1), by decide +kernel⟩,
    ⟨engine 240 (cut 2) (cut 1), by decide +kernel⟩⟩

/-- A voice that plays half A of a zone, its level kept, with its cursor and its place in the half. -/
def halfway (length loopLength : Nat) (other : HalfState) (left : Bool) (cursor playPos : Nat) : Voice :=
  { Voice.reset with
    phase := .sounding, firstFill := false, leftBehind := left, cursor := cursor, playPos := playPos, fetch := cursor
    zone := { address := 4, length := length, loopStart := 0, loopLength := loopLength, decay := 0, top := 127 }
    halfA := { state := .full, data := List.replicate 4 0, parts := [] }
    halfB := { state := other, data := List.replicate 4 0, parts := [] } }

theorem test_hyp_SamplePeriodsMixAndEndFades_voice :
    (∃ v : Voice, v.phase = .free) ∧ (∃ v : Voice, v.phase ≠ .free ∧ v.firstFill = true) ∧
    (∃ v : Voice, v.phase = .sounding ∧ v.firstFill = false ∧ 960 * Config.levelUnit ≤ v.level + v.zone.decay * 240) ∧
    (∃ v : Voice, v.phase = .sounding ∧ v.level + v.zone.decay * 240 < 960 * Config.levelUnit ∧ v.zone.loopLength = 0 ∧
      v.zone.length ≤ v.cursor + 2) ∧
    (∃ (v : Voice) (clock : Nat), v.phase = .cutting ∧
      960 * Config.levelUnit ≤ v.cutLevel + (960 * Config.levelUnit - v.cutLevel) * min 240 (clock - v.cutTime) / 240) :=
  ⟨⟨.reset, rfl⟩, ⟨{ Voice.reset with phase := .sounding, firstFill := true }, by decide⟩,
    ⟨{ halfway 512 0 .full false 0 0 with level := 960 * Config.levelUnit }, rfl, rfl, by decide +kernel⟩,
    ⟨halfway 512 0 .full false 510 0, rfl, by decide +kernel⟩,
    ⟨{ Voice.reset with phase := .cutting }, 240, rfl, by decide +kernel⟩⟩

theorem test_hyp_SamplePeriodsMixAndEndFades_goes_on :
    (∀ pos ∈ [(0 : Nat), 1], ∃ v : Voice, v.phase = .sounding ∧ v.playB = false ∧
      v.level + v.zone.decay * 240 < 960 * Config.levelUnit ∧ v.cursor + 2 < v.zone.length ∧ v.playPos = pos ∧
      v.playPos + 2 < v.halfA.data.length) ∧
    (∀ left : Bool, ∀ other ∈ [HalfState.empty, .filling, .full], ∃ v : Voice, v.phase = .sounding ∧ v.playB = false ∧
      v.level + v.zone.decay * 240 < 960 * Config.levelUnit ∧ v.cursor + 2 < v.zone.length ∧ v.halfA.data.length ≤ v.playPos + 2 ∧
      v.halfB.state = other ∧ v.leftBehind = left ∧ v.zone.loopLength = 0 ∧ v.fetch < v.zone.length) ∧
    (∃ v : Voice, v.phase = .sounding ∧ v.playB = false ∧ v.halfA.data.length ≤ v.playPos + 2 ∧ v.halfB.state = .full ∧
      v.leftBehind = false ∧ v.zone.loopLength = 0 ∧ v.zone.length ≤ v.fetch ∧ v.cursor + 2 < v.zone.length) ∧
    (∃ v : Voice, v.phase = .sounding ∧ v.playB = false ∧ v.halfA.data.length ≤ v.playPos + 2 ∧ v.halfB.state = .full ∧
      v.leftBehind = false ∧ v.zone.loopLength ≠ 0 ∧ v.zone.loopStart + v.zone.loopLength < v.fetch + 256) :=
  ⟨fun pos h => ⟨halfway 512 0 .full false 0 pos, rfl, rfl, by revert pos; decide +kernel⟩,
    fun left other h => ⟨halfway 512 0 other left 508 2, by revert left other; decide +kernel⟩,
    ⟨{ halfway 512 0 .full false 508 2 with fetch := 512 }, by decide⟩, ⟨halfway 512 512 .full false 508 2, by decide⟩⟩

/-- A voice read in time for the voice 95, which sounds with the start number 5. -/
def voiceRead (start : Word16) (target : FillTarget) : State :=
  reading (.voice 95 start target 1) 512 (onVoice 95 soundingVoice (ready 0))

theorem test_hyp_VoiceReadsFillTheirVoice :
    (∃ s : State, Waiting (.voice 95 5 .first 1) s ∧ s.voice.voices[(95 : Fin 96)].inUse = true ∧
      s.voice.voices[(95 : Fin 96)].startNumber = 5 ∧ s.voice.queue = []) ∧
    (∃ s : State, Waiting (.voice 95 5 (.half false) 1) s ∧ s.voice.voices[(95 : Fin 96)].inUse = true ∧
      s.voice.voices[(95 : Fin 96)].startNumber = 5) ∧
    (∃ s : State, Waiting (.voice 95 5 (.half true) 1) s ∧ s.voice.voices[(95 : Fin 96)].inUse = true ∧
      s.voice.voices[(95 : Fin 96)].startNumber = 5) ∧
    (∃ s : State, Waiting (.voice 95 4 .first 1) s ∧ s.voice.voices[(95 : Fin 96)].startNumber ≠ 4) :=
  ⟨⟨voiceRead 5 .first, ⟨by decide, _, rfl, by decide⟩, by decide⟩,
    ⟨voiceRead 5 (.half false), ⟨by decide, _, rfl, by decide⟩, by decide⟩,
    ⟨voiceRead 5 (.half true), ⟨by decide, _, rfl, by decide⟩, by decide⟩,
    ⟨voiceRead 4 .first, ⟨by decide, _, rfl, by decide⟩, by decide⟩⟩

/-- An engine with one entry waiting, its limit and target `limit`, and record 95 as given. -/
def serving (limit : Nat) (source : Source) (v : Voice) : Engine :=
  ((ready 0).hub, { (onVoice 95 (fun _ => v) (ready 0)).voice with
    limit, target := limit, policy := .never, queue := [{ key := 87, source, velocity := 64 }]
    keyMap := (Vector.replicate 88 { normal := [], unaCorda := [] }).set 87
      { normal := if v.inUse then [] else [{ Zone.blank with top := 127 }], unaCorda := [] } })

theorem test_hyp_VoiceReadsFillTheirVoice_serving :
    (∃ e : Engine, e.2.queue = []) ∧
    (∃ (e : Engine) (p : PendingStart), e.2.queue = [p] ∧ e.2.voices[(0 : Fin 96)].phase = .free ∧ e.2.inUse < e.2.limit ∧
      e.2.gateAllows p.source = false) ∧
    (∃ (e : Engine) (p : PendingStart), e.2.queue = [p] ∧ e.2.voices[(0 : Fin 96)].phase = .free ∧ e.2.inUse < e.2.limit ∧
      e.2.gateAllows p.source = true ∧ e.2.zoneSet p.key p.source = []) ∧
    (∃ (e : Engine) (p : PendingStart), e.2.queue = [p] ∧ e.2.voices[(0 : Fin 96)].phase = .free ∧ e.2.inUse < e.2.limit ∧
      e.2.gateAllows p.source = true ∧ e.2.zoneSet p.key p.source ≠ []) ∧
    (∃ (e : Engine) (p : PendingStart), e.2.queue = [p] ∧ ¬ e.2.inUse < e.2.limit ∧ e.2.victim = none) ∧
    (∀ firstFill : Bool, ∃ (e : Engine) (p : PendingStart), e.2.queue = [p] ∧ ¬ e.2.inUse < e.2.limit ∧
      e.2.limit ≤ e.2.target ∧ e.2.inPhase .cutting < e.2.queue.length ∧ e.2.victim = some 95 ∧
      e.2.voices[(95 : Fin 96)].firstFill = firstFill) ∧
    (∃ s : State, Waiting (.voice 95 5 .first 1) s ∧ s.voice.voices[(95 : Fin 96)].inUse = true ∧
      s.voice.voices[(95 : Fin 96)].startNumber = 5 ∧ s.voice.queue.length = 1) :=
  let sounding (firstFill : Bool) : Voice := { soundingVoice .reset with firstFill }
  ⟨⟨((ready 0).hub, (ready 0).voice), by decide⟩, ⟨serving 16 .live .reset, _, rfl, by decide +kernel⟩,
    ⟨serving 16 .playback (sounding false), _, rfl, by decide +kernel⟩, ⟨serving 16 .playback .reset, _, rfl, by decide +kernel⟩,
    ⟨serving 0 .live .reset, _, rfl, by decide +kernel⟩,
    fun firstFill => ⟨serving 1 .live (sounding firstFill), _, rfl, by cases firstFill <;> decide +kernel⟩,
    ⟨{ voiceRead 5 .first with voice := { (voiceRead 5 .first).voice with queue := (serving 16 .live .reset).2.queue } },
      ⟨by decide, _, rfl, by decide⟩, by decide⟩⟩

theorem test_hyp_OutputConfigSetsVolumeAndMute :
    (∃ (a : List Byte) (s : State), s.hands 31 = true ∧ bitOf (u8At a 0) 0 = true ∧ 127 < u8At a 1) ∧
    (∃ (a : List Byte) (s : State), s.hands 31 = true ∧ bitOf (u8At a 0) 1 = true ∧ u8At a 2 ≠ 0 ∧ u8At a 2 ≠ 1) ∧
    (∃ (a : List Byte) (s : State), s.hands 31 = true ∧ (bitOf (u8At a 0) 0 = true → u8At a 1 ≤ 127) ∧
      (bitOf (u8At a 0) 1 = true → u8At a 2 = 0 ∨ u8At a 2 = 1)) :=
  ⟨⟨[1, 128], ready 0, by decide⟩, ⟨[2, 0, 2], ready 0, by decide⟩, ⟨[3, 127, 1], ready 0, by decide⟩⟩

theorem test_hyp_MetronomeRequestSetsAndStarts :
    (∃ (a : List Byte) (s : State), s.hands 31 = true ∧ bitOf (u8At a 0) 0 = false) ∧
    (∃ (a : List Byte) (s : State) (new : MetronomeSettings), s.hands 31 = true ∧ bitOf (u8At a 0) 0 = true ∧
      MetronomeSettings.parse a = some new ∧ new.on = true ∧ s.metronome.settings.on = false ∧ new.mode = .free) ∧
    (∃ (a : List Byte) (s : State) (new : MetronomeSettings), s.hands 31 = true ∧ bitOf (u8At a 0) 0 = true ∧
      MetronomeSettings.parse a = some new ∧ new.on = true ∧ s.metronome.settings.on = false ∧ new.mode = .follow) ∧
    (∃ (a : List Byte) (s : State) (new : MetronomeSettings), s.hands 31 = true ∧ bitOf (u8At a 0) 0 = true ∧
      MetronomeSettings.parse a = some new ∧ new.on = false ∧ s.metronome.settings.on = true) :=
  ⟨⟨[], ready 0, by decide⟩, ⟨[1, 7, 0, 16, 44, 1, 6, 63, 50, 127], ready 0, _, by decide, by decide, rfl, by decide⟩,
    ⟨[1, 1, 1, 1, 30, 0, 6, 63, 10, 0], ready 0, _, by decide, by decide, rfl, by decide⟩,
    ⟨[1, 0, 1, 1, 30, 0, 6, 63, 10, 0],
      onMetronome (fun m => { m with settings := { m.settings with on := true } }) (ready 0), _, by decide, by decide, rfl, by decide⟩⟩

/-- A take in which every part is GUIDE, in follow mode, and block 0 of it holding one event, read whole into buffer 0. -/
def theTake : TakeRecord :=
  { firstBlock := 4096, takeId := 1, startMarker := none, tempo := 100, parts := Vector.replicate 4 .guide, follow := true
    followTimeout := 60, earlyWindow := 0, loopA := none, loopB := none, loopCount := 0, journalNotes := false }
def theBlock (e : ScoreEvent) : ScoreBlock :=
  { magic := 0x4B475342, takeId := 1, index := 0, count := 1, last := true, next := 0, tempo := 1200, events := [e] }
def playing (state : PlayerState) (e : ScoreEvent) (s : State) : State :=
  let buffer : BlockBuffer :=
    { state := .valid, address := 4096, index := 0, nextTake := false, chunks := [], block := some (theBlock e) }
  onPlayer (fun p => { p with
    state := state, take := some theTake, parts := theTake.parts, buffers := p.buffers.set 0 buffer }) s

/-- A NOTE_ON of key 87 in part 3, and an END, each at a score time. -/
def noteAt (time : Nat) : ScoreEvent := { delta := time, kind := 1, target := 87, value := 64, part := 3, aux := 0 }
def endAt (time : Nat) : ScoreEvent := { delta := time, kind := 7, target := 0, value := 0, part := 0, aux := 0 }

/-- A metronome that is on, whose beat `index` is due in FREE mode, or in FOLLOW mode at the score position 0. -/
def beating (mode : MetronomeMode) (reanchor : Bool) : State :=
  playing .playing (noteAt 1)
    (onMetronome (fun m => { m with
      settings := { m.settings with on := true, mode := mode }, reanchor := reanchor, gridSet := true }) (ready 0))

theorem test_hyp_DueBeatsAreGiven :
    (∃ s : State, s.mainUp = true ∧ s.metronome.settings.on = true ∧ s.hub.attach ≠ .standby ∧ s.hub.attach ≠ .woken ∧
      s.metronome.settings.mode = .free ∧
      s.metronome.anchor + 2880000 * s.metronome.index / s.metronome.gridTempo ≤ s.voice.sampleClock.toNat ∧
      s.metronome.reanchor = false) ∧
    (∃ s : State, s.mainUp = true ∧ s.metronome.settings.on = true ∧ s.hub.attach ≠ .standby ∧ s.hub.attach ≠ .woken ∧
      s.metronome.settings.mode = .free ∧
      s.metronome.anchor + 2880000 * s.metronome.index / s.metronome.gridTempo ≤ s.voice.sampleClock.toNat ∧
      s.metronome.reanchor = true) ∧
    (∃ s : State, s.mainUp = true ∧ s.metronome.settings.on = true ∧ s.hub.attach ≠ .standby ∧ s.hub.attach ≠ .woken ∧
      s.metronome.settings.mode = .follow ∧ s.metronome.gridSet = true ∧ s.player.state = .playing ∧
      reached (s.metronome.followAnchor + BitVec.ofNat 32 (6000000 * s.metronome.followIndex / s.metronome.followTempo))
        s.player.position = true ∧
      s.player.groupDueBy
        (s.metronome.followAnchor + BitVec.ofNat 32 (6000000 * s.metronome.followIndex / s.metronome.followTempo)) = false) :=
  ⟨⟨beating .free false, by decide⟩, ⟨beating .free true, by decide⟩, ⟨beating .follow false, by decide⟩⟩

/-! ### The hammer-stop rail -/

/-- A homed rail at rest at a position. -/
def railAt (position : Int) (now : Nat) : State :=
  onRail (fun r => { r with state := .idle, homed := true, position := position, seated := true }) (ready now)

/-- The hammers have been quiet since time 0. -/
def quietly (s : State) : State := onRail (fun r => { r with quiet := true, quietSince := 0 }) s

/-- An active move of no request, to a target, and a motion in a phase. -/
def aMove (kind : MoveKind) (target : Int) : ActiveMove :=
  { kind, target, profile := RailConfig.default.profile, slot := none, before := .idle, homing := kind == .home }
def aMotion (outward : Bool) (phase : MotionPhase) : Motion :=
  { outward, phase, change := { since := 0, v0 := 400, v1 := 400, acc := 40000, sCurve := false }, started := true, lastPulse := 0
    rate := 400000000, travel := 0 }
def moving (state : RailState) (kind : MoveKind) (target : Int) (motion : Option Motion) (now : Nat) : State :=
  onRail (fun r => { r with
    state := state, homed := true, active := some (aMove kind target), motion := motion, drvEn := true, drvSettled := true })
    (ready now)

theorem test_hyp_RailConfigQueryAndLamp :
    (∃ (a : List Byte) (c : RailConfig) (s : State), s.hands 31 = true ∧ s.rail.state.still = true ∧ s.rail.next = none ∧
      RailConfig.parse a = some c ∧ c.valid = true ∧ s.rail.state = .idle ∧ s.rail.position ≤ (c.span : Int)) ∧
    (∃ s : State, s.hands 31 = true) ∧ (∃ s : State, s.resetHeld = none) :=
  ⟨⟨RailConfig.default.bytes, _, railAt 14000 0, by decide, by decide, rfl, rfl, by decide⟩, ⟨ready 0, by decide⟩, ⟨ready 0, rfl⟩⟩

theorem test_hyp_RailConfigQueryAndLamp_area :
    (∀ choice ∈ [0, 1, 2, 3], ∃ a : List Byte, a.length = 24 ∧ u8At a 23 / 8 % 4 = choice ∧
      (RailConfig.parse a).isSome = decide (choice < 3)) ∧
    (RailConfig.parse (RailConfig.default.bytes.take 23)).isSome = true :=
  ⟨fun choice h => ⟨RailConfig.default.bytes.take 23 ++ le8 (8 * choice + 224), by revert choice; decide +kernel⟩, by decide +kernel⟩

/-- A rail in a state at a position, with a lamp mode and a standby lamp choice, in an attach state. -/
def lampAt (attach : AttachState) (mode : LampMode) (choice : StandbyLamp) (state : RailState) (position : Int) (seated : Bool) : State :=
  let s := onHub (fun h => { h with attach := attach }) (ready 0)
  { s with
    rail := { s.rail with state := state, position := position, seated := seated }
    railConfig := { s.railConfig with lampMode := mode, standbyLamp := choice } }

theorem test_hyp_RailConfigQueryAndLamp_lamp :
    (∀ attach ∈ [AttachState.standby, .woken], ∀ choice ∈ [StandbyLamp.keep, .fade, .off], ∃ s : State,
      s.deck.hub.attach = attach ∧ s.deck.config.standbyLamp = choice) ∧
    (∀ mode ∈ [LampMode.auto, .show .off, .show .on, .show .blink05, .show .blink1, .show .blink2, .show .blink4, .show .fade],
      ∃ s : State, s.deck.hub.attach ≠ .standby ∧ s.deck.hub.attach ≠ .woken ∧ s.deck.config.lampMode = mode) ∧
    (∀ state ∈ [RailState.gated, .moving, .paused, .seating, .homing, .unknown, .faulted], ∃ s : State,
      s.deck.hub.attach ≠ .standby ∧ s.deck.hub.attach ≠ .woken ∧ s.deck.config.lampMode = .auto ∧ s.deck.rail.state = state) ∧
    (∃ s : State, s.deck.hub.attach = .attached ∧ s.deck.config.lampMode = .auto ∧ s.deck.rail.state = .idle ∧
      s.deck.rail.position = s.deck.config.silent ∧ s.deck.rail.seated = true) ∧
    (∃ s : State, s.deck.hub.attach = .attached ∧ s.deck.config.lampMode = .auto ∧ s.deck.rail.state = .idle ∧
      s.deck.rail.position + 1 = s.deck.config.crossStart) ∧
    (∃ s : State, s.deck.hub.attach = .attached ∧ s.deck.config.lampMode = .auto ∧ s.deck.rail.state = .idle ∧
      s.deck.rail.position = s.deck.config.crossStart) ∧
    (∃ s : State, s.deck.hub.attach = .attached ∧ s.deck.config.lampMode = .auto ∧ s.deck.rail.state = .idle ∧
      s.deck.rail.position = s.deck.config.silent ∧ s.deck.rail.seated = false) ∧
    LampFollows State.reset ∧ (after .mainReset State.reset).lamp.shown ≠ State.reset.lamp.shown :=
  ⟨fun attach _ choice _ => ⟨lampAt attach .auto choice .idle 0 false, rfl, rfl⟩,
    fun mode _ => ⟨lampAt .attached mode .keep .idle 0 false, nofun, nofun, rfl⟩,
    fun state _ => ⟨lampAt .detached .auto .off state 0 false, nofun, nofun, rfl, rfl⟩,
    ⟨lampAt .attached .auto .keep .idle 12800 true, by decide⟩, ⟨lampAt .attached .auto .keep .idle 3999 false, by decide⟩,
    ⟨lampAt .attached .auto .keep .idle 4000 false, by decide⟩, ⟨lampAt .attached .auto .keep .idle 12800 false, by decide⟩,
    { asleep := by decide, chosen := fun _ _ _ p h => (nomatch h), auto := by decide }, by decide⟩

/-- The arguments of RAIL_MOVE: a GOTO, an ENGAGE, a HOME. -/
def gotoArgs (target : Int) : List Byte := lei32 target ++ [3]
def engageArgs : List Byte := [0, 0, 0, 0, 1]
def homeArgs : List Byte := [0, 0, 0, 0, 0]

theorem test_hyp_RailMovesAreQueuedOrMadeActive :
    (∃ (a : List Byte) (s : State) (m : MoveRequest), s.hands 31 = true ∧ RequestsOwed s ∧ MoveRequest.parse 31 a = some m ∧
      refuseRailMove a s = none ∧ s.rail.active.isSome = true) ∧
    (∃ (a : List Byte) (s : State) (m : MoveRequest), s.hands 31 = true ∧ RequestsOwed s ∧ MoveRequest.parse 31 a = some m ∧
      refuseRailMove a s = none ∧ s.rail.active = none ∧ m.targetFrom s.railConfig s.rail.position ≠ s.rail.position ∧
      ¬ (m.kind = .home ∨ crosses s.railConfig s.rail.position (m.targetFrom s.railConfig s.rail.position) = true)) ∧
    (∃ (a : List Byte) (s : State) (m : MoveRequest), s.hands 31 = true ∧ RequestsOwed s ∧ MoveRequest.parse 31 a = some m ∧
      refuseRailMove a s = none ∧ s.rail.active = none ∧ m.targetFrom s.railConfig s.rail.position ≠ s.rail.position ∧
      crosses s.railConfig s.rail.position (m.targetFrom s.railConfig s.rail.position) = true ∧ s.deck.quietLongEnough = false) ∧
    (∃ (a : List Byte) (s : State) (m : MoveRequest), s.hands 31 = true ∧ RequestsOwed s ∧ MoveRequest.parse 31 a = some m ∧
      refuseRailMove a s = none ∧ s.rail.active = none ∧ m.targetFrom s.railConfig s.rail.position ≠ s.rail.position ∧
      crosses s.railConfig s.rail.position (m.targetFrom s.railConfig s.rail.position) = true ∧ m.kind ≠ .home ∧
      s.deck.quietLongEnough = true) ∧
    (∃ (a : List Byte) (s : State) (m : MoveRequest), s.hands 31 = true ∧ RequestsOwed s ∧ MoveRequest.parse 31 a = some m ∧
      refuseRailMove a s = none ∧ s.rail.active = none ∧ m.kind = .home ∧ s.deck.quietLongEnough = true) ∧
    (∃ (a : List Byte) (s : State) (m : MoveRequest), s.hands 31 = true ∧ RequestsOwed s ∧ MoveRequest.parse 31 a = some m ∧
      refuseRailMove a s = none ∧ s.rail.active = none ∧ m.kind ≠ .home ∧
      m.targetFrom s.railConfig s.rail.position = s.rail.position ∧ (m.kind = .engage → s.rail.seated = true)) ∧
    (∃ (a : List Byte) (s : State) (m : MoveRequest), s.hands 31 = true ∧ RequestsOwed s ∧ MoveRequest.parse 31 a = some m ∧
      refuseRailMove a s = none ∧ s.rail.active = none ∧ m.kind = .engage ∧
      m.targetFrom s.railConfig s.rail.position = s.rail.position ∧ s.rail.seated = false) :=
  ⟨⟨gotoArgs 0 ++ [1], moving .gated .park 400 none 0, _, by decide, requestsOwed_of_none _ rfl rfl rfl rfl rfl rfl rfl, rfl, by decide⟩,
    ⟨gotoArgs 0, railAt 400 0, _, by decide, requestsOwed_of_none _ rfl rfl rfl rfl rfl rfl rfl, rfl, by decide⟩,
    ⟨gotoArgs 14000, railAt 0 0, _, by decide, requestsOwed_of_none _ rfl rfl rfl rfl rfl rfl rfl, rfl, by decide⟩,
    ⟨gotoArgs 0, quietly (railAt 14000 40000), _, by decide, requestsOwed_of_none _ rfl rfl rfl rfl rfl rfl rfl, rfl, by decide⟩,
    ⟨homeArgs, quietly (ready 40000), _, by decide, requestsOwed_of_none _ rfl rfl rfl rfl rfl rfl rfl, rfl, by decide⟩,
    ⟨engageArgs, railAt 12800 0, _, by decide, requestsOwed_of_none _ rfl rfl rfl rfl rfl rfl rfl, rfl, by decide⟩,
    ⟨engageArgs, onRail (fun r => { r with seated := false }) (railAt 12800 0), _, by decide,
      requestsOwed_of_none _ rfl rfl rfl rfl rfl rfl rfl, rfl, by decide⟩⟩

theorem test_hyp_RailWaitsEnd :
    (∃ s : State, s.mainUp = true ∧ s.rail.drvEn = true ∧ s.rail.drvSettled = false ∧ s.rail.drvEnSince + 1000 ≤ s.hub.now ∧
      s.pins.drvFault = false) ∧
    (∃ s : State, s.mainUp = true ∧ s.rail.drvEn = true ∧ s.rail.drvSettled = false ∧ s.rail.drvEnSince + 1000 ≤ s.hub.now ∧
      s.pins.drvFault = true) ∧
    (∃ (s : State) (m : ActiveMove), s.mainUp = true ∧ s.rail.active = some m ∧ s.rail.quiet = true ∧
      s.rail.quietSince + 1000 * s.railConfig.quietHold ≤ s.hub.now ∧ s.rail.state = .gated ∧ m.kind ≠ .home) ∧
    (∃ (s : State) (m : ActiveMove), s.mainUp = true ∧ s.rail.active = some m ∧ s.rail.quiet = true ∧
      s.rail.quietSince + 1000 * s.railConfig.quietHold ≤ s.hub.now ∧ s.rail.state = .gated ∧ m.kind = .home) ∧
    (∃ (s : State) (m : ActiveMove), s.mainUp = true ∧ s.rail.active = some m ∧ s.rail.quiet = true ∧
      s.rail.quietSince + 1000 * s.railConfig.quietHold ≤ s.hub.now ∧ s.rail.state = .paused ∧ s.rail.motion = none ∧
      s.rail.stopping = false ∧ m.kind ≠ .home) ∧
    (∃ (s : State) (m : ActiveMove), s.mainUp = true ∧ s.rail.active = some m ∧ s.rail.state = .gated ∧
      s.rail.gateSince + 100000 * s.railConfig.gateLimit ≤ s.hub.now) ∧
    (∃ (s : State) (m : ActiveMove), s.mainUp = true ∧ s.rail.active = some m ∧ s.rail.state = .paused ∧ s.rail.stopping = false ∧
      s.rail.pauseSince + 100000 * s.railConfig.pauseLimit ≤ s.hub.now ∧ s.rail.motion = none) ∧
    (∃ (s : State) (m : ActiveMove), s.mainUp = true ∧ s.rail.active = some m ∧ s.rail.state = .paused ∧ s.rail.stopping = false ∧
      s.rail.pauseSince + 100000 * s.railConfig.pauseLimit ≤ s.hub.now ∧ s.rail.motion.isSome = true) ∧
    (∃ (s : State) (m : ActiveMove), s.mainUp = true ∧ s.rail.active = some m ∧ s.rail.state = .seating ∧ s.rail.seated = false ∧
      s.rail.seatSince + 200000 ≤ s.hub.now) :=
  let fault (s : State) : State := { s with pins := { s.pins with drvFault := true } }
  let waking : State := onRail (fun r => { r with drvEn := true }) (ready 1000)
  ⟨⟨waking, by decide⟩, ⟨fault waking, by decide⟩,
    ⟨quietly (moving .gated .goto 14000 none 40000), _, rfl, rfl, by decide⟩,
    ⟨quietly (moving .gated .home 0 none 40000), _, rfl, rfl, by decide⟩,
    ⟨quietly (moving .paused .goto 14000 none 40000), _, rfl, rfl, by decide⟩,
    ⟨moving .gated .goto 14000 none 2000000, _, rfl, rfl, by decide⟩,
    ⟨moving .paused .goto 14000 none 3000000, _, rfl, rfl, by decide⟩,
    ⟨moving .paused .goto 14000 (some (aMotion true .decelerate)) 3000000, _, rfl, rfl, by decide⟩,
    ⟨moving .seating .engage 14000 none 200000, _, rfl, rfl, by decide⟩⟩

theorem test_hyp_RailWaitsEnd_started :
    ∃ (c : Instr) (s t : State), exec c s = .next t ∧ (∀ read outcome, c ≠ .boardReadArrival read outcome) ∧
      1 ≤ s.railConfig.quietHold ∧ StartedCrossing s t :=
  let s := quietly (moving .gated .goto 14000 none 40000)
  ⟨.quietHoldReached, s, after .quietHoldReached s, rfl, fun _ _ => by simp, by decide,
    Or.inr ⟨by decide, by decide, aMove .goto 14000, startRun (aMove .goto 14000).profile 0 14000 40000, by decide⟩⟩

/-- A next move, settled or not, and a state that has one. -/
def aNext (kind : MoveKind) (argument : Int) (settled : Bool) : NextMove :=
  { move := { kind, argument, fl := 0, fh := 0, accel := 0, decel := 0, rampOffset := 0, shape := 0, slot := none }, settled }
def behind (next : NextMove) (s : State) : State := onRail (fun r => { r with next := some next }) s

/-- A GOTO of a rail that knows its index phase whose next pulse reaches its target, 400. -/
def arriving : State :=
  onRail (fun r => { r with position := 399, indexPhase := some 0 }) (moving .moving .goto 400 (some (aMotion true (.run false))) 2500)

theorem test_hyp_StepPulsesMoveOneStep_index :
    (ready 0).deck.pulseDue = false ∧
    (∀ mark ∈ [none, some (0 : Int)], ∃ (s : State) (move : ActiveMove) (m : Motion), s.mainUp = true ∧ s.deck.pulseDue = true ∧
      s.rail.active = some move ∧ s.rail.motion = some m ∧ m.outward = true ∧ m.phase = .run false ∧ s.rail.indexPhase = some 0 ∧
      (s.rail.position + 1 - 64 - (0 : Nat)) % 1600 = 0 ∧ s.rail.awaitOut = mark) :=
  ⟨by decide, fun mark h => ⟨onRail (fun r => { r with position := 63, indexPhase := some 0, awaitOut := mark })
    (moving .moving .goto 400 (some (aMotion true (.run false))) 2500), _, _, rfl, by revert mark; decide, rfl, rfl, rfl, rfl, rfl, by revert mark; decide,
    rfl⟩⟩

theorem test_hyp_StepPulsesMoveOneStep_next :
    ∀ n ∈ [aNext .goto 0 false, aNext .goto 0 true, aNext .goto 400 true, aNext .jog (-401) true, aNext .jog (-400) true, aNext .home 0 true],
      ∃ (s : State) (move : ActiveMove) (m : Motion), s.mainUp = true ∧ s.deck.pulseDue = true ∧ s.rail.active = some move ∧
        s.rail.motion = some m ∧ m.outward = true ∧ m.phase = .run false ∧ s.rail.position + 1 = move.target ∧ move.kind ≠ .engage ∧
        s.rail.indexPhase = some 0 ∧ (s.rail.position + 1 - 64 - (0 : Nat)) % 1600 ≠ 0 ∧ s.rail.next = some n ∧ s.railConfig.autoNext = true ∧ n.move.targetFrom s.railConfig 400 ≤ 400 :=
  fun n h => ⟨behind n arriving, _, _, rfl, by revert n; decide, rfl, rfl, rfl, rfl, by revert n; decide, by decide, rfl,
    by revert n; decide, rfl, rfl, by revert n; decide⟩

theorem test_hyp_StepPulsesMoveOneStep :
    (∃ (s : State) (move : ActiveMove) (m : Motion), s.mainUp = true ∧ s.deck.pulseDue = true ∧ s.rail.active = some move ∧
      s.rail.motion = some m ∧ m.outward = true ∧ m.phase = .run false ∧ s.rail.position + 1 = move.target ∧ move.kind ≠ .engage ∧
      s.rail.indexPhase = none ∧ s.rail.next = none) ∧
    (∃ (s : State) (move : ActiveMove) (m : Motion), s.mainUp = true ∧ s.deck.pulseDue = true ∧ s.rail.active = some move ∧
      s.rail.motion = some m ∧ m.outward = false ∧ m.phase = .run true) ∧
    (∃ (s : State) (move : ActiveMove) (m : Motion), s.mainUp = true ∧ s.deck.pulseDue = true ∧ s.rail.active = some move ∧
      s.rail.motion = some m ∧ m.outward = false ∧ m.phase = .homeReturn) :=
  ⟨⟨moving .moving .goto 1 (some (aMotion true (.run false))) 2500, _, _, rfl, by decide, rfl, rfl, by decide⟩,
    ⟨moving .moving .goto (-1) (some (aMotion false (.run true))) 2500, _, _, rfl, by decide, rfl, rfl, by decide⟩,
    ⟨moving .homing .home 0 (some (aMotion false .homeReturn)) 2500, _, _, rfl, by decide, rfl, rfl, by decide⟩⟩

theorem test_hyp_StepPulsesMoveOneStep_arrivals :
    (∀ mark ∈ [none, some (1936 : Int)], ∃ (s : State) (move : ActiveMove) (m : Motion), s.mainUp = true ∧
      s.deck.pulseDue = true ∧ s.rail.active = some move ∧ s.rail.motion = some m ∧ m.outward = true ∧ m.phase = .run false ∧
      s.rail.indexPhase = some 336 ∧ (s.rail.position + 1 - 64 - (336 : Nat)) % 1600 = 0 ∧ s.rail.awaitOut = mark ∧
      mark ≠ some 336 ∧ s.rail.position + 1 = move.target) ∧
    (∀ seated : Bool, ∃ (s : State) (move : ActiveMove) (m : Motion), s.mainUp = true ∧ s.deck.pulseDue = true ∧
      s.rail.active = some move ∧ s.rail.motion = some m ∧ m.outward = true ∧ m.phase = .run true ∧ s.rail.indexPhase = some 0 ∧
      (s.rail.position + 1 - 64 - (0 : Nat)) % 1600 ≠ 0 ∧ s.rail.position + 1 = move.target ∧ move.kind = .engage ∧
      s.rail.seated = seated ∧ s.rail.next = none) ∧
    (∀ phase ∈ [MotionPhase.homeSearch 0 0, .decelerate], ∃ (s : State) (move : ActiveMove) (m : Motion), s.mainUp = true ∧
      s.deck.pulseDue = true ∧ s.rail.active = some move ∧ s.rail.motion = some m ∧ m.outward = false ∧ m.phase = phase) :=
  let known (phase : Nat) (mark : Option Int) (s : State) : State :=
    onRail (fun r => { r with position := 399, indexPhase := some phase, awaitOut := mark }) s
  ⟨fun mark h => ⟨known 336 mark (moving .moving .goto 400 (some (aMotion true (.run false))) 2500), _, _, rfl,
      by revert mark; decide, rfl, rfl, rfl, rfl, rfl, by revert mark; decide, rfl, by revert mark; decide, by revert mark; decide⟩,
    fun seated => ⟨onRail (fun r => { r with seated := seated })
      (known 0 none (moving .moving .engage 400 (some (aMotion true (.run true))) 2500)), _, _, rfl, by cases seated <;> decide, rfl,
      rfl, rfl, rfl, rfl, by cases seated <;> decide, rfl, rfl, rfl, rfl⟩,
    fun phase h => ⟨moving .homing .home 0 (some (aMotion false phase)) 2500, _, _, rfl, by revert phase; decide, rfl, rfl, rfl, rfl⟩⟩

theorem test_hyp_StepPulsesMoveOneStep_marks :
    let ahead (p e : Int) : Bool := decide ((e - (0 : Nat)) % 1600 = 0 ∧ e - 64 ≤ p ∧ p < e)
    let behind (p e : Int) : Bool := decide ((e - (0 : Nat)) % 1600 = 0 ∧ e < p ∧ p ≤ e + 64)
    (∀ position ∈ [(1535 : Int), 1536, 1598, 1599, 1600, 1663], ∃ (s : State) (move : ActiveMove) (m : Motion), s.mainUp = true ∧
      s.deck.pulseDue = true ∧ s.rail.active = some move ∧ s.rail.motion = some m ∧ m.outward = true ∧ m.phase = .run false ∧
      s.rail.indexPhase = some 0 ∧ s.rail.awaitOut = none ∧ s.rail.position = position ∧ position + 1 ≠ move.target) ∧
    (ahead 1535 1600 = false ∧ ahead 1536 1600 = true ∧ ahead 1599 1600 = true ∧ ahead 1600 1600 = false) ∧
    (behind 1600 1600 = false ∧ behind 1601 1600 = true ∧ behind 1664 1600 = true ∧ behind 1665 1600 = false) :=
  ⟨fun position h => ⟨onRail (fun r => { r with position, indexPhase := some 0 })
      (moving .moving .goto 3300 (some (aMotion true (.run false))) 2500), _, _, rfl, by revert position; decide, rfl, rfl, rfl, rfl,
      rfl, rfl, rfl, by revert position; decide⟩, by decide, by decide⟩

theorem test_hyp_StepPulsesMoveOneStep_changes :
    (∀ sCurve up : Bool, ∀ swept ∈ [0, 5, 6, 10, 11], ∃ (c : RateChange) (now : Nat), c.sCurve = sCurve ∧
      (if up then c.v0 + 5 = c.v1 else c.v1 + 5 = c.v0) ∧ (now - c.since) * c.acc = swept) ∧
    (∀ distance ∈ [(0 : Nat), 4294967295], ∃ p : Profile, p.fl = 2000 ∧ p.accel = 200000 ∧ p.decel = 1 ∧ distance < 4294967296) :=
  ⟨fun sCurve up swept _ => ⟨{ since := 0, v0 := if up then 0 else 5, v1 := if up then 5 else 0, acc := 1, sCurve }, swept, rfl,
      by cases up <;> rfl, by simp⟩,
    fun distance h => ⟨{ RailConfig.default.profile with fl := 2000, accel := 200000, decel := 1 }, rfl, rfl, rfl,
      by revert distance; decide⟩⟩

/-- A motion outward whose pulse after 2.5 ms is at 500 microsteps a second, and the ramp-down rule of its shape at that pulse, with
`room` microsteps to go. -/
def rampMotion (phase : MotionPhase) (sCurve : Bool) : Motion :=
  let top := if sCurve then 500000000 else 16000000000
  { aMotion true phase with
    change := { since := 0, v0 := if sCurve then 500000000 else 400000000, v1 := top, acc := 40000, sCurve } }
def rampFalls (sCurve : Bool) (room decel v fl : Int) : Bool :=
  decide (1000000000000 * (room * (if sCurve then decel else 2 * decel)) ≤ v * v - 1000000 * fl * (1000000 * fl))

theorem test_hyp_StepPulsesMoveOneStep_ramp :
    (∀ p ∈ [(false, (1 : Int), true), (false, 2, false), (true, 2, true), (true, 3, false)],
      ∃ (s : State) (move : ActiveMove) (m : Motion), s.mainUp = true ∧ s.deck.pulseDue = true ∧ s.rail.active = some move ∧
        s.rail.motion = some m ∧ m.outward = true ∧ m.phase = .run false ∧ m.started = true ∧ s.rail.indexPhase = none ∧
        s.rail.position + 1 + p.2.1 = move.target ∧ m.change.sCurve = p.1 ∧ m.change.rateAt s.hub.now = 500000000 ∧
        rampFalls p.1 p.2.1 move.profile.decel (m.change.rateAt s.hub.now) move.profile.fl = p.2.2) ∧
    (∃ (s : State) (move : ActiveMove) (m : Motion), s.mainUp = true ∧ s.deck.pulseDue = true ∧ s.rail.active = some move ∧
      s.rail.motion = some m ∧ m.outward = true ∧ m.phase = .decelerate ∧ m.started = true ∧ s.rail.indexPhase = none ∧
      s.rail.position + 1 ≠ move.target ∧ 1000000 * move.profile.fl < m.change.rateAt s.hub.now) :=
  ⟨fun p h => ⟨moving .moving .goto (1 + p.2.1) (some (rampMotion (.run false) p.1)) 2500, _, _, rfl, by revert p; decide, rfl, rfl, rfl,
      rfl, rfl, rfl, by revert p; decide, rfl, by revert p; decide, by revert p; decide⟩,
    ⟨moving .paused .goto 9 (some (rampMotion .decelerate false)) 2500, _, _, rfl, by decide, rfl, rfl, rfl, rfl, rfl, rfl, by decide,
      by decide⟩⟩

theorem test_hyp_FramesAreCheckedAndTaken_launch :
    (∀ p ∈ [((3999 : Int), false), (4000, true), (11000, true), (11001, false)],
      ∃ (d : Deck) (move : ActiveMove) (m : Motion), d.rail.active = some move ∧ d.rail.motion = some m ∧ m.started = true ∧
        d.rail.stopping = false ∧ d.rail.state = .moving ∧
        decide ((d.config.crossStart : Int) ≤ d.rail.position ∧ d.rail.position ≤ (d.config.crossEnd : Int)) = p.2) ∧
    (∃ (d : Deck) (move : ActiveMove) (m : Motion), d.rail.active = some move ∧ d.rail.motion = some m ∧ m.started = true ∧
      d.rail.stopping = false ∧ d.rail.state = .homing) ∧
    (∃ d : Deck, d.rail.stopping = true ∧ d.rail.state = .homing) :=
  let back : State := moving .homing .home 0 (some (aMotion false .homeReturn)) 0
  ⟨fun p h => ⟨(onRail (fun r => { r with position := p.1 })
      (moving .moving .goto 14000 (some (aMotion true (.run false))) 0)).deck, _, _, rfl, rfl, rfl, rfl, rfl, by revert p; decide⟩,
    ⟨back.deck, _, _, rfl, rfl, rfl, rfl, rfl⟩, ⟨(onRail (fun r => { r with stopping := true }) back).deck, rfl, rfl⟩⟩

theorem test_hyp_RailSensorsAct :
    (∃ s : State, s.mainUp = true ∧ true ≠ s.pins.seated ∧ s.hub.attach ≠ .standby ∧ s.hub.attach ≠ .woken) ∧
    (∃ s : State, s.mainUp = true ∧ false = s.pins.seated) ∧
    (∃ (s : State) (m : ActiveMove), s.mainUp = true ∧ s.rail.seatedPending = some 0 ∧ 0 + 2000 ≤ s.hub.now ∧
      s.rail.state = .seating ∧ s.rail.seated = false ∧ s.rail.active = some m ∧ s.rail.next = none) ∧
    (∃ (s : State) (move : ActiveMove) (m : Motion), s.mainUp = true ∧ s.rail.active = some move ∧ s.rail.motion = some m ∧
      m.phase = .escape) ∧
    (∃ (s : State) (move : ActiveMove) (m : Motion), s.mainUp = true ∧ s.rail.active = some move ∧ s.rail.motion = some m ∧
      m.phase = .homeReturn) ∧
    (∃ (s : State) (move : ActiveMove) (m : Motion), s.mainUp = true ∧ s.rail.active = some move ∧ s.rail.motion = some m ∧
      m.started = true ∧ m.phase = .homeSearch s.railConfig.homeIndexCount 0 ∧ s.rail.next = none) ∧
    (∃ s : State, s.mainUp = true ∧ s.rail.drvEn = true ∧ s.rail.drvSettled = true) :=
  ⟨⟨ready 0, by decide⟩, ⟨ready 0, by decide⟩,
    ⟨onRail (fun r => { r with seatedPending := some 0 }) (moving .seating .engage 14000 none 2000), _, rfl, rfl, by decide, rfl, rfl,
      rfl, rfl⟩,
    ⟨moving .homing .home 0 (some (aMotion true .escape)) 0, _, _, rfl, rfl, rfl, rfl⟩,
    ⟨moving .homing .home 0 (some (aMotion false .homeReturn)) 0, _, _, rfl, rfl, rfl, rfl⟩,
    ⟨moving .homing .home 0 (some (aMotion false (.homeSearch 1 0))) 0, _, _, rfl, rfl, rfl, rfl, rfl, rfl⟩,
    ⟨moving .homing .home 0 (some (aMotion true .escape)) 0, by decide⟩⟩

theorem test_hyp_RailSensorsAct_quiet :
    ∃ (c : Instr) (s t : State), exec c s = .next t ∧ s.rail.quiet = false ∧ t.rail.quiet = true :=
  let s := onLane 0 (fun l => { l with state := .probing })
    { ready 0 with lanes := Vector.replicate 9 { Lane.reset with state := .off, phase := .idle } }
  ⟨.laneControl 31 1 [0, 1], s, after (.laneControl 31 1 [0, 1]) s, rfl, by decide +kernel⟩

theorem test_hyp_RailSensorsAct_index :
    (∃ (s : State) (m : Motion), s.mainUp = true ∧ s.rail.motion = some m ∧ m.started = false) ∧
    (∀ learnt ∈ [none, some (1536 : Nat), some 1535], ∃ (s : State) (move : ActiveMove) (m : Motion), s.mainUp = true ∧
      s.rail.active = some move ∧ s.rail.motion = some m ∧ m.started = true ∧ m.phase = .homeSearch 0 0 ∧
      0 ≠ s.railConfig.homeIndexCount ∧ s.rail.indexPhase = learnt ∧ (s.rail.position + 64 - (1536 : Nat)) % 1600 = 128 ∧
      (s.rail.position + 64 - (1535 : Nat)) % 1600 = 129) ∧
    (∀ learnt ∈ [none, some (1536 : Nat), some 1535], ∃ (s : State) (move : ActiveMove) (m : Motion), s.mainUp = true ∧
      s.rail.active = some move ∧ s.rail.motion = some m ∧ m.started = true ∧ m.phase = .run false ∧ s.rail.indexPhase = learnt ∧
      (s.rail.position + 64 - (1536 : Nat)) % 1600 = 128 ∧ (s.rail.position + 64 - (1535 : Nat)) % 1600 = 129) :=
  let known (learnt : Option Nat) (s : State) : State := onRail (fun r => { r with indexPhase := learnt }) s
  ⟨⟨moving .moving .goto 400 (some { aMotion true (.run false) with started := false }) 0, _, by decide, rfl, rfl⟩,
    fun learnt h => ⟨known learnt (moving .homing .home 0 (some (aMotion false (.homeSearch 0 0))) 0), _, _, rfl, rfl, rfl, rfl, rfl,
      by revert learnt; decide, rfl, by revert learnt; decide⟩,
    fun learnt h => ⟨known learnt (moving .moving .goto 400 (some (aMotion true (.run false))) 0), _, _, rfl, rfl, rfl, rfl, rfl, rfl,
      by revert learnt; decide⟩⟩

theorem test_hyp_RailStopHaltAndClear :
    (∃ s : State, s.hands 31 = true ∧ RequestsOwed s ∧ s.rail.state = .seating) ∧
    (∃ (s : State) (move : ActiveMove) (m : Motion), s.hands 31 = true ∧ RequestsOwed s ∧ s.rail.state = .moving ∧
      s.rail.active = some move ∧ s.rail.motion = some m ∧ m.started = true ∧ s.rail.stopping = false ∧
      ¬ micro move.profile.fl < s.rail.rateNow s.hub.now) ∧
    (∃ s : State, s.hands 31 = true ∧ RequestsOwed s ∧ s.rail.state.still = true ∧ s.rail.active = none) ∧
    (∃ s : State, s.hands 31 = true ∧ RequestsOwed s ∧ s.rail.state = .faulted ∧ s.pins.drvFault = false) :=
  ⟨⟨moving .seating .engage 14000 none 0, by decide, requestsOwed_of_none _ rfl rfl rfl rfl rfl rfl rfl, rfl⟩,
    ⟨moving .moving .goto 14000 (some (aMotion true (.run false))) 0, _, _, by decide,
      requestsOwed_of_none _ rfl rfl rfl rfl rfl rfl rfl, rfl, rfl, rfl, by decide⟩,
    ⟨railAt 0 0, by decide, requestsOwed_of_none _ rfl rfl rfl rfl rfl rfl rfl, by decide⟩,
    ⟨onRail (fun r => { r with state := .faulted }) (ready 0), by decide, requestsOwed_of_none _ rfl rfl rfl rfl rfl rfl rfl, by decide⟩⟩

theorem test_hyp_RailStopHaltAndClear_fast :
    ∃ (s : State) (move : ActiveMove), s.hands 31 = true ∧ RequestsOwed s ∧ s.rail.active = some move ∧
      micro move.profile.fl < s.rail.rateNow s.hub.now :=
  ⟨moving .moving .goto 14000 (some { aMotion true (.run false) with
      change := { since := 0, v0 := 16000000000, v1 := 16000000000, acc := 40000, sCurve := false }, rate := 16000000000 }) 0, _,
    by decide, requestsOwed_of_none _ rfl rfl rfl rfl rfl rfl rfl, rfl, by decide⟩

theorem test_hyp_RailStopHaltAndClear_next :
    ∃ (s : State) (n : NextMove) (move : ActiveMove), s.hands 31 = true ∧ RequestsOwed s ∧ s.rail.state = .gated ∧
      s.rail.active = some move ∧ s.rail.next = some n ∧ n.settled = true ∧ bitOf (u8At [0] 0) 0 = false ∧ bitOf (u8At [1] 0) 0 = true :=
  ⟨behind (aNext .goto 0 true) (moving .gated .goto 14000 none 0), _, _, by decide,
    requestsOwed_of_none _ rfl rfl rfl rfl rfl rfl rfl, rfl, rfl, rfl, rfl, by decide⟩

theorem test_hyp_RailSettleAndUnsettle_active :
    (∃ (s : State) (n : NextMove), s.hands 31 = true ∧ s.rail.next = some n ∧ s.rail.active = none ∧ s.rail.state = .faulted) ∧
    (∃ (s : State) (n : NextMove), s.hands 31 = true ∧ s.rail.next = some n ∧ s.rail.active = none ∧ s.rail.state = .unknown ∧
      n.move.kind = .home) ∧
    (∀ n ∈ [aNext .jog (-401) true, aNext .jog (-400) true, aNext .jog 0 true, aNext .engage 0 true], ∃ s : State, s.hands 31 = true ∧
      s.rail.next = some n ∧ s.rail.active = none ∧ s.rail.state = .idle ∧ s.rail.seated = true ∧ s.rail.position = 400) :=
  ⟨⟨behind (aNext .home 0 true) (onRail (fun r => { r with state := .faulted }) (ready 0)), _, by decide, rfl, by decide⟩,
    ⟨behind (aNext .home 0 true) (ready 0), _, by decide, rfl, by decide⟩,
    fun n _ => ⟨behind n (railAt 400 0), rfl, rfl, rfl, rfl, rfl, rfl⟩⟩

theorem test_hyp_RailSettleAndUnsettle :
    (∃ (s : State) (n : NextMove), s.hands 31 = true ∧ s.rail.next = some n ∧ s.rail.active.isSome = true) ∧
    (∃ (s : State) (n : NextMove) (code : ResultCode), s.hands 31 = true ∧ s.rail.next = some n ∧ s.rail.active = none ∧
      n.move.refusedBy s.railConfig { s.rail with next := none } = some code) ∧
    (∃ s : State, s.hands 31 = true ∧ s.rail.next = none) :=
  let goto : NextMove :=
    { move := { kind := .goto, argument := 14000, fl := 0, fh := 0, accel := 0, decel := 0, rampOffset := 0, shape := 0, slot := none }
      settled := false }
  ⟨⟨onRail (fun r => { r with next := some goto }) (moving .gated .park 400 none 0), _, by decide, rfl, rfl⟩,
    ⟨onRail (fun r => { r with next := some goto }) (ready 0), _, .state, by decide, rfl, by decide⟩, ⟨ready 0, by decide, rfl⟩⟩

/-! ### Practice playback -/

/-- The arguments of a take: PLAY_START, and PLAY_NEXT with its settled bit. -/
def takeArgs (flags : Nat) : List Byte := le64 4096 ++ le32 1 ++ le8 200 ++ le8 0xAA ++ le8 flags ++ [60, 250, 0, 0, 0, 0]

theorem test_hyp_PlayStartLoadsTheTake :
    ∃ (a : List Byte) (s : State) (take : TakeRecord), s.hands 31 = true ∧ s.hub.readsNumbered ∧
      TakeRecord.parse a = some take ∧ s.player.state.inProgress = false :=
  ⟨takeArgs 0, ready 0, _, by decide, readsNumbered_of_none _ rfl, rfl, by decide⟩

/-- A block of the take 1, in its eight reads: the header, one END event, and zeros; and the same without the magic number. -/
def blockStart : List Byte := scoreHeaderBytes 1 0 1 true 0 1200 ++ [0, 0, 7]
def sevenParts (start : List Byte) : List (Option (List Byte)) := some start :: List.replicate 6 (some []) ++ [none]

/-- The last read of a block in time, in a player in the state given, for the take or for the next take. -/
def readingBlock (state : PlayerState) (nextTake : Bool) (start : List Byte) : State :=
  let buffer : BlockBuffer :=
    { state := .reading, address := 4096, index := 0, nextTake, chunks := sevenParts start, block := none }
  onPlayer (fun p => { p with
    state := state, take := some theTake, next := some { take := theTake, settled := true }, buffers := p.buffers.set 1 buffer })
    (reading (.block 1 7) 0 (ready 0))

/-- R131, Table 12-8: a block meets the conditions for a take id and an expected index. -/
abbrev GoodBlock (all : List Byte) (takeId : Word32) (index : Nat) : Prop :=
  u32At all 0 = 0x4B475342 ∧ BitVec.ofNat 32 (u32At all 4) = takeId ∧ u16At all 8 = index ∧ u16At all 10 ≤ 508 ∧
    (u8At all 12 % 2 = 1 ∨ (u64At all 16 ≠ 0 ∧ u64At all 16 % 4096 = 0))

/-- Starts of blocks that fail one condition each: the magic, the take id, the index, the count, a next address 0 or unaligned. -/
def badStarts : List (List Byte) :=
  [[], scoreHeaderBytes 2 0 1 true 0 1200, scoreHeaderBytes 1 1 1 true 0 1200, scoreHeaderBytes 1 0 509 true 0 1200,
    scoreHeaderBytes 1 0 508 false 0 1200, scoreHeaderBytes 1 0 508 false 4095 1200]

theorem test_hyp_BlockReadsFillTheirBuffer :
    (∃ s : State, Waiting (.block 1 7) s ∧ s.player.buffers[(1 : Fin 2)].state = .reading ∧
      allChunks (putChunk (noChunks 8) 7 (padded 0 [])) = none) ∧
    (∀ start ∈ [blockStart, scoreHeaderBytes 1 0 508 false 4096 1200], ∀ nextTake : Bool, ∃ (s : State) (all : List Byte),
      Waiting (.block 1 7) s ∧ s.player.buffers[(1 : Fin 2)].state = .reading ∧
      allChunks (putChunk s.player.buffers[(1 : Fin 2)].chunks 7 (padded 0 [])) = some all ∧
      s.player.buffers[(1 : Fin 2)].nextTake = nextTake ∧ s.player.take = some theTake ∧
      s.player.next = some { take := theTake, settled := true } ∧ GoodBlock all theTake.takeId s.player.buffers[(1 : Fin 2)].index) ∧
    (∀ start ∈ badStarts, ∀ nextTake : Bool, ∃ (s : State) (all : List Byte),
      Waiting (.block 1 7) s ∧ s.player.buffers[(1 : Fin 2)].state = .reading ∧
      allChunks (putChunk s.player.buffers[(1 : Fin 2)].chunks 7 (padded 0 [])) = some all ∧
      s.player.buffers[(1 : Fin 2)].nextTake = nextTake ∧ s.player.take = some theTake ∧
      s.player.next = some { take := theTake, settled := true } ∧ s.player.state.inProgress = true ∧
      ¬ GoodBlock all theTake.takeId s.player.buffers[(1 : Fin 2)].index) :=
  ⟨⟨readingBlock .loading false [], ⟨by decide, _, rfl, by decide⟩, by decide⟩,
    fun start h nextTake => ⟨readingBlock .loading nextTake start, _, ⟨rfl, _, rfl, Nat.zero_le _, rfl, rfl⟩, rfl, rfl, rfl, rfl, rfl, by
      revert start; cases nextTake <;> decide +kernel⟩,
    fun start h nextTake => ⟨readingBlock .loading nextTake start, _, ⟨rfl, _, rfl, Nat.zero_le _, rfl, rfl⟩, rfl, rfl, rfl, rfl, rfl, rfl,
      by revert start; cases nextTake <;> decide +kernel⟩⟩

/-- A stage whose buffer 0 holds the current block, LAST or not, of a take that begins, with or without a start marker. -/
def beginning (last nextTake chained : Bool) (marker : Option Nat) (slot : Option (Fin 32)) : Stage :=
  let buffer : BlockBuffer :=
    { state := .valid, address := 4096, index := 0, nextTake := false, chunks := []
      block := some { theBlock (endAt 1) with last := last, next := 8192 } }
  let s := onPlayer (fun p => { p with
    take := some { theTake with startMarker := marker }, chained := chained, pendingSlot := slot
    buffers := #v[buffer, { BlockBuffer.blank with nextTake := nextTake }] }) (playing .loading (endAt 1) (ready 0))
  s.stage

theorem test_hyp_BlockReadsFillTheirBuffer_begin :
    (∀ last nextTake : Bool, ∃ (p : Stage) (block : ScoreBlock), p.player.currentBlock = some block ∧ block.last = last ∧
      p.player.currentBuffer = 0 ∧ p.player.buffers[(1 : Fin 2)].nextTake = nextTake ∧ p.player.next = none) ∧
    (∀ marker ∈ [none, some 0, some 255], ∀ chained : Bool, ∀ slot ∈ [none, some 31], ∃ (p : Stage) (take : TakeRecord),
      p.player.state = .loading ∧ p.player.scan = none ∧ p.player.currentBuffer = 0 ∧ p.player.take = some take ∧
      take.startMarker = marker ∧ p.player.chained = chained ∧ p.player.pendingSlot = slot) ∧
    (∀ on : Bool, ∀ mode ∈ [MetronomeMode.free, .follow], ∀ attach ∈ [AttachState.attached, .standby, .woken], ∃ p : Stage,
      p.player.state = .loading ∧ p.player.scan = none ∧ p.metronome.settings.on = on ∧ p.metronome.settings.mode = mode ∧
      p.enterBlock.hub.attach = attach) :=
  ⟨fun last nextTake => ⟨beginning last nextTake false none none, _, rfl, rfl, rfl, rfl, rfl⟩,
    fun marker _ chained slot _ => ⟨beginning true false chained marker slot, _, rfl, rfl, rfl, rfl, rfl, rfl, rfl⟩,
    fun on mode _ attach _ =>
      let p := beginning true false false none none
      ⟨{ p with
        metronome := { p.metronome with settings := { p.metronome.settings with on, mode } }
        hub := { p.hub with attach := attach } }, rfl, rfl, rfl, rfl, by
        cases on <;> cases mode <;> cases attach <;> decide +kernel⟩⟩

/-- The group at the cursor of a player, when there is one. -/
def groupOf (q : Player) : Option (Group × Bool) :=
  match q.view with
  | .group g complete => some (g, complete)
  | _ => none

theorem view_of_groupOf (q : Player) (g : Group) (complete : Bool) (h : groupOf q = some (g, complete)) :
    q.view = .group g complete := by
  unfold groupOf at h
  split at h
  · cases h; assumption
  · cases h

/-- A player that waits for the note of key 87. -/
def waitingPlayer (now : Nat) : State :=
  let s := playing .waiting (noteAt 0) (ready now)
  onPlayer (fun p => { p with
    expected := [87], held := some { time := 0, events := [{ event := noteAt 0, buffer := 0, index := 0 }] } })
    (onHub (fun h => { h with tracking := BitVec.ofNat 32 now }) s)

theorem test_hyp_DueGroupsAreTakenOrAwaited :
    (∃ s : State, s.mainUp = true ∧ s.player.state ≠ .playing) ∧
    (∃ (s : State) (g : Group), s.mainUp = true ∧ s.player.state = .playing ∧ groupOf s.player = some (g, true) ∧
      reached g.time s.player.position = false) ∧
    (∃ (s : State) (g : Group), s.mainUp = true ∧ s.player.state = .playing ∧ groupOf s.player = some (g, false) ∧
      reached g.time s.player.position = true) ∧
    (∃ (s : State) (g : Group), s.mainUp = true ∧ s.player.state = .playing ∧ groupOf s.player = some (g, true) ∧
      reached g.time s.player.position = true ∧ (g.events.any fun e => e.event.bad) = true) ∧
    (∃ (s : State) (g : Group) (take : TakeRecord), s.mainUp = true ∧ s.player.state = .playing ∧
      groupOf s.player = some (g, true) ∧ reached g.time s.player.position = true ∧
      (g.events.any fun e => e.event.bad) = false ∧ s.player.take = some take ∧ take.follow = true ∧ s.player.guideKeys [] g ≠ [] ∧ s.player.strikes = []) ∧
    (∃ (s : State) (take : TakeRecord) (g : Group), s.mainUp = true ∧ s.player.state = .waiting ∧ s.player.take = some take ∧
      s.player.held = some g ∧ take.followTimeout ≠ 0 ∧
      take.followTimeout * 1000000 ≤ (s.hub.tracking - s.player.waitStart).toNat) :=
  let partly (s : State) : State :=
    onPlayer (fun p => { p with buffers := p.buffers.set 0 { p.buffers[(0 : Fin 2)] with
      block := some { theBlock (noteAt 0) with last := false } } }) s
  ⟨⟨ready 0, by decide⟩, ⟨playing .playing (noteAt 1) (ready 0), _, by decide, by decide, rfl, by decide⟩,
    ⟨partly (playing .playing (noteAt 0) (ready 0)), _, by decide, by decide, rfl, by decide⟩,
    ⟨playing .playing { noteAt 0 with kind := 8 } (ready 0), _, by decide, by decide, rfl, by decide⟩,
    ⟨playing .playing (noteAt 0) (ready 0), _, _, by decide, by decide, rfl, by decide, by decide, rfl, by decide⟩,
    ⟨waitingPlayer 60000000, _, _, by decide, by decide, rfl, rfl, by decide⟩⟩

theorem test_hyp_TimersComeNoEarlier_wait :
    (∃ (s : State) (take : TakeRecord), s.player.state = .waiting ∧ s.player.take = some take ∧ take.followTimeout ≠ 0 ∧
      (s.hub.tracking - s.player.waitStart).toNat < take.followTimeout * 1000000) ∧
    (∃ (s : State) (take : TakeRecord), s.player.state = .waiting ∧ s.player.take = some take ∧ take.followTimeout = 0) :=
  ⟨⟨waitingPlayer 59999999, _, rfl, rfl, by decide⟩,
    ⟨onPlayer (fun p => { p with take := some { theTake with followTimeout := 0 } }) (waitingPlayer 0), _, rfl, rfl, rfl⟩⟩

/-- A player that plays a take whose parts sound, with key 87 open, a loop from marker 1 to marker 2 and its anchor. -/
def looping (loops : Nat) : Player :=
  { (playing .playing (endAt 0) (ready 0)).player with
    parts := Vector.replicate 4 .sound, openKeys := [(87, 3)], loopsRemaining := loops
    take := some { theTake with loopA := some 1, loopB := some 2 }
    anchor := some { address := 4096, blockIndex := 0, event := 0, time := 0, pedals := .zero, followTempo := 1200 } }
def stageOf (q : Player) : Stage := { (ready 0).stage with player := q }
def anEvent (kind target : Nat) : GroupEvent :=
  { event := { delta := 0, kind, target, value := 64, part := 3, aux := 0 }, buffer := 0, index := 0 }

theorem test_hyp_DueGroupsAreTakenOrAwaited_dispatch :
    (∃ (p : Stage) (g : Group), p.player.state = .playing ∧ p.player.view = .group g true ∧ reached g.time p.player.position = true ∧
      (g.events.any fun e => e.event.bad) = false ∧ p.player.guideKeys [] g = []) ∧
    (∀ kind ∈ [1, 2, 3], ∃ (p : Stage) (g : GroupEvent), g.buffer = p.player.currentBuffer ∧ g.event.kind = kind ∧
      g.event.target = (87 : Fin 88).val ∧ p.player.mode g.event.part = some .sound ∧ (87, g.event.part) ∈ p.player.openKeys) ∧
    (∀ kind ∈ [1, 2, 3, 4, 6, 7], ∃ (p : Stage) (g : GroupEvent), g.buffer = p.player.currentBuffer ∧ g.event.kind = kind ∧
      g.event.target = (87 : Fin 88).val ∧ p.player.mode g.event.part ≠ some .sound ∧ (87, g.event.part) ∉ p.player.openKeys) ∧
    (∀ loops ∈ [0, 1], ∃ (p : Stage) (g : GroupEvent) (take : TakeRecord) (anchor : LoopAnchor),
      g.buffer = p.player.currentBuffer ∧ g.event.kind = 5 ∧ p.player.take = some take ∧
      (p.player.markAnchor g.event.target).anchor = some anchor ∧ take.loopB = some g.event.target ∧ p.player.loopsRemaining = loops) :=
  ⟨⟨stageOf (looping 0), _, rfl, view_of_groupOf _ _ _ rfl, by decide⟩,
    fun kind h => ⟨stageOf (looping 0), anEvent kind 87, rfl, rfl, rfl, by revert kind; decide⟩,
    fun kind h => ⟨stageOf (playing .playing (endAt 0) (ready 0)).player, anEvent kind 87, rfl, rfl, rfl, by revert kind; decide⟩,
    fun loops _ => ⟨stageOf (looping loops), anEvent 5 2, _, _, rfl, rfl, rfl, rfl, rfl, rfl⟩⟩

theorem test_hyp_DueGroupsAreTakenOrAwaited_ends :
    (∀ settled : Bool, ∃ (p : Stage) (n : NextTake), p.player.next = some n ∧ n.settled = settled ∧
      p.player.buffers[(0 : Fin 2)].nextTake = false ∧ p.player.buffers[(1 : Fin 2)].nextTake = false) ∧
    (∃ (p : Stage), p.player.state = .starved ∧ p.player.loopReread = true ∧ p.player.currentBuffer = 0) ∧
    (∃ p : Stage, p.player.state ≠ .waiting) ∧
    (∃ (p : Stage) (g : Group), p.player.state = .waiting ∧ (0 : Fin 88) ∉ p.player.expected ∧ p.player.held = some g ∧
      87 ∈ p.player.expected ∧ (p.player.expected.filter fun k => k ≠ 87) = []) ∧
    (∃ (p : Stage) (g : Group), p.player.state = .waiting ∧ p.player.held = some g ∧ 87 ∈ p.player.expected ∧
      (p.player.expected.filter fun k => k ≠ 87) ≠ []) :=
  ⟨fun settled => ⟨stageOf { looping 0 with next := some { take := theTake, settled } }, _, rfl, rfl, by cases settled <;> decide⟩,
    ⟨stageOf { looping 0 with state := .starved, loopReread := true }, by decide⟩, ⟨stageOf (looping 0), by decide⟩,
    ⟨stageOf (waitingPlayer 0).player, _, rfl, by decide, rfl, by decide⟩,
    ⟨stageOf { (waitingPlayer 0).player with expected := [86, 87] }, _, rfl, rfl, by decide⟩⟩

/-- A player of the take of GUIDE parts in follow mode, whose early window is 100 ms, with a list of strikes. -/
def following (strikes : List Strike) : Player :=
  { (playing .playing (noteAt 0) (ready 0)).player with strikes, take := some { theTake with earlyWindow := 100 } }
def guideNotes (n : Nat) : List GroupEvent := (List.range n).map (anEvent 1)

theorem test_hyp_DueGroupsAreTakenOrAwaited_guides :
    (∀ p ∈ [(3, 87), (0, 0), (1, 88)], ∃ last : GroupEvent, last.event.kind = p.1 ∧ last.event.target = p.2 ∧
      (last.event.kind ≠ 1 ∨ 87 < last.event.target ∨ ∃ part : Fin 4, last.event.part = part.val ∧ (following []).parts[part] = .guide)) ∧
    (∀ n ∈ [14, 15, 16], ∃ q : Player, (q.guideKeys [1] { time := 0, events := guideNotes n }).length = min 15 (n - 1) ∧
      (87 : Fin 88) ∉ q.guideKeys [1] { time := 0, events := guideNotes n } ∧
      (0 : Fin 88) ∈ q.guideKeys [1] { time := 0, events := guideNotes n }) :=
  ⟨fun p h => ⟨anEvent p.1 p.2, rfl, rfl, by revert p; decide⟩, fun n h => ⟨following [], by revert n; decide +kernel⟩⟩

theorem test_hyp_DueGroupsAreTakenOrAwaited_strikes :
    ∀ p ∈ [(100000, false, true), (100001, false, false), (0, true, false)],
      ∃ (newest : Strike) (q : Player), newest.used = p.2.1 ∧ newest.key ∈ (Player.countStrikes 100000 { q with strikes := [] }).expected ∧
        decide (newest.used = false ∧ (q.waitStart - newest.stamp).toNat ≤ 100000) = p.2.2 :=
  fun p h => ⟨{ key := 87, stamp := 0 - BitVec.ofNat 32 p.1, used := p.2.1 }, { following [] with expected := [87], waitStart := 0 }, rfl,
    by revert p; decide, by revert p; decide⟩

theorem test_hyp_DueGroupsAreTakenOrAwaited_wait :
    ∀ p ∈ [(false, []), (true, [(87 : Fin 88)])], ∃ (stage : Stage) (g : Group) (take : TakeRecord), stage.player.state = .playing ∧
      stage.player.view = .group g true ∧ reached g.time stage.player.position = true ∧
      (g.events.any fun e => e.event.bad) = false ∧ stage.player.take = some take ∧ take.follow = true ∧
      stage.player.guideKeys [] g ≠ [] ∧
      (Player.countStrikes (take.earlyWindow * 1000) { stage.player with
        expected := stage.player.guideKeys [] g, waitStart := stage.hub.tracking }).expected = p.2 :=
  fun p h => ⟨stageOf (following [{ key := 87, stamp := 0, used := p.1 }]), _, _, rfl,
    view_of_groupOf _ _ _ rfl, by revert p; decide, by revert p; decide, rfl, rfl, by revert p; decide, by revert p; decide +kernel⟩

/-- A player with a next take that is not settled. -/
def withNext (s : State) : State := onPlayer (fun p => { p with next := some { take := theTake, settled := false } }) s

theorem test_hyp_NextTakeSlotIsFilledAndSettled :
    (∃ (a : List Byte) (s : State) (take : TakeRecord), s.hands 31 = true ∧ TakeRecord.parse a = some take ∧
      s.player.next = none ∧ bitOf (u8At a 14) 5 = false ∧ s.player.state ≠ .playing) ∧
    (∃ (a : List Byte) (s : State) (take : TakeRecord), s.hands 31 = true ∧ TakeRecord.parse a = some take ∧
      s.player.next = none ∧ bitOf (u8At a 14) 5 = true ∧ s.player.state ≠ .playing ∧ s.player.state.inProgress = true) ∧
    (∃ (a : List Byte) (s : State) (take : TakeRecord), s.hands 31 = true ∧ TakeRecord.parse a = some take ∧
      s.player.next = none ∧ bitOf (u8At a 14) 5 = true ∧ s.player.state.inProgress = false ∧
      s.player.buffers[(0 : Fin 2)].nextTake = false ∧ s.player.buffers[(1 : Fin 2)].nextTake = false) ∧
    (∃ (s : State) (n : NextTake), s.hands 31 = true ∧ s.player.next = some n ∧ s.player.state ≠ .playing ∧
      s.player.state.inProgress = true) ∧
    (∃ (s : State) (n : NextTake), s.hands 31 = true ∧ s.player.next = some n ∧ s.player.state.inProgress = false ∧
      s.player.buffers[(0 : Fin 2)].nextTake = false ∧ s.player.buffers[(1 : Fin 2)].nextTake = false) ∧
    (∃ s : State, s.hands 31 = true ∧ s.player.next = none) :=
  ⟨⟨takeArgs 0, ready 0, _, by decide, rfl, by decide⟩, ⟨takeArgs 32, waitingPlayer 0, _, by decide, rfl, by decide⟩,
    ⟨takeArgs 32, ready 0, _, by decide, rfl, by decide⟩, ⟨withNext (waitingPlayer 0), _, by decide, rfl, by decide⟩,
    ⟨withNext (ready 0), _, by decide, rfl, by decide⟩, ⟨ready 0, by decide⟩⟩

theorem test_hyp_PlayTempoChangesTheRate :
    (∃ (a : List Byte) (s : State), s.hands 31 = true ∧ u8At a 0 < 25) ∧ (∃ (a : List Byte) (s : State), s.hands 31 = true ∧ 200 < u8At a 0) ∧
    (∃ (a : List Byte) (s : State), s.hands 31 = true ∧ 25 ≤ u8At a 0 ∧ u8At a 0 ≤ 200 ∧ s.player.state.inProgress = false) ∧
    (∃ (a : List Byte) (s : State), s.hands 31 = true ∧ 25 ≤ u8At a 0 ∧ u8At a 0 ≤ 200 ∧ s.player.state.inProgress = true ∧
      s.player.state = .playing) :=
  ⟨⟨[24], ready 0, by decide⟩, ⟨[201], ready 0, by decide⟩, ⟨[25], ready 0, by decide⟩,
    ⟨[200], playing .playing (endAt 1) (ready 0), by decide⟩⟩

theorem test_hyp_PlayPartsChangesTheModes :
    ∃ (a : List Byte) (s : State) (parts : Vector PartMode 4), s.hands 31 = true ∧ RequestsOwed s ∧
      parseParts (u8At a 0) = some parts ∧ s.player.state.inProgress = true ∧ s.player.state ≠ .waiting :=
  ⟨[0xAA], playing .playing (endAt 1) (ready 0), _, by decide, requestsOwed_of_none _ rfl rfl rfl rfl rfl rfl rfl, rfl, by decide⟩

/-- A PAUSED player with the group at its cursor held back by a wait. -/
def pausedWait : State := onPlayer (fun p => { p with state := .paused, expected := [] }) (waitingPlayer 0)

theorem test_hyp_SeekPauseResumeAndStop :
    (∃ (a : List Byte) (s : State) (take : TakeRecord), s.hands 31 = true ∧ RequestsOwed s ∧ u16At a 0 ≤ 255 ∧
      s.player.state ∈ [PlayerState.playing, .waiting, .starved, .paused] ∧ s.player.take = some take) ∧
    (∃ s : State, s.hands 31 = true ∧ RequestsOwed s ∧ s.player.state ∈ [PlayerState.playing, .waiting, .starved]) ∧
    (∃ s : State, s.hands 31 = true ∧ RequestsOwed s ∧ s.player.state = .seeking) ∧
    (∃ s : State, s.hands 31 = true ∧ RequestsOwed s ∧ s.player.state = .paused ∧ s.player.held = none ∧
      s.player.currentBlock = none) ∧
    (∃ (s : State) (g : Group), s.hands 31 = true ∧ RequestsOwed s ∧ s.player.state = .paused ∧ s.player.held = some g ∧
      s.player.guideKeys [] g ≠ [] ∧ s.player.strikes = []) ∧
    (∃ (s : State) (g : Group), s.hands 31 = true ∧ RequestsOwed s ∧ s.player.state = .paused ∧ s.player.held = none ∧
      s.player.restartOwed = false ∧ groupOf s.player = some (g, true) ∧ reached g.time s.player.position = false) ∧
    (∃ s : State, s.hands 31 = true ∧ RequestsOwed s ∧ s.player.state.inProgress = true) ∧
    (∃ s : State, s.hands 31 = true ∧ RequestsOwed s ∧ s.player.state.inProgress = false) :=
  ⟨⟨[255], waitingPlayer 0, _, by decide, requestsOwed_of_none _ rfl rfl rfl rfl rfl rfl rfl, by decide, by decide, rfl⟩,
    ⟨waitingPlayer 0, by decide, requestsOwed_of_none _ rfl rfl rfl rfl rfl rfl rfl, by decide⟩,
    ⟨playing .seeking (endAt 0) (ready 0), by decide, requestsOwed_of_none _ rfl rfl rfl rfl rfl rfl rfl, by decide⟩,
    ⟨onPlayer (fun p => { p with state := .paused }) (ready 0), by decide, requestsOwed_of_none _ rfl rfl rfl rfl rfl rfl rfl,
      by decide⟩,
    ⟨pausedWait, _, by decide, requestsOwed_of_none _ rfl rfl rfl rfl rfl rfl rfl, by decide, rfl, by decide⟩,
    ⟨playing .paused (noteAt 1) (ready 0), _, by decide, requestsOwed_of_none _ rfl rfl rfl rfl rfl rfl rfl, by decide, by decide,
      by decide, rfl, by decide⟩,
    ⟨waitingPlayer 0, by decide, requestsOwed_of_none _ rfl rfl rfl rfl rfl rfl rfl, by decide⟩,
    ⟨ready 0, by decide, requestsOwed_ready 0, by decide⟩⟩

/-- A player that scans for a marker and stands before an event. -/
def scansPast (state : PlayerState) (kind target marker : Nat) : Stage :=
  let q := (playing state { delta := 0, kind, target, value := 64, part := 3, aux := 0 } (ready 0)).player
  stageOf { q with scan := some marker, pendingSlot := if state = .seeking then some 3 else none }

theorem test_hyp_SeekPauseResumeAndStop_scan :
    (∀ kind ∈ [1, 2, 3, 4, 5, 6, 7], ∀ marker ∈ [0, 1], ∃ (p : Stage) (block : ScoreBlock) (e : ScoreEvent),
      p.player.scan = some marker ∧ p.player.currentBlock = some block ∧ block.events[p.player.currentEvent]? = some e ∧
      e.bad = false ∧ e.kind = kind ∧ e.target = 1) ∧
    (∀ playing : Bool, ∃ p : Stage, p.player.state = .seeking ∧ p.player.pendingSlot = some 3 ∧ p.player.returnToPlaying = playing) ∧
    (∃ (p : Stage) (take : TakeRecord), p.player.take = some take) ∧
    (∀ on : Bool, ∀ mode ∈ [MetronomeMode.free, .follow], ∃ p : Stage, p.player.state = .loading ∧ p.metronome.settings.on = on ∧
      p.metronome.settings.mode = mode ∧ p.hub.attach = .attached) ∧
    (∃ (s : State) (g : Group), s.hands 31 = true ∧ RequestsOwed s ∧ s.player.state = .paused ∧ s.player.held = none ∧
      s.player.restartOwed = true ∧ groupOf s.player = some (g, true) ∧ reached g.time s.player.position = false) :=
  ⟨fun kind h marker _ => ⟨scansPast .seeking kind 1 marker, _, _, rfl, rfl, rfl, by revert kind; decide, rfl, rfl⟩,
    fun playing =>
      let p := scansPast .seeking 5 1 1
      ⟨{ p with player := { p.player with returnToPlaying := playing } }, rfl, rfl, rfl⟩,
    ⟨scansPast .seeking 7 0 0, _, rfl⟩,
    fun on mode _ =>
      let p := scansPast .loading 5 1 1
      ⟨{ p with metronome := { p.metronome with settings := { p.metronome.settings with on, mode } } }, rfl, rfl, rfl, rfl⟩,
    ⟨onPlayer (fun q => { q with restartOwed := true }) (playing .paused (noteAt 1) (ready 0)), _, by decide,
      requestsOwed_of_none _ rfl rfl rfl rfl rfl rfl rfl, by decide, by decide, by decide, rfl, by decide⟩⟩

/-! ### Take recording -/

/-- A recorder that waits for its block list of one block, or one that records. -/
def armed (onFirstKey : Bool) : State :=
  onRecorder (fun r => { r with state := .armed, blockCount := 1, onFirstKey := onFirstKey }) (reading .list 8 (ready 0))
def recording : State :=
  onRecorder (fun r => { r with state := .recording, blockCount := 1, list := [4096], listRead := true, blocksUsed := 1 }) (ready 0)

/-- A recorder that waits for its block list of `count` blocks, its RECORD_START pending. -/
def listing (count : Nat) (onFirstKey : Bool) : State :=
  onRecorder (fun r => { r with state := .armed, blockCount := count, onFirstKey := onFirstKey, pendingSlot := some 3 })
    (holding .recordStart (reading .list (8 * count) (ready 0)))

/-- R156: an address of a block list passes its checks. -/
abbrev GoodAddress (list : List Byte) (i : Nat) : Prop :=
  u64At list (8 * i) ≠ 0 ∧ u64At list (8 * i) % 4096 = 0 ∧ ∀ j < i, u64At list (8 * i) ≠ u64At list (8 * j)

theorem test_hyp_RecordStartArmsAndBegins :
    (∃ (a : List Byte) (s : State), s.hub.readsNumbered ∧ s.hands 31 = true ∧ s.recorder.state = .idle ∧ u64At a 0 ≠ 0 ∧
      u64At a 0 % 8 = 0 ∧
      1 ≤ u8At a 14 ∧ u8At a 14 ≤ 64 ∧ 300 ≤ u16At a 12 ∧ u16At a 12 ≤ 3000 ∧ u8At a 15 ≤ 88 ∧ u8At a 16 ≤ 1) ∧
    (∀ onFirstKey : Bool, ∃ (s : State) (bytes : List Byte), Waiting .list s ∧ s.recorder.state = .armed ∧ s.recorder.listRead = false ∧
      s.recorder.pendingSlot = some 3 ∧ s.hub.holdsSlot 3 = true ∧ s.recorder.onFirstKey = onFirstKey ∧
      ∀ i < s.recorder.blockCount, GoodAddress (padded 16 bytes) i) ∧
    (∀ p ∈ [(0, (4095 : Nat)), (1, 0), (1, 4096)], ∃ (s : State) (bytes : List Byte), Waiting .list s ∧ s.recorder.state = .armed ∧
      s.recorder.listRead = false ∧ s.recorder.pendingSlot = some 3 ∧ p.1 < s.recorder.blockCount ∧
      ¬ GoodAddress (padded 16 bytes) p.1 ∧ ∀ i < p.1, GoodAddress (padded 16 bytes) i) :=
  ⟨⟨le64 8 ++ le32 1 ++ le16 3000 ++ [64, 88, 1, 1], ready 0, readsNumbered_of_none _ rfl, by decide⟩,
    fun onFirstKey => ⟨listing 2 onFirstKey, le64 4096 ++ le64 8192, ⟨rfl, _, rfl, Nat.zero_le _, rfl, rfl⟩, rfl, rfl, rfl, by
      cases onFirstKey <;> decide, rfl, by cases onFirstKey <;> decide +kernel⟩,
    fun p h => ⟨listing 2 true, (if p.1 = 0 then le64 p.2 else le64 4096) ++ le64 p.2, ⟨rfl, _, rfl, Nat.zero_le _, rfl, rfl⟩, rfl, rfl,
      rfl, by revert p; decide, by revert p; decide +kernel, by revert p; decide +kernel⟩⟩

theorem test_hyp_RecordStartArmsAndBegins_failed :
    (∃ s : State, Waiting .list s ∧ s.recorder.state = .armed ∧ s.recorder.listRead = false ∧ s.recorder.pendingSlot = some 3 ∧
      s.hub.attach = .attached) ∧
    (∃ s : State, Waiting .list s ∧ s.recorder.state = .armed ∧ s.recorder.listRead = false ∧ s.recorder.pendingSlot = none ∧
      s.recorder.onFirstKey = false) :=
  ⟨⟨listing 2 false, ⟨rfl, _, rfl, Nat.zero_le _, rfl, rfl⟩, rfl, rfl, rfl, rfl⟩,
    ⟨armed false, ⟨rfl, _, rfl, Nat.zero_le _, rfl, rfl⟩, rfl, rfl, rfl, rfl⟩⟩

theorem test_hyp_RecorderMarksStopsAndCounts :
    (∃ s : State, s.mainUp = true ∧ s.recorder.state = .recording) ∧ (∃ s : State, s.mainUp = true ∧ s.recorder.state ≠ .recording) ∧
    (∃ (a : List Byte) (s : State), s.hands 31 = true ∧ RequestsOwed s ∧ s.recorder.state = .recording ∧ u16At a 0 ≤ 256 ∧
      max s.recorder.lastScoreTime
          ((s.recorder.takeClock + (s.hub.tracking - s.recorder.lastReading).setWidth 64).toNat / 100) ≤
        s.recorder.lastScoreTime + 65535 ∧ s.recorder.buffer.length < 506) ∧
    (∃ s : State, s.hands 31 = true ∧ RequestsOwed s ∧ s.recorder.state = .armed) ∧
    (∃ s : State, s.hands 31 = true ∧ RequestsOwed s ∧ s.recorder.state = .recording) :=
  ⟨⟨recording, by decide⟩, ⟨ready 0, by decide⟩,
    ⟨[0, 1], recording, by decide, requestsOwed_of_none _ rfl rfl rfl rfl rfl rfl rfl, by decide⟩,
    ⟨armed false, by decide, requestsOwed_of_none _ rfl rfl rfl rfl rfl rfl rfl, by decide⟩,
    ⟨recording, by decide, requestsOwed_of_none _ rfl rfl rfl rfl rfl rfl rfl, by decide⟩⟩

/-- A recorder with a number of blocks in its list and of events in its block, and open keys. -/
def deskWith (state : RecorderState) (blocks events : Nat) (keys : List (Fin 88)) : Desk :=
  ((ready 0).hub, { recording.recorder with
    state, list := List.replicate blocks 4096, buffer := List.replicate events (noteAt 0), openKeys := keys })

theorem test_hyp_RecorderMarksStopsAndCounts_append :
    (∀ state ∈ [RecorderState.recording, .closing], ∃ (d : Desk) (time : Nat), d.2.state = state ∧
      (time - d.2.lastScoreTime - 1) / 65535 = 1 ∧ d.2.buffer.length + 1 + 1 < 507) ∧
    (∃ (d : Desk) (time : Nat), d.2.state = .recording ∧ (time - d.2.lastScoreTime - 1) / 65535 = 0 ∧ time = 65535) ∧
    (∃ d : Desk, d.2.state = .idle) ∧
    (∀ events ∈ [506, 507], ∃ d : Desk, d.2.currentBlock + 1 < d.2.list.length ∧ d.2.buffer.length = events) ∧
    (∀ events ∈ [505, 506], ∃ d : Desk, d.2.list.length ≤ d.2.currentBlock + 1 ∧ d.2.buffer.length = events) :=
  ⟨fun state h => ⟨deskWith state 1 504 [], 65536, rfl, by revert state; decide +kernel, by revert state; decide +kernel⟩,
    ⟨deskWith .recording 1 0 [], 65535, rfl, by decide, rfl⟩, ⟨deskWith .idle 1 0 [], rfl⟩,
    fun events h => ⟨deskWith .recording 2 events [], by revert events; decide +kernel⟩,
    fun events h => ⟨deskWith .recording 1 events [], by revert events; decide +kernel⟩⟩

theorem test_hyp_RecorderMarksStopsAndCounts_events :
    (∀ pedals : Bool, ∃ d : Desk, d.2.state = .recording ∧ 87 ∈ d.2.openKeys ∧ 0 ∉ d.2.openKeys ∧ d.2.includePedals = pedals) ∧
    (∃ d : Desk, d.2.state = .armed ∧ d.2.listRead = true ∧ d.2.onFirstKey = true ∧ d.2.openKeys = []) ∧
    (∃ d : Desk, d.2.state = .armed ∧ d.2.listRead = false) ∧
    (∃ d : Desk, d.2.state = .recording ∧ (List.finRange 88).filter (fun k => k ∈ d.2.openKeys) = [] ∧ d.2.buffer.length < 507) ∧
    (∃ d : Desk, d.2.state = .recording ∧ (List.finRange 88).filter (fun k => k ∈ d.2.openKeys) = [] ∧
      d.2.buffer.length = 507 ∧ d.2.currentBlock + 1 < d.2.list.length) ∧
    (∃ d : Desk, d.2.state = .recording ∧ (List.finRange 88).filter (fun k => k ∈ d.2.openKeys) = [0, 87] ∧
      d.2.buffer.length + 0 + [87].length + 2 < 507) :=
  ⟨fun pedals =>
      let d := deskWith .recording 1 0 [87]
      ⟨(d.1, { d.2 with includePedals := pedals }), by cases pedals <;> decide⟩,
    ⟨((ready 0).hub, { (deskWith .armed 1 0 []).2 with onFirstKey := true }), by decide⟩,
    ⟨((ready 0).hub, { (deskWith .armed 1 0 []).2 with listRead := false }), by decide⟩,
    ⟨deskWith .recording 1 506 [], by decide +kernel⟩, ⟨deskWith .recording 2 507 [], by decide +kernel⟩,
    ⟨deskWith .recording 1 503 [87, 0], by decide +kernel⟩⟩

/-! ### The event journal -/

/-- The journal writer in a state, with records waiting. -/
def writing (state : WriterState) (queue : List (JournalRecord × Word32)) (s : State) : State :=
  onHub (fun h => { h with journal := { h.journal with state := state, queue := queue } }) s
def aRecord : JournalRecord := { timestamp := 0, kind := .keyDown, flags := {}, subject := 87, detail := 0, value := 127, item := 0 }

theorem test_hyp_JournalPagesAreClaimedAndSealed :
    (∃ (s : State) (bytes : List Byte), Waiting .pageHeader s ∧ s.hub.attach = .attached ∧ s.hub.journal.state = .claiming ∧
      u8At (padded 16 bytes) 0 ≠ 0) ∧
    (∃ (s : State) (bytes : List Byte), Waiting .pageHeader s ∧ s.hub.attach = .attached ∧ s.hub.journal.state = .claiming ∧
      u8At (padded 16 bytes) 0 = 0 ∧ s.hub.journal.queue = [(aRecord, 3)]) ∧
    (∃ s : State, s.mainUp = true ∧ s.hub.attach = .attached ∧ s.hub.journal.state = .filling ∧
      s.hub.journal.fillStart + 1000 * s.hub.journal.sealPeriod ≤ s.hub.now) ∧
    (∃ s : State, s.mainUp = true ∧ s.hub.attach = .attached ∧ s.hub.journal.state = .waiting ∧
      s.hub.journal.waitStart + 1000 * s.hub.journal.sealPeriod ≤ s.hub.now) ∧
    (∃ s : State, s.mainUp = true ∧ s.hub.attach = .attached ∧ s.hands 31 = true ∧ s.hub.journal.state ≠ .filling) ∧
    (∃ s : State, s.mainUp = true ∧ s.hub.attach = .attached ∧ s.hands 31 = true ∧ s.hub.journal.state = .filling ∧
      s.hub.journal.queue = []) :=
  ⟨⟨writing .claiming [] (reading .pageHeader 16 (ready 0)), [2], ⟨by decide, _, rfl, by decide⟩, by decide⟩,
    ⟨writing .claiming [(aRecord, 3)] (reading .pageHeader 16 (ready 0)), [], ⟨by decide, _, rfl, by decide⟩, by decide⟩,
    ⟨writing .filling [] (ready 5000), by decide⟩, ⟨writing .waiting [] (ready 5000), by decide⟩, ⟨ready 0, by decide⟩,
    ⟨writing .filling [] (ready 0), by decide⟩⟩

theorem test_hyp_JournalPagesAreClaimedAndSealed_records :
    (∃ h : Hub, h.journal.state = .off) ∧ (∃ h : Hub, h.journal.state ≠ .off ∧ 128 ≤ h.journal.queue.length) ∧
    (∀ state ∈ [WriterState.claiming, .waiting, .idle, .filling], ∃ h : Hub, h.journal.state = state ∧
      h.journal.queue.length < 128) ∧
    (∀ p ∈ [((1 : Word32), 1), (1, 0), (0, 61), (0, 62), (0, 0)], ∃ (h : Hub) (gap : Word32), h.attach = .attached ∧ gap = p.1 ∧
      h.journal.pageRecords = p.2) ∧
    (∃ (s : State) (bytes : List Byte), Waiting .pageHeader s ∧ s.hub.attach = .attached ∧ s.hub.journal.state = .claiming ∧
      u8At (padded 16 bytes) 0 = 0 ∧ s.hub.journal.queue.length = 2) :=
  ⟨⟨State.reset.hub, rfl⟩, ⟨(writing .claiming (List.replicate 128 (aRecord, 0)) (ready 0)).hub, by decide +kernel⟩,
    fun state h => ⟨(writing state (List.replicate 127 (aRecord, 0)) (ready 0)).hub, rfl, by revert state; decide +kernel⟩,
    fun p h => ⟨(onHub (fun g => { g with journal := { g.journal with pageRecords := p.2 } }) (writing .filling [] (ready 0))).hub, p.1,
      rfl, rfl, rfl⟩,
    ⟨writing .claiming [(aRecord, 3), (aRecord, 0)] (reading .pageHeader 16 (ready 0)), [], ⟨by decide, _, rfl, by decide⟩, by decide⟩⟩

/-! ### The exchange region -/

theorem test_hyp_RegisterWritesTakeEffect :
    (∀ board pages : Bool, ∃ (value : Word32) (s : State), s.mainUp = true ∧ s.hub.attach = .attached ∧ value.getLsbD 0 = board ∧
      value.getLsbD 1 = pages) ∧
    (∀ attach ∈ [AttachState.detached, .validating, .rejected, .standby, .woken], ∃ s : State, s.mainUp = true ∧
      s.hub.attach = attach ∧ s.hub.attach ≠ .attached) :=
  ⟨fun board pages => ⟨(if board then 1 else 0) + if pages then 2 else 0, ready 0, by cases board <;> cases pages <;> decide⟩,
    fun attach h => ⟨onHub (fun g => { g with attach := attach }) (ready 0), by revert attach; decide⟩⟩

/-- R187, R188: a flag set by an ATTACHED part, and a condition of a part that is not. -/
theorem test_hyp_RegisterWritesTakeEffect_flags :
    (∃ h : Hub, h.attach = .attached ∧ (h.raise .wake).regs.cause = 128#8 ∧ (h.raise .wake).msiDue = h.msiDue + 1) ∧
    (∃ h : Hub, h.attach ≠ .attached ∧ (h.raise .wake).regs.cause = 0#8) :=
  ⟨⟨(alerting 128 0 (ready 0)).hub, by decide⟩, ⟨State.reset.hub, by decide⟩⟩

/-- A part in an attach state. -/
def inState (attach : AttachState) : State := onHub (fun h => { h with attach := attach }) (ready 0)

theorem test_hyp_AttachBeginsAndEnds :
    (∃ s : State, s.mainUp = true ∧ (s.hub.attach = .detached ∨ s.hub.attach = .rejected) ∧
      (s.hub.regs.regionHi ++ s.hub.regs.regionLo : Word64).toNat % 4096 = 0) ∧
    (∃ s : State, s.mainUp = true ∧ (s.hub.attach = .detached ∨ s.hub.attach = .rejected) ∧
      (s.hub.regs.regionHi ++ s.hub.regs.regionLo : Word64).toNat % 4096 ≠ 0) ∧
    (∃ s : State, s.mainUp = true ∧ s.hub.attach = .validating) ∧ (∃ s : State, s.mainUp = true ∧ s.hub.attach = .attached) ∧
    (∃ s : State, s.mainUp = true ∧ (s.hub.attach = .standby ∨ s.hub.attach = .woken)) :=
  ⟨⟨inState .rejected, by decide⟩,
    ⟨onHub (fun h => { h with regs := { h.regs with regionLo := 4095 } }) (inState .detached), by decide⟩,
    ⟨inState .validating, by decide⟩, ⟨ready 0, by decide⟩, ⟨inState .woken, by decide⟩⟩

/-- A part in standby or woken, with its metronome in a state and its base aligned or not. -/
def asleep (attach : AttachState) (on : Bool) (mode : MetronomeMode) (base : Word32) : State :=
  onMetronome (fun m => { m with settings := { m.settings with on, mode } })
    (onHub (fun h => { h with regs := { h.regs with regionLo := base } }) (inState attach))

theorem test_hyp_AttachBeginsAndEnds_exits :
    (∀ (woken : Bool) (on : Bool) (mode : MetronomeMode) (base : Word32), ∃ s : State, s.mainUp = true ∧
      s.hub.attach = (if woken then .woken else .standby) ∧ s.hub.readsNumbered ∧ s.metronome.settings.on = on ∧
      s.metronome.settings.mode = mode ∧ s.hub.regs.regionLo = base) ∧
    (0x1000 : Word32).toNat % 4096 = 0 ∧ (0x1FFC : Word32).toNat % 4096 ≠ 0 :=
  ⟨fun woken on mode base => ⟨asleep (if woken then .woken else .standby) on mode base, rfl, rfl, readsNumbered_of_none _ rfl, rfl, rfl,
    rfl⟩, by decide, by decide⟩

/-- A region header that passes every check: four pages, the areas one behind the other from offset 64. -/
def goodHeader : List Byte := le32 0x4B475848 ++ le16 1 ++ le16 4 ++ le64 0x10000 ++ le32 64 ++ le32 4096 ++ le32 0x8000 ++ le16 5

/-- A region header of a magic value, a version, a page count and a seal period, its areas one behind the other. -/
def headerOf (magic version pages period : Nat) : List Byte :=
  le32 magic ++ le16 version ++ le16 pages ++ le64 0x20000 ++ le32 64 ++ le32 2112 ++ le32 0x12000 ++ le16 period

/-- R179, Table 10-4: the checks of a region header that are rejected with LAYOUT. -/
abbrev GoodLayout (base : Word64) (header : List Byte) : Prop :=
  let pages := u16At header 6
  let size := u64At header 8
  let board := u32At header 16
  let ring := u32At header 20
  let triplet := u32At header 24
  (board % 64 = 0 ∧ ring % 64 = 0 ∧ triplet % 64 = 0 ∧ u16At header 28 ≤ 100) ∧
    (64 ≤ size ∧ board + 2048 ≤ size ∧ ring + 1024 * pages ≤ size ∧ triplet + 1544 ≤ size) ∧
    (64 ≤ board ∧ 64 ≤ ring ∧ 64 ≤ triplet) ∧ board + 2048 ≤ ring ∧ ring + 1024 * pages ≤ triplet ∧ base.toNat + size ≤ 2 ^ 64

/-- A validation whose header has come. -/
abbrev Validating (s : State) : Prop := Waiting .regionHeader s ∧ s.hub.attach = .validating

theorem test_hyp_HeaderIsCheckedAndAttached :
    ∃ s : State, Validating s ∧ s.hub.region.base = 0x1000 ∧
    u32At (padded 64 []) 0 ≠ 0x4B475848 ∧
    (∀ version ∈ [0, 2], u32At (padded 64 (headerOf 0x4B475848 version 4 0)) 0 = 0x4B475848 ∧
      u16At (padded 64 (headerOf 0x4B475848 version 4 0)) 4 ≠ 1) ∧
    (∀ pages ∈ [3, 65],
      let header := padded 64 (headerOf 0x4B475848 1 pages 0)
      u32At header 0 = 0x4B475848 ∧ u16At header 4 = 1 ∧ (u16At header 6 < 4 ∨ 64 < u16At header 6)) ∧
    (∀ period ∈ [101],
      let header := padded 64 (headerOf 0x4B475848 1 4 period)
      u32At header 0 = 0x4B475848 ∧ u16At header 4 = 1 ∧ 4 ≤ u16At header 6 ∧ u16At header 6 ≤ 64 ∧ ¬ u16At header 28 ≤ 100) ∧
    (∀ p ∈ [(4, 0), (4, 100), (64, 1)],
      let header := padded 64 (headerOf 0x4B475848 1 p.1 p.2)
      u32At header 0 = 0x4B475848 ∧ u16At header 4 = 1 ∧ 4 ≤ u16At header 6 ∧ u16At header 6 ≤ 64 ∧ GoodLayout 0x1000 header) :=
  ⟨reading .regionHeader 64 (inState .validating), ⟨⟨by decide, _, rfl, by decide⟩, rfl⟩, rfl, by decide +kernel, by decide +kernel,
    by decide +kernel, by decide +kernel, by decide +kernel⟩

/-- A sweep in progress with three of its four parts in, and a snapshot in progress. -/
def sweeping (s : State) : State :=
  onHub (fun h => { h with sweep := { h.sweep with parts := some [some [], some [], some [], none], timer := some 0 } }) s
def snapping (s : State) : State :=
  onHub (fun h => { h with snapshot := { h.snapshot with inProgress := true, timer := some 0 } }) s

theorem test_hyp_SweepsAndSnapshotsFallDue :
    (∃ s : State, s.mainUp = true ∧ s.hub.attach = .attached ∧ s.entry = none ∧ s.hub.sweep.parts = none ∧
      s.hub.sweep.timer = some 10000 ∧ 10000 ≤ s.hub.now) ∧
    (∃ s : State, s.mainUp = true ∧ s.hub.attach = .attached ∧ s.entry = none ∧ s.hub.sweep.parts.isSome = true) ∧
    (∃ s : State, s.mainUp = true ∧ s.hub.attach = .attached ∧ s.hub.journal.state = .waiting) ∧
    (∃ s : State, s.mainUp = true ∧ s.hub.attach = .attached ∧ s.hub.journal.state ≠ .waiting) ∧
    (∃ s : State, s.mainUp = true ∧ s.hub.attach = .attached ∧ s.hub.snapshot.timer = some 0 ∧ 0 ≤ s.hub.now ∧
      s.hub.snapshot.inProgress = true ∧ s.hands 31 = true) ∧
    (∃ s : State, s.mainUp = true ∧ s.hub.attach = .attached ∧ s.hub.snapshot.timer = some 10000 ∧ 10000 ≤ s.hub.now ∧
      s.hub.snapshot.inProgress = false ∧ s.hands 31 = true) :=
  ⟨⟨onHub (fun h => { h with sweep := { h.sweep with timer := some 10000 } }) (ready 10000), by decide⟩, ⟨sweeping (ready 0), by decide⟩,
    ⟨writing .waiting [] (ready 0), by decide⟩, ⟨ready 0, by decide⟩, ⟨snapping (ready 0), by decide⟩,
    ⟨onHub (fun h => { h with snapshot := { h.snapshot with timer := some 10000 } }) (ready 10000), by decide⟩⟩

/-- The reads of these states are numbered, as the clauses on what is asked of the board want it. -/
theorem test_hyp_reads_are_numbered :
    (∃ s : State, s.hub.journal.state = .waiting ∧ s.hub.journal.waitStart + 1000 * s.hub.journal.sealPeriod ≤ s.hub.now ∧
      s.hub.readsNumbered) ∧
    (∃ s : State, s.hub.attach = .detached ∧ (s.hub.regs.regionHi ++ s.hub.regs.regionLo : Word64).toNat % 4096 = 0 ∧
      s.hub.readsNumbered) ∧
    (∃ (s : State) (bytes : List Byte), Waiting .regionHeader s ∧ s.hub.attach = .validating ∧
      (RegionHeader.parse (padded 64 bytes)).reject s.hub.region.base = .none ∧ s.hub.readsNumbered) ∧
    (∃ s : State, s.hub.attach = .attached ∧ s.hub.snapshot.inProgress = false ∧ s.hub.sweep.parts = none ∧ s.hub.readsNumbered) :=
  ⟨⟨writing .waiting [] (ready 5000), by decide, by decide, readsNumbered_of_none _ rfl⟩,
    ⟨inState .detached, by decide, by decide, readsNumbered_of_none _ rfl⟩,
    ⟨onHub (fun h => { h with sched := { h.sched with nextReadId := 8 } }) (reading .regionHeader 64 (inState .validating)), goodHeader,
      ⟨by decide, _, rfl, by decide⟩, rfl, by decide +kernel, by unfold Hub.readsNumbered; decide⟩,
    ⟨ready 0, by decide, by decide, by decide, readsNumbered_of_none _ rfl⟩⟩

theorem test_hyp_SnapshotsArePublishedBesideTheHeldBuffer :
    ∀ held ∈ [0, 1, 2, 3, 4, 4294967295], ∀ latest ∈ [none, some (0 : Fin 3), some 1, some 2], ∀ sequenceHeld : Bool,
      ∃ (s : State) (bytes : List Byte), Waiting .hold s ∧ s.hub.attach = .attached ∧ u32At (padded 4 bytes) 0 = held ∧
        s.hub.snapshot.latest = latest ∧ s.hub.snapshot.held = sequenceHeld :=
  fun held h latest _ again =>
    ⟨onHub (fun g => { g with snapshot := { g.snapshot with latest := latest, held := again } }) (snapping (reading .hold 4 (ready 0))),
      le32 held, ⟨rfl, _, rfl, Nat.zero_le _, rfl, rfl⟩, rfl, by revert held; decide +kernel, rfl, rfl⟩

theorem test_hyp_SnapshotsArePublishedBesideTheHeldBuffer_serving :
    ∀ held : Bool, ∃ (s : State) (e : InFlight), Waiting .hold s ∧ s.hub.attach = .attached ∧ s.hub.snapshot.held = held ∧
      3 ∈ s.hub.snapshot.serving ∧ s.hub.inFlightEntry 3 = some e :=
  fun held => ⟨onHub (fun h => { h with snapshot := { h.snapshot with serving := [3], held := held } })
    (snapping (holding .snapshotNow (reading .hold 4 (ready 0)))), _, ⟨rfl, _, rfl, by cases held <;> decide⟩, rfl, rfl,
    by cases held <;> decide, rfl⟩

theorem test_hyp_BoardCopiesAreSweptAndReadsTimeOut :
    (∃ (s : State) (parts : List (Option (List Byte))), Waiting (.board 0) s ∧ s.hub.sweep.parts = some parts ∧
      allChunks (putChunk parts 0 (padded 512 [])) = none ∧ s.hub.sweep.held = false) ∧
    (∃ (s : State) (parts : List (Option (List Byte))), Waiting (.board 3) s ∧ s.hub.sweep.parts = some parts ∧
      (allChunks (putChunk parts 3 (padded 512 []))).isSome = true) ∧
    (∃ (s : State) (r : Read), s.mainUp = true ∧ s.hub.outstandingRead 7 = some r ∧ r.issuedAt + 2000 ≤ s.hub.now ∧
      s.hub.attach = .attached ∧ r.discarded = false) ∧
    (∃ (s : State) (r : Read), s.mainUp = true ∧ s.hub.outstandingRead 7 = some r ∧ r.issuedAt + 2000 ≤ s.hub.now ∧
      s.hub.attach = .attached ∧ r.discarded = true) :=
  ⟨⟨sweeping (reading (.board 0) 512 (ready 0)), _, ⟨by decide, _, rfl, by decide⟩, rfl, by decide +kernel⟩,
    ⟨sweeping (reading (.board 3) 512 (ready 0)), _, ⟨by decide, _, rfl, by decide⟩, rfl, by decide +kernel⟩,
    ⟨onHub (fun h => { h with now := 2000 }) (reading .hold 4 (ready 0)), _, by decide, rfl, by decide⟩,
    ⟨onHub (fun h => { h with now := 2000, sched := { h.sched with
        outstanding := [{ theRead .hold 4 (ready 0) with discarded := true }] } }) (ready 0), _, by decide, rfl, by decide⟩⟩

/-- Waiting reads, none of which has waited more than 1 ms at the time 1000, and one of which has at 1001. -/
def waitingReads : List Read :=
  [{ theRead .hold 4 (ready 0) with id := 1 }, { theRead (.voice 0 1 .first 0) 512 (ready 0) with id := 2, requestedAt := 1 }]

theorem test_hyp_BoardCopiesAreSweptAndReadsTimeOut_scheduler :
    waitingReads.Pairwise (fun a b => a.requestedAt ≤ b.requestedAt) ∧ (chooseRead 1000 waitingReads).map Read.id = some 2 ∧
    (chooseRead 1001 waitingReads).map Read.id = some 1 ∧ (∀ q ∈ waitingReads, ¬ q.requestedAt + 1000 < 1000) ∧
    (∃ q ∈ waitingReads, q.requestedAt + 1000 < 1001) ∧
    (∃ (h : Hub) (r : Read), h.sched.outstanding.length < 4 ∧ chooseRead h.now h.sched.waiting = some r) ∧
    (∃ h : Hub, 4 ≤ h.sched.outstanding.length) :=
  let queued (n : Nat) : Hub :=
    { (ready 0).hub with sched := { (ready 0).hub.sched with
        waiting := waitingReads, outstanding := List.replicate n (theRead .hold 4 (ready 0)) } }
  ⟨by decide, by decide, by decide, by decide, by decide, ⟨queued 3, waitingReads[1], by decide, by decide⟩, ⟨queued 4, by decide⟩⟩

theorem test_hyp_BoardCopiesAreSweptAndReadsTimeOut_visits :
    let full : State := onHub (fun h => { h with
      inFlight := List.replicate 8 { slot := 0, kind := .snapshotNow, tag := 0, owner := .exchangeController } }) (ready 0)
    let posted (kind : Byte) : List Byte := List.replicate 1984 0 ++ [1, kind, 9, 0]
    (∃ s : State, s.mainUp = true ∧ s.hub.attach = .attached ∧ s.entry.isSome = true) ∧
    (∃ s : State, s.entry = none ∧ u8At (posted 12) (64 * (0 : Fin 32).val) ≠ 1) ∧
    (∃ s : State, s.entry = none ∧ u8At (List.replicate 192 0 ++ [1]) (64 * (3 : Fin 32).val) = 1 ∧ s.hub.holdsSlot 3 = true) ∧
    (full.mainUp = true ∧ full.hub.attach = .attached ∧ full.entry = none ∧ u8At (posted 12) (64 * (31 : Fin 32).val) = 1 ∧
      full.hub.holdsSlot 31 = false ∧ 8 ≤ full.hub.inFlight.length) ∧
    (∃ s : State, s.mainUp = true ∧ s.hub.attach = .attached ∧ s.entry = none ∧ s.hub.holdsSlot 31 = false ∧
      s.hub.inFlight.length < 8) ∧
    (∀ kind ∈ [(0 : Byte), 35], RequestKind.ofCode (u8At (posted kind) (64 * (31 : Fin 32).val + 1)) = none) ∧
    (∃ (c : Instr) (k : RequestKind), RequestKind.ofCode (u8At (posted 12) (64 * (31 : Fin 32).val + 1)) = some k ∧
      requestOf c = some { slot := 31, kind := k, tag := BitVec.ofNat 16 (u16At (posted 12) (64 * (31 : Fin 32).val + 2))
                           args := slice (posted 12) (64 * (31 : Fin 32).val + 8) 24 }) :=
  ⟨⟨{ ready 0 with entry := some (3, .recorderClose) }, by decide⟩, ⟨ready 0, rfl, by decide +kernel⟩,
    ⟨holding .snapshotNow (ready 0), rfl, by decide +kernel, by decide⟩, by decide +kernel, ⟨ready 0, by decide⟩, by decide +kernel,
    ⟨.railQuery 31 (BitVec.ofNat 16 (u16At (List.replicate 1984 0 ++ [1, 12, 9, 0]) (64 * (31 : Fin 32).val + 2)))
        (slice (List.replicate 1984 0 ++ [1, 12, 9, 0]) (64 * (31 : Fin 32).val + 8) 24), .railQuery, by decide +kernel, rfl⟩⟩

/-! ### Standby, wake and start-up -/

theorem test_hyp_StandbyIsEntered :
    (∃ (a : List Byte) (s : State), s.hands 31 = true ∧ RequestsOwed s ∧ s.rail.state.still = true ∧ bitOf (u8At a 0) 0 = true ∧
      u8At a 1 ≤ 50 ∧ 1 ≤ u8At a 2 ∧ u8At a 2 ≤ 20) ∧
    (∃ (a : List Byte) (s : State), s.hands 31 = true ∧ RequestsOwed s ∧ s.rail.state.still = true ∧ bitOf (u8At a 0) 0 = false) ∧
    (∃ (s : State) (e : InFlight), s.mainUp = true ∧ s.hub.attach = .attached ∧ s.entry = some (3, .journalSeal) ∧
      s.hub.inFlightEntry 3 = some e) ∧
    (∃ s : State, s.mainUp = true ∧ s.entry = some (3, .recorderClose) ∧ s.recorder.state = .closing) ∧
    (∃ s : State, s.mainUp = true ∧ s.entry = none) :=
  ⟨⟨[1, 50, 20], ready 0, by decide, requestsOwed_ready 0, by decide⟩, ⟨[], ready 0, by decide, requestsOwed_ready 0, by decide⟩,
    ⟨{ holding .standbyEnter (ready 0) with entry := some (3, .journalSeal) }, _, by decide, rfl, rfl, rfl⟩,
    ⟨onRecorder (fun r => { r with state := .closing })
      { holding .standbyEnter (ready 0) with entry := some (3, .recorderClose) }, by decide⟩, ⟨ready 0, by decide⟩⟩

/-- R195 steps 1 and 2: the entry finds a take in play, and the recorder in each of its states, a RECORD_START pending or none. -/
theorem test_hyp_StandbyIsEntered_owners :
    (∃ s : State, s.hands 31 = true ∧ RequestsOwed s ∧ s.rail.state.still = true ∧ s.player.state.inProgress = true) ∧
    (∃ s : State, s.hands 31 = true ∧ RequestsOwed s ∧ s.rail.state.still = true ∧ s.recorder.state = .armed ∧
      s.recorder.pendingSlot = some 3 ∧ s.hub.holdsSlot 3 = true) ∧
    (∀ state ∈ [RecorderState.idle, .armed, .recording, .closing], ∃ s : State, s.hands 31 = true ∧ RequestsOwed s ∧
      s.rail.state.still = true ∧ s.recorder.state = state) :=
  ⟨⟨onPlayer (fun q => { q with state := .playing }) (ready 0), by decide, requestsOwed_of_none _ rfl rfl rfl rfl rfl rfl rfl, by decide⟩,
    ⟨listing 1 false, by decide,
      { owed := .refl _, once := by decide, detached := fun h => absurd rfl h, player := fun h => (nomatch h)
        recorder := fun _ => ⟨rfl, rfl⟩, active := rfl, before := fun m h => (nomatch h), snapshot := fun _ => rfl }, by decide⟩,
    fun state h => ⟨onRecorder (fun r => { r with state := state }) (ready 0), by revert state; decide,
      requestsOwed_of_none _ rfl rfl rfl rfl rfl rfl rfl, by revert state; decide, rfl⟩⟩

/-- An ATTACHED part whose journal page is open, with the voice 95 in a phase, its first fill there or not. -/
def sounding (phase : VoicePhase) (firstFill : Bool) (state : WriterState) : State :=
  onVoice 95 (fun v => { v with phase := phase, firstFill := firstFill }) (writing state [] (ready 0))

/-- R195 steps 3 and 4: the entry finds a voice SOUNDING or DAMPING, its first fill there or not, and a page open or none. -/
theorem test_hyp_StandbyIsEntered_voices :
    ∀ phase ∈ [VoicePhase.sounding, .damping], ∀ firstFill : Bool, ∀ state ∈ [WriterState.filling, .idle],
      ∃ s : State, s.hands 31 = true ∧ RequestsOwed s ∧ s.rail.state.still = true ∧ s.recorder.state ≠ .closing ∧
        s.voice.voices[(95 : Fin 96)].phase = phase ∧ s.voice.voices[(95 : Fin 96)].firstFill = firstFill ∧
        s.hub.journal.state = state ∧
        (after (.standbyEnter 31 0 []) s).voice.voices[(95 : Fin 96)].phase = (if firstFill then .free else .cutting) ∧
        (after (.standbyEnter 31 0 []) s).hub.journal.state = .idle ∧
        (after (.standbyEnter 31 0 []) s).hub.journal.sealed = if state = .filling then 1 else 0 :=
  fun phase h firstFill state h' => ⟨sounding phase firstFill state, by revert phase firstFill state; decide +kernel,
    requestsOwed_of_none _ rfl rfl rfl rfl rfl rfl rfl, by revert phase firstFill state; decide +kernel, by
    revert phase firstFill state; decide +kernel, by revert phase firstFill state; decide +kernel, by
    revert phase firstFill state; decide +kernel, rfl, by revert phase firstFill state; decide +kernel, by
    revert phase firstFill state; decide +kernel, by revert phase firstFill state; decide +kernel⟩

/-- R195: the close that the entry awaited is done. -/
theorem test_hyp_StandbyIsEntered_closed :
    ∃ s : State, s.mainUp = true ∧ s.entry = some (3, .recorderClose) ∧ s.recorder.state ≠ .closing ∧
      (after .standbyShutdownStep s).hub.attach = .standby :=
  ⟨{ holding .standbyEnter (ready 0) with entry := some (3, .recorderClose) }, by decide, rfl, by decide, by decide +kernel⟩

/-- A part whose lane 7 alone is in service, its hammers at rest: the quiet condition has been true since time 0. -/
def oneLane (s : State) : State :=
  let off : Vector Lane 9 := Vector.replicate 9 { Lane.reset with state := .off, phase := .idle }
  onRail (fun r => { r with quiet := true }) { s with
    lanes := off.set 7 { Lane.reset with state := .active, phase := .idle, expected := some 0 }
    keys := Vector.replicate 88 { Key.reset with state := .rest, lastRaw := some (100, 100) } }

/-- R18, R36: the notice of the ACTIVE lane goes before it is OFF, so the held time begins again at the entry. -/
theorem test_hyp_StandbyIsEntered_quiet :
    ∃ (s : State) (e : InFlight) (n : Fin 8), s.mainUp = true ∧ s.hub.attach = .attached ∧ s.entry = some (3, .journalSeal) ∧
      s.hub.inFlightEntry 3 = some e ∧ s.lanes[n.castSucc].state = .active ∧ s.quietCondition = true ∧
      (after .standbyShutdownStep s).rail.quiet = true ∧ (after .standbyShutdownStep s).rail.quietSince = 1000 :=
  ⟨{ oneLane (holding .standbyEnter (ready 1000)) with entry := some (3, .journalSeal) }, _, 7, by decide, rfl, rfl, rfl, rfl,
    by decide +kernel, by decide +kernel, by decide +kernel⟩

theorem test_hyp_LaneControlActsOnOneLane_quiet :
    ∃ (a : List Byte) (s : State), s.hands 31 = true ∧ RequestsOwed s ∧ u8At a 0 = (7 : Fin 9).val ∧ u8At a 1 = 1 ∧
      s.lanes[(7 : Fin 9)].state = .active ∧ (after (.laneControl 31 0 a) s).rail.quiet = true ∧
      (after (.laneControl 31 0 a) s).rail.quietSince = 1000 :=
  ⟨[7, 1], oneLane (ready 1000), by decide, requestsOwed_of_none _ rfl rfl rfl rfl rfl rfl rfl, by decide, by decide, rfl,
    by decide +kernel, by decide +kernel⟩

/-- A part in standby whose wake scanner serves lane 7 and expects the sequence number `n`, with the readings last seen. -/
def scanning (n : Option (BitVec 4)) (last : Option (List Nat)) : State :=
  onStandby (fun b => { b with scanner := b.scanner.set 7 (some { exchange := none, expected := n, last := last }) }) (standingBy 0)

/-- A part in standby whose wake scanner has written START on lane 7 for the time given. -/
def starting (attempt : Nat) : State :=
  onLane 7 (fun l => { l with state := .off, phase := .idle }) (onStandby (fun b => { b with
    scanner := b.scanner.set 7 (some
      { exchange := some { step := .startLowRate, value := some 2, number := 1, attempt, sentAt := 0, firstSentAt := 0 }
        expected := none, last := none }) }) (standingBy 100))

/-- A frame of the wake scanner with readings 0 and its CRC, and the same with a wrong one. -/
def scanFrame : List Byte := List.replicate 23 0 ++ [crc8 (List.replicate 23 0)]
def badScanFrame : List Byte := List.replicate 23 0 ++ [crc8 (List.replicate 23 0) + 1]

theorem test_hyp_WakeScannerAndPulse :
    (∃ (s : State) (r : ScannerLane), s.standby.scanner[(7 : Fin 8)] = some r ∧ r.exchange = none ∧ r.expected = none ∧
      r.last = none ∧ (parseFrame 11 scanFrame).map Prod.snd = some true) ∧
    (∃ (s : State) (r : ScannerLane), s.standby.scanner[(7 : Fin 8)] = some r ∧ r.exchange = none ∧ r.expected = some 0 ∧
      r.last = some [] ∧ (parseFrame 11 scanFrame).map (fun p => (p.1.sequence, p.2)) = some (0, true)) ∧
    (∃ (s : State) (r : ScannerLane), s.mainUp = true ∧ s.standby.scanner[(7 : Fin 8)] = some r ∧ r.exchange = none ∧
      r.expected = some 15 ∧ (parseFrame 11 scanFrame).map (fun p => (p.1.sequence, p.2)) = some (0, true)) ∧
    (∃ (s : State) (r : ScannerLane), s.mainUp = true ∧ s.standby.scanner[(7 : Fin 8)] = some r ∧ r.exchange = none ∧
      (parseFrame 11 badScanFrame).map Prod.snd = some false) ∧
    (∃ (s : State) (r : ScannerLane) (e : LaneExchange), s.standby.scanner[(7 : Fin 8)] = some r ∧ r.exchange = some e ∧
      e.step = .startLowRate ∧ s.lanes[(7 : Fin 9)].exchange = none ∧ e.sentAt + 100 = s.hub.now ∧ e.attempt = 3 ∧
      s.lanes[(7 : Fin 9)].state = .off) ∧
    (∃ (s : State) (r : ScannerLane) (e : LaneExchange), s.standby.scanner[(7 : Fin 8)] = some r ∧ r.exchange = some e ∧
      e.step = .startLowRate ∧ s.lanes[(7 : Fin 9)].exchange = none ∧ e.sentAt + 100 = s.hub.now ∧ e.attempt < 3) ∧
    (∃ s : State, s.standby.pulse = .delay 500 ∧ 500 ≤ s.hub.now) ∧ (∃ s : State, s.standby.pulse = .pulsing 500 ∧ 500 ≤ s.hub.now) :=
  ⟨⟨scanning none none, _, rfl, by decide +kernel⟩, ⟨scanning (some 0) (some []), _, rfl, by decide +kernel⟩,
    ⟨scanning (some 15) none, _, by decide, rfl, by decide +kernel⟩, ⟨scanning none none, _, by decide, rfl, by decide +kernel⟩,
    ⟨starting 3, _, _, rfl, rfl, rfl, rfl, rfl, rfl, rfl⟩, ⟨starting 2, _, _, rfl, rfl, rfl, rfl, rfl, by decide⟩,
    ⟨onStandby (fun b => { b with pulse := .delay 500 }) (standingBy 500), by decide⟩,
    ⟨onStandby (fun b => { b with pulse := .pulsing 500 }) (standingBy 500), by decide⟩⟩

theorem test_hyp_TimersComeNoEarlier_scanner :
    ∃ (s : State) (r : ScannerLane) (e : LaneExchange), s.lanes[(7 : Fin 9)].exchange = none ∧
      s.standby.scanner[(7 : Fin 8)] = some r ∧ r.exchange = some e ∧ s.hub.now < e.sentAt + 100 :=
  ⟨onHub (fun h => { h with now := 99 }) (starting 3), _, _, rfl, rfl, rfl, by decide⟩

theorem test_hyp_WakeScannerAndPulse_events :
    (∀ last ∈ [none, some (500 : Nat)], ∃ b : Standby, b.pulse = .idle ∧ b.lastPulse = last) ∧
    (∀ pulse ∈ [PulseTimer.delay 500, .pulsing 500], ∃ b : Standby, b.pulse = pulse) ∧
    (∀ p ∈ [(163, 164, true), (164, 165, false), (162, 163, false)], ∃ (t : WakeThreshold),
      let depth (raw : Nat) : Nat := min 1000 ((((raw : Int) - t.rest) * 1000).tdiv ((t.bottom : Int) - t.rest)).toNat
      decide (depth p.1 < t.press ∧ t.press ≤ depth p.2.1) = p.2.2) :=
  ⟨fun last _ => ⟨{ (ready 0).standby with pulse := .idle, lastPulse := last }, rfl, rfl⟩,
    fun pulse _ => ⟨{ (ready 0).standby with pulse := pulse }, rfl⟩,
    fun p h => ⟨{ rest := 100, bottom := 900, press := 80 }, by revert p; decide⟩⟩

theorem test_hyp_ResetsReturnTheirDomains :
    (∃ s : State, s.resetHeld ≠ some .powerOn) ∧ (∃ s : State, s.resetHeld = some .powerOn) ∧ (∃ s : State, s.resetHeld = some .main) ∧
    (∃ s : State, s.resetHeld = none) :=
  ⟨⟨ready 0, by decide⟩, ⟨after .powerOnReset (ready 0), by decide⟩, ⟨after .mainReset (ready 0), by decide⟩, ⟨ready 0, rfl⟩⟩

end Sys2Proof.Tests
end

section
/-! SUPPORT. What the lane controller's operations leave in the lane table, each said once (R3 to R18). -/

namespace Sys2Proof.Machine

/-! ### Lane records -/

/-- R14: a lane-lost notice leaves the lane table alone. -/
@[simp] theorem State.laneLost_lanes (n : Fin 9) (s : State) : (s.laneLost n).lanes = s.lanes := by
  unfold State.laneLost
  split
  · exact (State.keyLaneLost_work _ (List.Subset.refl _) (Work.refl _ s)).same .lanes (by decide)
  · exact (State.pedalLaneLost_work (List.Subset.refl _) (Work.refl _ s)).same .lanes (by decide)

@[simp] theorem State.reevalQuiet_lanes (s : State) : s.reevalQuiet.lanes = s.lanes := rfl

@[simp] theorem State.noteLane_lanes (n : Fin 9) (d : LaneDetail) (s : State) : (s.noteLane n d).lanes = s.lanes := rfl

/-- R15: a change of a lane's state puts the new record in the table and nothing else. -/
@[simp] theorem State.changeLane_lanes (n : Fin 9) (l : Lane) (d : LaneDetail) (s : State) :
    (s.changeLane n l d).lanes = s.lanes.set n l := by
  unfold State.changeLane
  dsimp only
  rw [State.noteLane_lanes, State.reevalQuiet_lanes, State.setLane_lanes]
  split
  · rw [State.laneLost_lanes]
  · rfl

/-- R15: a change of a record, with or without a change of state. -/
@[simp] theorem State.moveLane_lanes (n : Fin 9) (l : Lane) (d : LaneDetail) (s : State) :
    (s.moveLane n l d).lanes = s.lanes.set n l := by
  unfold State.moveLane
  split
  · rfl
  · exact State.changeLane_lanes n l d s

/-! ### Recovery and failed probes (R12, R13) -/

/-- R12: the record of a lane at an entry to RECOVERING: a new probe, counted against the retry window, or the lane set aside. -/
def Lane.recovering (now : Nat) (l : Lane) : Lane :=
  match l.retryOpened with
  | none => { l with state := .recovering, attempts := 1, retryOpened := some now }.beginProbe now
  | some _ =>
    if l.attempts < 3 then { l with state := .recovering, attempts := l.attempts + 1 }.beginProbe now
    else { l with attempts := 4 }.setAside .retries

theorem Lane.recovering_of_closed {l : Lane} (now : Nat) (closed : l.retryOpened = none) :
    l.recovering now = { l with state := .recovering, attempts := 1, retryOpened := some now }.beginProbe now := by
  simp [Lane.recovering, closed]

theorem Lane.recovering_of_open {l : Lane} {opened : Nat} (now : Nat) (window : l.retryOpened = some opened)
    (few : l.attempts < 3) :
    l.recovering now = { l with state := .recovering, attempts := l.attempts + 1 }.beginProbe now := by
  simp [Lane.recovering, window, few]

theorem Lane.recovering_of_spent {l : Lane} {opened : Nat} (now : Nat) (window : l.retryOpened = some opened)
    (spent : 3 ≤ l.attempts) : l.recovering now = { l with attempts := 4 }.setAside .retries := by
  simp [Lane.recovering, window, Nat.not_lt.mpr spent]

/-- R12: a lane that enters RECOVERING is probed anew or set aside. -/
theorem Lane.recovering_state (now : Nat) (l : Lane) :
    (l.recovering now).state = .recovering ∨ (l.recovering now).state = .absent := by
  unfold Lane.recovering
  split
  · exact .inl rfl
  · split
    · exact .inl rfl
    · exact .inr rfl

theorem State.enterRecovering_lanes (n : Fin 9) (d : LaneDetail) (s : State) :
    (s.enterRecovering n d).lanes = s.lanes.set n (s.lanes[n].recovering s.hub.now) := by
  unfold State.enterRecovering
  dsimp only
  split
  · next closed => rw [State.changeLane_lanes, Lane.recovering_of_closed _ closed]
  · next window =>
    split
    · next few => rw [State.changeLane_lanes, Lane.recovering_of_open _ window few]
    · next spent => rw [State.changeLane_lanes, Lane.recovering_of_spent _ window (Nat.not_lt.mp spent)]

/-- R13: the record of a lane whose probe step has failed. -/
def Lane.failed (now : Nat) (l : Lane) : Lane :=
  match l.state with
  | .probing => l.setAside .probeFail
  | .recovering => l.recovering now
  | _ => l

theorem Lane.failed_of_probing {l : Lane} (now : Nat) (probing : l.state = .probing) :
    l.failed now = l.setAside .probeFail := by
  simp [Lane.failed, probing]

theorem Lane.failed_of_recovering {l : Lane} (now : Nat) (recovering : l.state = .recovering) :
    l.failed now = l.recovering now := by
  simp [Lane.failed, recovering]

theorem State.stepFails_lanes (n : Fin 9) (s : State) :
    (s.stepFails n).lanes = s.lanes.set n (s.lanes[n].failed s.hub.now) := by
  unfold State.stepFails
  dsimp only
  split
  · next e => rw [State.changeLane_lanes, Lane.failed_of_probing _ e]
  · next e => rw [State.enterRecovering_lanes, Lane.failed_of_recovering _ e]
  · next np nr =>
    have stays : s.lanes[n].failed s.hub.now = s.lanes[n] := by
      unfold Lane.failed
      split
      · exact absurd ‹_› np
      · exact absurd ‹_› nr
      · rfl
    rw [stays]
    exact (Vector.set_getElem_self n.isLt).symm

end Sys2Proof.Machine
end

section
/-! SUPPORT. What every command does to the lane table: the counts of Table 1-1 stay in range and the numbers of the management
exchanges never go back (R3 to R18; log 11). -/

namespace Sys2Proof.Machine

/-! ### One lane record after another -/

/-- The record `v` may follow the record `l`: counts in range stay in range, and the exchange number does not go back. -/
structure Lane.Follows (l v : Lane) : Prop where
  inRange : LaneInRange l → LaneInRange v
  numbers : l.exchangeNumber ≤ v.exchangeNumber

theorem Lane.Follows.refl (l : Lane) : l.Follows l := ⟨id, Nat.le_refl _⟩

theorem Lane.Follows.trans {l v w : Lane} (x : l.Follows v) (y : v.Follows w) : l.Follows w :=
  ⟨fun h => y.inRange (x.inRange h), x.numbers.trans y.numbers⟩

/-- The bounds of a lane record that hold in between too, before an ACTIVE lane whose errors or silence are too many has left
ACTIVE. -/
structure LaneCounts (l : Lane) : Prop where
  silence : l.silence ≤ 16
  window : l.errorWindow.length ≤ 9
  ages : ∀ age ∈ l.errorWindow, age < 256
  attempts : l.attempts ≤ 4

theorem LaneInRange.counts {l : Lane} (h : LaneInRange l) : LaneCounts l := ⟨h.silence, h.window, h.ages, h.attempts⟩

/-- A record that differs from one in range in nothing that is counted, and is not newly ACTIVE or in a probe, is in range. -/
theorem LaneInRange.congr {l v : Lane} (h : LaneInRange l) (silence : v.silence = l.silence)
    (window : v.errorWindow = l.errorWindow) (attempts : v.attempts ≤ 4) (active : v.state = .active → l.state = .active)
    (probing : v.phase ≠ .idle → l.phase ≠ .idle) : LaneInRange v where
  silence := silence ▸ h.silence
  silenceActive a := silence ▸ h.silenceActive (active a)
  window := window ▸ h.window
  windowActive a := window ▸ h.windowActive (a.imp active probing)
  ages := window ▸ h.ages
  attempts := attempts

/-- R4: a probe empties the error window and the silence count. -/
theorem LaneCounts.beginProbe {l : Lane} (now : Nat) (attempts : l.attempts ≤ 4) : LaneInRange (l.beginProbe now) where
  silence := Nat.zero_le _
  silenceActive _ := Nat.zero_lt_succ _
  window := Nat.zero_le _
  windowActive _ := Nat.zero_lt_succ _
  ages := fun _ h => absurd h List.not_mem_nil
  attempts := attempts

/-- A lane that is out of service and in no probe is in range with any counts. -/
theorem LaneCounts.idle {l : Lane} (h : LaneCounts l) (off : l.state ≠ .active) (idle : l.phase = .idle) : LaneInRange l where
  silence := h.silence
  silenceActive a := absurd a off
  window := h.window
  windowActive a := (a.elim (fun a => off a) fun p => p idle).elim
  ages := h.ages
  attempts := h.attempts

/-- R12: an entry to RECOVERING leaves the counts in range. -/
theorem LaneCounts.recovering {l : Lane} (now : Nat) (h : LaneCounts l) : LaneInRange (l.recovering now) := by
  unfold Lane.recovering
  split
  · exact LaneCounts.beginProbe now (by simp)
  · split
    · next few => exact LaneCounts.beginProbe now (by simp only; omega)
    · exact LaneCounts.idle ⟨h.silence, h.window, h.ages, Nat.le_refl 4⟩ (by simp [Lane.setAside]) rfl

theorem LaneCounts.setAside {l : Lane} (reason : AbsentReason) (h : LaneCounts l) : LaneInRange (l.setAside reason) :=
  LaneCounts.idle ⟨h.silence, h.window, h.ages, h.attempts⟩ (by simp [Lane.setAside]) rfl

theorem Lane.recovering_number (now : Nat) (l : Lane) : (l.recovering now).exchangeNumber = l.exchangeNumber := by
  unfold Lane.recovering
  split
  · rfl
  · split <;> rfl

/-- R12: an entry to RECOVERING follows a record `l` where it is made from counts within their bounds. -/
theorem Lane.Follows.recovering {l v : Lane} {now : Nat} (counts : LaneInRange l → LaneCounts v)
    (numbers : l.exchangeNumber ≤ v.exchangeNumber) : l.Follows (v.recovering now) :=
  ⟨fun h => (counts h).recovering now, by rw [Lane.recovering_number]; exact numbers⟩

theorem Lane.follows_recovering (now : Nat) (l : Lane) : l.Follows (l.recovering now) :=
  .recovering LaneInRange.counts (Nat.le_refl _)

theorem Lane.follows_setAside (reason : AbsentReason) (l : Lane) : l.Follows (l.setAside reason) :=
  ⟨fun h => h.counts.setAside reason, Nat.le_refl _⟩

theorem Lane.follows_beginProbe (now : Nat) (l : Lane) : l.Follows (l.beginProbe now) :=
  ⟨fun h => LaneCounts.beginProbe now h.attempts, Nat.le_refl _⟩

theorem Lane.follows_failed (now : Nat) (l : Lane) : l.Follows (l.failed now) := by
  unfold Lane.failed
  split
  · exact l.follows_setAside _
  · exact l.follows_recovering now
  · exact .refl l

/-- R3: an exchange of a lane in a probe begins. -/
theorem Lane.follows_beginExchange (step : ExchangeStep) (now : Nat) {l : Lane} (probing : l.phase ≠ .idle) :
    l.Follows (l.beginExchange step now) :=
  ⟨fun h => h.congr rfl rfl h.attempts id fun _ => probing, Nat.le_succ _⟩

/-! ### The lane table -/

/-- Every lane's record in `t` may follow the one in `s`. -/
def State.LanesFollow (s t : State) : Prop := ∀ i : Fin 9, s.lanes[i].Follows t.lanes[i]

theorem State.LanesFollow.refl (s : State) : s.LanesFollow s := fun i => .refl s.lanes[i]

theorem State.LanesFollow.trans {s t u : State} (x : s.LanesFollow t) (y : t.LanesFollow u) : s.LanesFollow u :=
  fun i => (x i).trans (y i)

theorem State.LanesFollow.of_eq {s t : State} (same : t.lanes = s.lanes) : s.LanesFollow t :=
  fun i => by rw [same]; exact .refl _

theorem State.LanesFollow.of_set {s t : State} {n : Fin 9} {v : Lane} (put : t.lanes = s.lanes.set n v)
    (one : s.lanes[n].Follows v) : s.LanesFollow t := by
  intro i
  rw [put]
  by_cases e : i = n
  · subst e; simpa using one
  · have off : n.val ≠ i.val := fun x => e (Fin.ext x.symm)
    simp only [Fin.getElem_fin, Vector.getElem_set_ne _ _ off]
    exact .refl _

theorem State.LanesFollow.foldl {α : Type} {f : State → α → State} (one : ∀ (s : State) b, s.LanesFollow (f s b)) (xs : List α)
    (s : State) : s.LanesFollow (xs.foldl f s) := by
  induction xs generalizing s with
  | nil => exact .refl s
  | cons b xs ih => exact (one s b).trans (ih _)

/-- Work outside the lane table. -/
theorem Work.lanesFollow {l : List Piece} {s t : State} (x : Work l s t) (off : .lanes ∉ l) : s.LanesFollow t :=
  .of_eq (x.same .lanes off)

theorem State.LanesFollow.whenUp {f : State → State} (one : ∀ s : State, s.LanesFollow (f s)) (s : State) :
    s.LanesFollow (s.whenUp f) := State.whenUp_rel f s (.refl s) (one s)

/-- R192: an arrival reaches its requester or does nothing to the lanes. -/
theorem State.LanesFollow.onArrival {rows : ReadTag → Bool} {id : Nat} {outcome : ReadOutcome}
    {handle : ReadTag → Option (List Byte) → State → State} (one : ∀ tag bytes (s : State), s.LanesFollow (handle tag bytes s))
    (s : State) : s.LanesFollow (s.onArrival rows id outcome handle) := by
  unfold State.onArrival
  split
  · exact .refl s
  · split
    · split
      · exact .of_eq rfl
      · next hub tag bytes _ => exact fun i => one tag bytes { s with hub := hub } i
    · exact .refl s

/-- R184: a visit to a slot does to the lanes what the owner does on taking the request. -/
theorem State.LanesFollow.visitSlot {slot : Fin 32} {kind : RequestKind} {tag : Word16} {args : List Byte}
    {refuse : Option ResultCode} {act : State → State} (one : ∀ s : State, s.LanesFollow (act s)) (s : State) :
    s.LanesFollow (s.visitSlot slot kind tag args refuse act) := by
  unfold State.visitSlot
  split
  · exact .refl s
  · split
    · exact .of_eq rfl
    · split
      · exact .of_eq rfl
      · exact fun i => one (s.mapHub _) i

/-! ### The lane controller -/

theorem State.stepFails_follow (n : Fin 9) (s : State) : s.LanesFollow (s.stepFails n) :=
  .of_set (s.stepFails_lanes n) (Lane.follows_failed _ _)

theorem State.setLane_follow {n : Fin 9} {v : Lane} {s : State} (one : s.lanes[n].Follows v) : s.LanesFollow (s.setLane n v) :=
  .of_set rfl one

theorem Lane.phase_of_exchange {l : Lane} {e : LaneExchange} (h : l.exchange = some e) : l.phase = .exchanging e := by
  unfold Lane.exchange at h
  split at h
  · next x p => rw [p, Option.some.inj h]
  · cases h

theorem State.exchangeSucceeds_follow (n : Fin 9) (e : LaneExchange) (v : Word16) (s : State)
    (probing : s.lanes[n].phase ≠ .idle) : s.LanesFollow (s.exchangeSucceeds n e v) := by
  have known : s.lanes[n].Follows { s.lanes[n] with identity := some v } :=
    ⟨fun h => h.congr rfl rfl h.attempts id id, Nat.le_refl _⟩
  unfold State.exchangeSucceeds
  dsimp only
  split
  · split
    · exact State.setLane_follow (known.trans (Lane.follows_beginExchange _ _ probing))
    · exact .of_set (State.changeLane_lanes ..) (known.trans (Lane.follows_setAside _ _))
    · exact (State.setLane_follow known).trans (State.stepFails_follow _ _)
  · exact State.setLane_follow (Lane.follows_beginExchange _ _ probing)
  · split
    · exact State.setLane_follow (Lane.follows_beginExchange _ _ probing)
    · split
      · exact State.stepFails_follow _ _
      · exact State.setLane_follow ⟨fun h => h.congr rfl rfl h.attempts id fun _ => probing, Nat.le_refl _⟩
  · exact State.setLane_follow ⟨fun h => h.congr rfl rfl h.attempts id fun _ => probing, Nat.le_refl _⟩
  · exact .refl s

theorem State.exchangeFails_follow (n : Fin 9) (e : LaneExchange) (s : State) : s.LanesFollow (s.exchangeFails n e) := by
  unfold State.exchangeFails
  split
  · refine State.LanesFollow.trans (State.setLane_follow ?_) (State.stepFails_follow _ _)
    exact ⟨fun h => h.congr rfl rfl h.attempts id id, Nat.le_refl _⟩
  · exact State.stepFails_follow _ _

theorem State.retryExchange_follow (n : Fin 9) (e : LaneExchange) (s : State) (probing : s.lanes[n].phase ≠ .idle) :
    s.LanesFollow (s.retryExchange n e) := by
  unfold State.retryExchange
  dsimp only
  split
  · exact State.setLane_follow ⟨fun h => h.congr rfl rfl h.attempts id fun _ => probing, Nat.le_succ _⟩
  · exact State.exchangeFails_follow _ _ _

@[simp] theorem State.setScanner_lanes (n : Fin 9) (r : Option ScannerLane) (s : State) : (s.setScanner n r).lanes = s.lanes := by
  unfold State.setScanner
  split <;> rfl

theorem State.retryScanner_follow (n : Fin 9) (r : ScannerLane) (e : LaneExchange) (s : State) :
    s.LanesFollow (s.retryScanner n r e) := by
  unfold State.retryScanner
  dsimp only
  split
  · refine .of_set (n := n) (v := s.lanes[n].countExchange) ?_ ⟨fun h => h.congr rfl rfl h.attempts id id, Nat.le_succ _⟩
    rw [State.setScanner_lanes]; rfl
  · exact .of_eq (State.setScanner_lanes _ _ _)

/-- R9, R10: a frame error leaves the window with at most nine periods. -/
theorem LaneInRange.frameError {l : Lane} (expected : BitVec 4) (h : LaneInRange l) (active : l.state = .active) :
    LaneCounts (l.frameError expected) where
  silence := h.silence
  window := by
    have room := h.windowActive (.inl active)
    unfold Lane.frameError
    dsimp only
    split
    · exact h.window
    · simp only [List.length_cons]; omega
  ages := by
    unfold Lane.frameError
    dsimp only
    split
    · exact h.ages
    · intro age m
      rcases List.mem_cons.mp m with e | m
      · omega
      · exact h.ages age m
  attempts := h.attempts

theorem State.takeFrameError_follow (n : Fin 9) (expected : BitVec 4) (s : State) (active : s.lanes[n].state = .active) :
    s.LanesFollow (s.takeFrameError n expected) := by
  unfold State.takeFrameError
  dsimp only
  split
  · refine .of_set (n := n) (v := (s.lanes[n].frameError expected).recovering s.hub.now) ?_ ?_
    · rw [State.enterRecovering_lanes]; simp
    · exact Lane.Follows.recovering (fun h => h.frameError expected active) (Nat.le_refl _)
  · next few =>
    refine State.setLane_follow ⟨fun h => ?_, Nat.le_refl _⟩
    have c := h.frameError expected active
    exact ⟨c.silence, fun _ => h.silenceActive active, c.window, fun _ => Nat.not_le.mp few, c.ages, c.attempts⟩

@[simp] theorem State.laneUp_lanes (n : Fin 9) (s : State) : (s.laneUp n).lanes = s.lanes := by
  unfold State.laneUp
  split
  · exact (State.keyLaneUp_work _ (List.Subset.refl _) (Work.refl _ s)).same .lanes (by decide)
  · rfl

@[simp] theorem State.laneReadings_lanes (n : Fin 9) (r : List Nat) (s : State) : (s.laneReadings n r).lanes = s.lanes := by
  unfold State.laneReadings
  split
  · exact (State.keyFrame_work _ _ (List.Subset.refl _) (Work.refl _ s)).same .lanes (by decide)
  · exact (State.pedalFrame_work _ (List.Subset.refl _) (Work.refl _ s)).same .lanes (by decide)

theorem State.firstFrame_lanes (n : Fin 9) (f : Frame) (s : State) :
    (s.firstFrame n f).lanes =
      s.lanes.set n { s.lanes[n].acceptFrame f.sequence s.hub.performance with state := .active, phase := .idle } := by
  simp [State.firstFrame]

theorem State.awaitedFrame_follow (n : Fin 9) (f : Frame) (crcGood : Bool) (s : State) (probing : s.lanes[n].phase ≠ .idle) :
    s.LanesFollow (s.awaitedFrame n f crcGood) := by
  unfold State.awaitedFrame
  dsimp only
  split
  · refine .of_set (s.firstFrame_lanes n f) ⟨fun h => ?_, Nat.le_refl _⟩
    exact ⟨Nat.zero_le _, fun _ => Nat.zero_lt_succ _, h.window, fun _ => h.windowActive (.inr probing), h.ages, h.attempts⟩
  · exact State.setLane_follow ⟨fun h => h.congr rfl rfl h.attempts id id, Nat.le_refl _⟩

theorem State.activeFrame_follow (n : Fin 9) (f : Frame) (crcGood : Bool) (s : State) (active : s.lanes[n].state = .active) :
    s.LanesFollow (s.activeFrame n f crcGood) := by
  unfold State.activeFrame
  dsimp only
  split
  · exact State.takeFrameError_follow _ _ _ active
  · split
    · exact State.takeFrameError_follow _ _ _ active
    · refine .of_set (n := n) (v := s.lanes[n].acceptFrame f.sequence s.hub.performance) (by simp) ⟨fun h => ?_, Nat.le_refl _⟩
      exact ⟨Nat.zero_le _, fun _ => Nat.zero_lt_succ _, h.window, h.windowActive, h.ages, h.attempts⟩

/-- R10, R11: the end of a frame period leaves an ACTIVE lane with at most sixteen silent periods. -/
theorem LaneInRange.endPeriod {l : Lane} (h : LaneInRange l) (active : l.state = .active) :
    LaneCounts l.endPeriod ∧ l.endPeriod.errorWindow.length < 9 := by
  have len : l.endPeriod.errorWindow.length ≤ l.errorWindow.length := by
    unfold Lane.endPeriod
    exact (List.length_filter_le _ _).trans (by simp)
  have room := h.windowActive (.inl active)
  have quiet := h.silenceActive active
  refine ⟨⟨?_, len.trans h.window, ?_, h.attempts⟩, by omega⟩
  · unfold Lane.endPeriod
    dsimp only
    split <;> omega
  · intro age m
    unfold Lane.endPeriod at m
    exact of_decide_eq_true (List.mem_filter.mp m).2

theorem State.endPeriod_follow (n : Fin 9) (s : State) : s.LanesFollow (s.endPeriod n) := by
  have moved : s.lanes[n].Follows { s.lanes[n] with periodEnd := s.lanes[n].periodEnd + Config.framePeriod } :=
    ⟨fun h => h.congr rfl rfl h.attempts id id, Nat.le_refl _⟩
  unfold State.endPeriod
  dsimp only
  split
  · next active =>
    split
    · refine .of_set (n := n) ?_ (moved.trans (.recovering (now := s.hub.now) (fun h => (h.endPeriod active).1) (Nat.le_refl _)))
      rw [State.enterRecovering_lanes]; simp
    · next few =>
      refine State.setLane_follow (moved.trans ⟨fun h => ?_, Nat.le_refl _⟩)
      obtain ⟨c, room⟩ := h.endPeriod active
      exact ⟨c.silence, fun _ => Nat.not_le.mp few, c.window, fun _ => room, c.ages, c.attempts⟩
  · exact State.setLane_follow moved

theorem State.laneAction_follow (n : Fin 9) (action : Nat) (s : State) : s.LanesFollow (s.laneAction n action) := by
  unfold State.laneAction
  dsimp only
  split
  · split
    · refine .of_set (State.moveLane_lanes ..) ⟨fun h => LaneCounts.beginProbe _ h.attempts, Nat.le_refl _⟩
    · exact State.setLane_follow ⟨fun h => h.congr rfl rfl h.attempts id id, Nat.le_refl _⟩
  · refine .of_set (State.moveLane_lanes ..) ⟨fun h => ?_, Nat.le_refl _⟩
    exact LaneCounts.idle ⟨h.silence, h.window, h.ages, Nat.zero_le _⟩ (by simp) rfl
  · exact .of_set (State.moveLane_lanes ..) ⟨fun h => LaneCounts.beginProbe _ (Nat.zero_le _), Nat.le_refl _⟩
  · exact .refl s

theorem State.laneToStandby_follow (n : Fin 9) (s : State) : s.LanesFollow (s.laneToStandby n) := by
  have off : s.lanes[n].Follows { s.lanes[n].countExchange with state := .off, phase := .idle } :=
    ⟨fun h => LaneCounts.idle ⟨h.silence, h.window, h.ages, h.attempts⟩ (by simp) rfl, Nat.le_succ _⟩
  unfold State.laneToStandby
  dsimp only
  split <;> first | exact .of_set (State.changeLane_lanes ..) off | exact .refl s

theorem State.laneFromStandby_follow (n : Fin 9) (s : State) : s.LanesFollow (s.laneFromStandby n) := by
  unfold State.laneFromStandby
  dsimp only
  split
  · exact .of_set (State.changeLane_lanes ..) ⟨fun h => LaneCounts.beginProbe _ h.attempts, Nat.le_refl _⟩
  · exact .refl s

end Sys2Proof.Machine
end

section
/-! SUPPORT. What the owners of the requests do on taking one: the pieces of State they may change, and that their work on the hub is
made of the moves of Laws/Hub (Table 12-3). A STANDBY_ENTER and a JOURNAL_FLUSH seal a page, which no move does. -/

namespace Sys2Proof.Machine

variable {l : List Piece} {a s : State}

theorem actLaneControl_work (slot : Fin 32) (args : List Byte) (sub : lanePieces ⊆ l) (x : Work l a s) :
    Work l a (actLaneControl slot args s) := by
  unfold actLaneControl
  split
  · exact x
  · exact State.mapHub_work (List.Subset.trans (by decide) sub) (fun _ _ q => Hub.completeRequest_reach _ _ _ q)
      (State.laneAction_work _ _ sub x)

theorem actSenseConfig_work (slot : Fin 32) (args : List Byte) (sub : [.keys, .lanes, .hub, .voice, .recorder] ⊆ l)
    (x : Work l a s) : Work l a (actSenseConfig slot args s) := by
  unfold actSenseConfig
  extract_lets s1 s2
  have y : Work l a s1 := by
    unfold s1; split
    · exact Work.foldl (fun _ _ y => State.maskKey_work _ _ (List.Subset.trans (by decide) sub) y) _ x
    · exact x
  have z : Work l a s2 := by
    unfold s2; split
    · exact State.setLeds_work _ (List.Subset.trans (by decide) sub) y
    · exact y
  exact State.mapHub_work (List.Subset.trans (by decide) sub) (fun _ _ q => Hub.completeRequest_reach _ _ _ q) z

theorem actCalibAbort_work (slot : Fin 32) (sub : [.keys, .tracker, .hub] ⊆ l) (x : Work l a s) :
    Work l a (actCalibAbort slot s) := by
  unfold actCalibAbort
  split
  · exact State.mapHub_work (List.Subset.trans (by decide) sub) (fun _ _ q => Hub.completeRequest_reach _ _ _ q)
      (State.abortWindow_work _ sub x)
  · exact x

theorem actTableLoad_work (slot : Fin 32) (args : List Byte) (sub : [.tracker, .hub, .voice] ⊆ l) (x : Work l a s) :
    Work l a (actTableLoad slot args s) := by
  unfold actTableLoad
  split
  · exact State.mapVoice_work (List.Subset.trans (by decide) sub) (fun _ _ q => Engine.startKeymapLoad_reach _ _ q) x
  · exact State.startTableLoad_work _ _ _ (List.Subset.trans (by decide) sub) x

theorem actPedalConfig_work (slot : Fin 32) (args : List Byte) (sub : .pedalSettings :: .actions :: switchPieces ⊆ l)
    (x : Work l a s) : Work l a (actPedalConfig slot args s) := by
  unfold actPedalConfig
  extract_lets s1 s2
  have y : Work l a s1 := by
    unfold s1; split
    · exact State.setPedals_work _ (List.Subset.trans (by decide) sub) x
    · exact x
  have z : Work l a s2 := by
    unfold s2; split
    · exact State.acceptHeld_work _ (List.Subset.trans (by decide) sub)
        (State.acceptHeld_work _ (List.Subset.trans (by decide) sub)
          (State.setSwitch_work _ _ (List.Subset.trans (by decide) sub)
            (State.setSwitch_work _ _ (List.Subset.trans (by decide) sub) y)))
    · exact y
  exact State.mapHub_work (List.Subset.trans (by decide) sub) (fun _ _ q => Hub.completeRequest_reach _ _ _ q) z

theorem actVoiceConfig_work (slot : Fin 32) (args : List Byte) (sub : [.hub, .voice] ⊆ l) (x : Work l a s) :
    Work l a (actVoiceConfig slot args s) :=
  State.mapVoice_work sub (fun _ _ q => Hub.completeRequest_reach _ _ _ (Engine.configure_reach _ q)) x

theorem actVoiceCut_work (slot : Fin 32) (args : List Byte) (sub : [.hub, .voice] ⊆ l) (x : Work l a s) :
    Work l a (actVoiceCut slot args s) := by
  refine State.mapVoice_work sub (fun _ _ q => ?_) x
  dsimp only [Engine.onHub]
  exact Hub.completeRequest_reach _ _ _ (Engine.cutSources_reach _ q)

theorem actOutputConfig_work (slot : Fin 32) (args : List Byte) (sub : [.hub, .output] ⊆ l) (x : Work l a s) :
    Work l a (actOutputConfig slot args s) :=
  x.trans (Work.mono sub ⟨rfl, fun p h => by cases p <;> first | exact absurd (by decide) h | rfl | exact ⟨rfl, rfl⟩,
    Hub.completeRequest_reach _ _ _ (.refl _)⟩)

theorem actMetronome_work (slot : Fin 32) (args : List Byte) (sub : [.hub, .metronome] ⊆ l) (x : Work l a s) :
    Work l a (actMetronome slot args s) := by
  refine State.mapMetronome_work sub (fun _ _ q => ?_) x
  refine Hub.completeRequest_reach _ _ _ ?_
  split
  · exact Beater.configure_reach _ _ _ q
  · exact q

/-! ### The rail -/

theorem actRailConfig_work (slot : Fin 32) (args : List Byte) (sub : .railConfig :: railPieces ⊆ l) (x : Work l a s) :
    Work l a (actRailConfig slot args s) := by
  refine State.mapDeck_work (List.Subset.trans (by decide) sub)
    (fun _ _ q => Deck.onHub_reach (fun _ _ r => Hub.completeRequest_reach _ _ _ r) q) ?_
  exact x.put [.railConfig] (List.Subset.trans (by decide) sub) rfl rfl
    (fun p h => by cases p <;> first | exact absurd (by decide) h | rfl | exact ⟨rfl, rfl⟩)

theorem actRailMove_work (slot : Fin 32) (args : List Byte) (sub : railPieces ⊆ l) (x : Work l a s) :
    Work l a (actRailMove slot args s) := by
  unfold actRailMove
  split
  · exact x
  · refine State.mapDeck_work sub (fun _ _ q => ?_) x
    split
    · exact Deck.onRail_reach q
    · exact Deck.activate_reach _ q

theorem actRailStop_work (slot : Fin 32) (args : List Byte) (sub : railPieces ⊆ l) (x : Work l a s) :
    Work l a (actRailStop slot args s) :=
  State.mapDeck_work sub (fun _ _ q => Deck.onHub_reach (fun _ _ r => Hub.completeRequest_reach _ _ _ r)
    (Deck.discardIf_reach _ (Deck.stopMove_reach q))) x

theorem actRailHalt_work (slot : Fin 32) (args : List Byte) (sub : railPieces ⊆ l) (x : Work l a s) :
    Work l a (actRailHalt slot args s) := by
  refine State.mapDeck_work sub (fun _ _ q => Deck.onHub_reach (fun _ _ r => Hub.completeRequest_reach _ _ _ r)
    (Deck.discardIf_reach _ ?_)) x
  split
  · exact Deck.endMove_reach _ q
  · exact q

theorem actRailClear_work (slot : Fin 32) (sub : railPieces ⊆ l) (x : Work l a s) : Work l a (actRailClear slot s) :=
  State.mapDeck_work sub (fun _ _ q => Deck.onHub_reach (fun _ _ r => Hub.completeRequest_reach _ _ _ r)
    (Deck.onRail_reach q)) x

theorem actRailSettle_work (slot : Fin 32) (sub : railPieces ⊆ l) (x : Work l a s) : Work l a (actRailSettle slot s) := by
  refine State.mapDeck_work sub (fun b _ q => ?_) x
  extract_lets d1
  have y : DeckReach b d1 := Deck.onHub_reach (fun _ _ r => Hub.completeRequest_reach _ _ _ r) q
  clear_value d1
  split
  · exact y
  · split
    · exact Deck.startNext_reach _ _ y
    · exact Deck.onRail_reach y

theorem actRailUnsettle_work (slot : Fin 32) (sub : railPieces ⊆ l) (x : Work l a s) : Work l a (actRailUnsettle slot s) :=
  State.mapDeck_work sub (fun _ _ q => Deck.onHub_reach (fun _ _ r => Hub.completeRequest_reach _ _ _ r)
    (Deck.onRail_reach q)) x

/-! ### The player -/

theorem actPlayStart_work (slot : Fin 32) (args : List Byte) (sub : playPieces ⊆ l) (x : Work l a s) :
    Work l a (actPlayStart slot args s) := by
  unfold actPlayStart
  split
  · exact State.mapStage_work sub (fun _ _ q => Stage.startTake_reach _ _ q) x
  · exact x

theorem actPlayNext_work (slot : Fin 32) (args : List Byte) (sub : playPieces ⊆ l) (x : Work l a s) :
    Work l a (actPlayNext slot args s) := by
  unfold actPlayNext
  split
  · exact State.mapStage_work sub (fun _ _ q => Stage.play_reach (Stage.beginSettled_reach (Stage.readAhead_reach
      (Stage.answer_reach _ (Stage.onPlayer_reach q))))) x
  · exact x

theorem actPlaySettle_work (slot : Fin 32) (sub : playPieces ⊆ l) (x : Work l a s) : Work l a (actPlaySettle slot s) :=
  State.mapStage_work sub (fun _ _ q => Stage.play_reach (Stage.beginSettled_reach (Stage.readAhead_reach
    (Stage.answer_reach _ (Stage.onPlayer_reach q))))) x

theorem actPlayUnsettle_work (slot : Fin 32) (sub : playPieces ⊆ l) (x : Work l a s) : Work l a (actPlayUnsettle slot s) :=
  State.mapStage_work sub (fun _ _ q => Stage.answer_reach _ (Stage.onPlayer_reach (Stage.dropReadAhead_reach q))) x

theorem actPlayTempo_work (slot : Fin 32) (args : List Byte) (sub : playPieces ⊆ l) (x : Work l a s) :
    Work l a (actPlayTempo slot args s) :=
  State.mapStage_work sub (fun _ _ q => Stage.answer_reach _ (Stage.onPlayer_reach q)) x

theorem actPlayParts_work (slot : Fin 32) (args : List Byte) (sub : playPieces ⊆ l) (x : Work l a s) :
    Work l a (actPlayParts slot args s) := by
  unfold actPlayParts
  split
  · exact State.mapStage_work sub (fun _ _ q => Stage.answer_reach _ (Stage.setParts_reach _ q)) x
  · exact x

theorem actPlaySeek_work (slot : Fin 32) (args : List Byte) (sub : playPieces ⊆ l) (x : Work l a s) :
    Work l a (actPlaySeek slot args s) :=
  State.mapStage_work sub (fun _ _ q => Stage.seek_reach _ _ q) x

theorem actPlayPause_work (slot : Fin 32) (sub : playPieces ⊆ l) (x : Work l a s) : Work l a (actPlayPause slot s) := by
  refine State.mapStage_work sub (fun _ _ q => Stage.answer_reach _ ?_) x
  split
  · exact q
  · exact Stage.onPlayer_reach q
  · exact Stage.pause_reach q

theorem actPlayResume_work (slot : Fin 32) (sub : playPieces ⊆ l) (x : Work l a s) : Work l a (actPlayResume slot s) := by
  refine State.mapStage_work sub (fun _ _ q => Stage.answer_reach _ ?_) x
  split
  · exact Stage.resume_reach q
  · exact Stage.onPlayer_reach q
  · exact q

theorem actPlayStop_work (slot : Fin 32) (args : List Byte) (sub : playPieces ⊆ l) (x : Work l a s) :
    Work l a (actPlayStop slot args s) :=
  State.mapStage_work sub (fun _ _ q => Stage.answer_reach _ (Stage.onPlayer_reach (Stage.stop_reach q))) x

/-! ### The recorder -/

theorem actRecordMark_work (slot : Fin 32) (args : List Byte) (sub : [.hub, .recorder] ⊆ l) (x : Work l a s) :
    Work l a (actRecordMark slot args s) :=
  State.mapRecorder_work sub (fun _ _ q => Hub.completeRequest_reach _ _ _ (Desk.mark_reach _ q)) x

theorem actRecordStop_work (slot : Fin 32) (sub : [.hub, .recorder] ⊆ l) (x : Work l a s) :
    Work l a (actRecordStop slot s) := by
  refine State.mapRecorder_work sub (fun _ _ q => ?_) x
  split
  · exact Desk.close_reach q
  · exact Hub.completeRequest_reach _ _ _ (Desk.disarm_reach q)

theorem actSnapshotNow_work (slot : Fin 32) (sub : [.hub] ⊆ l) (x : Work l a s) : Work l a (actSnapshotNow slot s) :=
  State.mapHub_work sub (fun _ _ q => Hub.snapshotDue_reach (Hub.snapshot_reach _ q)) x

/-! ### All the owners -/

/-- The pieces that the owner of a request changes on taking it. -/
def RequestKind.pieces : RequestKind → List Piece
  | .laneControl => lanePieces
  | .senseConfig => [.keys, .lanes, .hub, .voice, .recorder]
  | .calibrateKeys => [.keys, .tracker, .hub, .voice, .recorder]
  | .calibAbort => [.keys, .tracker, .hub]
  | .tableLoad => [.tracker, .hub, .voice]
  | .pedalConfig => .pedalSettings :: .actions :: switchPieces
  | .voiceConfig | .voiceCut => [.hub, .voice]
  | .outputConfig => [.hub, .output]
  | .metronome => [.hub, .metronome]
  | .railConfig => .railConfig :: railPieces
  | .railMove | .railStop | .railHalt | .railClear | .railSettle | .railUnsettle => railPieces
  | .playStart | .playNext | .playSettle | .playUnsettle | .playTempo | .playParts | .playSeek | .playPause | .playResume
  | .playStop => playPieces
  | .recordStart | .recordStop | .recordMark => [.hub, .recorder]
  | .railQuery | .journalFlush | .snapshotNow => [.hub]
  | .standbyEnter => [.standby, .hub, .voice, .metronome, .player, .recorder, .entry]

/-- The requests whose owners may seal a journal page. -/
def RequestKind.seals : RequestKind → Bool
  | .journalFlush | .standbyEnter => true
  | _ => false

/-- R184: the owner of a request works on its own pieces. -/
theorem actRequest_work (kind : RequestKind) (slot : Fin 32) (args : List Byte) (s : State) (open_ : kind.seals = false) :
    Work kind.pieces s (actRequest kind slot args s) := by
  have refl : Work kind.pieces s s := .refl _ s
  have all : kind.pieces ⊆ kind.pieces := List.Subset.refl _
  cases kind with
  | laneControl => exact actLaneControl_work slot args all refl
  | senseConfig => exact actSenseConfig_work slot args all refl
  | calibrateKeys => exact State.openWindow_work _ all refl
  | calibAbort => exact actCalibAbort_work slot all refl
  | tableLoad => exact actTableLoad_work slot args all refl
  | pedalConfig => exact actPedalConfig_work slot args all refl
  | voiceConfig => exact actVoiceConfig_work slot args all refl
  | voiceCut => exact actVoiceCut_work slot args all refl
  | outputConfig => exact actOutputConfig_work slot args all refl
  | metronome => exact actMetronome_work slot args all refl
  | railConfig => exact actRailConfig_work slot args all refl
  | railQuery => exact State.mapHub_work all (fun _ _ q => Hub.completeRequest_reach _ _ _ q) refl
  | railMove => exact actRailMove_work slot args all refl
  | railStop => exact actRailStop_work slot args all refl
  | railHalt => exact actRailHalt_work slot args all refl
  | railClear => exact actRailClear_work slot all refl
  | railSettle => exact actRailSettle_work slot all refl
  | railUnsettle => exact actRailUnsettle_work slot all refl
  | playStart => exact actPlayStart_work slot args all refl
  | playNext => exact actPlayNext_work slot args all refl
  | playSettle => exact actPlaySettle_work slot all refl
  | playUnsettle => exact actPlayUnsettle_work slot all refl
  | playTempo => exact actPlayTempo_work slot args all refl
  | playParts => exact actPlayParts_work slot args all refl
  | playSeek => exact actPlaySeek_work slot args all refl
  | playPause => exact actPlayPause_work slot all refl
  | playResume => exact actPlayResume_work slot all refl
  | playStop => exact actPlayStop_work slot args all refl
  | recordStart => exact State.mapRecorder_work all (fun _ _ q => Desk.start_reach slot args q) refl
  | recordStop => exact actRecordStop_work slot all refl
  | recordMark => exact actRecordMark_work slot args all refl
  | journalFlush => cases open_
  | snapshotNow => exact actSnapshotNow_work slot all refl
  | standbyEnter => cases open_

/-- R182: a request row is the visit of its slot. -/
theorem exec_request {c : Instr} {r : Request} (row : requestOf c = some r) (s : State) :
    exec c s =
      .next (s.visitSlot r.slot r.kind r.tag r.args (refuseRequest r.kind r.args s) (actRequest r.kind r.slot r.args)) := by
  cases c <;> first | cases row; rfl | cases row

end Sys2Proof.Machine
end

section
/-! SUPPORT. Every command leaves the lane table in range, and no exchange number goes back (Table 1-1, R3; log 11). -/

namespace Sys2Proof.Machine

/-! ### The requests -/

theorem actSenseConfig_follow (slot : Fin 32) (args : List Byte) (s : State) : s.LanesFollow (actSenseConfig slot args s) := by
  have leds (t : State) : t.LanesFollow (t.setLeds args) := fun i => by
    simp only [State.setLeds, Fin.getElem_fin, Vector.getElem_ofFn]
    exact ⟨fun h => h.congr rfl rfl h.attempts id id, Nat.le_refl _⟩
  unfold actSenseConfig
  extract_lets s1 s2
  have masks : s.LanesFollow s1 := by
    unfold s1; split
    · exact Work.lanesFollow (l := [.keys, .hub, .voice, .recorder])
        (Work.foldl (fun _ _ y => State.maskKey_work _ _ (List.Subset.refl _) y) _ (Work.refl _ s)) (by decide)
    · exact .refl s
  have both : s.LanesFollow s2 := by
    unfold s2; split
    · exact masks.trans (leds s1)
    · exact masks
  clear_value s2
  exact both.trans (.of_eq (State.mapHub_lanes _ s2))

theorem State.beginEntry_lanes (slot : Fin 32) (s : State) : (s.beginEntry slot).lanes = s.lanes := by
  unfold State.beginEntry
  dsimp only
  split <;> simp [State.silence]

theorem actRequest_follow (kind : RequestKind) (slot : Fin 32) (args : List Byte) (s : State) :
    s.LanesFollow (actRequest kind slot args s) := by
  by_cases lanes : kind = .laneControl ∨ kind = .senseConfig
  · rcases lanes with rfl | rfl
    · show s.LanesFollow (actLaneControl slot args s)
      unfold actLaneControl
      split
      · exact .refl s
      · exact s.laneAction_follow _ _
    · exact actSenseConfig_follow slot args s
  · by_cases seals : kind.seals = true
    · cases kind with
      | journalFlush => exact .of_eq (State.mapHub_lanes _ s)
      | standbyEnter => exact .of_eq (State.beginEntry_lanes _ _)
      | _ => cases seals
    · refine (actRequest_work kind slot args s (Bool.not_eq_true _ ▸ seals)).lanesFollow ?_
      cases kind <;> first | decide | exact absurd (by decide) lanes

theorem State.visitCode_follow (slot : Fin 32) (code : Nat) (tag : Word16) (args : List Byte) (s : State) :
    s.LanesFollow (s.visitCode slot code tag args) := by
  unfold State.visitCode
  split
  · exact .visitSlot (fun _ => actRequest_follow _ _ _ _) s
  · exact .visitSlot (fun t => .refl t) s

theorem State.visitSlots_follow (copy : List Byte) (slots : List (Fin 32)) (s : State) :
    s.LanesFollow (s.visitSlots copy slots) := by
  induction slots generalizing s with
  | nil => exact .refl s
  | cons slot rest ih =>
    unfold State.visitSlots
    dsimp only
    split
    · exact .refl s
    · split
      · split
        · exact s.visitCode_follow _ _ _ _
        · exact (s.visitCode_follow _ _ _ _).trans (ih _)
      · exact ih s

/-! ### The exchange controller and standby -/

theorem State.endSweep_lanes (s : State) : s.endSweep.lanes = s.lanes := by
  unfold State.endSweep State.sweepDue
  dsimp only
  split
  · split <;> rfl
  · rfl

theorem State.boardRead_follow (tag : ReadTag) (bytes : Option (List Byte)) (s : State) :
    s.LanesFollow (s.boardRead tag bytes) := by
  unfold State.boardRead
  split
  · split
    · exact .of_eq (State.endSweep_lanes _)
    · dsimp only
      split
      · exact .of_eq rfl
      · exact (s.visitSlots_follow _ _).trans (.of_eq (State.endSweep_lanes _))
  · exact .refl s

/-- R181: a detach leaves the lanes alone. -/
@[simp] theorem State.detach_lanes (next : AttachState) (s : State) : (s.detach next).lanes = s.lanes := by
  simp [State.detach, State.trackerDetach]

theorem State.enterStandby_follow (s : State) : s.LanesFollow s.enterStandby := by
  have fold : s.LanesFollow ((List.finRange 9).foldl (fun s lane => s.laneToStandby lane) s) :=
    State.LanesFollow.foldl (fun t lane => t.laneToStandby_follow lane) _ s
  unfold State.enterStandby
  dsimp only
  generalize (List.finRange 9).foldl (fun s lane => s.laneToStandby lane) s = t at fold
  exact fold.trans (.of_eq (by rw [State.mapDeck_lanes]))

theorem State.completeEntry_follow (slot : Fin 32) (s : State) : s.LanesFollow (s.completeEntry slot) := by
  unfold State.completeEntry
  dsimp only
  refine .trans (.of_eq ?_) (State.enterStandby_follow _)
  rw [State.detach_lanes, State.mapHub_lanes]

theorem State.shutdownStep_follow (s : State) : s.LanesFollow s.shutdownStep := by
  unfold State.shutdownStep
  split
  · split
    · exact .refl s
    · exact State.LanesFollow.trans (.of_eq (by simp [State.silence])) (s.silence.completeEntry_follow _)
  · exact s.completeEntry_follow _
  · exact .refl s

theorem State.leaveStandby_follow (s : State) : s.LanesFollow s.leaveStandby := by
  unfold State.leaveStandby
  dsimp only
  generalize start : ({ s with hub := _, standby := _, output := _, rail := _ } : State) = s1
  have lanes : s1.lanes = s.lanes := by rw [← start]
  have fold : s1.LanesFollow ((List.finRange 9).foldl (fun s lane => s.laneFromStandby lane) s1) :=
    State.LanesFollow.foldl (fun t lane => t.laneFromStandby_follow lane) _ s1
  generalize (List.finRange 9).foldl (fun s lane => s.laneFromStandby lane) s1 = t at fold
  refine .trans (.of_eq lanes) (fold.trans (.of_eq ?_))
  split
  · rw [State.mapMetronome_lanes, State.mapDeck_lanes]
  · rw [State.mapDeck_lanes]

theorem State.writeControl_follow (value : Word32) (run : Bool) (s : State) : s.LanesFollow (s.writeControl value run) := by
  have written (f : Hub → Hub) : s.LanesFollow (s.mapHub f) := .of_eq (State.mapHub_lanes _ _)
  unfold State.writeControl
  dsimp only
  split
  · unfold State.runOne
    split
    · exact .trans (written _) (.of_eq (State.mapHub_lanes _ _))
    · exact .trans (written _) (.of_eq (State.mapHub_lanes _ _))
    · exact .trans (written _) (.trans (State.leaveStandby_follow _) (.of_eq (State.mapHub_lanes _ _)))
    · exact .trans (written _) (.trans (State.leaveStandby_follow _) (.of_eq (State.mapHub_lanes _ _)))
    · exact written _
    · exact written _
  · unfold State.runZero
    split <;> exact .of_eq (by simp)

theorem State.notify_lanes (board pages : Bool) (s : State) : (s.notify board pages).lanes = s.lanes := by
  have due (t : State) : t.sweepDue.lanes = t.lanes := by unfold State.sweepDue; split <;> rfl
  have pages' (t : State) : t.notifyPages.lanes = t.lanes := by unfold State.notifyPages; split <;> rfl
  unfold State.notify
  dsimp only
  split <;> split <;> simp [due, pages']

theorem State.writeRegister_follow (offset : Nat) (value : Word32) (s : State) :
    s.LanesFollow (s.writeRegister offset value) := by
  unfold State.writeRegister
  split
  · exact .of_eq (by simp)
  · split
    · exact .of_eq (by simp)
    · split
      · exact s.writeControl_follow _ _
      · split
        · exact .of_eq (s.notify_lanes _ _)
        · split <;> exact .of_eq (by simp)

theorem State.portLeave_follow (s : State) : s.LanesFollow s.portLeave := by
  unfold State.portLeave
  split
  · exact .of_eq (s.detach_lanes _)
  · exact s.leaveStandby_follow
  · exact s.leaveStandby_follow
  · exact .of_eq (State.mapHub_lanes _ _)
  · exact .of_eq (State.mapHub_lanes _ _)
  · exact .of_eq (State.mapHub_lanes _ _)

theorem State.headerRead_lanes (bytes : Option (List Byte)) (s : State) : (s.headerRead bytes).lanes = s.lanes := by
  unfold State.headerRead
  split
  · split
    · simp
    · dsimp only
      split <;> simp [State.enterAttached]
  · rfl

theorem State.holdRead_lanes (bytes : Option (List Byte)) (s : State) : (s.holdRead bytes).lanes = s.lanes := by
  unfold State.holdRead
  split <;> rfl

theorem State.tableRead_lanes (tag : ReadTag) (bytes : Option (List Byte)) (s : State) : (s.tableRead tag bytes).lanes = s.lanes :=
  (State.tableRead_work tag bytes (List.Subset.refl _) (Work.refl _ s)).same .lanes (by decide)

theorem State.readFailed_follow (tag : ReadTag) (s : State) : s.LanesFollow (s.readFailed tag) := by
  cases tag with
  | voice | block | keymap | list | pageHeader => exact .of_eq rfl
  | table => exact .of_eq (s.tableRead_lanes _ _)
  | board => exact s.boardRead_follow _ _
  | hold => exact .of_eq (s.holdRead_lanes _)
  | regionHeader => exact .of_eq (s.headerRead_lanes _)

theorem State.scanFrame_follow (lane : Fin 8) (r : ScannerLane) (f : Frame) (crcGood : Bool) (s : State) :
    s.LanesFollow (s.scanFrame lane r f crcGood) := by
  have error (e : Option (BitVec 4)) : s.LanesFollow (s.scanError lane r e) := by
    unfold State.scanError
    dsimp only
    split
    · exact .of_set (n := lane.castSucc) rfl ⟨fun h => h.congr rfl rfl h.attempts id id, Nat.le_refl _⟩
    · exact .of_eq rfl
  unfold State.scanFrame
  split
  · exact error _
  · split
    · exact error _
    · exact .of_eq rfl

/-! ### Resets -/

theorem LaneInRange.reset (number : Nat) : LaneInRange { Lane.reset with exchangeNumber := number } :=
  ⟨Nat.zero_le _, fun _ => Nat.zero_lt_succ _, Nat.zero_le _, fun _ => Nat.zero_lt_succ _,
    fun _ h => absurd h List.not_mem_nil, Nat.zero_le _⟩

theorem State.mainDomainReset_follow (kind : ResetKind) (s t : State) (lanes : t.lanes = (s.mainDomainReset kind).lanes) :
    s.LanesFollow t := fun i => by
  rw [lanes]
  simp only [State.mainDomainReset, Fin.getElem_fin, Vector.getElem_ofFn]
  exact ⟨fun _ => LaneInRange.reset _, Nat.le_refl _⟩

theorem State.endReset_follow (kind : ResetKind) (inputs : Pins) (s : State) : s.LanesFollow (s.endReset kind inputs) :=
  fun i => by
    simp only [State.endReset, State.mapDeck_lanes, Fin.getElem_fin, Vector.getElem_ofFn]
    exact Lane.follows_beginProbe _ _

/-! ### Footswitches -/

theorem State.acceptHeld_lanes (i : Fin 2) (s : State) : (s.acceptHeld i).lanes = s.lanes :=
  (State.acceptHeld_work i (List.Subset.refl _) (Work.refl _ s)).same .lanes (by decide)

/-! ### Every command -/

theorem execManagementReply_follow {lane : Fin 9} {number : Nat} {content : ReplyContent} {body : List Byte} {crc : Byte}
    {s t : State} (e : execManagementReply lane number content body crc s = .next t) : s.LanesFollow t := by
  obtain rfl := Host.Outcome.next.inj e
  split
  · next some_ =>
    split
    · refine State.whenUp_rel (R := State.LanesFollow) _ s (.refl s) (State.exchangeSucceeds_follow _ _ _ _ ?_)
      rw [Lane.phase_of_exchange some_]; simp
    · exact .refl s
  · split
    · exact .of_eq (State.setScanner_lanes _ _ _)
    · exact .refl s
  · exact .refl s

theorem execExchangeTimeout_follow {lane : Fin 9} {s t : State} (e : execExchangeTimeout lane s = .next t) :
    s.LanesFollow t := by
  obtain rfl := Host.Outcome.next.inj e
  split
  · next some_ =>
    split
    · refine State.whenUp_rel (R := State.LanesFollow) _ s (.refl s) (State.retryExchange_follow _ _ _ ?_)
      rw [Lane.phase_of_exchange some_]; simp
    · exact .refl s
  · split
    · split
      · exact State.retryScanner_follow _ _ _ _
      · exact .refl s
    · exact .refl s
  · exact .refl s

theorem execLaneFrame_follow {lane : Fin 9} {bytes : List Byte} {s t : State} (e : execLaneFrame lane bytes s = .next t) :
    s.LanesFollow t := by
  obtain rfl := Host.Outcome.next.inj e
  refine State.LanesFollow.whenUp (fun u => ?_) s
  split
  · exact .refl u
  · dsimp only
    split
    · next active => exact State.activeFrame_follow _ _ _ _ active
    · next waiting _ =>
      split
      · exact State.awaitedFrame_follow _ _ _ _ (by rw [waiting]; simp)
      · exact .refl u
    · exact .refl u

/-- The lane timers (R2, R4, R6, R7, R12). -/
theorem laneTimer_follow {lane : Fin 9} {c : Instr} {s t : State}
    (timer : c ∈ [.resetHoldEnd lane, .statusPoll lane, .firstFrameTimeout lane, .framePeriodEnd lane, .retryWindowClose lane])
    (e : exec c s = .next t) : s.LanesFollow t := by
  simp only [List.mem_cons, List.not_mem_nil, or_false] at timer
  rcases timer with rfl | rfl | rfl | rfl | rfl <;>
    (obtain rfl := Host.Outcome.next.inj e; refine State.LanesFollow.whenUp (fun u => ?_) s; split)
  · next hold =>
    split
    · exact State.setLane_follow (Lane.follows_beginExchange _ _ (by rw [hold]; simp))
    · exact .refl u
  · exact .refl u
  · next wait =>
    split
    · exact State.setLane_follow (Lane.follows_beginExchange _ _ (by rw [wait]; simp))
    · exact .refl u
  · exact .refl u
  · split
    · exact State.stepFails_follow _ _
    · exact .refl u
  · exact .refl u
  · exact State.endPeriod_follow _ _
  · exact .refl u
  · split
    · exact State.setLane_follow ⟨fun h => h.congr rfl rfl (Nat.zero_le _) id id, Nat.le_refl _⟩
    · exact .refl u
  · exact .refl u

end Sys2Proof.Machine
end

section
/-! SUPPORT. The commands whose work is made of the lifts and the moves of Laws/Hub: the pieces of State they change, and that
their work on the hub is made of those moves. -/

namespace Sys2Proof.Machine

/-- The commands that neither carry a request nor reach the parts of the hub that no move reaches: the reads that arrive or time
out, the registers, the pages of the journal writer, the attach state, the standby entry and the POWER-ON and MAIN resets. -/
def plainCommand : Instr → Bool
  | .vmainRemoved | .mainResetEnd _ => true
  | .resetHoldEnd _ | .managementReply .. | .exchangeTimeout _ | .statusPoll _ | .firstFrameTimeout _ | .laneFrame _ _
  | .framePeriodEnd _ | .retryWindowClose _ => true
  | .calibWindowEnd | .footswitchInputChange _ _ | .footswitchDebounceExpiry _ | .jackInputChange _ | .jackDebounceExpiry => true
  | .outputSamplePeriod | .cutFadeEnd _ | .freeBeatDue | .followBeatDue | .clickEnd => true
  | .drvEnSettle | .stepPulse _ _ | .quietHoldReached | .gateTimeout | .pauseTimeout | .seatedInputChange _ | .seatedFilterExpiry
  | .seatTimeout | .homeSensorChange _ | .indexPulse | .driverFault _ | .lampPhaseTick => true
  | .scoreGroupDue | .waitTimeout | .takeClockTick => true
  | .notifyBoard | .sweepTimerExpiry | .snapshotTimerExpiry => true
  | .wakeScanFrame _ _ | .wakePulseEnd => true
  | _ => false

variable {l : List Piece} {a s : State}

/-- A state that differs from `s` in named pieces other than the hub. -/
theorem Work.of_same {t : State} (pending : t.pending = s.pending) (hub : t.hub = s.hub) (same : ∀ p, p ∉ l → p.same s t) :
    Work l s t := ⟨pending, same, hub ▸ .refl _⟩

/-- An effect of the main domain on a state in which the pins have taken a level. -/
theorem Work.whenUp {f : State → State} (one : ∀ u, Work l u (f u)) (s : State) : Work l s (s.whenUp f) :=
  State.whenUp_work (fun x => x.trans (one s)) (.refl l s)

theorem Work.ite {c : Prop} [Decidable c] {t u : State} (x : Work l s t) (y : Work l s u) : Work l s (if c then t else u) := by
  split
  · exact x
  · exact y

/-- A rail operation that is carried out when a condition holds. -/
theorem Work.deckIf {f : Deck → Deck} (sub : railPieces ⊆ l) (one : ∀ b d, DeckReach b d → DeckReach b (f d)) (due : Bool)
    (s : State) : Work l s (if due then s.mapDeck f else s) :=
  .ite (State.mapDeck_work sub one (.refl l s)) (.refl l s)

/-! ### Lanes -/

theorem execManagementReply_work {lane : Fin 9} {number : Nat} {content : ReplyContent} {body : List Byte} {crc : Byte}
    {t : State} (e : execManagementReply lane number content body crc s = .next t) : Work (.standby :: lanePieces) s t := by
  obtain rfl := Host.Outcome.next.inj e
  split
  · split
    · exact .whenUp (fun u => State.exchangeSucceeds_work _ _ _ (by decide) (.refl _ u)) s
    · exact .refl _ s
  · split
    · exact State.setScanner_work _ _ (by decide) (.refl _ s)
    · exact .refl _ s
  · exact .refl _ s

theorem execExchangeTimeout_work {lane : Fin 9} {t : State} (e : execExchangeTimeout lane s = .next t) :
    Work (.standby :: lanePieces) s t := by
  obtain rfl := Host.Outcome.next.inj e
  split
  · exact .ite (.whenUp (fun u => State.retryExchange_work _ _ (by decide) (.refl _ u)) s) (.refl _ s)
  · split
    · exact .ite (State.retryScanner_work _ _ _ (by decide) (.refl _ s)) (.refl _ s)
    · exact .refl _ s
  · exact .refl _ s

theorem execLaneFrame_work {lane : Fin 9} {bytes : List Byte} {t : State} (e : execLaneFrame lane bytes s = .next t) :
    Work (.player :: .metronome :: lanePieces) s t := by
  obtain rfl := Host.Outcome.next.inj e
  refine .whenUp (fun u => ?_) s
  split
  · exact .refl _ u
  · dsimp only
    split
    · exact State.activeFrame_work _ _ _ (by decide) (.refl _ u)
    · exact .ite (State.awaitedFrame_work _ _ _ (by decide) (.refl _ u)) (.refl _ u)
    · exact .refl _ u

theorem State.scanFrame_work (lane : Fin 8) (r : ScannerLane) (f : Frame) (crcGood : Bool) (s : State) :
    Work [.standby, .lanes] s (s.scanFrame lane r f crcGood) := by
  have scan (b : Standby) : Work [.standby, .lanes] s { s with standby := b } :=
    .of_same rfl rfl (fun p h => by cases p <;> first | exact absurd (by decide) h | rfl | exact ⟨rfl, rfl⟩)
  have error (e : Option (BitVec 4)) : Work [.standby, .lanes] s (s.scanError lane r e) := by
    unfold State.scanError
    exact .ite (State.setLane_work _ _ (by decide) (scan _)) (scan _)
  unfold State.scanFrame
  exact .ite (error _) (.ite (error _) (scan _))

/-! ### The inputs -/

theorem execFootswitchInputChange_work {i : Fin 2} {high : Bool} {t : State}
    (e : execFootswitchInputChange i high s = .next t) : Work (.pins :: switchPieces) s t := by
  have pins (p : Pins) (sw : Vector SwitchStage 2) : Work (.pins :: switchPieces) s { s with pins := p, switches := sw } :=
    .of_same rfl rfl (fun p h => by cases p <;> first | exact absurd (by decide) h | rfl | exact ⟨rfl, rfl⟩)
  unfold execFootswitchInputChange at e
  split at e
  · obtain rfl := Host.Outcome.next.inj e
    exact .refl _ s
  · dsimp only at e
    split at e
    · obtain rfl := Host.Outcome.next.inj e
      exact pins _ s.switches
    · obtain rfl := Host.Outcome.next.inj e
      exact State.acceptHeld_work _ (by decide) (pins _ _)

theorem execJackInputChange_work {low : Bool} {t : State} (e : execJackInputChange low s = .next t) :
    Work [.pins, .jack] s t := by
  unfold execJackInputChange at e
  split at e
  · obtain rfl := Host.Outcome.next.inj e
    exact .refl _ s
  · obtain rfl := Host.Outcome.next.inj e
    refine Work.trans (s := { s with pins := { s.pins with jackLow := low } })
      (.of_same rfl rfl (fun p h => by cases p <;> first | exact absurd (by decide) h | rfl | exact ⟨rfl, rfl⟩)) ?_
    refine .whenUp (fun u => ?_) _
    refine .of_same rfl rfl fun p h => ?_
    cases p <;> first | exact absurd (by decide) h | rfl | exact ⟨rfl, rfl⟩

/-! ### The rail's inputs -/

/-- The pins take a level, and a rail operation follows while the main domain is up. -/
theorem Work.pinThen {f : State → State} (p : Pins) (one : ∀ u, Work (.pins :: railPieces) u (f u)) (s : State) :
    Work (.pins :: railPieces) s (State.whenUp f { s with pins := p }) := by
  refine Work.trans (s := { s with pins := p }) ?_ (.whenUp one _)
  exact .of_same rfl rfl (fun p h => by cases p <;> first | exact absurd (by decide) h | rfl | exact ⟨rfl, rfl⟩)

theorem State.seatedChanged_work (active : Bool) (s : State) : Work [.pins, .rail] s (s.seatedChanged active) := by
  unfold State.seatedChanged
  refine .ite (.refl _ s) (.ite ?_ ?_) <;>
    exact .of_same rfl rfl (fun p h => by cases p <;> first | exact absurd (by decide) h | rfl | exact ⟨rfl, rfl⟩)

theorem State.lampTick_work (s : State) : Work [.lamp] s s.lampTick := by
  unfold State.lampTick
  refine .ite (.refl _ s) (.of_same rfl rfl fun p h => ?_)
  cases p <;> first | exact absurd (by decide) h | rfl | exact ⟨rfl, rfl⟩

/-! ### Sweeps and snapshots falling due -/

theorem State.sweepDue_work (x : Work [.hub] a s) : Work [.hub] a s.sweepDue := by
  unfold State.sweepDue
  split
  · exact x
  · exact State.mapHub_work (by decide) (fun _ _ q => Hub.sweepDue_reach q) x

theorem State.sweepTimer_work (s : State) : Work [.hub] s s.sweepTimer := by
  unfold State.sweepTimer
  split
  · exact .ite (State.sweepDue_work (State.mapHub_work (by decide) (fun _ _ q => Hub.sweep_reach _ q) (.refl _ s))) (.refl _ s)
  · exact .refl _ s

theorem Hub.snapshotTimer_reach {b h : Hub} (x : HubReach b h) : HubReach b h.snapshotTimer := by
  unfold Hub.snapshotTimer
  split
  · exact HubReach.ite (Hub.snapshotDue_reach (Hub.snapshot_reach _ x)) x
  · exact x

/-! ### All of them -/

/-- A plain command works on its own pieces. -/
theorem exec_work {c : Instr} {t : State} (plain : plainCommand c = true) (e : exec c s = .next t) : Work (changes c) s t := by
  cases c with
  | managementReply => exact execManagementReply_work e
  | exchangeTimeout => exact execExchangeTimeout_work e
  | laneFrame => exact execLaneFrame_work e
  | footswitchInputChange => exact execFootswitchInputChange_work e
  | jackInputChange => exact execJackInputChange_work e
  | vmainRemoved =>
    dsimp only [changes]
    obtain rfl := Host.Outcome.next.inj e
    exact .of_same rfl rfl (fun p h => by cases p <;> first | exact absurd (by decide) h | rfl)
  | mainResetEnd =>
    dsimp only [changes]
    obtain rfl := Host.Outcome.next.inj e
    split
    · refine .of_same rfl rfl fun p h => ?_
      cases p <;> first | exact absurd (by decide) h | rfl
    · exact .refl _ s
  | resetHoldEnd | statusPoll | retryWindowClose =>
    dsimp only [changes]
    obtain rfl := Host.Outcome.next.inj e
    refine .whenUp (fun u => ?_) s
    split
    · exact .ite (State.setLane_work _ _ (by decide) (.refl _ u)) (.refl _ u)
    · exact .refl _ u
  | firstFrameTimeout =>
    dsimp only [changes]
    obtain rfl := Host.Outcome.next.inj e
    refine .whenUp (fun u => ?_) s
    split
    · exact .ite (State.stepFails_work _ (by decide) (.refl _ u)) (.refl _ u)
    · exact .refl _ u
  | framePeriodEnd =>
    dsimp only [changes]
    obtain rfl := Host.Outcome.next.inj e
    exact .whenUp (fun u => .ite (State.endPeriod_work _ (by decide) (.refl _ u)) (.refl _ u)) s
  | calibWindowEnd =>
    dsimp only [changes]
    obtain rfl := Host.Outcome.next.inj e
    refine .whenUp (fun u => ?_) s
    split
    · exact .ite (State.finishWindow_work _ (by decide) (.refl _ u)) (.refl _ u)
    · exact .refl _ u
  | footswitchDebounceExpiry =>
    dsimp only [changes]
    obtain rfl := Host.Outcome.next.inj e
    exact .ite (.refl _ s) (State.acceptHeld_work _ (by decide) (.refl _ s))
  | jackDebounceExpiry =>
    dsimp only [changes]
    obtain rfl := Host.Outcome.next.inj e
    refine .whenUp (fun u => ?_) s
    split
    · exact .ite (State.acceptJack_work (by decide) (.refl _ u)) (.refl _ u)
    · exact .refl _ u
  | outputSamplePeriod =>
    dsimp only [changes]
    obtain rfl := Host.Outcome.next.inj e
    exact .whenUp (fun u => .ite (State.samplePeriod_work (.refl _ u) (by decide)) (.refl _ u)) s
  | cutFadeEnd =>
    dsimp only [changes]
    obtain rfl := Host.Outcome.next.inj e
    exact .whenUp (fun u => State.mapVoice_work (by decide) (fun _ _ q => Engine.endFade_reach _ q) (.refl _ u)) s
  | freeBeatDue =>
    dsimp only [changes]
    obtain rfl := Host.Outcome.next.inj e
    exact .whenUp (fun u => .ite (State.mapMetronome_work (by decide) (fun _ _ q => Beater.freeBeat_reach q) (.refl _ u))
      (.refl _ u)) s
  | followBeatDue =>
    dsimp only [changes]
    obtain rfl := Host.Outcome.next.inj e
    exact .whenUp (fun u => .ite (State.mapMetronome_work (by decide) (fun _ _ q => Beater.followBeat_reach q) (.refl _ u))
      (.refl _ u)) s
  | clickEnd =>
    dsimp only [changes]
    obtain rfl := Host.Outcome.next.inj e
    refine .whenUp (fun u => ?_) s
    refine .of_same rfl rfl fun p h => ?_
    cases p <;> first | exact absurd (by decide) h | rfl | exact ⟨rfl, rfl⟩
  | drvEnSettle =>
    dsimp only [changes]
    obtain rfl := Host.Outcome.next.inj e
    exact .whenUp (.deckIf (by decide) (fun _ _ q => Deck.driverSettled_reach q) _) s
  | stepPulse =>
    dsimp only [changes]
    obtain rfl := Host.Outcome.next.inj e
    exact .pinThen _ (fun u => .deckIf (by decide) (fun _ _ q => Deck.pulse_reach _ _ q) _ u) s
  | quietHoldReached =>
    dsimp only [changes]
    obtain rfl := Host.Outcome.next.inj e
    refine .whenUp (fun u => ?_) s
    exact .ite (State.mapDeck_work (by decide) (fun _ _ q => Deck.quietReached_reach q) (.refl _ u)) (.refl _ u)
  | gateTimeout =>
    dsimp only [changes]
    obtain rfl := Host.Outcome.next.inj e
    refine .whenUp (fun u => ?_) s
    exact .ite (State.mapDeck_work (by decide) (fun _ _ q => Deck.endMove_reach _ q) (.refl _ u)) (.refl _ u)
  | seatTimeout =>
    dsimp only [changes]
    obtain rfl := Host.Outcome.next.inj e
    refine .whenUp (fun u => ?_) s
    exact .ite (State.mapDeck_work (by decide) (fun _ _ q => Deck.endMove_reach _ q) (.refl _ u)) (.refl _ u)
  | pauseTimeout =>
    dsimp only [changes]
    obtain rfl := Host.Outcome.next.inj e
    exact .whenUp (.deckIf (by decide) (fun _ _ q => Deck.pauseEnds_reach q) _) s
  | seatedInputChange => obtain rfl := Host.Outcome.next.inj e; exact s.seatedChanged_work _
  | seatedFilterExpiry =>
    dsimp only [changes]
    obtain rfl := Host.Outcome.next.inj e
    refine .whenUp (fun u => ?_) s
    split
    · exact .ite (State.mapDeck_work (by decide) (fun _ _ q => Deck.seatedAccepted_reach q) (.refl _ u)) (.refl _ u)
    · exact .refl _ u
  | homeSensorChange =>
    dsimp only [changes]
    obtain rfl := Host.Outcome.next.inj e
    exact .pinThen _ (fun u => State.mapDeck_work (by decide) (fun _ _ q => Deck.homeChanged_reach _ q) (.refl _ u)) s
  | indexPulse =>
    dsimp only [changes]
    obtain rfl := Host.Outcome.next.inj e
    exact .whenUp (fun u => State.mapDeck_work (by decide) (fun _ _ q => Deck.index_reach q) (.refl _ u)) s
  | driverFault =>
    dsimp only [changes]
    obtain rfl := Host.Outcome.next.inj e
    refine .pinThen _ (fun u => State.mapDeck_work (by decide) (fun _ _ q => ?_) (.refl _ u)) s
    split
    · exact Deck.driverFaulted_reach q
    · exact q
  | lampPhaseTick => obtain rfl := Host.Outcome.next.inj e; exact s.lampTick_work
  | scoreGroupDue =>
    dsimp only [changes]
    obtain rfl := Host.Outcome.next.inj e
    exact .whenUp (fun u => State.mapStage_work (by decide) (fun _ _ q => Stage.play_reach q) (.refl _ u)) s
  | waitTimeout =>
    dsimp only [changes]
    obtain rfl := Host.Outcome.next.inj e
    refine .whenUp (fun u => State.mapStage_work (by decide) (fun _ _ q => ?_) (.refl _ u)) s
    split
    · exact Stage.skipWait_reach q
    · exact q
  | takeClockTick =>
    dsimp only [changes]
    obtain rfl := Host.Outcome.next.inj e
    refine .whenUp (fun u => ?_) s
    unfold State.mapRecorder
    dsimp only
    split <;> exact .of_same rfl rfl fun p h => by cases p <;> first | exact absurd (by decide) h | rfl | exact ⟨rfl, rfl⟩
  | notifyBoard => obtain rfl := Host.Outcome.next.inj e; exact .whenUp (fun u => State.sweepDue_work (.refl _ u)) s
  | sweepTimerExpiry => obtain rfl := Host.Outcome.next.inj e; exact .whenUp (fun u => u.sweepTimer_work) s
  | snapshotTimerExpiry =>
    dsimp only [changes]
    obtain rfl := Host.Outcome.next.inj e
    exact .whenUp (fun u => State.mapHub_work (by decide) (fun _ _ q => Hub.snapshotTimer_reach q) (.refl _ u)) s
  | wakeScanFrame =>
    dsimp only [changes]
    obtain rfl := Host.Outcome.next.inj e
    split
    · exact .ite (State.scanFrame_work _ _ _ _ s) (.refl _ s)
    · exact .refl _ s
  | wakePulseEnd =>
    dsimp only [changes]
    obtain rfl := Host.Outcome.next.inj e
    split
    · refine .ite (.of_same rfl rfl fun p h => ?_) (.refl _ s)
      cases p <;> first | exact absurd (by decide) h | rfl | exact ⟨rfl, rfl⟩
    · exact .refl _ s
  | _ => cases plain

end Sys2Proof.Machine
end

section
/-! SUPPORT. The lane table over every command (Table 1-1, R3; log 11). -/

namespace Sys2Proof.Machine

/-- Every command leaves the counts of each lane in range if they were, and takes no exchange number back. -/
theorem exec_lanesFollow {c : Instr} {s t : State} (e : exec c s = .next t) : s.LanesFollow t := by
  cases row : requestOf c with
  | some r =>
    rw [exec_request row] at e
    obtain rfl := Host.Outcome.next.inj e
    exact .visitSlot (fun _ => actRequest_follow _ _ _ _) s
  | none =>
    cases c with
    | resetHoldEnd lane | statusPoll lane | firstFrameTimeout lane | framePeriodEnd lane | retryWindowClose lane =>
      exact laneTimer_follow (lane := lane) (by simp) e
    | managementReply => exact execManagementReply_follow e
    | exchangeTimeout => exact execExchangeTimeout_follow e
    | laneFrame => exact execLaneFrame_follow e
    | powerOnReset =>
      obtain rfl := Host.Outcome.next.inj e
      exact State.mainDomainReset_follow .powerOn s _ rfl
    | mainReset =>
      obtain rfl := Host.Outcome.next.inj e
      split
      · exact .refl s
      · exact State.mainDomainReset_follow .main s _ rfl
    | mainResetEnd =>
      obtain rfl := Host.Outcome.next.inj e
      split
      · exact State.endReset_follow _ _ s
      · exact .refl s
    | portReset =>
      obtain rfl := Host.Outcome.next.inj e
      exact .whenUp (fun u => u.portLeave_follow.trans (.of_eq (State.mapHub_lanes _ _))) s
    | registerWrite => obtain rfl := Host.Outcome.next.inj e; exact .whenUp (fun u => u.writeRegister_follow _ _) s
    | runSet | runClear => obtain rfl := Host.Outcome.next.inj e; exact .whenUp (fun u => u.writeControl_follow _ _) s
    | standbyShutdownStep => obtain rfl := Host.Outcome.next.inj e; exact .whenUp (fun u => u.shutdownStep_follow) s
    | wakeScanFrame =>
      obtain rfl := Host.Outcome.next.inj e
      split
      · split
        · exact State.scanFrame_follow _ _ _ _ s
        · exact .refl s
      · exact .refl s
    | wakeDelayExpiry =>
      obtain rfl := Host.Outcome.next.inj e
      split
      · split
        · exact .of_eq rfl
        · exact .refl s
      · exact .refl s
    | controlEnableWrite | causeClear | sealPeriodExpiry | waitRereadExpiry =>
      obtain rfl := Host.Outcome.next.inj e
      exact .whenUp (fun u => .of_eq (State.mapHub_lanes _ u)) s
    | notifyPages => obtain rfl := Host.Outcome.next.inj e; exact .whenUp (fun u => .of_eq (u.notify_lanes _ _)) s
    | boardReadArrival =>
      obtain rfl := Host.Outcome.next.inj e
      exact .whenUp (.onArrival fun _ _ v => v.boardRead_follow _ _) s
    | tableReadArrival =>
      obtain rfl := Host.Outcome.next.inj e
      exact .whenUp (.onArrival fun _ _ v => .of_eq (v.tableRead_lanes _ _)) s
    | keymapReadArrival | voiceReadArrival =>
      obtain rfl := Host.Outcome.next.inj e
      exact .whenUp (.onArrival fun _ _ v => .of_eq (State.mapVoice_lanes _ v)) s
    | blockReadArrival =>
      obtain rfl := Host.Outcome.next.inj e
      refine .whenUp (.onArrival fun _ _ v => ?_) s
      split
      · exact .of_eq (State.mapStage_lanes _ v)
      · exact .refl v
    | listReadArrival =>
      obtain rfl := Host.Outcome.next.inj e
      exact .whenUp (.onArrival fun _ _ v => .of_eq (State.mapRecorder_lanes _ v)) s
    | pageHeaderReadArrival =>
      obtain rfl := Host.Outcome.next.inj e
      exact .whenUp (.onArrival fun _ _ v => .of_eq (State.mapHub_lanes _ v)) s
    | headerReadArrival =>
      obtain rfl := Host.Outcome.next.inj e
      exact .whenUp (.onArrival fun _ _ v => .of_eq (v.headerRead_lanes _)) s
    | holdReadArrival =>
      obtain rfl := Host.Outcome.next.inj e
      exact .whenUp (.onArrival fun _ _ v => .of_eq (v.holdRead_lanes _)) s
    | readTimeout =>
      obtain rfl := Host.Outcome.next.inj e
      refine .whenUp (fun u => ?_) s
      split
      · next hub tag _ => exact fun i => State.readFailed_follow tag { u with hub := hub } i
      · exact .of_eq rfl
    | _ =>
      first
        | exact (exec_work rfl e).lanesFollow (by simp [changes, switchPieces, railPieces, playPieces])
        | cases row

end Sys2Proof.Machine
end

section
/-! SUPPORT. The timers and the management exchanges of a lane: what each of their commands does while the main domain is up
(R2 to R13). -/

namespace Sys2Proof.Machine

variable {s : State} {n : Fin 9}

/-! ### The lane timers -/

theorem exec_resetHoldEnd {due : Nat} (up : s.mainUp = true) (hold : s.lanes[n].phase = .hold due) (late : due ≤ s.hub.now) :
    exec (.resetHoldEnd n) s = .next (s.setLane n (s.lanes[n].beginExchange .ident s.hub.now)) := by
  change Host.Outcome.next (s.whenUp _) = _
  rw [State.whenUp_of_up _ _ up, hold]
  simp only [late, if_true]

theorem exec_statusPoll {made due : Nat} (up : s.mainUp = true) (wait : s.lanes[n].phase = .statusWait made due)
    (late : due ≤ s.hub.now) :
    exec (.statusPoll n) s = .next (s.setLane n (s.lanes[n].beginExchange (.status made) s.hub.now)) := by
  change Host.Outcome.next (s.whenUp _) = _
  rw [State.whenUp_of_up _ _ up, wait]
  simp only [late, if_true]

theorem exec_retryWindowClose {opened : Nat} (up : s.mainUp = true) (window : s.lanes[n].retryOpened = some opened)
    (late : opened + Config.retryWindow ≤ s.hub.now) :
    exec (.retryWindowClose n) s = .next (s.setLane n { s.lanes[n] with attempts := 0, retryOpened := none }) := by
  change Host.Outcome.next (s.whenUp _) = _
  rw [State.whenUp_of_up _ _ up, window]
  simp only [late, if_true]

theorem exec_framePeriodEnd (up : s.mainUp = true) (slots : s.lanes[n].hasSlots = true) (late : s.lanes[n].periodEnd ≤ s.hub.now) :
    exec (.framePeriodEnd n) s = .next (s.endPeriod n) := by
  change Host.Outcome.next (s.whenUp _) = _
  rw [State.whenUp_of_up _ _ up, slots]
  simp only [late, decide_true, Bool.and_self, if_true]

theorem exec_firstFrameTimeout {since : Nat} (up : s.mainUp = true) (wait : s.lanes[n].phase = .awaitFrame since)
    (late : since + Config.firstFrameLimit ≤ s.hub.now) : exec (.firstFrameTimeout n) s = .next (s.stepFails n) := by
  change Host.Outcome.next (s.whenUp _) = _
  rw [State.whenUp_of_up _ _ up, wait]
  simp only [late, if_true]

/-- R8: an ACTIVE lane and one in the wait for its first frame have frame slots. -/
theorem Lane.hasSlots_of_active {l : Lane} (active : l.state = .active) : l.hasSlots = true := by
  simp [Lane.hasSlots, active]

theorem Lane.hasSlots_of_awaitFrame {l : Lane} {since : Nat} (wait : l.phase = .awaitFrame since) : l.hasSlots = true := by
  unfold Lane.hasSlots
  split
  · rfl
  · rfl
  · next none => exact absurd wait (none since)

/-! ### The reset line (Table 1-2) -/

/-- Table 1-2: the states and phases in which a lane holds its reset line. -/
theorem Lane.holdsReset_iff (l : Lane) : l.holdsReset = true ↔ l.state = .off ∨ l.state = .absent ∨
    (l.state = .probing ∨ l.state = .recovering) ∧ (l.phase = .inReset ∨ ∃ t, l.phase = .hold t) := by
  unfold Lane.holdsReset
  cases l.state <;> cases l.phase <;> simp

theorem State.laneResetActive_of_up (up : s.mainUp = true) :
    s.laneResetActive n = (s.lanes[n].holdsReset && (s.scannerLane n).isNone) := by
  have free : s.resetHeld.isSome = false := by
    obtain ⟨_, free⟩ := Bool.and_eq_true_iff.mp up
    simpa using free
  simp [State.laneResetActive, free]

/-! ### Management exchanges (R3 to R6) -/

theorem goodReply_of_read {e : LaneExchange} {now : Nat} {v : Word16} {body : List Byte} (read : e.step.isRead = true)
    (early : now ≤ e.sentAt + 100) : goodReply e now e.number (.value v) body (crc8 body) = some v := by
  simp [goodReply, read, Config.exchangeLimit, early]

theorem goodReply_of_write {e : LaneExchange} {now : Nat} {body : List Byte} (write : e.step.isRead = false)
    (early : now ≤ e.sentAt + 100) : goodReply e now e.number .acknowledge body (crc8 body) = some 0 := by
  simp [goodReply, write, Config.exchangeLimit, early]

/-- R3: a reply to another attempt, one that comes late and one with a wrong CRC are no good. -/
theorem goodReply_of_bad {e : LaneExchange} {now number : Nat} {content : ReplyContent} {body : List Byte} {crc : Byte}
    (bad : number ≠ e.number ∨ e.sentAt + 100 < now ∨ crc ≠ crc8 body) : goodReply e now number content body crc = none := by
  unfold goodReply
  rw [if_neg]
  simp only [Config.exchangeLimit, Bool.and_eq_true, decide_eq_true_eq, beq_iff_eq]
  rintro ⟨⟨same, early⟩, sound⟩
  rcases bad with other | late | wrong
  · exact other same.symm
  · omega
  · exact wrong sound.symm

theorem exec_managementReply_of_good {e : LaneExchange} {number : Nat} {content : ReplyContent} {body : List Byte} {crc : Byte}
    {v : Word16} (up : s.mainUp = true) (outstanding : s.lanes[n].exchange = some e)
    (good : goodReply e s.hub.now number content body crc = some v) :
    exec (.managementReply n number content body crc) s = .next (s.exchangeSucceeds n e v) := by
  change execManagementReply n number content body crc s = _
  simp only [execManagementReply, outstanding, good, State.whenUp_of_up _ _ up]

theorem exec_managementReply_of_bad {e : LaneExchange} {number : Nat} {content : ReplyContent} {body : List Byte} {crc : Byte}
    (outstanding : s.lanes[n].exchange = some e) (bad : goodReply e s.hub.now number content body crc = none) :
    exec (.managementReply n number content body crc) s = .next s := by
  change execManagementReply n number content body crc s = _
  simp only [execManagementReply, outstanding, bad]

theorem exec_exchangeTimeout {e : LaneExchange} (up : s.mainUp = true) (outstanding : s.lanes[n].exchange = some e)
    (late : e.sentAt + 100 ≤ s.hub.now) : exec (.exchangeTimeout n) s = .next (s.retryExchange n e) := by
  have overdue : e.overdue s.hub.now = true := by simp [LaneExchange.overdue, Config.exchangeLimit, late]
  change execExchangeTimeout n s = _
  simp only [execExchangeTimeout, outstanding, overdue, if_true, State.whenUp_of_up _ _ up]

/-- Table 1-4: an identity of one of the two devices, at the position of the lane. -/
def identityFits (n : Fin 9) (v : Word16) : Prop :=
  (v &&& 0xFFF0#16 = 0x5A10#16 ∧ n.val < 8 ∨ v &&& 0xFFF0#16 = 0x5A20#16 ∧ n.val = 8) ∧ (v &&& 0xF#16).toNat = n.val

theorem checkIdentity_of_fits {v : Word16} (fits : identityFits n v) : checkIdentity n v = .passes := by
  obtain ⟨⟨device, key⟩ | ⟨device, pedal⟩, position⟩ := fits
  · simp [checkIdentity, device, key, position]
  · simp [checkIdentity, device, pedal, position]

theorem checkIdentity_of_misfit {v : Word16} (device : v &&& 0xFFF0#16 = 0x5A10#16 ∨ v &&& 0xFFF0#16 = 0x5A20#16)
    (misfit : ¬ identityFits n v) : checkIdentity n v = .position := by
  rcases device with device | device
  · have off : ¬ (n.val < 8 ∧ (v &&& 0xF#16).toNat = n.val) := fun h => misfit ⟨.inl ⟨device, h.1⟩, h.2⟩
    simp only [checkIdentity, device, if_true, Bool.and_eq_true, decide_eq_true_eq, off, if_false]
  · have off : ¬ (n.val = 8 ∧ (v &&& 0xF#16).toNat = 8) := fun h => misfit ⟨.inr ⟨device, h.1⟩, h.2.trans h.1.symm⟩
    simp only [checkIdentity, device, if_true, Bool.and_eq_true, decide_eq_true_eq, off, if_false]
    rfl

theorem checkIdentity_of_stranger {v : Word16} (noKey : v &&& 0xFFF0#16 ≠ 0x5A10#16) (noPedal : v &&& 0xFFF0#16 ≠ 0x5A20#16) :
    checkIdentity n v = .fails := by
  simp [checkIdentity, noKey, noPedal]

/-! ### The lane's own record after a change of it -/

theorem State.changeLane_at (l : Lane) (d : LaneDetail) : (s.changeLane n l d).lanes[n] = l := by simp

theorem State.stepFails_at : (s.stepFails n).lanes[n] = s.lanes[n].failed s.hub.now := by simp [State.stepFails_lanes]

theorem State.enterRecovering_at (d : LaneDetail) : (s.enterRecovering n d).lanes[n] = s.lanes[n].recovering s.hub.now := by
  simp [State.enterRecovering_lanes]

theorem State.setLane_at (l : Lane) : (s.setLane n l).lanes[n] = l := by simp

/-- R3, R5: at the third attempt of an IDENT read the identity goes, then the probe step fails; at that of another step the step
fails. -/
theorem State.exchangeFails_at (e : LaneExchange) : (s.exchangeFails n e).lanes[n] =
    if e.step = .ident then { s.lanes[n] with identity := none }.failed s.hub.now else s.lanes[n].failed s.hub.now := by
  unfold State.exchangeFails
  split
  · rw [State.stepFails_at, State.setLane_at]; rfl
  · exact State.stepFails_at

/-- R5: a failed step changes nothing of an identity. -/
theorem Lane.failed_identity (now : Nat) (l : Lane) : (l.failed now).identity = l.identity := by
  unfold Lane.failed Lane.recovering
  split
  · rfl
  · split
    · rfl
    · split <;> rfl
  · rfl

end Sys2Proof.Machine
end

section
/-! PROOFS. The lane timers and the management exchanges of the probe (O17, O18, O19). -/

namespace Sys2Proof.Machine

variable {s : State} {n : Fin 9}

/-! ### Frame periods (R8, R10, R11) -/

theorem State.endPeriod_of_quiet (active : s.lanes[n].state = .active)
    (few : ({ s.lanes[n] with periodEnd := s.lanes[n].periodEnd + 125 }.endPeriod).silence < 16) :
    s.endPeriod n = s.setLane n { s.lanes[n] with periodEnd := s.lanes[n].periodEnd + 125 }.endPeriod := by
  unfold State.endPeriod
  dsimp only
  rw [if_pos active]
  exact if_neg (Nat.not_le.mpr few)

theorem State.endPeriod_of_silent (active : s.lanes[n].state = .active)
    (many : 16 ≤ ({ s.lanes[n] with periodEnd := s.lanes[n].periodEnd + 125 }.endPeriod).silence) :
    (s.endPeriod n).lanes[n] =
      { s.lanes[n] with periodEnd := s.lanes[n].periodEnd + 125 }.endPeriod.recovering s.hub.now := by
  unfold State.endPeriod
  dsimp only
  rw [if_pos active, if_pos (by exact many), State.enterRecovering_at, State.setLane_at]
  rfl

theorem State.endPeriod_of_inactive (inactive : s.lanes[n].state ≠ .active) :
    s.endPeriod n = s.setLane n { s.lanes[n] with periodEnd := s.lanes[n].periodEnd + 125 } := by
  unfold State.endPeriod
  exact if_neg inactive

/-- R4: a lane whose exchange begins holds its reset line no more. -/
theorem Lane.holdsReset_beginExchange {l : Lane} {step : ExchangeStep} {now : Nat}
    (probing : l.state = .probing ∨ l.state = .recovering) : (l.beginExchange step now).holdsReset = false := by
  rcases probing with e | e <;> simp [Lane.holdsReset, Lane.beginExchange, Lane.countExchange, e]

theorem State.laneResetActive_released (up : s.mainUp = true) {step : ExchangeStep}
    (probing : s.lanes[n].state = .probing ∨ s.lanes[n].state = .recovering) :
    (s.setLane n (s.lanes[n].beginExchange step s.hub.now)).laneResetActive n = false := by
  rw [State.laneResetActive_of_up (by exact up), State.setLane_at, Lane.holdsReset_beginExchange probing, Bool.false_and]

theorem State.laneResetActive_iff (up : s.mainUp = true) : s.laneResetActive n = true ↔ s.scannerLane n = none ∧
    (s.lanes[n].state = .off ∨ s.lanes[n].state = .absent ∨ (s.lanes[n].state = .probing ∨ s.lanes[n].state = .recovering) ∧
      (s.lanes[n].phase = .inReset ∨ ∃ t, s.lanes[n].phase = .hold t)) := by
  rw [State.laneResetActive_of_up up, Bool.and_eq_true, Lane.holdsReset_iff, Option.isNone_iff_eq_none, and_comm]

/-! ### Exchanges (R3 to R7, R12, R13) -/

/-- R3, R13: the third attempt of an exchange has had no good reply. -/
theorem State.retryExchange_of_spent {e : LaneExchange} (spent : 3 ≤ e.attempt) : s.retryExchange n e = s.exchangeFails n e :=
  if_neg (Nat.not_lt.mpr spent)

/-- R13: what is left of a lane record whose probe step has failed, but for its identity. -/
structure Lane.FailsTo (now : Nat) (l v : Lane) : Prop where
  probing : l.state = .probing → v.state = .absent ∧ v.absentReason = .probeFail ∧ v.phase = .idle
  closed : l.state = .recovering → l.retryOpened = none →
    v.state = .recovering ∧ v.attempts = 1 ∧ v.retryOpened = some now ∧ v.phase = .hold (now + 1500)
  tried : ∀ opened, l.state = .recovering → l.retryOpened = some opened → l.attempts < 3 →
    v.state = .recovering ∧ v.attempts = l.attempts + 1 ∧ v.phase = .hold (now + 1500)
  spent : ∀ opened, l.state = .recovering → l.retryOpened = some opened → 3 ≤ l.attempts →
    v.state = .absent ∧ v.absentReason = .retries ∧ v.phase = .idle

theorem Lane.failsTo_failed (now : Nat) (l : Lane) : l.FailsTo now (l.failed now) where
  probing p := by rw [Lane.failed_of_probing now p]; exact ⟨rfl, rfl, rfl⟩
  closed r c := by rw [Lane.failed_of_recovering now r, Lane.recovering_of_closed now c]; exact ⟨rfl, rfl, rfl, rfl⟩
  tried opened r o few := by rw [Lane.failed_of_recovering now r, Lane.recovering_of_open now o few]; exact ⟨rfl, rfl, rfl⟩
  spent opened r o many := by rw [Lane.failed_of_recovering now r, Lane.recovering_of_spent now o many]; exact ⟨rfl, rfl, rfl⟩

theorem Lane.failsTo_of_identity {now : Nat} {l v : Lane} {i : Option Word16} (f : { l with identity := i }.FailsTo now v) :
    l.FailsTo now v := ⟨f.probing, f.closed, f.tried, f.spent⟩

theorem State.exchangeFails_failsTo (e : LaneExchange) : s.lanes[n].FailsTo s.hub.now (s.exchangeFails n e).lanes[n] := by
  rw [State.exchangeFails_at]
  split
  · exact Lane.failsTo_of_identity (Lane.failsTo_failed _ _)
  · exact Lane.failsTo_failed _ _

/-- R3, R7: the two commands at which a probe step fails. -/
theorem exec_failsTo {c : Instr} (up : s.mainUp = true)
    (cause : (∃ e, s.lanes[n].exchange = some e ∧ e.sentAt + 100 ≤ s.hub.now ∧ 3 ≤ e.attempt ∧ c = .exchangeTimeout n) ∨
      ∃ since, s.lanes[n].phase = .awaitFrame since ∧ since + 2000 ≤ s.hub.now ∧ c = .firstFrameTimeout n) :
    ∃ t, exec c s = .next t ∧ s.lanes[n].FailsTo s.hub.now t.lanes[n] := by
  rcases cause with ⟨e, outstanding, late, spent, rfl⟩ | ⟨since, wait, late, rfl⟩
  · refine ⟨_, exec_exchangeTimeout up outstanding late, ?_⟩
    rw [State.retryExchange_of_spent spent]
    exact State.exchangeFails_failsTo e
  · refine ⟨_, exec_firstFrameTimeout up wait late, ?_⟩
    rw [State.stepFails_at]
    exact Lane.failsTo_failed _ _

theorem State.exchangeSucceeds_fits {e : LaneExchange} {v : Word16} (ident : e.step = .ident) (check : checkIdentity n v = .passes) :
    s.exchangeSucceeds n e v = s.setLane n ({ s.lanes[n] with identity := some v }.beginExchange .led s.hub.now) := by
  unfold State.exchangeSucceeds
  rw [ident]
  dsimp only
  rw [check]

theorem State.exchangeSucceeds_misfit {e : LaneExchange} {v : Word16} (ident : e.step = .ident)
    (check : checkIdentity n v = .position) :
    s.exchangeSucceeds n e v = s.changeLane n ({ s.lanes[n] with identity := some v }.setAside .position) .position := by
  unfold State.exchangeSucceeds
  rw [ident]
  dsimp only
  rw [check]

theorem State.exchangeSucceeds_stranger {e : LaneExchange} {v : Word16} (ident : e.step = .ident)
    (check : checkIdentity n v = .fails) :
    (s.exchangeSucceeds n e v).lanes[n] = { s.lanes[n] with identity := some v }.failed s.hub.now := by
  unfold State.exchangeSucceeds
  rw [ident]
  dsimp only
  rw [check]
  dsimp only
  rw [State.stepFails_at, State.setLane_at]
  rfl

theorem State.exchangeSucceeds_led {e : LaneExchange} {v : Word16} (led : e.step = .led) :
    s.exchangeSucceeds n e v = s.setLane n (s.lanes[n].beginExchange (.status 0) s.hub.now) := by
  unfold State.exchangeSucceeds
  rw [led]

theorem State.exchangeSucceeds_start {e : LaneExchange} {v : Word16} (start : e.step = .start) : s.exchangeSucceeds n e v =
    s.setLane n { s.lanes[n] with
      phase := .awaitFrame s.hub.now, periodEnd := s.hub.now + 125, validInPeriod := false } := by
  unfold State.exchangeSucceeds
  rw [start]

/-- R6: the device is ready, or the next read is awaited, or the twentieth read was the last. -/
theorem State.exchangeSucceeds_status {e : LaneExchange} {made : Nat} {v : Word16} (status : e.step = .status made) :
    s.exchangeSucceeds n e v =
      if v.getLsbD 0 then s.setLane n (s.lanes[n].beginExchange .start s.hub.now)
      else if 20 ≤ made + 1 then s.stepFails n
      else s.setLane n { s.lanes[n] with phase := .statusWait (made + 1) (e.firstSentAt + 250) } := by
  unfold State.exchangeSucceeds
  rw [status]

end Sys2Proof.Machine

open Sys2Proof Sys2Proof.Machine

/-- Settles O17: each timer's command, then the frame period by the lane's state. -/
theorem laneTimersAct : Obligations.LaneTimersAct := by
  intro n s up
  refine ⟨State.laneResetActive_iff up, fun due hold late => ⟨exec_resetHoldEnd up hold late, State.laneResetActive_released up⟩,
    fun made due wait late => exec_statusPoll up wait late, fun opened window late => exec_retryWindowClose up window late,
    fun late => ⟨fun active few => ?_, fun active many => ?_, fun since inactive wait => ?_⟩⟩
  · rw [exec_framePeriodEnd up (Lane.hasSlots_of_active active) late, State.endPeriod_of_quiet active few]
    rfl
  · refine ⟨_, exec_framePeriodEnd up (Lane.hasSlots_of_active active) late, ?_⟩
    rw [State.endPeriod_of_silent active many]
    exact Lane.recovering_state _ _
  · rw [exec_framePeriodEnd up (Lane.hasSlots_of_awaitFrame wait) late, State.endPeriod_of_inactive inactive]
    rfl


/-- Settles O18: the reply is good or not; a good one by the step it answers, an identity by what it says of the device. -/
theorem goodReplyAdvancesTheProbe : Obligations.GoodReplyAdvancesTheProbe := by
  intro n s e v body up outstanding
  refine ⟨fun number content crc bad => exec_managementReply_of_bad outstanding (goodReply_of_bad bad), fun early => ?_⟩
  have read (reads : e.step.isRead = true) :=
    exec_managementReply_of_good up outstanding (goodReply_of_read (v := v) (body := body) reads early)
  have acknowledged (writes : e.step.isRead = false) :=
    exec_managementReply_of_good up outstanding (goodReply_of_write (body := body) writes early)
  refine ⟨fun ident => ⟨fun fits => ?_, fun device misfit => ?_, fun noKey noPedal probing => ?_,
    fun noKey noPedal recovering => ?_⟩, fun led => ?_, fun made status => ⟨fun ready => ?_, fun busy few => ?_,
    fun busy many probing => ?_⟩, fun start => ?_⟩
  · rw [read (by rw [ident]; rfl), State.exchangeSucceeds_fits ident (checkIdentity_of_fits fits)]
    rfl
  · refine ⟨_, read (by rw [ident]; rfl), ?_⟩
    rw [State.exchangeSucceeds_misfit ident (checkIdentity_of_misfit device misfit)]
    exact State.changeLane_at _ _
  · refine ⟨_, read (by rw [ident]; rfl), ?_⟩
    rw [State.exchangeSucceeds_stranger ident (checkIdentity_of_stranger noKey noPedal), Lane.failed_of_probing _ (by exact probing)]
    rfl
  · refine ⟨_, read (by rw [ident]; rfl), ?_⟩
    have fails := Lane.failsTo_failed s.hub.now { s.lanes[n] with identity := some v }
    rw [State.exchangeSucceeds_stranger ident (checkIdentity_of_stranger noKey noPedal)]
    exact ⟨Lane.failed_identity _ _, fails.closed recovering, fun opened => fails.tried opened recovering,
      fun opened => fails.spent opened recovering⟩
  · rw [acknowledged (by rw [led]; rfl), State.exchangeSucceeds_led led]
    rfl
  · rw [read (by rw [status]; rfl), State.exchangeSucceeds_status status, if_pos ready]
    rfl
  · rw [read (by rw [status]; rfl), State.exchangeSucceeds_status status, if_neg (by rw [busy]; decide), if_neg (by omega)]
    rfl
  · refine ⟨_, read (by rw [status]; rfl), ?_⟩
    rw [State.exchangeSucceeds_status status, if_neg (by rw [busy]; decide), if_pos (by omega), State.stepFails_at,
      Lane.failed_of_probing _ probing]
    rfl
  · rw [acknowledged (by rw [start]; rfl), State.exchangeSucceeds_start start]
    rfl

/-- Settles O19: no command takes an exchange number back, a timeout before the third attempt sends the request again, and one at
the third fails the probe step, as does the wait for the first frame. -/
theorem failedProbesAreRetriedOrSetAside : Obligations.FailedProbesAreRetriedOrSetAside := by
  refine ⟨fun c s t n e => (exec_lanesFollow e n).numbers, fun n s up => ⟨fun e outstanding late few => ?_,
    fun e outstanding late spent ident => ?_, fun c cause => ?_⟩⟩
  · rw [exec_exchangeTimeout up outstanding late]
    exact congrArg Host.Outcome.next (if_pos few)
  · refine ⟨_, exec_exchangeTimeout up outstanding late, ?_⟩
    rw [State.retryExchange_of_spent spent, State.exchangeFails_at, if_pos ident, Lane.failed_identity]
  · obtain ⟨t, step, fails⟩ := exec_failsTo up cause
    exact ⟨fun p => ⟨t, step, fails.probing p⟩, fun r c => ⟨t, step, fails.closed r c⟩,
      fun opened r o few => ⟨t, step, fails.tried opened r o few⟩,
      fun opened r o many => ⟨t, step, fails.spent opened r o many⟩⟩

end

section
/-! SUPPORT. The bounds of the hub's lists and counts (R168, R170, R184, R188, R191) are kept by the moves of Laws/Hub and by the
operations that are not moves. The tables, the journal writer's queue and page, and the writer's being on are kept apart: at a detach
the writer goes off before the attach state changes. -/

namespace Sys2Proof.Machine

/-- The bounds of the scheduler, the table of requests in flight and the message counts. -/
structure Hub.TablesFit (h : Hub) : Prop where
  outstanding : h.sched.outstanding.length ≤ 4
  reads : h.readsNumbered
  inFlight : h.inFlight.length ≤ 8
  slots : (h.inFlight.map InFlight.slot).Nodup
  detached : h.attach ≠ .attached → h.inFlight = []
  messages : h.msiSent ≤ h.msiDue

/-- The bounds of the journal queue and of the page being filled. -/
structure Journal.Fits (j : Journal) : Prop where
  queue : j.queue.length ≤ 128
  page : j.pageRecords < 63

/-- The bounds of a hub whose journal writer may be off. -/
structure Hub.Fits (h : Hub) : Prop where
  tables : h.TablesFit
  journal : h.journal.Fits

theorem HubInRange.fits {h : Hub} (x : HubInRange h) : h.Fits :=
  ⟨⟨x.outstanding, x.reads, x.inFlight, x.slots, x.detached, x.messages⟩, ⟨x.queue, x.page⟩⟩

theorem Hub.Fits.inRange {h : Hub} (x : h.Fits) (writer : h.attach = .attached → h.journal.state ≠ .off) : HubInRange h :=
  ⟨x.journal.queue, x.journal.page, x.tables.outstanding, x.tables.reads, x.tables.inFlight, x.tables.slots, x.tables.detached,
    writer, x.tables.messages⟩

/-! ### The tables -/

section Tables
variable {h : Hub}

/-- A change of the journal, the registers or what has been posted leaves the tables as they are. -/
theorem Hub.TablesFit.congr {g : Hub} (x : h.TablesFit) (sched : g.sched = h.sched) (inFlight : g.inFlight = h.inFlight)
    (attach : g.attach = h.attach) (due : g.msiDue = h.msiDue) (sent : g.msiSent = h.msiSent) : g.TablesFit where
  outstanding := sched ▸ x.outstanding
  reads := by unfold Hub.readsNumbered; rw [sched]; exact x.reads
  inFlight := inFlight ▸ x.inFlight
  slots := inFlight ▸ x.slots
  detached := by rw [attach, inFlight]; exact x.detached
  messages := by rw [due, sent]; exact x.messages

/-- Requests leave the table of those in flight. -/
theorem Hub.TablesFit.fewer (x : h.TablesFit) {table : List InFlight} (less : table.Sublist h.inFlight) :
    Hub.TablesFit { h with inFlight := table } where
  outstanding := x.outstanding
  reads := x.reads
  inFlight := less.length_le.trans x.inFlight
  slots := (less.map _).nodup x.slots
  detached d := List.sublist_nil.mp (x.detached d ▸ less)
  messages := x.messages

/-- The scheduler takes a value within its bounds. -/
theorem Hub.TablesFit.schedule (x : h.TablesFit) {s : Scheduler} (outstanding : s.outstanding.length ≤ 4)
    (reads : ∀ r ∈ s.waiting ++ s.outstanding, r.id < s.nextReadId) : Hub.TablesFit { h with sched := s } :=
  ⟨outstanding, reads, x.inFlight, x.slots, x.detached, x.messages⟩

theorem Hub.post_tables (w : Writer) (a : Word64) (d : List Byte) (x : h.TablesFit) : (h.post w a d).TablesFit := by
  unfold Hub.post
  split
  · exact x.congr rfl rfl rfl rfl rfl
  · exact x

/-- R188: a message that falls due is sent or not. -/
theorem Hub.messageDue_tables (x : h.TablesFit) : h.messageDue.TablesFit := by
  refine ⟨x.outstanding, x.reads, x.inFlight, x.slots, x.detached, ?_⟩
  have one (b : Bool) : flagBit b ≤ 1 := by cases b <;> decide
  have := one (Config.msiCapabilityEnabled h.msiDue)
  have := x.messages
  simp only [Hub.messageDue]
  omega

theorem Hub.setRegisters_tables (r : Registers) (x : h.TablesFit) : (h.setRegisters r).TablesFit := by
  unfold Hub.setRegisters
  dsimp only
  split
  · exact Hub.messageDue_tables (x.congr rfl rfl rfl rfl rfl)
  · exact x.congr rfl rfl rfl rfl rfl

theorem Hub.setFlag_tables (f : CauseFlag) (x : h.TablesFit) : (h.setFlag f).TablesFit := Hub.setRegisters_tables _ x

theorem Hub.raise_tables (f : CauseFlag) (x : h.TablesFit) : (h.raise f).TablesFit := by
  unfold Hub.raise
  split
  · exact Hub.setFlag_tables f x
  · exact x

theorem Hub.clearCause_tables (v : Word32) (x : h.TablesFit) : (h.clearCause v).TablesFit := by
  unfold Hub.clearCause
  dsimp only
  split
  · exact Hub.messageDue_tables (x.congr rfl rfl rfl rfl rfl)
  · exact x.congr rfl rfl rfl rfl rfl

/-- R191: a read is issued only while a place is free. -/
theorem Hub.issueOne_tables (x : h.TablesFit) : h.issueOne.TablesFit := by
  refine ⟨?_, Hub.issueOne_readsNumbered x.reads, by simpa using x.inFlight, by simpa using x.slots, ?_, ?_⟩
  · unfold Hub.issueOne
    split
    · next room =>
      split
      · exact x.outstanding
      · simp only [List.length_append, List.length_singleton]
        exact room
    · exact x.outstanding
  · rw [show h.issueOne.attach = h.attach from congrArg Hub.Steady.attach h.issueOne_steady, Hub.issueOne_inFlight]
    exact x.detached
  · unfold Hub.issueOne
    split
    · split <;> exact x.messages
    · exact x.messages

theorem Hub.issueReads_tables (x : h.TablesFit) : h.issueReads.TablesFit :=
  Hub.issueOne_tables (Hub.issueOne_tables (Hub.issueOne_tables (Hub.issueOne_tables x)))

theorem Hub.requestRead_tables (t : ReadTag) (a : Word64) (n d : Nat) (x : h.TablesFit) : (h.requestRead t a n d).TablesFit := by
  refine Hub.issueReads_tables (x.schedule x.outstanding fun r m => ?_)
  simp only [List.append_assoc, List.singleton_append, List.mem_append, List.mem_cons] at m
  rcases m with m | rfl | m
  · exact Nat.lt_succ_of_lt (x.reads r (List.mem_append_left _ m))
  · exact Nat.lt_succ_self _
  · exact Nat.lt_succ_of_lt (x.reads r (List.mem_append_right _ m))

theorem Hub.dropReads_tables (w : ReadTag → Bool) (x : h.TablesFit) : (h.dropReads w).TablesFit := by
  refine x.schedule (by simpa using x.outstanding) fun r m => ?_
  rcases List.mem_append.mp m with m | m
  · exact x.reads r (List.mem_append_left _ (List.mem_of_mem_filter m))
  · obtain ⟨q, n, rfl⟩ := List.mem_map.mp m
    have old := x.reads q (List.mem_append_right _ n)
    split <;> exact old

/-- R192: a read gives up its place. -/
theorem Hub.retireRead_tables (id : Nat) (x : h.TablesFit) : (h.retireRead id).TablesFit := by
  refine Hub.issueReads_tables (x.schedule ((List.length_filter_le _ _).trans x.outstanding) fun r m => ?_)
  rcases List.mem_append.mp m with m | m
  · exact x.reads r (List.mem_append_left _ m)
  · exact x.reads r (List.mem_append_right _ (List.mem_of_mem_filter m))

theorem Hub.writeResult_tables (slot : Fin 32) (tag : Word16) (code : ResultCode) (data : List Byte) (final : Nat)
    (x : h.TablesFit) : (h.writeResult slot tag code data final).TablesFit :=
  Hub.raise_tables _ (Hub.post_tables _ _ _ (Hub.post_tables _ _ _ (Hub.post_tables _ _ _ (Hub.post_tables _ _ _ x))))

theorem Hub.completeRequest_tables (slot : Fin 32) (code : ResultCode) (data : List Byte) (x : h.TablesFit) :
    (h.completeRequest slot code data).TablesFit := by
  unfold Hub.completeRequest
  split
  · exact x
  · exact Hub.writeResult_tables _ _ _ _ _ (x.fewer List.filter_sublist)

theorem Hub.claimPage_tables (x : h.TablesFit) : h.claimPage.TablesFit :=
  Hub.requestRead_tables _ _ _ _ (x.congr rfl rfl rfl rfl rfl)

theorem Hub.sealPage_tables (x : h.TablesFit) : h.sealPage.TablesFit := by
  have sealed (j : Journal) (header : List Byte) : Hub.TablesFit { Hub.raise .journal (Hub.post .journal (h.pageAddress 0) (le8 2)
      (Hub.post .journal (h.pageAddress 1) header h)) with journal := j } :=
    (Hub.raise_tables .journal (Hub.post_tables _ _ _ (Hub.post_tables _ _ _ x))).congr rfl rfl rfl rfl rfl
  unfold Hub.sealPage
  dsimp only
  split
  · exact sealed _ _
  · exact Hub.claimPage_tables (sealed _ _)

theorem Hub.writeRecord_tables (r : JournalRecord) (tag : Word32) (rest : List (JournalRecord × Word32)) (x : h.TablesFit) :
    (h.writeRecord r tag rest).TablesFit :=
  (Hub.post_tables .journal _ _ x).congr rfl rfl rfl rfl rfl

theorem Hub.fillFrom_tables (records : List (JournalRecord × Word32)) (x : h.TablesFit) : (h.fillFrom records).TablesFit := by
  induction records generalizing h with
  | nil => exact x
  | cons e records ih =>
    obtain ⟨r, tag⟩ := e
    have written : (h.writeRecord r tag records).TablesFit := Hub.writeRecord_tables r tag records x
    unfold Hub.fillFrom
    split
    · exact Hub.sealPage_tables x
    · dsimp only
      split
      · exact Hub.sealPage_tables written
      · exact ih written

theorem Hub.runWriter_tables (x : h.TablesFit) : h.runWriter.TablesFit := by
  unfold Hub.runWriter
  split
  · split
    · exact x
    · exact Hub.claimPage_tables x
  · exact Hub.fillFrom_tables _ x
  · exact x

theorem Hub.hand_tables (r : JournalRecord) (x : h.TablesFit) : (h.hand r).TablesFit := by
  unfold Hub.hand
  dsimp only
  split
  · exact x
  · split
    · exact x.congr rfl rfl rfl rfl rfl
    · exact Hub.runWriter_tables (x.congr rfl rfl rfl rfl rfl)

theorem HubMove.tables {a b : Hub} (m : HubMove a b) (x : a.TablesFit) : b.TablesFit := by
  cases m with
  | post => exact Hub.post_tables _ _ _ x
  | raise => exact Hub.raise_tables _ x
  | hand => exact Hub.hand_tables _ x
  | request => exact Hub.requestRead_tables _ _ _ _ x
  | drop => exact Hub.dropReads_tables _ x
  | complete => exact Hub.completeRequest_tables _ _ _ x
  | snapshot | sweep => exact x.congr rfl rfl rfl rfl rfl

end Tables

/-! ### The journal queue and the page being filled -/

section Writer
variable {h : Hub}

/-- R171: after a sealing the queue is as it was and no record is in a page. -/
theorem Hub.sealPage_fits (queue : h.journal.queue.length ≤ 128) : h.sealPage.journal.Fits := by
  unfold Hub.sealPage
  dsimp only
  split
  · exact ⟨queue, by simp⟩
  · rw [Hub.claimPage_journal]
    exact ⟨queue, by simp⟩

/-- R170: records are written into a page until it holds 63, at which it is sealed. -/
theorem Hub.fillFrom_fits (records : List (JournalRecord × Word32)) (few : records.length ≤ 128) (x : h.journal.Fits) :
    (h.fillFrom records).journal.Fits := by
  induction records generalizing h with
  | nil => exact x
  | cons e records ih =>
    obtain ⟨r, tag⟩ := e
    have rest : records.length ≤ 128 := (Nat.le_succ _).trans few
    have queue : (h.writeRecord r tag records).journal.queue = records := rfl
    have page : (h.writeRecord r tag records).journal.pageRecords = h.journal.pageRecords + 1 := rfl
    unfold Hub.fillFrom
    split
    · exact Hub.sealPage_fits x.queue
    · dsimp only
      split
      · exact Hub.sealPage_fits (queue ▸ rest)
      · next more =>
        have := x.page
        exact ih rest ⟨queue ▸ rest, by rw [page, Config.pageRecords] at *; omega⟩

theorem Hub.runWriter_fits (x : h.journal.Fits) : h.runWriter.journal.Fits := by
  unfold Hub.runWriter
  split
  · split
    · exact x
    · rw [Hub.claimPage_journal]
      exact ⟨x.queue, x.page⟩
  · exact Hub.fillFrom_fits _ x.queue x
  · exact x

/-- R168: a record joins the queue only while it holds fewer than 128. -/
theorem Hub.hand_fits (r : JournalRecord) (x : h.journal.Fits) : (h.hand r).journal.Fits := by
  unfold Hub.hand
  dsimp only
  split
  · exact x
  · split
    · exact ⟨x.queue, x.page⟩
    · next room =>
      refine Hub.runWriter_fits ⟨?_, x.page⟩
      simp only [List.length_append, List.length_singleton, Config.journalDepth] at room ⊢
      omega

theorem HubMove.journalFits {a b : Hub} (m : HubMove a b) (x : a.journal.Fits) : b.journal.Fits := by
  cases m with
  | hand => exact Hub.hand_fits _ x
  | drop | snapshot | sweep => exact x
  | _ => simpa using x

/-! ### The writer is on -/

theorem Hub.sealPage_on (h : Hub) : h.sealPage.journal.state ≠ .off := by
  unfold Hub.sealPage
  dsimp only
  split <;> simp

theorem Hub.fillFrom_on (records : List (JournalRecord × Word32)) (on : h.journal.state ≠ .off) :
    (h.fillFrom records).journal.state ≠ .off := by
  induction records generalizing h with
  | nil => exact on
  | cons e records ih =>
    obtain ⟨r, tag⟩ := e
    unfold Hub.fillFrom
    split
    · exact Hub.sealPage_on h
    · dsimp only
      split
      · exact Hub.sealPage_on _
      · exact ih on

theorem Hub.runWriter_on (on : h.journal.state ≠ .off) : h.runWriter.journal.state ≠ .off := by
  unfold Hub.runWriter
  split
  · split
    · exact on
    · simp
  · exact Hub.fillFrom_on _ on
  · exact on

theorem HubMove.on {a b : Hub} (m : HubMove a b) (on : a.journal.state ≠ .off) : b.journal.state ≠ .off := by
  cases m with
  | hand =>
    unfold Hub.hand
    dsimp only
    split
    · exact on
    · split
      · exact on
      · exact Hub.runWriter_on on
  | drop | snapshot | sweep => exact on
  | _ => simpa using on

/-! ### Reaches -/

theorem HubReach.fits {a b : Hub} (x : HubReach a b) (f : a.Fits) : b.Fits :=
  ⟨x.induct (fun _ _ m => m.tables) f.tables, x.induct (P := fun h => h.journal.Fits) (fun _ _ m => m.journalFits) f.journal⟩

/-- What a block does on the hub keeps its bounds. -/
theorem HubReach.inRange {a b : Hub} (x : HubReach a b) (r : HubInRange a) : HubInRange b := by
  refine (x.fits r.fits).inRange fun attached => ?_
  exact x.induct (P := fun h => h.journal.state ≠ .off) (fun _ _ m => m.on) (r.writer (x.attach ▸ attached))

end Writer

end Sys2Proof.Machine
end

section
/-! SUPPORT. The hub's bounds over every command (R167 to R192). -/

namespace Sys2Proof.Machine

variable {h : Hub} {s : State}

theorem Work.hubInRange {l : List Piece} {t : State} (x : Work l s t) (r : HubInRange s.hub) : HubInRange t.hub := x.reach.inRange r

/-- The tables move within their bounds while the attach state and the writer stand. -/
theorem HubInRange.tables {g : Hub} (x : HubInRange h) (tables : g.TablesFit) (attach : g.attach = h.attach)
    (journal : g.journal = h.journal) : HubInRange g :=
  Hub.Fits.inRange ⟨tables, journal ▸ x.fits.journal⟩ (by rw [attach, journal]; exact x.writer)

/-- The writer moves within its bounds, and is on. -/
theorem HubInRange.written {g : Hub} (tables : g.TablesFit) (journal : g.journal.Fits) (on : g.journal.state ≠ .off) :
    HubInRange g := Hub.Fits.inRange ⟨tables, journal⟩ fun _ => on

/-- A part that is not ATTACHED takes another such attach state: it has no request in flight (R181). -/
theorem HubInRange.unattached (x : HubInRange h) (off : h.attach ≠ .attached) {next : AttachState} (stays : next ≠ .attached) :
    HubInRange { h with attach := next } :=
  Hub.Fits.inRange ⟨⟨x.outstanding, x.reads, x.inFlight, x.slots, fun _ => x.detached off, x.messages⟩, x.fits.journal⟩
    fun a => absurd a stays

theorem State.mapHub_inRange {f : Hub → Hub} (x : HubInRange (f s.hub)) : HubInRange (s.mapHub f).hub := x

/-! ### Registers -/

theorem Hub.setRegisters_inRange (r : Registers) (x : HubInRange h) : HubInRange (h.setRegisters r) := by
  refine x.tables (Hub.setRegisters_tables r x.fits.tables) ?_ ?_ <;>
    (unfold Hub.setRegisters; dsimp only; split <;> rfl)

theorem Hub.setFlag_inRange (f : CauseFlag) (x : HubInRange h) : HubInRange (h.setFlag f) := Hub.setRegisters_inRange _ x

theorem Hub.clearCause_inRange (v : Word32) (x : HubInRange h) : HubInRange (h.clearCause v) := by
  refine x.tables (Hub.clearCause_tables v x.fits.tables) ?_ ?_ <;>
    (unfold Hub.clearCause; dsimp only; split <;> rfl)

theorem HubInRange.regs (x : HubInRange h) (r : Registers) : HubInRange { h with regs := r } :=
  x.tables (x.fits.tables.congr rfl rfl rfl rfl rfl) rfl rfl

/-! ### Reads that arrive or time out (R192) -/

theorem Hub.retireRead_inRange (id : Nat) (x : HubInRange h) : HubInRange (h.retireRead id) :=
  x.tables (Hub.retireRead_tables id x.fits.tables) (congrArg Hub.Steady.attach (Hub.issueReads_steady _))
    (by simp [Hub.retireRead, Hub.issueReads])

theorem Hub.raise_inRange (f : CauseFlag) (x : HubInRange h) : HubInRange (h.raise f) :=
  (HubReach.one (.raise f h)).inRange x

theorem Hub.arrive_inRange (id : Nat) (outcome : ReadOutcome) (x : HubInRange h) : HubInRange (h.arrive id outcome).1 := by
  have retired : HubInRange (h.retireRead id) := Hub.retireRead_inRange id x
  unfold Hub.arrive
  split
  · exact x
  · split
    · exact x
    · split
      · exact retired
      · split
        · exact retired
        · dsimp only
          exact Hub.raise_inRange _ retired

theorem Hub.timedOut_inRange (id : Nat) (x : HubInRange h) : HubInRange (h.timedOut id).1 := by
  unfold Hub.timedOut
  split
  · exact x
  · split
    · exact x
    · dsimp only
      exact Hub.raise_inRange _ (Hub.retireRead_inRange id x)

theorem State.onArrival_hub {rows : ReadTag → Bool} {id : Nat} {outcome : ReadOutcome}
    {handle : ReadTag → Option (List Byte) → State → State}
    (one : ∀ tag bytes (s : State), HubInRange s.hub → HubInRange (handle tag bytes s).hub) (s : State) (x : HubInRange s.hub) :
    HubInRange (s.onArrival rows id outcome handle).hub := by
  have arrived := Hub.arrive_inRange id outcome x
  unfold State.onArrival
  split
  · exact x
  · split
    · split
      · next e => rw [e] at arrived; exact arrived
      · next e => rw [e] at arrived; exact one _ _ _ arrived
    · exact x

theorem State.whenUp_hub {f : State → State} (one : ∀ s : State, HubInRange s.hub → HubInRange (f s).hub) (s : State)
    (x : HubInRange s.hub) : HubInRange (s.whenUp f).hub := by
  unfold State.whenUp
  split
  · exact one s x
  · exact x

/-! ### The journal writer's pages (R169 to R174) -/

theorem Hub.sealPage_inRange (x : HubInRange h) : HubInRange h.sealPage :=
  .written (Hub.sealPage_tables x.fits.tables) (Hub.sealPage_fits x.queue) (Hub.sealPage_on h)

theorem Hub.claimPage_inRange (x : HubInRange h) : HubInRange h.claimPage :=
  .written (Hub.claimPage_tables x.fits.tables) (by rw [Hub.claimPage_journal]; exact ⟨x.queue, x.page⟩) (by simp)

theorem Hub.runWriter_inRange (x : HubInRange h) : HubInRange h.runWriter := by
  refine Hub.Fits.inRange ⟨Hub.runWriter_tables x.fits.tables, Hub.runWriter_fits x.fits.journal⟩ fun attached => ?_
  exact Hub.runWriter_on (x.writer (by rwa [show h.runWriter.attach = h.attach from
    congrArg Hub.Steady.attach h.runWriter_steady] at attached))

theorem Hub.flush_inRange (x : HubInRange h) : HubInRange h.flush.1 := by
  unfold Hub.flush
  split
  · dsimp only
    split
    · exact Hub.sealPage_inRange (Hub.runWriter_inRange x)
    · exact Hub.runWriter_inRange x
  · exact x

theorem Hub.takePage_inRange (x : HubInRange h) : HubInRange h.takePage := by
  have posted : (h.post .journal (h.pageAddress 0) (le8 1)).TablesFit := Hub.post_tables _ _ _ x.fits.tables
  unfold Hub.takePage
  dsimp only
  rw [Hub.post_journal]
  exact Hub.runWriter_inRange (.written (posted.congr rfl rfl rfl rfl rfl) ⟨x.queue, Nat.zero_lt_succ _⟩ fun off => by cases off)

theorem Hub.waitForPage_inRange (x : HubInRange h) : HubInRange h.waitForPage :=
  Hub.raise_inRange _ (.written (x.fits.tables.congr rfl rfl rfl rfl rfl) ⟨x.queue, x.page⟩ (by simp))

theorem Hub.pageHeaderRead_inRange (bytes : Option (List Byte)) (x : HubInRange h) : HubInRange (h.pageHeaderRead bytes) := by
  unfold Hub.pageHeaderRead
  split
  · split
    · split
      · exact Hub.takePage_inRange x
      · exact Hub.waitForPage_inRange x
    · exact Hub.waitForPage_inRange x
  · exact x

theorem Hub.rereadPage_inRange (x : HubInRange h) : HubInRange h.rereadPage := by
  unfold Hub.rereadPage
  split
  · exact Hub.claimPage_inRange x
  · exact x

/-! ### Requests (R184) -/

/-- R184 step 5: a request joins the table while it holds fewer than eight and none of the slot. -/
theorem Hub.takeRequest_inRange {slot cursor : Fin 32} (kind : RequestKind) (tag : Word16) (owner : Owner) (x : HubInRange h)
    (attached : h.attach = .attached) (free : h.holdsSlot slot = false) (room : h.inFlight.length < 8) :
    HubInRange { h.takeRequest slot kind tag owner with cursor := cursor } := by
  have fresh : slot ∉ h.inFlight.map InFlight.slot := by
    intro m
    obtain ⟨e, n, rfl⟩ := List.mem_map.mp m
    have held : h.holdsSlot e.slot = true := List.any_eq_true.mpr ⟨e, n, beq_self_eq_true _⟩
    rw [held] at free
    cases free
  have joined : Hub.TablesFit { h with inFlight := h.inFlight ++ [{ slot, kind, tag, owner }] } := by
    refine ⟨x.outstanding, x.reads, ?_, ?_, fun off => absurd attached off, x.messages⟩
    · simp only [List.length_append, List.length_singleton]; omega
    · rw [List.map_append, List.nodup_append]
      refine ⟨x.slots, List.nodup_singleton _, fun a m b n e => fresh ?_⟩
      rw [List.map_singleton, List.mem_singleton] at n
      rw [e, n] at m
      exact m
  refine x.tables ((Hub.post_tables .exchange (h.slotAddress slot 0) (le8 2) joined).congr rfl rfl rfl rfl rfl) ?_ ?_
  · exact congrArg Hub.Steady.attach (Hub.post_steady .exchange _ _ _)
  · exact Hub.post_journal .exchange _ _ _

theorem Hub.refuseRequest_inRange {slot cursor : Fin 32} (tag : Word16) (code : ResultCode) (x : HubInRange h) :
    HubInRange { h.refuseRequest slot tag code with cursor := cursor } := by
  refine x.tables ((Hub.writeResult_tables slot tag code [] 4 x.fits.tables).congr rfl rfl rfl rfl rfl) ?_ ?_
  · exact congrArg Hub.Steady.attach (Hub.writeResult_steady slot tag code [] 4 h)
  · exact Hub.writeResult_journal slot tag code [] 4 h

/-- R184: a visit keeps the hub's bounds where the owner's taking of the request does. -/
theorem State.visitSlot_hub {slot : Fin 32} {kind : RequestKind} {tag : Word16} {args : List Byte} {refuse : Option ResultCode}
    {act : State → State} (one : ∀ s : State, HubInRange s.hub → HubInRange (act s).hub) (s : State) (x : HubInRange s.hub) :
    HubInRange (s.visitSlot slot kind tag args refuse act).hub := by
  unfold State.visitSlot
  split
  · exact x
  · next visit =>
    simp only [Bool.or_eq_true, decide_eq_true_eq, not_or, Bool.not_eq_true, Decidable.not_not] at visit
    obtain ⟨⟨⟨attached, _⟩, _⟩, free⟩ := visit
    split
    · exact x.tables (x.fits.tables.congr rfl rfl rfl rfl rfl) rfl rfl
    · next room =>
      split
      · exact State.mapHub_inRange (Hub.refuseRequest_inRange tag _ x)
      · exact one _ (State.mapHub_inRange (Hub.takeRequest_inRange kind tag _ x attached free (Nat.not_le.mp room)))

/-! ### Attach and detach (R178 to R181) -/

theorem Hub.rejectAttach_inRange (reason : RejectReason) (x : HubInRange h) (off : h.attach ≠ .attached) :
    HubInRange (h.rejectAttach reason) := by
  have rejected : HubInRange { h with attach := .rejected, regs := { h.regs with reject := reason } } :=
    (x.regs { h.regs with reject := reason }).unattached off (next := .rejected) (by simp)
  unfold Hub.rejectAttach
  dsimp only
  split
  · exact Hub.setFlag_inRange _ (Hub.setFlag_inRange _ rejected)
  · exact Hub.setFlag_inRange _ rejected

theorem Hub.beginAttach_inRange (x : HubInRange h) (off : h.attach ≠ .attached) : HubInRange h.beginAttach := by
  have begun (r : Region) : HubInRange { h with attach := .validating, regs := { h.regs with reject := .none }, region := r } :=
    HubInRange.tables ((x.regs { h.regs with reject := .none }).unattached off (next := .validating) (by simp))
      (((x.regs { h.regs with reject := .none }).unattached off (next := .validating) (by simp)).fits.tables.congr
        rfl rfl rfl rfl rfl) rfl rfl
  unfold Hub.beginAttach
  dsimp only
  split
  · exact Hub.rejectAttach_inRange _ (begun _) (by simp)
  · exact (HubReach.one (.request ..)).inRange (begun _)

/-- R180: at the entry to ATTACHED no request is in flight, and the writer is on with its queue and its page empty. -/
theorem Hub.enterAttached_inRange (r : RegionHeader) (x : HubInRange h) : HubInRange (h.enterAttached r) := by
  refine (Hub.beginSweep_reach (Hub.post_reach _ _ _ (.refl _))).inRange ?_
  refine .written ⟨x.outstanding, x.reads, Nat.zero_le _, List.nodup_nil, fun off => absurd rfl off, x.messages⟩ ?_ ?_
  · exact ⟨Nat.zero_le _, Nat.zero_lt_succ _⟩
  · simp [Journal.attached]

theorem State.headerRead_hub (bytes : Option (List Byte)) (x : HubInRange s.hub) : HubInRange (s.headerRead bytes).hub := by
  unfold State.headerRead
  split
  · next validating =>
    have off : s.hub.attach ≠ .attached := by rw [validating]; simp
    split
    · exact State.mapHub_inRange (Hub.rejectAttach_inRange _ x off)
    · dsimp only
      split
      · unfold State.enterAttached
        dsimp only
        exact Hub.enterAttached_inRange _ x
      · exact State.mapHub_inRange (Hub.rejectAttach_inRange _ x off)
  · exact x

theorem Hub.abandonValidation_inRange (x : HubInRange h) (off : h.attach ≠ .attached) : HubInRange h.abandonValidation :=
  ((HubReach.one (.drop ReadTag.isRegionHeader h)).inRange x).unattached off (by simp)

/-- R176: the journal writer goes off. -/
theorem Hub.journalDetach_fits (x : HubInRange h) : h.journalDetach.Fits :=
  by
  refine ⟨?_, ⟨Nat.zero_le _, Nat.zero_lt_succ _⟩⟩
  unfold Hub.journalDetach
  exact Hub.dropReads_tables _ (x.fits.tables.congr rfl rfl rfl rfl rfl)

/-- R181: a detach keeps the hub's bounds, though the writer goes off before the attach state changes. -/
theorem State.detach_hub {next : AttachState} (x : HubInRange s.hub) (off : next ≠ .attached) :
    HubInRange (s.detach next).hub := by
  unfold State.detach
  dsimp only
  have first : (s.mapHub Hub.journalDetach).hub.Fits := Hub.journalDetach_fits x
  generalize s.mapHub Hub.journalDetach = u at first
  have owners : Work detachPieces u (((u.mapStage Stage.detach).mapRecorder Desk.detach).trackerDetach.mapVoice Engine.detach) :=
    State.mapVoice_work (by decide) (fun _ _ q => Engine.detach_reach q) <| State.trackerDetach_work (by decide) <|
      State.mapRecorder_work (by decide) (fun _ _ q => Desk.detach_reach q) <|
        State.mapStage_work (by decide) (fun _ _ q => Stage.detach_reach q) (.refl _ u)
  have fits := owners.reach.fits first
  generalize ((u.mapStage Stage.detach).mapRecorder Desk.detach).trackerDetach.mapVoice Engine.detach = t at fits
  refine Hub.Fits.inRange ⟨⟨?_, fun r m => ?_, Nat.zero_le _, List.nodup_nil, fun _ => rfl, fits.tables.messages⟩, fits.journal⟩
    fun attached => absurd attached off
  · simpa [Hub.detach] using fits.tables.outstanding
  · simp only [Hub.detach, List.nil_append, List.mem_map] at m
    obtain ⟨q, n, rfl⟩ := m
    exact fits.tables.reads q (List.mem_append_right _ n)

/-! ### Standby (R195 to R198) -/

theorem State.silence_hub (x : HubInRange s.hub) : HubInRange s.silence.hub :=
  State.mapHub_inRange <| Hub.flush_inRange ((State.mapVoice_work (List.Subset.refl _) (fun _ _ q => Engine.cutSources_reach _ q)
    (Work.refl _ s)).hubInRange x)

theorem State.beginEntry_hub (slot : Fin 32) (x : HubInRange s.hub) : HubInRange (s.beginEntry slot).hub := by
  have stopped : Work (.recorder :: playPieces) s ((s.mapStage Stage.stop).mapRecorder Desk.closeForStandby) :=
    State.mapRecorder_work (by decide) (fun _ _ q => Desk.closeForStandby_reach q)
      (State.mapStage_work (by decide) (fun _ _ q => Stage.stop_reach q) (.refl _ s))
  have y := stopped.hubInRange x
  unfold State.beginEntry
  dsimp only
  generalize (s.mapStage Stage.stop).mapRecorder Desk.closeForStandby = t at y
  have z := State.silence_hub y
  generalize t.silence = u at z
  split
  · exact y
  · exact z

theorem State.enterStandby_hub (x : HubInRange s.hub) : HubInRange s.enterStandby.hub := by
  have lanes : Work lanePieces s ((List.finRange 9).foldl (fun s lane => s.laneToStandby lane) s) :=
    Work.foldl (fun _ _ y => State.laneToStandby_work _ (by decide) y) _ (.refl _ s)
  have y := lanes.hubInRange x
  unfold State.enterStandby
  dsimp only
  generalize (List.finRange 9).foldl (fun s lane => s.laneToStandby lane) s = t at y
  exact y

theorem State.completeEntry_hub (slot : Fin 32) (x : HubInRange s.hub) : HubInRange (s.completeEntry slot).hub := by
  unfold State.completeEntry
  refine State.enterStandby_hub (State.detach_hub ?_ (by simp))
  exact State.mapHub_inRange ((HubReach.one (.complete ..)).inRange x)

theorem State.shutdownStep_hub (x : HubInRange s.hub) : HubInRange s.shutdownStep.hub := by
  unfold State.shutdownStep
  split
  · split
    · exact x
    · exact State.completeEntry_hub _ (State.silence_hub x)
  · exact State.completeEntry_hub _ x
  · exact x

/-- R198: the exit from standby leaves the part unattached. -/
theorem State.leaveStandby_hub (x : HubInRange s.hub) (off : s.hub.attach ≠ .attached) :
    HubInRange s.leaveStandby.hub ∧ s.leaveStandby.hub.attach = .detached := by
  have left : HubInRange { s.hub with attach := .detached } := x.unattached off (by simp)
  unfold State.leaveStandby
  dsimp only
  generalize start : ({ s with hub := _, standby := _, output := _, rail := _ } : State) = s1
  have hub : s1.hub = { s.hub with attach := .detached } := by rw [← start]
  have wakes : HubReach s1.hub (((List.finRange 9).foldl (fun s lane => s.laneFromStandby lane) s1).mapDeck id).hub :=
    (State.mapDeck_work (l := lanePieces) (by decide) (fun _ _ q => q)
      (Work.foldl (fun _ _ y => State.laneFromStandby_work _ (by decide) y) _ (.refl _ s1))).reach
  generalize ((List.finRange 9).foldl (fun s lane => s.laneFromStandby lane) s1).mapDeck id = t at wakes
  have both : HubReach s1.hub (if t.metronome.settings.on = true then
      t.mapMetronome (Beater.switchOn t.voice.sampleClock.toNat t.player.position) else t).hub := by
    split
    · exact Beater.switchOn_reach _ _ wakes
    · exact wakes
  rw [hub] at both
  exact ⟨both.inRange left, both.attach⟩

/-! ### Register writes (R177, R178) -/

theorem Hub.setFlag_attach (f : CauseFlag) (h : Hub) : (h.setFlag f).attach = h.attach :=
  congrArg Hub.Steady.attach (Hub.setFlag_steady f h)

theorem State.runOne_hub (x : HubInRange s.hub) : HubInRange s.runOne.hub := by
  unfold State.runOne
  split
  · next e => exact State.mapHub_inRange (Hub.beginAttach_inRange x (by rw [e]; simp))
  · next e => exact State.mapHub_inRange (Hub.beginAttach_inRange x (by rw [e]; simp))
  · next e =>
    obtain ⟨y, d⟩ := State.leaveStandby_hub x (by rw [e]; simp)
    exact State.mapHub_inRange (Hub.beginAttach_inRange y (by rw [d]; simp))
  · next e =>
    obtain ⟨y, d⟩ := State.leaveStandby_hub x (by rw [e]; simp)
    generalize s.leaveStandby = t at y d
    exact State.mapHub_inRange (Hub.beginAttach_inRange (Hub.setFlag_inRange .wake y) (by simp [Hub.setFlag_attach, d]))
  · exact x
  · exact x

theorem State.runZero_hub (x : HubInRange s.hub) : HubInRange s.runZero.hub := by
  unfold State.runZero
  split
  · next e => exact State.mapHub_inRange (Hub.abandonValidation_inRange x (by rw [e]; simp))
  · exact State.detach_hub x (by simp)
  · exact x

theorem State.writeControl_hub (value : Word32) (run : Bool) (x : HubInRange s.hub) : HubInRange (s.writeControl value run).hub := by
  have written : HubInRange (s.mapHub (Hub.writeEnables value)).hub :=
    State.mapHub_inRange (Hub.setRegisters_inRange _ x)
  unfold State.writeControl
  dsimp only
  split
  · exact State.runOne_hub written
  · exact State.runZero_hub written

theorem State.notify_hub (board pages : Bool) (x : HubInRange s.hub) : HubInRange (s.notify board pages).hub := by
  have due : HubInRange (if board then s.sweepDue else s).hub := by
    split
    · exact (State.sweepDue_work (.refl _ s)).hubInRange x
    · exact x
  unfold State.notify
  dsimp only
  generalize (if board then s.sweepDue else s) = t at due
  split
  · unfold State.notifyPages
    split
    · exact State.mapHub_inRange (Hub.rereadPage_inRange due)
    · exact due
  · exact due

theorem State.writeRegister_hub (offset : Nat) (value : Word32) (x : HubInRange s.hub) :
    HubInRange (s.writeRegister offset value).hub := by
  unfold State.writeRegister
  split
  · exact State.mapHub_inRange (x.regs _)
  · split
    · exact State.mapHub_inRange (x.regs _)
    · split
      · exact State.writeControl_hub _ _ x
      · split
        · exact State.notify_hub _ _ x
        · split
          · exact State.mapHub_inRange (Hub.clearCause_inRange _ x)
          · exact x

theorem State.portLeave_hub (x : HubInRange s.hub) : HubInRange s.portLeave.hub := by
  unfold State.portLeave
  split
  · exact State.detach_hub x (by simp)
  · next e => exact (State.leaveStandby_hub x (by rw [e]; simp)).1
  · next e => exact (State.leaveStandby_hub x (by rw [e]; simp)).1
  · next e => exact State.mapHub_inRange (Hub.abandonValidation_inRange x (by rw [e]; simp))
  · next e => exact State.mapHub_inRange (x.unattached (by rw [e]; simp) (by simp))
  · next e => exact State.mapHub_inRange (x.unattached (by rw [e]; simp) (by simp))

/-! ### The board sweep and the snapshot (R183, R190) -/

theorem actRequest_hub (kind : RequestKind) (slot : Fin 32) (args : List Byte) (s : State) (x : HubInRange s.hub) :
    HubInRange (actRequest kind slot args s).hub := by
  by_cases seals : kind.seals = true
  · cases kind with
    | journalFlush => exact State.mapHub_inRange ((HubReach.one (.complete ..)).inRange (Hub.flush_inRange x))
    | standbyEnter => exact State.beginEntry_hub _ x
    | _ => cases seals
  · exact (actRequest_work kind slot args s (Bool.not_eq_true _ ▸ seals)).hubInRange x

theorem State.visitSlots_hub (copy : List Byte) (slots : List (Fin 32)) (s : State) (x : HubInRange s.hub) :
    HubInRange (s.visitSlots copy slots).hub := by
  have visit (slot : Fin 32) (code : Nat) (tag : Word16) (a : List Byte) (u : State) (y : HubInRange u.hub) :
      HubInRange (u.visitCode slot code tag a).hub := by
    unfold State.visitCode
    split
    · exact State.visitSlot_hub (fun _ => actRequest_hub _ _ _ _) u y
    · exact State.visitSlot_hub (fun _ z => z) u y
  induction slots generalizing s with
  | nil => exact x
  | cons slot rest ih =>
    unfold State.visitSlots
    dsimp only
    split
    · exact x
    · split
      · split
        · exact visit _ _ _ _ s x
        · exact ih _ (visit _ _ _ _ s x)
      · exact ih s x

theorem State.endSweep_work {l : List Piece} {a : State} (sub : [.hub] ⊆ l) (x : Work l a s) : Work l a s.endSweep := by
  have ended : Work l a (s.mapHub fun h => { h with sweep := { h.sweep with parts := none, held := false } }) :=
    State.mapHub_work sub (fun _ _ q => Hub.sweep_reach _ q) x
  unfold State.endSweep
  dsimp only
  generalize s.mapHub _ = t at ended
  split
  · exact ended.trans (Work.mono sub (State.sweepDue_work (.refl _ t)))
  · exact ended

theorem State.boardRead_hub (tag : ReadTag) (bytes : Option (List Byte)) (s : State) (x : HubInRange s.hub) :
    HubInRange (s.boardRead tag bytes).hub := by
  have ends (u : State) (y : HubInRange u.hub) : HubInRange u.endSweep.hub :=
    (State.endSweep_work (List.Subset.refl _) (.refl _ u)).hubInRange y
  unfold State.boardRead
  split
  · split
    · exact ends _ (State.mapHub_inRange ((HubReach.one (.drop ..)).inRange x))
    · dsimp only
      split
      · exact State.mapHub_inRange ((HubReach.one (.sweep ..)).inRange x)
      · exact ends _ (State.visitSlots_hub _ _ s x)
  · exact x

theorem Hub.answerSnapshot_reach {b : Hub} (code : ResultCode) (data : List Byte) (x : HubReach b h) :
    HubReach b (h.answerSnapshot code data) :=
  HubReach.foldl (fun y : Hub => y) (fun _ _ q => Hub.completeRequest_reach _ _ _ q) _ x

theorem Hub.publish_reach {b : Hub} (picture : List Byte) (hold : Nat) (x : HubReach b h) : HubReach b (h.publish picture hold) :=
  Hub.endSnapshot_reach (Hub.snapshot_reach _ (Hub.answerSnapshot_reach _ _ (Hub.post_reach _ _ _ (Hub.post_reach _ _ _ x))))

theorem State.holdRead_work {l : List Piece} {a : State} (bytes : Option (List Byte)) (sub : [.hub] ⊆ l) (x : Work l a s) :
    Work l a (s.holdRead bytes) := by
  unfold State.holdRead
  split
  · exact State.mapHub_work sub (fun _ _ q => Hub.publish_reach _ _ q) x
  · exact State.mapHub_work sub (fun _ _ q => Hub.endSnapshot_reach (Hub.answerSnapshot_reach _ _ q)) x

/-- R192: a failed read told to its requester. -/
theorem State.readFailed_hub (tag : ReadTag) (s : State) (x : HubInRange s.hub) : HubInRange (s.readFailed tag).hub := by
  cases tag with
  | voice =>
    exact (State.mapVoice_work (List.Subset.refl _) (fun _ _ q => Engine.voiceRead_reach _ _ q) (.refl _ s)).hubInRange x
  | block =>
    exact (State.mapStage_work (List.Subset.refl _) (fun _ _ q => Stage.blockRead_reach _ _ _ q) (.refl _ s)).hubInRange x
  | table => exact (State.tableRead_work _ _ (List.Subset.refl _) (.refl _ s)).hubInRange x
  | keymap =>
    exact (State.mapVoice_work (List.Subset.refl _) (fun _ _ q => Engine.keymapRead_reach _ _ q) (.refl _ s)).hubInRange x
  | list =>
    exact (State.mapRecorder_work (List.Subset.refl _) (fun _ _ q => Desk.listRead_reach _ _ q) (.refl _ s)).hubInRange x
  | board => exact State.boardRead_hub _ _ s x
  | pageHeader => exact State.mapHub_inRange (Hub.pageHeaderRead_inRange _ x)
  | hold => exact (State.holdRead_work _ (List.Subset.refl _) (.refl _ s)).hubInRange x
  | regionHeader => exact State.headerRead_hub _ x

/-! ### Every command -/

theorem Hub.mainReset_inRange (x : HubInRange h) : HubInRange h.mainReset :=
  Hub.Fits.inRange ⟨⟨Nat.zero_le _, fun _ m => absurd m List.not_mem_nil, Nat.zero_le _, List.nodup_nil, fun _ => rfl, x.messages⟩,
    ⟨Nat.zero_le _, Nat.zero_lt_succ _⟩⟩ fun attached => by cases attached

theorem State.beginPulse_hub (x : HubInRange s.hub) : HubInRange s.beginPulse.hub := by
  unfold State.beginPulse
  dsimp only
  split
  · next standby => exact x.unattached (by rw [standby]; simp) (by simp)
  · exact x

/-- Every command keeps the hub's lists and counts within what the part holds. -/
theorem exec_hubInRange {c : Instr} {s t : State} (e : exec c s = .next t) (x : HubInRange s.hub) : HubInRange t.hub := by
  cases row : requestOf c with
  | some r =>
    rw [exec_request row] at e
    obtain rfl := Host.Outcome.next.inj e
    exact State.visitSlot_hub (fun _ => actRequest_hub _ _ _ _) s x
  | none =>
    cases c with
    | powerOnReset => obtain rfl := Host.Outcome.next.inj e; exact Hub.mainReset_inRange x
    | mainReset =>
      obtain rfl := Host.Outcome.next.inj e
      split
      · exact x
      · exact Hub.mainReset_inRange x
    | portReset =>
      obtain rfl := Host.Outcome.next.inj e
      exact State.whenUp_hub (fun _ y => State.mapHub_inRange (Hub.setRegisters_inRange _ (State.portLeave_hub y))) s x
    | registerWrite =>
      obtain rfl := Host.Outcome.next.inj e; exact State.whenUp_hub (fun _ => State.writeRegister_hub _ _) s x
    | runSet | runClear =>
      obtain rfl := Host.Outcome.next.inj e; exact State.whenUp_hub (fun _ => State.writeControl_hub _ _) s x
    | controlEnableWrite =>
      obtain rfl := Host.Outcome.next.inj e; exact State.whenUp_hub (fun _ y => State.mapHub_inRange (Hub.setRegisters_inRange _ y)) s x
    | causeClear => obtain rfl := Host.Outcome.next.inj e; exact State.whenUp_hub (fun _ y => State.mapHub_inRange (Hub.clearCause_inRange _ y)) s x
    | notifyPages => obtain rfl := Host.Outcome.next.inj e; exact State.whenUp_hub (fun _ => State.notify_hub _ _) s x
    | sealPeriodExpiry =>
      obtain rfl := Host.Outcome.next.inj e
      refine State.whenUp_hub (fun u y => ?_) s x
      rw [State.mapHub_hub]
      split
      · exact Hub.sealPage_inRange y
      · exact y
    | waitRereadExpiry =>
      obtain rfl := Host.Outcome.next.inj e
      refine State.whenUp_hub (fun u y => ?_) s x
      rw [State.mapHub_hub]
      split
      · exact Hub.rereadPage_inRange y
      · exact y
    | standbyShutdownStep =>
      obtain rfl := Host.Outcome.next.inj e; exact State.whenUp_hub (fun _ => State.shutdownStep_hub) s x
    | wakeDelayExpiry =>
      obtain rfl := Host.Outcome.next.inj e
      split
      · split
        · exact State.beginPulse_hub x
        · exact x
      · exact x
    | boardReadArrival =>
      obtain rfl := Host.Outcome.next.inj e
      exact State.whenUp_hub (State.onArrival_hub fun _ _ => State.boardRead_hub _ _) s x
    | tableReadArrival =>
      obtain rfl := Host.Outcome.next.inj e
      exact State.whenUp_hub (State.onArrival_hub fun _ _ u y =>
        (State.tableRead_work _ _ (List.Subset.refl _) (.refl _ u)).hubInRange y) s x
    | keymapReadArrival =>
      obtain rfl := Host.Outcome.next.inj e
      exact State.whenUp_hub (State.onArrival_hub fun _ _ u y =>
        (State.mapVoice_work (List.Subset.refl _) (fun _ _ q => Engine.keymapRead_reach _ _ q) (.refl _ u)).hubInRange y) s x
    | voiceReadArrival =>
      obtain rfl := Host.Outcome.next.inj e
      exact State.whenUp_hub (State.onArrival_hub fun _ _ u y =>
        (State.mapVoice_work (List.Subset.refl _) (fun _ _ q => Engine.voiceRead_reach _ _ q) (.refl _ u)).hubInRange y) s x
    | blockReadArrival =>
      obtain rfl := Host.Outcome.next.inj e
      refine State.whenUp_hub (State.onArrival_hub fun _ _ u y => ?_) s x
      split
      · exact (State.mapStage_work (List.Subset.refl _) (fun _ _ q => Stage.blockRead_reach _ _ _ q) (.refl _ u)).hubInRange y
      · exact y
    | listReadArrival =>
      obtain rfl := Host.Outcome.next.inj e
      exact State.whenUp_hub (State.onArrival_hub fun _ _ u y =>
        (State.mapRecorder_work (List.Subset.refl _) (fun _ _ q => Desk.listRead_reach _ _ q) (.refl _ u)).hubInRange y) s x
    | pageHeaderReadArrival =>
      obtain rfl := Host.Outcome.next.inj e
      exact State.whenUp_hub (State.onArrival_hub fun _ _ _ y => State.mapHub_inRange (Hub.pageHeaderRead_inRange _ y)) s x
    | headerReadArrival =>
      obtain rfl := Host.Outcome.next.inj e
      exact State.whenUp_hub (State.onArrival_hub fun _ _ _ => State.headerRead_hub _) s x
    | holdReadArrival =>
      obtain rfl := Host.Outcome.next.inj e
      exact State.whenUp_hub (State.onArrival_hub fun _ _ u y =>
        (State.holdRead_work _ (List.Subset.refl _) (.refl _ u)).hubInRange y) s x
    | readTimeout read =>
      obtain rfl := Host.Outcome.next.inj e
      refine State.whenUp_hub (fun u y => ?_) s x
      have timed := Hub.timedOut_inRange read y
      split
      · next heq => rw [heq] at timed; exact State.readFailed_hub _ _ timed
      · next heq => rw [heq] at timed; exact timed
    | _ =>
      first
        | exact (exec_work rfl e).hubInRange x
        | cases row

end Sys2Proof.Machine
end

section
/-! SUPPORT. The pending-start queue holds at most 8 entries (R73): only a note-on adds one, and only where there is room. -/

namespace Sys2Proof.Machine

/-- R73: a pending-start queue within its 8 entries. -/
structure StartsFit (queue : List PendingStart) : Prop where
  length : queue.length ≤ 8

/-- R73: the engine's pending-start queue is within its 8 entries. -/
def Engine.QueueFits (e : Engine) : Prop := StartsFit e.2.queue

theorem StartsFit.of_eq {q r : List PendingStart} (same : r = q) (x : StartsFit q) : StartsFit r := same ▸ x

/-- Entries taken out leave the queue within its bound. -/
theorem StartsFit.filter {q : List PendingStart} (p : PendingStart → Bool) (x : StartsFit q) : StartsFit (q.filter p) :=
  ⟨(List.length_filter_le p q).trans x.length⟩

theorem StartsFit.tail {p : PendingStart} {q : List PendingStart} (x : StartsFit (p :: q)) : StartsFit q :=
  ⟨(Nat.le_succ _).trans x.length⟩

theorem StartsFit.nil : StartsFit [] := ⟨Nat.zero_le _⟩

section Engine
variable {e : Engine}

theorem Engine.freeVoice_queue (k : Fin 96) (e : Engine) : (e.freeVoice k).2.queue = e.2.queue := by
  unfold Engine.freeVoice
  dsimp only
  split <;> rfl

theorem Engine.cutVoice_queue (k : Fin 96) (e : Engine) : (e.cutVoice k).2.queue = e.2.queue :=
  (e.cutVoice_get k k).2.2.1

theorem Engine.freeVoice_fits (k : Fin 96) (x : e.QueueFits) : (e.freeVoice k).QueueFits :=
  .of_eq (e.freeVoice_queue k) x

theorem Engine.cutVoice_fits (k : Fin 96) (x : e.QueueFits) : (e.cutVoice k).QueueFits :=
  .of_eq (e.cutVoice_queue k) x

theorem Engine.cutAll_queue (p : Voice → Bool) (e : Engine) : (e.cutAll p).2.queue = e.2.queue := by
  refine List.foldlRecOn (motive := fun u : Engine => u.2.queue = e.2.queue) _ _ rfl fun y q k _ => ?_
  split
  · exact (y.cutVoice_queue k).trans q
  · exact q

theorem Engine.cutAll_fits (p : Voice → Bool) (x : e.QueueFits) : (e.cutAll p).QueueFits := .of_eq (e.cutAll_queue p) x

theorem Engine.serveOne_fits (x : e.QueueFits) : e.serveOne.QueueFits := by
  unfold Engine.serveOne
  split
  · next queue _ =>
    rw [Engine.QueueFits, queue] at x
    dsimp only
    split
    · exact x.tail
    · split
      · exact x.tail
      · exact x.tail
  · exact x

theorem Engine.settleFor_fits (joined : Bool) (n : Nat) (x : e.QueueFits) : (e.settleFor joined n).QueueFits := by
  induction n generalizing e with
  | zero => exact x
  | succ n ih =>
    unfold Engine.settleFor
    split
    · exact x
    · split
      · exact ih (Engine.serveOne_fits x)
      · split
        · exact x
        · split
          · split
            · exact x
            · exact ih (Engine.cutVoice_fits _ x)
          · exact x

theorem Engine.settle_fits (joined : Bool) (x : e.QueueFits) : (e.settle joined).QueueFits :=
  Engine.settleFor_fits joined 256 x

theorem Engine.release_fits (k : Fin 96) (x : e.QueueFits) : (e.release k).QueueFits :=
  Engine.settle_fits false (Engine.freeVoice_fits k x)

theorem Engine.supersede_fits (key : Fin 88) (source : Source) (x : e.QueueFits) : (e.supersede key source).QueueFits := by
  unfold Engine.supersede
  refine Engine.settle_fits _ (Engine.cutAll_fits _ ?_)
  exact List.foldlRecOn (motive := Engine.QueueFits) _ _ (x.filter _) fun _ q k _ => Engine.release_fits k q

/-- R72, R73: an entry joins a queue that has room for it. -/
theorem Engine.join_fits (p : PendingStart) (room : ¬ Config.pendingDepth ≤ e.2.queue.length) :
    Engine.QueueFits (Engine.settle true (e.1, { e.2 with queue := e.2.queue ++ [p] })) := by
  refine Engine.settle_fits true ?_
  have few : e.2.queue.length < 8 := Nat.not_le.mp room
  exact ⟨by simp only [List.length_append, List.length_singleton]; omega⟩

theorem Engine.noteOn_fits (key : Fin 88) (source : Source) (velocity : Nat) (x : e.QueueFits) :
    (e.noteOn key source velocity).QueueFits := by
  unfold Engine.noteOn
  split
  · exact x
  · dsimp only
    have y := Engine.supersede_fits key source x
    generalize e.supersede key source = e1 at y
    split
    · split
      · exact y
      · split
        · exact y
        · next room => exact Engine.join_fits _ room
    · split
      · exact y
      · next room => exact Engine.join_fits _ room

theorem Engine.cutExcess_fits (n : Nat) (x : e.QueueFits) : (e.cutExcess n).QueueFits := by
  induction n generalizing e with
  | zero => exact x
  | succ n ih =>
    unfold Engine.cutExcess
    split
    · exact x
    · exact ih (Engine.cutVoice_fits _ x)

theorem Engine.setTarget_fits (target : Nat) (x : e.QueueFits) : (e.setTarget target).QueueFits := by
  unfold Engine.setTarget
  dsimp only
  split
  · exact Engine.settle_fits false x
  · exact Engine.settle_fits false (Engine.cutExcess_fits _ x)

theorem Engine.configure_fits (a : List Byte) (x : e.QueueFits) : (e.configure a).QueueFits := by
  unfold Engine.configure
  split
  · exact Engine.setTarget_fits _ x
  · exact x

theorem Engine.cutSources_fits (mask : Nat) (x : e.QueueFits) : (e.cutSources mask).QueueFits :=
  Engine.settle_fits false (Engine.cutAll_fits _ (x.filter _))

/-- R84: a detach empties the queue. -/
theorem Engine.detach_queue (e : Engine) : e.detach.2.queue = [] := by
  unfold Engine.detach VoiceEngine.eachVoice
  dsimp only
  rw [Engine.cutAll_queue]

theorem Engine.underrun_fits (k : Fin 96) (x : e.QueueFits) : (e.underrun k).QueueFits := by
  unfold Engine.underrun
  dsimp only
  split
  · exact Engine.release_fits k x
  · exact Engine.release_fits k x

theorem Engine.refill_fits (k : Fin 96) (x : e.QueueFits) : (e.refill k).QueueFits := by
  unfold Engine.refill
  dsimp only
  split <;> exact x

theorem Engine.advance_fits (k : Fin 96) (x : e.QueueFits) : (e.advance k).QueueFits := by
  unfold Engine.advance
  dsimp only
  split
  · split
    · exact x
    · exact Engine.release_fits k x
  · split
    · exact Engine.release_fits k x
    · split
      · exact x
      · split
        · exact Engine.refill_fits k x
        · exact Engine.underrun_fits k x

theorem Engine.endFade_fits (k : Fin 96) (x : e.QueueFits) : (e.endFade k).QueueFits := by
  unfold Engine.endFade
  split
  · exact Engine.release_fits k x
  · exact x

theorem Engine.endFades_fits (n : Nat) (x : e.QueueFits) : (e.endFades n).QueueFits := by
  induction n generalizing e with
  | zero => exact x
  | succ n ih =>
    unfold Engine.endFades
    split
    · exact x
    · exact ih (Engine.release_fits _ x)

theorem Engine.period_fits (x : e.QueueFits) : e.period.1.QueueFits := by
  unfold Engine.period
  refine List.foldlRecOn (motive := fun p : Engine × Int => p.1.QueueFits) _ _ (Engine.endFades_fits 96 x) fun p q k _ => ?_
  unfold Engine.playVoice
  dsimp only
  split
  · exact Engine.advance_fits k q
  · exact q

theorem Engine.voiceRead_fits (tag : ReadTag) (bytes : Option (List Byte)) (x : e.QueueFits) :
    (e.voiceRead tag bytes).QueueFits := by
  unfold Engine.voiceRead
  split
  · dsimp only
    split
    · split
      · exact Engine.release_fits _ x
      · exact x
      · exact x
      · exact x
    · exact x
  · exact x

theorem Engine.keymapRead_queue (tag : ReadTag) (bytes : Option (List Byte)) (e : Engine) :
    (e.keymapRead tag bytes).2.queue = e.2.queue := by
  unfold Engine.keymapRead
  split
  · split
    · rfl
    · dsimp only
      split
      · rfl
      · unfold Engine.applyKeymap
        split <;> rfl
  · rfl

theorem Engine.keymapRead_fits (tag : ReadTag) (bytes : Option (List Byte)) (x : e.QueueFits) :
    (e.keymapRead tag bytes).QueueFits := .of_eq (e.keymapRead_queue tag bytes) x

end Engine

@[simp] theorem VoiceEngine.setDamper_queue (source : Source) (level : Nat) (ve : VoiceEngine) :
    (ve.setDamper source level).queue = ve.queue := by cases source <;> rfl

@[simp] theorem VoiceEngine.setCapture_queue (keys : List (Fin 88)) (ve : VoiceEngine) :
    (ve.setCapture keys).queue = ve.queue := by unfold VoiceEngine.setCapture VoiceEngine.eachVoice; rfl

theorem VoiceEngine.noteOff_fits {ve : VoiceEngine} (key : Fin 88) (source : Source) (x : StartsFit ve.queue) :
    StartsFit (ve.noteOff key source).queue := by
  unfold VoiceEngine.noteOff
  exact x.filter _

@[simp] theorem VoiceEngine.setSoft_queue (source : Source) (pressed : Bool) (ve : VoiceEngine) :
    (ve.setSoft source pressed).queue = ve.queue := by cases source <;> rfl

end Sys2Proof.Machine
end

section
/-! SUPPORT. The player's sets and lists stay within Table 7-1: one lemma per operation of the player. -/

namespace Sys2Proof.Machine

/-- Keys without repeats are at most 88. -/
theorem nodup_keys_length {l : List (Fin 88)} (once : l.Nodup) : l.length ≤ 88 := by
  simpa using List.Nodup.length_le_card once

/-! ### The player record -/

/-- The bounded sets and lists of the player record (Table 7-1). -/
structure Player.Sets where
  openKeys : List (Fin 88 × Nat)
  expected : List (Fin 88)
  struck : List (Fin 88)
  strikes : List Strike

def Player.sets (q : Player) : Player.Sets :=
  { openKeys := q.openKeys, expected := q.expected, struck := q.struck, strikes := q.strikes }

theorem PlayerInRange.of_sets {q r : Player} (same : r.sets = q.sets) (x : PlayerInRange q) : PlayerInRange r := by
  obtain ⟨openKeys, expected, struck, strikes⟩ := Player.Sets.mk.inj same
  exact ⟨openKeys ▸ x.openKeys, by rw [expected, struck]; exact x.expected, strikes ▸ x.strikes⟩

/-- R141, R147: nothing is expected any more, and none, some or all of the open keys have gone. -/
theorem PlayerInRange.emptied {q r : Player} (x : PlayerInRange q) (openKeys : r.openKeys.Sublist q.openKeys)
    (expected : r.expected = []) (struck : r.struck = []) (strikes : r.strikes = q.strikes) : PlayerInRange r where
  openKeys := ⟨x.openKeys.1.sublist (openKeys.map _), openKeys.length_le.trans x.openKeys.2⟩
  expected := by rw [expected, struck]; exact ⟨List.nodup_nil, Nat.zero_le _⟩
  strikes := strikes ▸ x.strikes

/-- R135: open keys are released. -/
theorem PlayerInRange.release {q r : Player} (x : PlayerInRange q) (openKeys : r.openKeys.Sublist q.openKeys)
    (expected : r.expected = q.expected) (struck : r.struck = q.struck) (strikes : r.strikes = q.strikes) : PlayerInRange r where
  openKeys := ⟨x.openKeys.1.sublist (openKeys.map _), openKeys.length_le.trans x.openKeys.2⟩
  expected := by rw [expected, struck]; exact x.expected
  strikes := strikes ▸ x.strikes

/-- R134: a key opens, in place of its last opening. -/
theorem PlayerInRange.open_ {q : Player} (key : Fin 88) (part : Nat) (x : PlayerInRange q) :
    PlayerInRange { q with openKeys := q.openKeys.filter (fun o => o.1 ≠ key) ++ [(key, part)] } where
  openKeys := by
    have rest : ((q.openKeys.filter fun o => o.1 ≠ key).map Prod.fst).Nodup :=
      x.openKeys.1.sublist (List.filter_sublist.map _)
    have once : ((q.openKeys.filter (fun o => o.1 ≠ key) ++ [(key, part)]).map Prod.fst).Nodup := by
      rw [List.map_append]
      refine rest.append (List.nodup_singleton _) fun k old new => ?_
      obtain ⟨o, kept, rfl⟩ := List.mem_map.mp old
      exact of_decide_eq_true (List.mem_filter.mp kept).2 (by simpa using new)
    exact ⟨once, by simpa using nodup_keys_length once⟩
  expected := x.expected
  strikes := x.strikes

/-- R139: an expected key that is struck moves to the struck set. -/
theorem expected_struck_length {key : Fin 88} {expected struck : List (Fin 88)} (hit : key ∈ expected)
    (room : expected.length + struck.length ≤ 16) :
    (expected.filter fun k => k ≠ key).length + (struck ++ [key]).length ≤ 16 := by
  have fewer : (expected.filter fun k => k ≠ key).length < expected.length :=
    List.length_filter_lt_length_iff_exists.mpr ⟨key, hit, by simp⟩
  rw [List.length_append, List.length_singleton]
  omega

/-- R138: the sixteen latest strikes are kept. -/
theorem latest_strikes_length (l : List Strike) (strike : Strike) : ((l ++ [strike]).drop (l.length + 1 - 16)).length ≤ 16 := by
  simp only [List.length_drop, List.length_append, List.length_singleton]
  omega

/-- R139: a wait's expected keys are without repeats, and at most 16 with the keys already struck. -/
theorem Player.guideKeys_bounds (without : List (Fin 88)) (g : Group) (q : Player) :
    (q.guideKeys without g).Nodup ∧ (q.guideKeys without g).length ≤ 16 - without.length := by
  refine ⟨List.Nodup.sublist (List.take_sublist _ _) ?_, List.length_take_le _ _⟩
  refine List.foldlRecOn (motive := List.Nodup) _ _ List.nodup_nil fun keys once ge _ => ?_
  dsimp only
  split
  · split
    · next new =>
      simp only [Bool.and_eq_true, Bool.not_eq_true', List.contains_eq_mem, decide_eq_false_iff_not] at new
      exact once.append (List.nodup_singleton _) (by simpa using new.1.2)
    · exact once
  · exact once

/-- R139 step 3: one strike of the list is counted, or kept. -/
def Player.countStrike (window : Nat) (q : Player) (strike : Strike) : Player :=
  if !strike.used && q.expected.contains strike.key && (q.waitStart - strike.stamp).toNat ≤ window then
    { q with
      expected := q.expected.filter fun k => k ≠ strike.key, struck := q.struck ++ [strike.key]
      strikes := q.strikes ++ [{ strike with used := true }] }
  else { q with strikes := q.strikes ++ [strike] }

theorem Player.countStrikes_eq (window : Nat) (q : Player) :
    q.countStrikes window = q.strikes.foldl (Player.countStrike window) { q with strikes := [] } := rfl

/-- Each strike counted puts one strike back, and leaves the rest in range. -/
theorem Player.countStrike_inRange (window : Nat) {q : Player} (strike : Strike) (x : PlayerInRange q)
    (room : q.strikes.length < 16) : PlayerInRange (q.countStrike window strike) ∧
      (q.countStrike window strike).strikes.length = q.strikes.length + 1 := by
  unfold Player.countStrike
  split
  · next counted =>
    have hit : strike.key ∈ q.expected := by
      simp only [Bool.and_eq_true, List.contains_eq_mem, decide_eq_true_eq] at counted
      exact counted.1.2
    exact ⟨⟨x.openKeys, ⟨x.expected.1.filter _, expected_struck_length hit x.expected.2⟩, by simpa using room⟩, by simp⟩
  · exact ⟨⟨x.openKeys, x.expected, by simpa using room⟩, by simp⟩

theorem Player.countStrikes_inRange (window : Nat) {q : Player} (x : PlayerInRange q) : PlayerInRange (q.countStrikes window) := by
  have fold (l : List Strike) (r : Player) (y : PlayerInRange r) (room : r.strikes.length + l.length ≤ 16) :
      PlayerInRange (l.foldl (Player.countStrike window) r) := by
    induction l generalizing r with
    | nil => exact y
    | cons strike l ih =>
      rw [List.length_cons] at room
      obtain ⟨z, count⟩ := Player.countStrike_inRange window strike y (by omega)
      exact ih _ z (by omega)
  rw [Player.countStrikes_eq]
  exact fold q.strikes _ ⟨x.openKeys, x.expected, Nat.zero_le _⟩ (by simpa using x.strikes)

end Sys2Proof.Machine
end

section
/-! SUPPORT. The player's operations leave the pending-start queue and the player's sets within their bounds (R73; Table 7-1): one
lemma per operation. -/

namespace Sys2Proof.Machine

/-- The pending-start queue and the player's sets are within their bounds. -/
structure Stage.Fits (p : Stage) : Prop where
  queue : StartsFit p.voice.queue
  player : PlayerInRange p.player

section Stage
variable {p t : Stage}

/-- What changes neither the queue nor the sets. -/
theorem Stage.Fits.edit (x : p.Fits) (queue : t.voice.queue = p.voice.queue) (sets : t.player.sets = p.player.sets) : t.Fits :=
  ⟨queue ▸ x.queue, x.player.of_sets sets⟩

theorem Stage.onPlayer_fits {f : Player → Player} (same : ∀ q, (f q).sets = q.sets) (x : p.Fits) : (p.onPlayer f).Fits :=
  x.edit rfl (same p.player)

theorem Stage.report_fits (d n i : Nat) (x : p.Fits) : (p.report d n i).Fits := x.edit rfl rfl

theorem Stage.reportNote_same (kind : RecordKind) (k v n : Nat) (f : Bool) (p : Stage) :
    (p.reportNote kind k v n f).voice = p.voice ∧ (p.reportNote kind k v n f).player = p.player := by
  unfold Stage.reportNote
  split
  · split <;> exact ⟨rfl, rfl⟩
  · exact ⟨rfl, rfl⟩

theorem Stage.reportNote_fits (kind : RecordKind) (k v n : Nat) (f : Bool) (x : p.Fits) : (p.reportNote kind k v n f).Fits := by
  obtain ⟨voice, player⟩ := p.reportNote_same kind k v n f
  exact x.edit (by rw [voice]) (by rw [player])

theorem Stage.completePending_fits (c : ResultCode) (x : p.Fits) : (p.completePending c).Fits := x.edit rfl rfl

theorem Stage.emptyBuffer_fits (b : Fin 2) (x : p.Fits) : (p.emptyBuffer b).Fits := x.edit rfl rfl

theorem Stage.emptyBuffers_fits (x : p.Fits) : p.emptyBuffers.Fits := Stage.emptyBuffer_fits 1 (Stage.emptyBuffer_fits 0 x)

theorem Stage.readBlock_fits (b : Fin 2) (address : Word64) (index : Nat) (next : Bool) (x : p.Fits) :
    (p.readBlock b address index next).Fits := by
  unfold Stage.readBlock
  dsimp only
  exact x.edit rfl rfl

theorem Stage.readAhead_fits (x : p.Fits) : p.readAhead.Fits := by
  unfold Stage.readAhead
  split
  · dsimp only
    split
    · exact Stage.readBlock_fits _ _ _ _ (Stage.emptyBuffer_fits _ x)
    · exact x
  · exact x

theorem Stage.dropReadAhead_fits (x : p.Fits) : p.dropReadAhead.Fits := by
  unfold Stage.dropReadAhead
  dsimp only
  split
  · exact Stage.emptyBuffer_fits _ x
  · exact x

theorem Stage.enterBlock_fits (x : p.Fits) : p.enterBlock.Fits := by
  unfold Stage.enterBlock
  split
  · exact x
  · dsimp only
    split
    · split
      · exact x
      · exact Stage.readAhead_fits (Stage.emptyBuffer_fits _ x)
    · exact Stage.readBlock_fits _ _ _ _ (Stage.emptyBuffer_fits _ x)

theorem Stage.advanceBlock_fits (x : p.Fits) : p.advanceBlock.Fits := Stage.enterBlock_fits (x.edit rfl rfl)

theorem Stage.releaseOpen_fits (which : Nat → Bool) (x : p.Fits) : (p.releaseOpen which).Fits := by
  unfold Stage.releaseOpen
  dsimp only
  have y : ((List.finRange 88).foldl (fun (p' : Stage) k =>
      match (p.player.openKeys.filter fun o => which o.2).find? fun o => o.1 == k with
      | some o => Stage.reportNote .playNoteOff k.val 64 o.2 true { p' with voice := p'.voice.noteOff k .playback }
      | none => p') p).Fits := by
    refine List.foldlRecOn (motive := Stage.Fits) _ _ x fun u y k _ => ?_
    split
    · exact Stage.reportNote_fits _ _ _ _ _ ⟨y.queue.filter _, y.player⟩
    · exact y
  exact ⟨y.queue, y.player.release List.filter_sublist rfl rfl rfl⟩

theorem Stage.releaseAll_fits (x : p.Fits) : p.releaseAll.Fits := Stage.releaseOpen_fits _ x

theorem Stage.handPedals_fits (pedals : PlaybackPedals) (x : p.Fits) : (p.handPedals pedals).Fits :=
  x.edit (by simp [Stage.handPedals]) rfl

theorem Stage.restart_fits (position : Word32) (tempo : Nat) (first : Bool) (x : p.Fits) : (p.restart position tempo first).Fits :=
  x.edit rfl rfl

theorem Stage.clearTake_fits (x : p.Fits) : p.clearTake.Fits := by
  have y := Stage.emptyBuffers_fits x
  exact ⟨y.queue, y.player.emptied (List.Sublist.refl _) rfl rfl rfl⟩

/-- R147, R149, R154: the take ends. -/
theorem Stage.endTake_fits (x : p.Fits) : ((p.releaseAll.handPedals .zero).clearTake).Fits :=
  Stage.clearTake_fits (Stage.handPedals_fits _ (Stage.releaseAll_fits x))

theorem Stage.fault_fits (format : Bool) (x : p.Fits) : (p.fault format).Fits :=
  (Stage.report_fits 9 (flagBit format) 0 (Stage.completePending_fits (if format then .invalid else .failed)
    (Stage.endTake_fits x))).edit rfl rfl

theorem Stage.stop_fits (x : p.Fits) : p.stop.Fits := by
  unfold Stage.stop
  split
  · exact (Stage.report_fits 1 1 0 (Stage.completePending_fits .aborted (Stage.endTake_fits x))).edit rfl rfl
  · exact x.edit rfl rfl

theorem Stage.detach_fits (x : p.Fits) : p.detach.Fits := (Stage.endTake_fits x).edit rfl rfl

theorem Stage.setTake_fits (take : TakeRecord) (slot : Option (Fin 32)) (chained : Bool) (x : p.Fits) :
    (p.setTake take slot chained).Fits :=
  ⟨x.queue, x.player.emptied (List.nil_sublist _) rfl rfl rfl⟩

theorem Stage.readFirst_fits (x : p.Fits) : p.readFirst.Fits := by
  unfold Stage.readFirst
  split
  · exact x
  · exact Stage.readBlock_fits _ _ _ _ ((Stage.emptyBuffers_fits x).edit rfl rfl)

theorem Stage.startTake_fits (take : TakeRecord) (slot : Option (Fin 32)) (x : p.Fits) : (p.startTake take slot).Fits :=
  Stage.readFirst_fits (Stage.setTake_fits _ _ _ x)

theorem Stage.rewind_fits (x : p.Fits) : p.rewind.Fits := (Stage.handPedals_fits .zero x).edit rfl rfl

theorem Stage.scanMissed_fits (x : p.Fits) : p.scanMissed.Fits := by
  unfold Stage.scanMissed
  dsimp only
  have y := Stage.completePending_fits .notFound (Stage.readFirst_fits ((Stage.rewind_fits x).edit
    (t := p.rewind.onPlayer fun q => { q with state := .paused, scan := none }) rfl rfl))
  split
  · exact y
  · split
    · exact Stage.report_fits _ _ _ y
    · exact Stage.report_fits _ _ _ y

theorem Stage.scanFound_fits (x : p.Fits) : p.scanFound.Fits := by
  unfold Stage.scanFound
  dsimp only
  have y := Stage.handPedals_fits p.player.pedals x
  split
  · exact Stage.completePending_fits _ (y.edit rfl rfl)
  · split
    · exact Stage.completePending_fits _ (y.edit rfl rfl)
    · exact Stage.report_fits _ _ _ (Stage.completePending_fits _ (y.edit rfl rfl))

theorem Player.markAnchor_sets (marker : Nat) (q : Player) : (q.markAnchor marker).sets = q.sets := by
  unfold Player.markAnchor
  split
  · split <;> rfl
  · rfl

theorem Player.scanEvent_sets (e : ScoreEvent) (q : Player) : (q.scanEvent e).sets = q.sets := by
  unfold Player.scanEvent
  dsimp only
  split
  · split <;> rfl
  · split
    · rfl
    · split
      · rw [Player.markAnchor_sets]; rfl
      · rfl

theorem Stage.scanRun_fits (n : Nat) (x : p.Fits) : (p.scanRun n).Fits := by
  induction n generalizing p with
  | zero => exact x
  | succ n ih =>
    unfold Stage.scanRun
    split
    · split
      · next event _ =>
        have passed : (p.onPlayer (Player.scanEvent event)).Fits := x.edit rfl (Player.scanEvent_sets _ _)
        split
        · exact Stage.fault_fits _ x
        · dsimp only
          split
          · exact Stage.scanMissed_fits passed
          · split
            · exact Stage.scanFound_fits passed
            · exact ih passed
      · split
        · exact Stage.scanMissed_fits x
        · split
          · exact ih (Stage.advanceBlock_fits x)
          · exact x
    · exact x

theorem Stage.beginTake_fits (block : ScoreBlock) (x : p.Fits) : (p.beginTake block).Fits := by
  unfold Stage.beginTake
  dsimp only
  have y : ((p.onPlayer fun q => { q with headerTempo := block.tempo, followTempo := clampTempo block.tempo }).handPedals
    .zero).Fits := Stage.handPedals_fits _ (x.edit rfl rfl)
  split
  · split
    · exact Stage.completePending_fits _ (y.edit rfl rfl)
    · exact Stage.report_fits _ _ _ (Stage.completePending_fits _ (y.edit rfl rfl))
  · exact Stage.scanRun_fits _ (y.edit rfl rfl)

theorem Stage.beginNext_fits (next : TakeRecord) (x : p.Fits) : (p.beginNext next).Fits := by
  unfold Stage.beginNext
  dsimp only
  have y : (((p.setTake next none true).onPlayer fun q => { q with next := none }).report 7 0 0).Fits :=
    (Stage.setTake_fits next none true x).edit rfl rfl
  split
  · exact Stage.beginTake_fits _ (Stage.enterBlock_fits (y.edit rfl rfl))
  · exact Stage.readFirst_fits y

theorem Stage.naturalEnd_fits (x : p.Fits) : p.naturalEnd.Fits := by
  unfold Stage.naturalEnd
  dsimp only
  have y : ((p.releaseAll.handPedals .zero).report 1 0 0).Fits :=
    Stage.report_fits _ _ _ (Stage.handPedals_fits _ (Stage.releaseAll_fits x))
  split
  · split
    · exact Stage.beginNext_fits _ y
    · exact y.edit rfl rfl
  · exact y.edit rfl rfl

theorem Stage.beginSettled_fits (x : p.Fits) : p.beginSettled.Fits := by
  unfold Stage.beginSettled
  split
  · split
    · exact Stage.beginNext_fits _ x
    · exact x
  · exact x

theorem Stage.loopJump_fits (marker : Nat) (anchor : LoopAnchor) (x : p.Fits) : (p.loopJump marker anchor).Fits := by
  have y := Stage.emptyBuffers_fits (Stage.handPedals_fits anchor.pedals (Stage.releaseAll_fits x))
  unfold Stage.loopJump
  dsimp only
  generalize (p.releaseAll.handPedals anchor.pedals).emptyBuffers = u at y
  exact Stage.onPlayer_fits (fun _ => rfl) (Stage.report_fits _ _ _ (Stage.readBlock_fits _ _ _ _
    (Stage.onPlayer_fits (fun _ => rfl) y)))

theorem Stage.dispatchMark_fits (marker : Nat) (x : p.Fits) : (p.dispatchMark marker).Fits := by
  unfold Stage.dispatchMark
  dsimp only
  have y : ((p.report 2 marker 0).onPlayer (Player.markAnchor marker)).Fits := x.edit rfl (Player.markAnchor_sets _ _)
  split
  · split
    · exact Stage.loopJump_fits _ _ y
    · exact y
  · exact y

theorem Stage.dispatchNoteOn_fits (key : Fin 88) (velocity part : Nat) (x : p.Fits) :
    (p.dispatchNoteOn key velocity part).Fits := by
  unfold Stage.dispatchNoteOn
  dsimp only
  have y := Stage.reportNote_fits .playNoteOn key.val velocity part false x
  generalize p.reportNote .playNoteOn key.val velocity part false = u at y
  split
  · exact ⟨Engine.noteOn_fits (e := (u.hub, u.voice)) key .playback velocity y.queue, y.player.open_ key part⟩
  · exact y

theorem Stage.dispatchNoteOff_fits (key : Fin 88) (value part : Nat) (x : p.Fits) : (p.dispatchNoteOff key value part).Fits := by
  unfold Stage.dispatchNoteOff
  dsimp only
  have y := Stage.reportNote_fits .playNoteOff key.val value part false x
  generalize p.reportNote .playNoteOff key.val value part false = u at y
  split
  · exact ⟨y.queue.filter _, y.player.release List.filter_sublist rfl rfl rfl⟩
  · exact y

theorem Stage.dispatchPedal_fits (pedal level part : Nat) (x : p.Fits) : (p.dispatchPedal pedal level part).Fits := by
  unfold Stage.dispatchPedal
  dsimp only
  split
  · exact Stage.handPedals_fits _ (x.edit rfl rfl)
  · exact x.edit rfl rfl

theorem Stage.dispatchEvent_fits (time : Word32) (g : GroupEvent) (x : p.Fits) : (p.dispatchEvent time g).Fits := by
  unfold Stage.dispatchEvent
  extract_lets p0 p1 e
  have y0 : p0.Fits := by
    unfold p0
    split
    · exact x
    · exact Stage.advanceBlock_fits x
  have y : p1.Fits := y0.edit rfl rfl
  clear_value p1
  split
  · split
    · exact Stage.dispatchNoteOn_fits _ _ _ y
    · exact y
  · split
    · exact Stage.dispatchNoteOff_fits _ _ _ y
    · exact y
  · exact Stage.dispatchPedal_fits _ _ _ y
  · exact Stage.restart_fits _ _ _ (y.edit rfl rfl)
  · exact Stage.dispatchMark_fits _ y
  · exact Stage.naturalEnd_fits y
  · exact y

theorem Stage.dispatchGroup_fits (time : Word32) (l : List GroupEvent) (x : p.Fits) : (p.dispatchGroup time l).Fits := by
  induction l generalizing p with
  | nil => exact x
  | cons g l ih =>
    unfold Stage.dispatchGroup
    dsimp only
    split
    · exact Stage.dispatchEvent_fits _ _ x
    · exact ih (Stage.dispatchEvent_fits _ _ x)

theorem Stage.endWait_fits (x : p.Fits) : p.endWait.Fits := by
  have ended : (p.onPlayer fun q => { q with state := .playing, expected := [], struck := [], held := none }).Fits :=
    ⟨x.queue, x.player.emptied (List.Sublist.refl _) rfl rfl rfl⟩
  unfold Stage.endWait
  dsimp only
  split
  · exact Stage.dispatchGroup_fits _ _ ended
  · exact ended

theorem Stage.beginWait_fits (g : Group) (x : p.Fits) : (p.beginWait g).Fits := by
  unfold Stage.beginWait
  extract_lets window p1
  have y : p1.Fits := by
    obtain ⟨once, few⟩ := p.player.guideKeys_bounds [] g
    refine ⟨x.queue, Player.countStrikes_inRange window ⟨x.player.openKeys, ⟨once, ?_⟩, x.player.strikes⟩⟩
    simpa using few
  clear_value p1
  split
  · exact Stage.endWait_fits y
  · exact Stage.report_fits _ _ _ y

theorem Stage.takeGroup_fits (g : Group) (x : p.Fits) : (p.takeGroup g).Fits := by
  unfold Stage.takeGroup
  extract_lets follow
  split
  · exact Stage.fault_fits _ x
  · split
    · exact Stage.beginWait_fits _ x
    · exact Stage.dispatchGroup_fits _ _ x

theorem Stage.playRun_fits (n : Nat) (x : p.Fits) : (p.playRun n).Fits := by
  induction n generalizing p with
  | zero => exact x
  | succ n ih =>
    unfold Stage.playRun
    split
    · exact x
    · split
      · exact x.edit rfl rfl
      · exact ih (Stage.naturalEnd_fits x)
      · exact ih (Stage.advanceBlock_fits x)
      · exact x.edit rfl rfl
      · split
        · split
          · exact ih (Stage.takeGroup_fits _ x)
          · exact x.edit rfl rfl
        · exact x

theorem Stage.play_fits (x : p.Fits) : p.play.Fits := Stage.playRun_fits _ x

theorem Stage.blockValid_fits (b : Fin 2) (block : ScoreBlock) (x : p.Fits) : (p.blockValid b block).Fits := by
  unfold Stage.blockValid
  extract_lets c p1 p2
  have y : p1.Fits := by
    unfold p1
    split
    · exact Stage.enterBlock_fits x
    · exact x
  split
  · split
    · exact Stage.play_fits (Stage.scanRun_fits _ y)
    · split
      · exact Stage.play_fits (Stage.beginTake_fits _ y)
      · exact y
  · exact Stage.play_fits (Stage.scanRun_fits _ y)
  · have z : p2.Fits := by
      unfold p2
      split
      · exact Stage.restart_fits _ _ _ y
      · exact y
    exact Stage.play_fits (z.edit rfl rfl)
  · split
    · exact y.edit rfl rfl
    · exact y
  · exact Stage.play_fits y
  · exact y

theorem Stage.blockRead_fits (b : Fin 2) (n : Nat) (bytes : Option (List Byte)) (x : p.Fits) : (p.blockRead b n bytes).Fits := by
  unfold Stage.blockRead
  extract_lets buffer takeId reject
  have y : ∀ f, (reject f).Fits := fun f => by
    unfold reject
    split
    · exact Stage.emptyBuffer_fits _ x
    · split
      · exact Stage.fault_fits _ x
      · exact x
  clear_value reject
  split
  · exact x
  · split
    · exact y _
    · extract_lets chunks
      split
      · exact x.edit rfl rfl
      · extract_lets block p1
        split
        · split
          · exact x.edit rfl rfl
          · exact Stage.blockValid_fits _ _ (x.edit rfl rfl)
        · exact y _

theorem Stage.liveStrike_fits (key : Fin 88) (x : p.Fits) : (p.liveStrike key).Fits := by
  unfold Stage.liveStrike
  extract_lets waiting hit strike p1
  have y : p1.Fits := by
    refine ⟨x.queue, x.player.openKeys, ?_, latest_strikes_length _ _⟩
    by_cases struck : hit = true
    · have among : key ∈ p.player.expected := by
        simp only [hit, Bool.and_eq_true, List.contains_eq_mem, decide_eq_true_eq] at struck
        exact struck.2
      simp only [p1, Stage.onPlayer, struck, if_true]
      exact ⟨x.player.expected.1.filter _, expected_struck_length among x.player.expected.2⟩
    · simp only [p1, Stage.onPlayer, struck]
      exact x.player.expected
  clear_value p1
  split
  · exact Stage.play_fits (Stage.endWait_fits (Stage.report_fits _ _ _ y))
  · exact y

theorem Stage.skipWait_fits (x : p.Fits) : p.skipWait.Fits := Stage.play_fits (Stage.endWait_fits (Stage.report_fits _ _ _ x))

theorem Stage.pause_fits (x : p.Fits) : p.pause.Fits := by
  have y := Stage.releaseAll_fits x
  exact ⟨y.queue, y.player.emptied (List.Sublist.refl _) rfl rfl rfl⟩

theorem Stage.resume_fits (x : p.Fits) : p.resume.Fits := by
  unfold Stage.resume
  split
  · exact Stage.play_fits (Stage.beginWait_fits _ x)
  · split
    · have y : (if p.player.restartOwed then p.restart p.player.lastTime p.player.followTempo false else p).Fits := by
        split
        · exact Stage.restart_fits _ _ _ x
        · exact x
      exact Stage.play_fits (y.edit rfl rfl)
    · exact x.edit rfl rfl

theorem Stage.toggle_fits (x : p.Fits) : p.toggle.Fits := by
  unfold Stage.toggle
  extract_lets p1
  have y : p1.Fits := by
    unfold p1
    split
    · exact Stage.resume_fits x
    · exact x.edit rfl rfl
    · exact Stage.pause_fits x
  exact y.edit rfl rfl

theorem Stage.setParts_fits (parts : Vector PartMode 4) (x : p.Fits) : (p.setParts parts).Fits := by
  unfold Stage.setParts
  extract_lets leaving p1 p2
  have y1 : p1.Fits := (Stage.releaseOpen_fits leaving x).edit rfl rfl
  have y : p2.Fits := by
    unfold p2
    split
    · exact Stage.handPedals_fits _ y1
    · exact y1
  clear_value p2
  split
  · next g _ _ =>
    have z : (p2.onPlayer fun q => { q with expected := q.guideKeys q.struck g }).Fits := by
      obtain ⟨once, few⟩ := p2.player.guideKeys_bounds p2.player.struck g
      refine ⟨y.queue, y.player.openKeys, ⟨once, ?_⟩, y.player.strikes⟩
      have room := y.player.expected.2
      simp only [Stage.onPlayer]
      omega
    dsimp only
    split
    · exact Stage.play_fits (Stage.endWait_fits (Stage.report_fits _ _ _ z))
    · exact z
  · exact y

theorem Stage.seek_fits (slot : Fin 32) (marker : Nat) (x : p.Fits) : (p.seek slot marker).Fits := by
  have y := Stage.releaseAll_fits x
  unfold Stage.seek
  dsimp only
  exact Stage.rewind_fits (Stage.readFirst_fits ⟨y.queue, y.player.emptied (List.Sublist.refl _) rfl rfl rfl⟩)

theorem Stage.answer_fits (slot : Fin 32) (x : p.Fits) : (p.answer slot).Fits := x.edit rfl rfl

end Stage

end Sys2Proof.Machine
end

section
/-! SUPPORT. The recorder's buffer, list and counts stay within Table 8-1: one lemma per operation of the recorder. -/

namespace Sys2Proof.Machine

/-- The fields of the recorder record that are bounded. -/
structure Recorder.Counts where
  state : RecorderState
  blockCount : Nat
  list : List Word64
  listRead : Bool
  currentBlock : Nat
  buffer : List ScoreEvent
  openKeys : List (Fin 88)
  blocksUsed : Nat

def Recorder.counts (r : Recorder) : Recorder.Counts :=
  { state := r.state, blockCount := r.blockCount, list := r.list, listRead := r.listRead, currentBlock := r.currentBlock
    buffer := r.buffer, openKeys := r.openKeys, blocksUsed := r.blocksUsed }

theorem RecorderInRange.of_counts {q r : Recorder} (same : r.counts = q.counts) (x : RecorderInRange q) : RecorderInRange r := by
  obtain ⟨state, blockCount, list, listRead, currentBlock, buffer, openKeys, blocksUsed⟩ := Recorder.Counts.mk.inj same
  have running : r.running = q.running := by simp [Recorder.running, state]
  exact ⟨openKeys ▸ x.openKeys, buffer ▸ x.buffer, by rw [blockCount, list, blocksUsed]; exact x.blocks,
    by rw [state, blockCount, listRead, list]; exact x.armed,
    by rw [running, currentBlock, list, blocksUsed, buffer]; exact x.running⟩

/-- A recorder without a take open keeps its old buffer and counts. -/
theorem RecorderInRange.closed {r : Recorder} (openKeys : r.openKeys.Nodup) (buffer : r.buffer.length ≤ 508)
    (blocks : r.blockCount ≤ 64 ∧ r.list.length ≤ 64 ∧ r.blocksUsed ≤ 64) (idle : r.state = .idle) : RecorderInRange r where
  openKeys := ⟨openKeys, nodup_keys_length openKeys⟩
  buffer := buffer
  blocks := blocks
  armed := by simp [idle]
  running := by simp [Recorder.running, idle]

/-- R159: the set of open keys takes a value. -/
theorem RecorderInRange.keys {r : Recorder} {keys : List (Fin 88)} (x : RecorderInRange r) (once : keys.Nodup) :
    RecorderInRange { r with openKeys := keys } :=
  ⟨⟨once, nodup_keys_length once⟩, x.buffer, x.blocks, x.armed, x.running⟩

/-- The recorder of the desk is within its bounds. -/
def Desk.Fits (d : Desk) : Prop := RecorderInRange d.2

section Desk
variable {d : Desk}

theorem Desk.Fits.edit {t : Desk} (x : d.Fits) (same : t.2.counts = d.2.counts) : t.Fits := RecorderInRange.of_counts same x

theorem Desk.report_fits (n : Nat) (x : d.Fits) : (d.report n).Fits := x

theorem Desk.readClock_fits (x : d.Fits) : d.readClock.Fits := x.edit rfl

/-- R160, R162: the end of a take empties the set of open keys. -/
theorem Desk.finish_fits (full : Bool) (buffer : d.2.buffer.length ≤ 508)
    (blocks : d.2.blockCount ≤ 64 ∧ d.2.list.length ≤ 64 ∧ d.2.blocksUsed ≤ 64) : (d.finish full).Fits :=
  RecorderInRange.closed List.nodup_nil buffer blocks rfl

theorem Recorder.inLastBlock_iff (r : Recorder) : r.inLastBlock = true ↔ ¬ r.currentBlock + 1 < r.list.length := by
  simp [Recorder.inLastBlock]

theorem Recorder.enter_length (e : ScoreEvent) (r : Recorder) : (r.enter e).buffer.length = r.buffer.length + 1 := by
  simp [Recorder.enter]

/-- R160: while a take is open there is room for an event, and in the last block for END after it. -/
theorem RecorderInRange.room {r : Recorder} (x : RecorderInRange r) (open_ : r.running = true) :
    r.buffer.length < if r.inLastBlock then 507 else 508 := by
  obtain ⟨_, _, room⟩ := x.running open_
  by_cases more : r.currentBlock + 1 < r.list.length
  · have final : ¬ r.inLastBlock = true := by rw [Recorder.inLastBlock_iff]; exact not_not_intro more
    rwa [if_neg final, ← if_pos (c := r.currentBlock + 1 < r.list.length) (t := 508) (e := 507) more]
  · have final : r.inLastBlock = true := (Recorder.inLastBlock_iff r).mpr more
    rwa [if_pos final, ← if_neg (c := r.currentBlock + 1 < r.list.length) (t := 508) (e := 507) more]

/-- R160: an event that fills no block. -/
theorem RecorderInRange.enter {r : Recorder} (e : ScoreEvent) (x : RecorderInRange r)
    (room : r.buffer.length + 1 < if r.inLastBlock then 507 else 508) : RecorderInRange (r.enter e) where
  openKeys := x.openKeys
  buffer := by rw [Recorder.enter_length]; split at room <;> omega
  blocks := x.blocks
  armed := x.armed
  running open_ := by
    obtain ⟨current, used, _⟩ := x.running open_
    refine ⟨current, used, ?_⟩
    rw [Recorder.enter_length]
    by_cases more : r.currentBlock + 1 < r.list.length
    · have final : ¬ r.inLastBlock = true := by rw [Recorder.inLastBlock_iff]; exact not_not_intro more
      rw [if_neg final] at room
      exact room.trans_eq (if_pos more).symm
    · rw [if_pos ((Recorder.inLastBlock_iff r).mpr more)] at room
      exact room.trans_eq (if_neg more).symm

/-- R160: the event that fills a block is followed by the next block of the list. -/
theorem Desk.turnBlock_fits (e : ScoreEvent) (x : d.Fits) (open_ : d.2.running = true) (more : ¬ d.2.inLastBlock = true) :
    (Desk.turnBlock (d.1, d.2.enter e)).Fits := by
  have next : d.2.currentBlock + 1 < d.2.list.length := by rwa [Recorder.inLastBlock_iff, not_not] at more
  obtain ⟨count, list, _⟩ := x.blocks
  obtain ⟨_, used, _⟩ := x.running open_
  have blocks : d.2.blocksUsed + 1 ≤ 64 := by omega
  refine ⟨x.openKeys, Nat.zero_le _, ⟨count, list, blocks⟩, x.armed, fun _ => ⟨next, congrArg (· + 1) used, ?_⟩⟩
  exact Nat.lt_of_lt_of_le (m := 507) (Nat.zero_lt_succ _) (by split <;> decide)

theorem Desk.push_fits (e : ScoreEvent) (x : d.Fits) (open_ : d.2.running = true) : (d.push e).Fits := by
  have room := x.room open_
  have same : (d.2.enter e).inLastBlock = d.2.inLastBlock := rfl
  unfold Desk.push
  dsimp only
  rw [same]
  split
  · next final =>
    rw [if_pos final] at room
    split
    · refine Desk.finish_fits true ?_ x.blocks
      rw [Recorder.enter_length, Recorder.enter_length]
      omega
    · next short =>
      have few : (d.2.enter e).buffer.length ≠ 507 := short
      rw [Recorder.enter_length] at few
      exact x.enter e (by rw [if_pos final]; omega)
  · next more =>
    rw [if_neg more] at room
    split
    · exact Desk.turnBlock_fits e x open_ more
    · next short =>
      have few : (d.2.enter e).buffer.length ≠ 508 := short
      rw [Recorder.enter_length] at few
      exact x.enter e (by rw [if_neg more]; omega)

theorem Desk.pushSpacers_fits (n : Nat) (x : d.Fits) : (d.pushSpacers n).Fits := by
  induction n generalizing d with
  | zero => exact x
  | succ n ih =>
    unfold Desk.pushSpacers
    split
    · next open_ => exact ih (Desk.push_fits _ x open_)
    · exact x

theorem Desk.appendAt_fits (time : Nat) (e : ScoreEvent) (x : d.Fits) : (d.appendAt time e).Fits := by
  unfold Desk.appendAt
  dsimp only
  have y := Desk.pushSpacers_fits ((time - d.2.lastScoreTime - 1) / 65535) x
  split
  · next open_ => exact Desk.push_fits _ y open_
  · exact y

theorem Desk.recordKeyDown_fits (key : Fin 88) (velocity : Nat) (rep : Bool) (x : d.Fits) :
    (d.recordKeyDown key velocity rep).Fits := by
  unfold Desk.recordKeyDown
  dsimp only
  refine Desk.appendAt_fits _ _ (RecorderInRange.keys x ?_)
  split
  · exact x.openKeys.1
  · next new => exact x.openKeys.1.append (List.nodup_singleton _) (by simpa using new)

/-- The events at the origin of a take fill no block. -/
structure Desk.Opening (n : Nat) (d : Desk) : Prop where
  fits : d.Fits
  running : d.2.running = true
  buffer : d.2.buffer.length ≤ n

theorem Desk.Opening.push {n : Nat} (e : ScoreEvent) (x : d.Opening n) (few : n < 500) : (d.push e).Opening (n + 1) := by
  have short := x.buffer
  have stays : d.push e = (d.1, d.2.enter e) := by
    have length := Recorder.enter_length e d.2
    unfold Desk.push
    dsimp only
    rw [if_neg (c := (d.2.enter e).buffer.length = Config.blockEvents - 1) (by simp only [Config.blockEvents]; omega),
      if_neg (c := (d.2.enter e).buffer.length = Config.blockEvents) (by simp only [Config.blockEvents]; omega), ite_self]
  refine ⟨Desk.push_fits e x.fits x.running, ?_, ?_⟩
  · rw [stays]; exact x.running
  · rw [stays]; simp only [Recorder.enter_length]; omega

theorem Desk.Opening.mono {m n : Nat} (x : d.Opening m) (le : m ≤ n) : d.Opening n := ⟨x.fits, x.running, x.buffer.trans le⟩

/-- R157: a recording begins on a list of at least one block. -/
theorem Desk.begin_fits (emitted : Vector Nat 3) (first : Option (Fin 88 × Nat × Bool)) (x : d.Fits) (list : 0 < d.2.list.length) :
    (d.begin_ emitted first).Fits := by
  unfold Desk.begin_
  extract_lets source d0 d1 d2 d3
  have start : d0.Opening 0 := by
    obtain ⟨count, entries, _⟩ := x.blocks
    refine ⟨⟨x.openKeys, Nat.zero_le _, ⟨count, entries, by simp [d0]⟩, by simp [d0], fun _ => ⟨list, rfl, ?_⟩⟩, rfl, Nat.le_refl _⟩
    exact Nat.lt_of_lt_of_le (m := 507) (Nat.zero_lt_succ _) (by split <;> decide)
  have tempo : d1.Opening 1 := start.push _ (by decide)
  have opened : d2.Opening 4 := by
    unfold d2
    split
    · rw [List.finRange_succ, List.finRange_succ, List.finRange_succ]
      exact ((tempo.push _ (by decide)).push _ (by decide)).push _ (by decide)
    · exact tempo.mono (by decide)
  have noted : d3.Fits := by
    unfold d3
    split
    · exact Desk.recordKeyDown_fits _ _ _ opened.fits
    · exact opened.fits
  exact Desk.report_fits 0 noted

theorem Desk.keyDown_fits (key : Fin 88) (velocity : Nat) (rep : Bool) (emitted : Vector Nat 3) (x : d.Fits) :
    (d.keyDown key velocity rep emitted).Fits := by
  unfold Desk.keyDown
  split
  · exact Desk.recordKeyDown_fits _ _ _ (Desk.readClock_fits x)
  · next armed =>
    split
    · next ready =>
      obtain ⟨listRead, _⟩ := Bool.and_eq_true_iff.mp ready
      obtain ⟨count, entries⟩ := x.armed armed
      exact Desk.begin_fits _ _ x (by rw [entries listRead]; exact count)
    · exact x
  · exact x

theorem Desk.keyUp_fits (key : Fin 88) (velocity : Nat) (forced : Bool) (x : d.Fits) : (d.keyUp key velocity forced).Fits := by
  unfold Desk.keyUp
  split
  · dsimp only
    split
    · exact Desk.appendAt_fits _ _ (RecorderInRange.keys (Desk.readClock_fits x) (x.openKeys.1.filter _))
    · exact Desk.readClock_fits x
  · exact x

theorem Desk.pedal_fits (p : Fin 3) (level : Nat) (forced : Bool) (x : d.Fits) : (d.pedal p level forced).Fits := by
  unfold Desk.pedal
  split
  · dsimp only
    split
    · exact Desk.appendAt_fits _ _ (Desk.readClock_fits x)
    · exact Desk.readClock_fits x
  · exact x

theorem Desk.mark_fits (number : Option Nat) (x : d.Fits) : (d.mark number).Fits := by
  unfold Desk.mark
  dsimp only
  refine Desk.appendAt_fits _ _ ?_
  split
  · exact Desk.readClock_fits x
  · exact (Desk.readClock_fits x).edit rfl

/-- R162: a take that is open is closed. -/
theorem Desk.close_fits (x : d.Fits) (recording : d.2.state = .recording) : d.close.Fits := by
  have open_ : d.2.running = true := by simp [Recorder.running, recording]
  unfold Desk.close
  extract_lets d0 source d1 stop keys d2 d3
  have closing : d1.Fits := ⟨x.openKeys, x.buffer, x.blocks, by simp [d1], fun _ => x.running open_⟩
  have released : d2.Fits := by
    refine List.foldlRecOn (motive := Desk.Fits) _ _ closing fun u y k _ => ?_
    split
    · exact Desk.appendAt_fits _ _ y
    · exact y
  clear_value d2
  split
  · next still =>
    have room := released.room still
    have length : d3.2.buffer.length = d2.2.buffer.length + 1 := Recorder.enter_length endEvent d2.2
    have same : d3.2.inLastBlock = d2.2.inLastBlock := rfl
    refine Desk.finish_fits false ?_ ?_
    · split
      · exact Nat.zero_le _
      · rw [length]; split at room <;> omega
    · split
      · next full =>
        obtain ⟨more, _⟩ := Bool.and_eq_true_iff.mp full
        exact (Desk.turnBlock_fits endEvent released still (by simpa [same] using more)).blocks
      · exact released.blocks
  · exact released

theorem Desk.disarm_fits (x : d.Fits) : d.disarm.Fits := RecorderInRange.closed x.openKeys.1 x.buffer x.blocks rfl

theorem Desk.closeForStandby_fits (x : d.Fits) : d.closeForStandby.Fits := by
  unfold Desk.closeForStandby
  split
  · next recording => exact Desk.close_fits (x.edit rfl) recording
  · exact Desk.disarm_fits x
  · exact x

theorem Desk.detach_fits (x : d.Fits) : d.detach.Fits := RecorderInRange.closed List.nodup_nil x.buffer x.blocks rfl

theorem Desk.listRead_fits (emitted : Vector Nat 3) (bytes : Option (List Byte)) (x : d.Fits) : (d.listRead emitted bytes).Fits := by
  unfold Desk.listRead
  extract_lets source idle
  have aborted : RecorderInRange idle := RecorderInRange.closed x.openKeys.1 x.buffer x.blocks rfl
  split
  · next awaits =>
    have armed : d.2.state = .armed := by simpa using (Bool.and_eq_true_iff.mp awaits).1
    obtain ⟨count, _⟩ := x.armed armed
    split
    · exact aborted
    · next bs =>
      extract_lets list d1 d2
      split
      · exact aborted
      · have entries : d1.2.list.length = d.2.blockCount := by simp only [d1, list, List.length_map, List.length_range]
        have listed : d1.Fits := by
          have shut : d1.2.running = false := by simp [d1, source, Recorder.running, armed]
          exact ⟨x.openKeys, x.buffer, ⟨x.blocks.1, entries.trans_le x.blocks.1, x.blocks.2.2⟩,
            fun _ => ⟨count, fun _ => entries⟩, fun open_ => absurd open_ (by simp [shut])⟩
        have begun : d2.Fits := by
          unfold d2
          split
          · exact listed
          · exact Desk.begin_fits _ _ listed (by rw [entries]; exact count)
        exact begun
  · exact x

/-- R156: the arguments of a take that is not refused. -/
theorem Desk.start_fits (slot : Fin 32) (a : List Byte) (x : d.Fits) (some_ : 1 ≤ u8At a 14) (few : u8At a 14 ≤ 64) :
    (d.start slot a).Fits where
  openKeys := ⟨List.nodup_nil, Nat.zero_le _⟩
  buffer := x.buffer
  blocks := ⟨few, Nat.zero_le _, Nat.zero_le _⟩
  armed _ := ⟨some_, fun read => absurd read Bool.false_ne_true⟩
  running open_ := absurd open_ (by simp [Desk.start, Recorder.running])

end Desk
end Sys2Proof.Machine
end

section
/-! SUPPORT. The queues, sets and counts of the blocks stay within their bounds: one lemma per operation on the whole state
(R73; Tables 3-1, 7-1, 8-1). -/

namespace Sys2Proof.Machine

/-- The pending-start queue, the capture set, the player's sets and the recorder's counts are within their bounds. -/
structure State.BlocksFit (s : State) : Prop where
  starts : StartsFit s.voice.queue
  capture : s.pedals.capture.Nodup
  player : PlayerInRange s.player
  recorder : RecorderInRange s.recorder

variable {s t : State}

theorem State.BlocksFit.edit (x : s.BlocksFit) (starts : t.voice.queue = s.voice.queue) (capture : t.pedals.capture = s.pedals.capture)
    (player : t.player = s.player) (recorder : t.recorder = s.recorder) : t.BlocksFit :=
  ⟨starts ▸ x.starts, capture ▸ x.capture, player ▸ x.player, recorder ▸ x.recorder⟩

/-- Work outside the four blocks. -/
theorem Work.blocksFit {l : List Piece} (x : Work l s t) (off : .voice ∉ l ∧ .pedals ∉ l ∧ .player ∉ l ∧ .recorder ∉ l)
    (y : s.BlocksFit) : t.BlocksFit := by
  obtain ⟨voice, pedals, player, recorder⟩ := off
  have v : t.voice = s.voice := x.same .voice voice
  have p : t.pedals = s.pedals := x.same .pedals pedals
  exact y.edit (by rw [v]) (by rw [p]) (x.same .player player) (x.same .recorder recorder)

theorem State.BlocksFit.foldl {α : Type} {f : State → α → State} (one : ∀ (u : State) b, u.BlocksFit → (f u b).BlocksFit)
    (l : List α) (x : s.BlocksFit) : (l.foldl f s).BlocksFit :=
  List.foldlRecOn (motive := State.BlocksFit) l f x fun u y b _ => one u b y

/-! ### The lifts -/

theorem State.mapHub_blocks {f : Hub → Hub} (x : s.BlocksFit) : (s.mapHub f).BlocksFit := x.edit rfl rfl rfl rfl

theorem State.mapMetronome_blocks {f : Beater → Beater} (x : s.BlocksFit) : (s.mapMetronome f).BlocksFit := x.edit rfl rfl rfl rfl

/-- The rail controller's operations reach the voice engine's copy of AT_SILENT alone. -/
theorem State.mapDeck_blocks {f : Deck → Deck} (x : s.BlocksFit) : (s.mapDeck f).BlocksFit := x.edit rfl rfl rfl rfl

theorem State.mapVoice_blocks {f : Engine → Engine} (one : ∀ e : Engine, e.QueueFits → (f e).QueueFits) (x : s.BlocksFit) :
    (s.mapVoice f).BlocksFit := ⟨one (s.hub, s.voice) x.starts, x.capture, x.player, x.recorder⟩

theorem State.updateVoice_blocks {f : VoiceEngine → VoiceEngine} (one : ∀ ve, StartsFit ve.queue → StartsFit (f ve).queue)
    (x : s.BlocksFit) : (s.updateVoice f).BlocksFit := ⟨one s.voice x.starts, x.capture, x.player, x.recorder⟩

theorem State.mapRecorder_blocks {f : Desk → Desk} (one : ∀ d : Desk, d.Fits → (f d).Fits) (x : s.BlocksFit) :
    (s.mapRecorder f).BlocksFit := ⟨x.starts, x.capture, x.player, one (s.hub, s.recorder) x.recorder⟩

theorem State.mapStage_blocks {f : Stage → Stage} (one : ∀ p : Stage, p.Fits → (f p).Fits) (x : s.BlocksFit) :
    (s.mapStage f).BlocksFit := by
  have y : (f s.stage).Fits := one s.stage ⟨x.starts, x.player⟩
  exact ⟨y.queue, x.capture, y.player, x.recorder⟩

theorem State.whenUp_blocks {f : State → State} (one : ∀ u : State, u.BlocksFit → (f u).BlocksFit) (x : s.BlocksFit) :
    (s.whenUp f).BlocksFit := by
  unfold State.whenUp
  split
  · exact one s x
  · exact x

theorem State.onArrival_blocks {rows : ReadTag → Bool} {id : Nat} {outcome : ReadOutcome}
    {handle : ReadTag → Option (List Byte) → State → State}
    (one : ∀ tag bytes (u : State), u.BlocksFit → (handle tag bytes u).BlocksFit) (x : s.BlocksFit) :
    (s.onArrival rows id outcome handle).BlocksFit := by
  unfold State.onArrival
  split
  · exact x
  · split
    · split
      · exact x.edit rfl rfl rfl rfl
      · exact one _ _ _ (x.edit rfl rfl rfl rfl)
    · exact x

/-- R184: the owner acts only on a request that it does not refuse. -/
theorem State.visitSlot_blocks {slot : Fin 32} {kind : RequestKind} {tag : Word16} {args : List Byte} {refuse : Option ResultCode}
    {act : State → State} (one : refuse = none → ∀ u : State, u.BlocksFit → (act u).BlocksFit) (x : s.BlocksFit) :
    (s.visitSlot slot kind tag args refuse act).BlocksFit := by
  unfold State.visitSlot
  split
  · exact x
  · split
    · exact x.edit rfl rfl rfl rfl
    · split
      · exact State.mapHub_blocks x
      · exact one rfl _ (State.mapHub_blocks x)

/-! ### The key tracker (R29 to R45) -/

theorem State.setKey_blocks (k : Fin 88) (key : Key) (x : s.BlocksFit) : (s.setKey k key).BlocksFit := x.edit rfl rfl rfl rfl

theorem State.reevalQuiet_blocks (x : s.BlocksFit) : s.reevalQuiet.BlocksFit := State.mapDeck_blocks x

theorem State.noteDown_blocks (k : Fin 88) (velocity : Nat) (rep : Bool) (x : s.BlocksFit) : (s.noteDown k velocity rep).BlocksFit := by
  unfold State.noteDown
  refine State.mapStage_blocks (fun _ => Stage.liveStrike_fits k) ?_
  refine State.mapRecorder_blocks (fun _ => Desk.keyDown_fits k velocity rep _) ?_
  exact State.mapHub_blocks (State.mapVoice_blocks (fun _ => Engine.noteOn_fits k .live velocity) x)

theorem State.noteUp_blocks (k : Fin 88) (velocity strike : Nat) (forced : Bool) (x : s.BlocksFit) :
    (s.noteUp k velocity strike forced).BlocksFit := by
  unfold State.noteUp
  refine State.mapRecorder_blocks (fun _ => Desk.keyUp_fits k velocity forced) (State.mapHub_blocks ?_)
  exact State.updateVoice_blocks (fun _ => VoiceEngine.noteOff_fits k .live) x

theorem State.handEvent_blocks (k : Fin 88) (e : KeyEvent) (x : s.BlocksFit) : (s.handEvent k e).BlocksFit := by
  cases e with
  | down => exact State.noteDown_blocks _ _ _ x
  | up => exact State.noteUp_blocks _ _ _ _ x
  | launch => exact State.mapDeck_blocks x

theorem State.trackKey_blocks (k : Fin 88) (rawKey rawHammer : Nat) (x : s.BlocksFit) :
    (s.trackKey k rawKey rawHammer).BlocksFit :=
  .foldl (fun _ e y => State.handEvent_blocks k e y) _ (State.setKey_blocks _ _ x)

theorem State.keyFrame_blocks (lane : Fin 8) (readings : List Nat) (x : s.BlocksFit) : (s.keyFrame lane readings).BlocksFit :=
  State.reevalQuiet_blocks (.foldl (fun _ _ y => State.trackKey_blocks _ _ _ y) _ x)

theorem State.forceKey_blocks (k : Fin 88) (key : Key) (x : s.BlocksFit) : (s.forceKey k key).BlocksFit := by
  unfold State.forceKey
  dsimp only
  split
  · exact State.noteUp_blocks _ _ _ _ (State.setKey_blocks _ _ x)
  · exact State.setKey_blocks _ _ x

theorem State.setCapture_blocks {keys : List (Fin 88)} (once : keys.Nodup) (x : s.BlocksFit) : (s.setCapture keys).BlocksFit :=
  ⟨.of_eq (VoiceEngine.setCapture_queue keys s.voice) x.starts, once, x.player, x.recorder⟩

theorem State.uncapture_blocks (k : Fin 88) (x : s.BlocksFit) : (s.uncapture k).BlocksFit := by
  unfold State.uncapture
  split
  · exact State.setCapture_blocks (x.capture.filter _) x
  · exact x

theorem State.loseKey_blocks (k : Fin 88) (x : s.BlocksFit) : (s.loseKey k).BlocksFit := by
  unfold State.loseKey
  dsimp only
  split
  · exact State.uncapture_blocks _ (State.forceKey_blocks _ _ x)
  · exact State.forceKey_blocks _ _ x

theorem State.keyLaneLost_blocks (lane : Fin 8) (x : s.BlocksFit) : (s.keyLaneLost lane).BlocksFit :=
  State.reevalQuiet_blocks (.foldl (fun _ _ y => State.loseKey_blocks _ y) _ x)

theorem State.keyLaneUp_blocks (lane : Fin 8) (x : s.BlocksFit) : (s.keyLaneUp lane).BlocksFit := by
  refine State.reevalQuiet_blocks (.foldl (fun u j y => ?_) _ x)
  dsimp only
  split
  · exact y
  · exact State.setKey_blocks _ _ y

theorem State.maskKey_blocks (k : Fin 88) (masked : Bool) (x : s.BlocksFit) : (s.maskKey k masked).BlocksFit := by
  unfold State.maskKey
  dsimp only
  split
  · exact x
  · split
    · exact State.forceKey_blocks _ _ x
    · exact State.setKey_blocks _ _ x

theorem State.openWindow_blocks (w : CalibWindow) (x : s.BlocksFit) : (s.openWindow w).BlocksFit := by
  have opened : ((keyRange w.first w.last).foldl (fun s k => s.openKey k) s).BlocksFit := by
    refine .foldl (fun u k y => ?_) _ x
    unfold State.openKey
    dsimp only
    split
    · exact y
    · exact State.forceKey_blocks _ _ y
  exact opened.edit rfl rfl rfl rfl

theorem State.finishWindow_blocks (w : CalibWindow) (x : s.BlocksFit) : (s.finishWindow w).BlocksFit := x.edit rfl rfl rfl rfl

theorem State.endTableLoad_blocks (slot : Fin 32) (code : ResultCode) (data : List Byte) (x : s.BlocksFit) :
    (s.endTableLoad slot code data).BlocksFit := x.edit rfl rfl rfl rfl

theorem State.reloadKey_blocks (k : Fin 88) (x : s.BlocksFit) : (s.reloadKey k).BlocksFit := by
  unfold State.reloadKey
  dsimp only
  split
  · exact State.setKey_blocks _ _ x
  · exact State.forceKey_blocks _ _ x

theorem State.applyCalib_blocks (slot : Fin 32) (table : List Byte) (x : s.BlocksFit) : (s.applyCalib slot table).BlocksFit := by
  unfold State.applyCalib
  dsimp only
  split
  · exact State.endTableLoad_blocks _ _ _ x
  · refine State.endTableLoad_blocks _ _ _ (State.reevalQuiet_blocks (State.mapHub_blocks ?_))
    exact .foldl (fun _ k y => State.reloadKey_blocks k y) _ (x.edit rfl rfl rfl rfl)

theorem State.applyCurve_blocks (slot : Fin 32) (table : List Byte) (x : s.BlocksFit) : (s.applyCurve slot table).BlocksFit := by
  unfold State.applyCurve
  split
  · exact State.endTableLoad_blocks _ _ _ x
  · exact State.endTableLoad_blocks _ _ _ (x.edit rfl rfl rfl rfl)

theorem State.tableRead_blocks (tag : ReadTag) (bytes : Option (List Byte)) (x : s.BlocksFit) : (s.tableRead tag bytes).BlocksFit := by
  unfold State.tableRead
  split
  · split
    · exact State.endTableLoad_blocks _ _ _ (State.mapHub_blocks x)
    · dsimp only
      split
      · exact x.edit rfl rfl rfl rfl
      · split
        · exact State.applyCalib_blocks _ _ x
        · exact State.applyCurve_blocks _ _ x
  · exact x

/-! ### The pedal and input block (R46 to R58) -/

theorem State.pedalEvent_blocks (p : Fin 3) (level detail : Nat) (forced : Bool) (x : s.BlocksFit) :
    (s.pedalEvent p level detail forced).BlocksFit :=
  State.mapRecorder_blocks (fun _ => Desk.pedal_fits p level forced) (State.mapHub_blocks x)

theorem State.emitPedal_blocks (p : Fin 3) (changed pressed : Bool) (x : s.BlocksFit) : (s.emitPedal p changed pressed).BlocksFit := by
  unfold State.emitPedal
  dsimp only
  split
  · exact State.pedalEvent_blocks _ _ _ _ (x.edit rfl rfl rfl rfl)
  · exact x

theorem State.openNotes_nodup (s : State) : s.openNotes.Nodup := (List.nodup_finRange 88).filter _

theorem State.pedalFrame_blocks (readings : List Nat) (x : s.BlocksFit) : (s.pedalFrame readings).BlocksFit := by
  unfold State.pedalFrame
  extract_lets level sostenuto soft sostenutoChanged softChanged pedals s1 s2 s3
  have first : s1.BlocksFit := x.edit (by simp [s1]) rfl rfl rfl
  have second : s2.BlocksFit := by
    unfold s2
    split
    · refine State.setCapture_blocks ?_ first
      split
      · exact s1.openNotes_nodup
      · exact List.nodup_nil
    · exact first
  have third : s3.BlocksFit := by
    unfold s3
    split
    · exact second.edit (by simp [State.updateVoice]) rfl rfl rfl
    · exact second
  exact State.emitPedal_blocks _ _ _ (State.emitPedal_blocks _ _ _ (State.emitPedal_blocks _ _ _ third))

theorem State.pedalLaneLost_blocks (x : s.BlocksFit) : s.pedalLaneLost.BlocksFit := by
  unfold State.pedalLaneLost
  refine State.pedalEvent_blocks _ _ _ _ (State.pedalEvent_blocks _ _ _ _ (State.pedalEvent_blocks _ _ _ _ ?_))
  exact ⟨by simpa using x.starts, List.nodup_nil, x.player, x.recorder⟩

theorem State.switchAction_blocks (action : SwitchAction) (x : s.BlocksFit) : (s.switchAction action).1.BlocksFit := by
  unfold State.switchAction
  split
  · exact x
  · split
    · exact x
    · split
      · split
        · exact State.mapStage_blocks (fun _ => Stage.toggle_fits) x
        · exact x
      · exact State.mapMetronome_blocks x
      · split
        · exact State.mapRecorder_blocks (fun _ => Desk.mark_fits none) x
        · exact x
      · split
        · exact State.mapDeck_blocks x
        · exact x
      · exact x

theorem State.acceptHeld_blocks (i : Fin 2) (x : s.BlocksFit) : (s.acceptHeld i).BlocksFit := by
  have stage (g : Vector SwitchStage 2) : State.BlocksFit { s with switches := g } := x.edit rfl rfl rfl rfl
  unfold State.acceptHeld
  split
  · unfold State.acceptSwitch
    dsimp only
    split
    · split
      · split
        · exact x.edit rfl rfl rfl rfl
        · exact stage _
      · split
        · exact State.mapHub_blocks (State.switchAction_blocks _ (stage _))
        · exact stage _
    · exact stage _
  · exact x

theorem State.setSwitch_blocks (i : Fin 2) (n : Nat) (x : s.BlocksFit) : (s.setSwitch i n).BlocksFit := by
  unfold State.setSwitch
  split
  · exact x
  · exact x.edit rfl rfl rfl rfl

theorem actPedalConfig_blocks (slot : Fin 32) (a : List Byte) (x : s.BlocksFit) : (actPedalConfig slot a s).BlocksFit := by
  unfold actPedalConfig
  extract_lets s1 s2
  have settings : s1.BlocksFit := by
    unfold s1
    split
    · exact x.edit rfl rfl rfl rfl
    · exact x
  have switches : s2.BlocksFit := by
    unfold s2
    split
    · exact State.acceptHeld_blocks _ (State.acceptHeld_blocks _ (State.setSwitch_blocks _ _ (State.setSwitch_blocks _ _ settings)))
    · exact settings
  exact State.mapHub_blocks switches

/-! ### The lane controller (R3 to R18) -/

theorem State.setLane_blocks (n : Fin 9) (l : Lane) (x : s.BlocksFit) : (s.setLane n l).BlocksFit := x.edit rfl rfl rfl rfl

theorem State.laneLost_blocks (n : Fin 9) (x : s.BlocksFit) : (s.laneLost n).BlocksFit := by
  unfold State.laneLost
  split
  · exact State.keyLaneLost_blocks _ x
  · exact State.pedalLaneLost_blocks x

theorem State.laneUp_blocks (n : Fin 9) (x : s.BlocksFit) : (s.laneUp n).BlocksFit := by
  unfold State.laneUp
  split
  · exact State.keyLaneUp_blocks _ x
  · exact x.edit rfl rfl rfl rfl

theorem State.laneReadings_blocks (n : Fin 9) (readings : List Nat) (x : s.BlocksFit) : (s.laneReadings n readings).BlocksFit := by
  unfold State.laneReadings
  split
  · exact State.keyFrame_blocks _ _ x
  · exact State.pedalFrame_blocks _ x

theorem State.changeLane_blocks (n : Fin 9) (l : Lane) (d : LaneDetail) (x : s.BlocksFit) : (s.changeLane n l d).BlocksFit := by
  unfold State.changeLane
  dsimp only
  refine State.mapHub_blocks (State.reevalQuiet_blocks (State.setLane_blocks _ _ ?_))
  split
  · exact State.laneLost_blocks _ x
  · exact x

theorem State.moveLane_blocks (n : Fin 9) (l : Lane) (d : LaneDetail) (x : s.BlocksFit) : (s.moveLane n l d).BlocksFit := by
  unfold State.moveLane
  split
  · exact State.setLane_blocks _ _ x
  · exact State.changeLane_blocks _ _ _ x

theorem State.enterRecovering_blocks (n : Fin 9) (d : LaneDetail) (x : s.BlocksFit) : (s.enterRecovering n d).BlocksFit := by
  unfold State.enterRecovering
  dsimp only
  split
  · exact State.changeLane_blocks _ _ _ x
  · split
    · exact State.changeLane_blocks _ _ _ x
    · exact State.changeLane_blocks _ _ _ x

theorem State.stepFails_blocks (n : Fin 9) (x : s.BlocksFit) : (s.stepFails n).BlocksFit := by
  unfold State.stepFails
  dsimp only
  split
  · exact State.changeLane_blocks _ _ _ x
  · exact State.enterRecovering_blocks _ _ x
  · exact x

theorem State.exchangeSucceeds_blocks (n : Fin 9) (e : LaneExchange) (v : Word16) (x : s.BlocksFit) :
    (s.exchangeSucceeds n e v).BlocksFit := by
  unfold State.exchangeSucceeds
  dsimp only
  split
  · split
    · exact State.setLane_blocks _ _ x
    · exact State.changeLane_blocks _ _ _ x
    · exact State.stepFails_blocks _ (State.setLane_blocks _ _ x)
  · exact State.setLane_blocks _ _ x
  · split
    · exact State.setLane_blocks _ _ x
    · split
      · exact State.stepFails_blocks _ x
      · exact State.setLane_blocks _ _ x
  · exact State.setLane_blocks _ _ x
  · exact x

theorem State.retryExchange_blocks (n : Fin 9) (e : LaneExchange) (x : s.BlocksFit) : (s.retryExchange n e).BlocksFit := by
  unfold State.retryExchange
  dsimp only
  split
  · exact State.setLane_blocks _ _ x
  · unfold State.exchangeFails
    split
    · exact State.stepFails_blocks _ (State.setLane_blocks _ _ x)
    · exact State.stepFails_blocks _ x

theorem State.setScanner_blocks (n : Fin 9) (r : Option ScannerLane) (x : s.BlocksFit) : (s.setScanner n r).BlocksFit := by
  unfold State.setScanner
  split
  · exact x.edit rfl rfl rfl rfl
  · exact x

theorem State.retryScanner_blocks (n : Fin 9) (r : ScannerLane) (e : LaneExchange) (x : s.BlocksFit) :
    (s.retryScanner n r e).BlocksFit := by
  unfold State.retryScanner
  dsimp only
  split
  · exact State.setScanner_blocks _ _ (State.setLane_blocks _ _ x)
  · exact State.setScanner_blocks _ _ x

theorem State.takeFrameError_blocks (n : Fin 9) (expected : BitVec 4) (x : s.BlocksFit) : (s.takeFrameError n expected).BlocksFit := by
  unfold State.takeFrameError
  dsimp only
  split
  · exact State.enterRecovering_blocks _ _ (State.setLane_blocks _ _ x)
  · exact State.setLane_blocks _ _ x

theorem State.activeFrame_blocks (n : Fin 9) (f : Frame) (good : Bool) (x : s.BlocksFit) : (s.activeFrame n f good).BlocksFit := by
  unfold State.activeFrame
  dsimp only
  split
  · exact State.takeFrameError_blocks _ _ x
  · split
    · exact State.takeFrameError_blocks _ _ x
    · exact State.laneReadings_blocks _ _ (State.setLane_blocks _ _ x)

theorem State.awaitedFrame_blocks (n : Fin 9) (f : Frame) (good : Bool) (x : s.BlocksFit) : (s.awaitedFrame n f good).BlocksFit := by
  unfold State.awaitedFrame
  dsimp only
  split
  · unfold State.firstFrame
    exact State.mapHub_blocks (State.reevalQuiet_blocks (State.laneReadings_blocks _ _ (State.laneUp_blocks _
      (State.setLane_blocks _ _ x))))
  · exact State.setLane_blocks _ _ x

theorem State.endPeriod_blocks (n : Fin 9) (x : s.BlocksFit) : (s.endPeriod n).BlocksFit := by
  unfold State.endPeriod
  dsimp only
  split
  · split
    · exact State.enterRecovering_blocks _ _ (State.setLane_blocks _ _ x)
    · exact State.setLane_blocks _ _ x
  · exact State.setLane_blocks _ _ x

theorem State.laneAction_blocks (n : Fin 9) (action : Nat) (x : s.BlocksFit) : (s.laneAction n action).BlocksFit := by
  unfold State.laneAction
  dsimp only
  split
  · split
    · exact State.moveLane_blocks _ _ _ x
    · exact State.setLane_blocks _ _ x
  · exact State.moveLane_blocks _ _ _ x
  · exact State.moveLane_blocks _ _ _ x
  · exact x

theorem State.laneToStandby_blocks (n : Fin 9) (x : s.BlocksFit) : (s.laneToStandby n).BlocksFit := by
  unfold State.laneToStandby
  dsimp only
  split
  · exact State.changeLane_blocks _ _ _ x
  · exact State.changeLane_blocks _ _ _ x
  · exact State.changeLane_blocks _ _ _ x
  · exact x

theorem State.laneFromStandby_blocks (n : Fin 9) (x : s.BlocksFit) : (s.laneFromStandby n).BlocksFit := by
  unfold State.laneFromStandby
  dsimp only
  split
  · exact State.changeLane_blocks _ _ _ x
  · exact x

end Sys2Proof.Machine
end

section
/-! SUPPORT. The queues, sets and counts of the blocks over every command (R73; Tables 3-1, 7-1, 8-1). -/

namespace Sys2Proof.Machine

variable {s t : State}

/-! ### The requests -/

/-- The requests of the player (R129 to R147). -/
theorem actPlay_blocks (kind : RequestKind) (play : kind ∈ [.playStart, .playNext, .playSettle, .playUnsettle, .playTempo, .playParts,
    .playSeek, .playPause, .playResume, .playStop]) (slot : Fin 32) (a : List Byte) (x : s.BlocksFit) :
    (actRequest kind slot a s).BlocksFit := by
  have begun {p : Stage} (y : p.Fits) : ((p.answer slot).readAhead.beginSettled).play.Fits :=
    Stage.play_fits (Stage.beginSettled_fits (Stage.readAhead_fits (Stage.answer_fits slot y)))
  simp only [List.mem_cons, List.not_mem_nil, or_false] at play
  rcases play with rfl | rfl | rfl | rfl | rfl | rfl | rfl | rfl | rfl | rfl
  · show (actPlayStart slot a s).BlocksFit
    unfold actPlayStart
    split
    · exact State.mapStage_blocks (fun _ => Stage.startTake_fits _ _) x
    · exact x
  · show (actPlayNext slot a s).BlocksFit
    unfold actPlayNext
    split
    · refine State.mapStage_blocks (fun p y => ?_) x
      exact begun (Stage.onPlayer_fits (fun _ => rfl) y)
    · exact x
  · show (actPlaySettle slot s).BlocksFit
    unfold actPlaySettle
    refine State.mapStage_blocks (fun p y => ?_) x
    exact begun (Stage.onPlayer_fits (fun _ => rfl) y)
  · show (actPlayUnsettle slot s).BlocksFit
    unfold actPlayUnsettle
    refine State.mapStage_blocks (fun p y => ?_) x
    exact Stage.answer_fits slot (Stage.onPlayer_fits (fun _ => rfl) (Stage.dropReadAhead_fits y))
  · show (actPlayTempo slot a s).BlocksFit
    unfold actPlayTempo
    refine State.mapStage_blocks (fun p y => ?_) x
    exact Stage.answer_fits slot (Stage.onPlayer_fits (fun _ => rfl) y)
  · show (actPlayParts slot a s).BlocksFit
    unfold actPlayParts
    split
    · refine State.mapStage_blocks (fun p y => ?_) x
      exact Stage.answer_fits slot (Stage.setParts_fits _ y)
    · exact x
  · exact State.mapStage_blocks (fun _ => Stage.seek_fits _ _) x
  · show (actPlayPause slot s).BlocksFit
    unfold actPlayPause
    refine State.mapStage_blocks (fun p y => Stage.answer_fits slot ?_) x
    split
    · exact y
    · exact Stage.onPlayer_fits (fun _ => rfl) y
    · exact Stage.pause_fits y
  · show (actPlayResume slot s).BlocksFit
    unfold actPlayResume
    refine State.mapStage_blocks (fun p y => Stage.answer_fits slot ?_) x
    split
    · exact Stage.resume_fits y
    · exact Stage.onPlayer_fits (fun _ => rfl) y
    · exact y
  · show (actPlayStop slot a s).BlocksFit
    unfold actPlayStop
    refine State.mapStage_blocks (fun p y => ?_) x
    exact Stage.answer_fits slot (Stage.onPlayer_fits (fun _ => rfl) (Stage.stop_fits y))

theorem actRailMove_blocks (slot : Fin 32) (a : List Byte) (x : s.BlocksFit) : (actRailMove slot a s).BlocksFit := by
  unfold actRailMove
  split
  · exact x
  · exact State.mapDeck_blocks x

theorem actLaneControl_blocks (slot : Fin 32) (a : List Byte) (x : s.BlocksFit) : (actLaneControl slot a s).BlocksFit := by
  unfold actLaneControl
  split
  · exact x
  · exact State.mapHub_blocks (State.laneAction_blocks _ _ x)

theorem actSenseConfig_blocks (slot : Fin 32) (a : List Byte) (x : s.BlocksFit) : (actSenseConfig slot a s).BlocksFit := by
  unfold actSenseConfig
  extract_lets s1 s2
  have masks : s1.BlocksFit := by
    unfold s1
    split
    · exact .foldl (fun _ k y => State.maskKey_blocks k _ y) _ x
    · exact x
  have leds : s2.BlocksFit := by
    unfold s2
    split
    · exact masks.edit rfl rfl rfl rfl
    · exact masks
  exact State.mapHub_blocks leds

theorem actTableLoad_blocks (slot : Fin 32) (a : List Byte) (x : s.BlocksFit) : (actTableLoad slot a s).BlocksFit := by
  unfold actTableLoad
  split
  · refine State.mapVoice_blocks (fun e y => .of_eq (q := e.2.queue) ?_ y) x
    unfold Engine.startKeymapLoad
    rfl
  · unfold State.startTableLoad
    exact State.mapHub_blocks (x.edit rfl rfl rfl rfl)

theorem actCalibAbort_blocks (slot : Fin 32) (x : s.BlocksFit) : (actCalibAbort slot s).BlocksFit := by
  unfold actCalibAbort
  split
  · exact x.edit rfl rfl rfl rfl
  · exact x

theorem actRecordStop_blocks (slot : Fin 32) (x : s.BlocksFit) : (actRecordStop slot s).BlocksFit := by
  refine State.mapRecorder_blocks (fun d y => ?_) x
  split
  · next recording => exact Desk.close_fits (y.edit rfl) recording
  · exact Desk.disarm_fits y

/-- R156: a take that is not refused has 1 to 64 blocks. -/
theorem refuseRecordStart_count {a : List Byte} (taken : refuseRecordStart a s = none) : 1 ≤ u8At a 14 ∧ u8At a 14 ≤ 64 := by
  unfold refuseRecordStart at taken
  split at taken
  · cases taken
  · split at taken
    · cases taken
    · next fine =>
      simp only [Bool.or_eq_true, decide_eq_true_eq, not_or, Nat.not_lt] at fine
      obtain ⟨⟨⟨⟨⟨⟨_, some_⟩, few⟩, _⟩, _⟩, _⟩, _⟩ := fine
      exact ⟨some_, few⟩

theorem actVoiceConfig_blocks (slot : Fin 32) (a : List Byte) (x : s.BlocksFit) : (actVoiceConfig slot a s).BlocksFit := by
  unfold actVoiceConfig
  refine State.mapVoice_blocks (fun e y => ?_) x
  have z := Engine.configure_fits a y
  dsimp only
  generalize e.configure a = e1 at z
  exact z

theorem actVoiceCut_blocks (slot : Fin 32) (a : List Byte) (x : s.BlocksFit) : (actVoiceCut slot a s).BlocksFit := by
  unfold actVoiceCut
  refine State.mapVoice_blocks (fun e y => ?_) x
  have z := Engine.cutSources_fits (u8At a 0) y
  dsimp only
  generalize e.cutSources (u8At a 0) = e1 at z
  exact z

theorem State.silence_blocks (x : s.BlocksFit) : s.silence.BlocksFit :=
  State.mapHub_blocks (State.mapVoice_blocks (fun _ => Engine.cutSources_fits 3) x)

theorem State.beginEntry_blocks (slot : Fin 32) (x : s.BlocksFit) : (s.beginEntry slot).BlocksFit := by
  unfold State.beginEntry
  dsimp only
  have y : ((s.mapStage Stage.stop).mapRecorder Desk.closeForStandby).BlocksFit :=
    State.mapRecorder_blocks (fun _ => Desk.closeForStandby_fits) (State.mapStage_blocks (fun _ => Stage.stop_fits) x)
  generalize (s.mapStage Stage.stop).mapRecorder Desk.closeForStandby = u at y
  have z := State.silence_blocks y
  generalize u.silence = v at z
  split
  · exact y.edit rfl rfl rfl rfl
  · exact z.edit rfl rfl rfl rfl

/-- The owner takes a request that it does not refuse, in `u`, the state at the visit. -/
theorem actRequest_blocks (kind : RequestKind) (slot : Fin 32) (a : List Byte) (u : State) (taken : refuseRequest kind a u = none)
    (x : s.BlocksFit) : (actRequest kind slot a s).BlocksFit := by
  cases kind with
  | laneControl => exact actLaneControl_blocks slot a x
  | senseConfig => exact actSenseConfig_blocks slot a x
  | calibrateKeys => exact State.openWindow_blocks _ x
  | calibAbort => exact actCalibAbort_blocks slot x
  | tableLoad => exact actTableLoad_blocks slot a x
  | pedalConfig => exact actPedalConfig_blocks slot a x
  | voiceConfig => exact actVoiceConfig_blocks slot a x
  | voiceCut => exact actVoiceCut_blocks slot a x
  | outputConfig | metronome | railQuery | journalFlush | snapshotNow => exact x.edit rfl rfl rfl rfl
  | railMove => exact actRailMove_blocks slot a x
  | railConfig | railStop | railHalt | railClear | railSettle | railUnsettle => exact x.edit rfl rfl rfl rfl
  | playStart | playNext | playSettle | playUnsettle | playTempo | playParts | playSeek | playPause | playResume | playStop =>
    exact actPlay_blocks _ (by decide) slot a x
  | recordStart =>
    obtain ⟨some_, few⟩ := refuseRecordStart_count taken
    exact State.mapRecorder_blocks (fun _ y => Desk.start_fits slot a y some_ few) x
  | recordStop => exact actRecordStop_blocks slot x
  | recordMark => exact State.mapRecorder_blocks (f := fun d => (_, (d.mark _).2)) (fun d y => Desk.mark_fits _ y) x
  | standbyEnter => exact State.beginEntry_blocks slot (x.edit rfl rfl rfl rfl)

theorem State.visitCode_blocks (slot : Fin 32) (code : Nat) (tag : Word16) (a : List Byte) (x : s.BlocksFit) :
    (s.visitCode slot code tag a).BlocksFit := by
  unfold State.visitCode
  split
  · exact State.visitSlot_blocks (fun taken u y => actRequest_blocks _ _ _ s taken y) x
  · exact State.visitSlot_blocks (fun _ _ y => y) x

theorem State.visitSlots_blocks (copy : List Byte) (slots : List (Fin 32)) (x : s.BlocksFit) :
    (s.visitSlots copy slots).BlocksFit := by
  induction slots generalizing s with
  | nil => exact x
  | cons slot rest ih =>
    unfold State.visitSlots
    dsimp only
    split
    · exact x
    · split
      · split
        · exact State.visitCode_blocks _ _ _ _ x
        · exact ih (State.visitCode_blocks _ _ _ _ x)
      · exact ih x

/-! ### The exchange controller and standby (R177 to R198) -/

theorem State.sweepDue_blocks (x : s.BlocksFit) : s.sweepDue.BlocksFit :=
  (State.sweepDue_work (.refl _ s)).blocksFit (by decide) x

theorem State.endSweep_blocks (x : s.BlocksFit) : s.endSweep.BlocksFit := by
  unfold State.endSweep
  dsimp only
  split
  · exact State.sweepDue_blocks (State.mapHub_blocks x)
  · exact State.mapHub_blocks x

theorem State.boardRead_blocks (tag : ReadTag) (bytes : Option (List Byte)) (x : s.BlocksFit) : (s.boardRead tag bytes).BlocksFit := by
  unfold State.boardRead
  split
  · split
    · exact State.endSweep_blocks (State.mapHub_blocks x)
    · dsimp only
      split
      · exact State.mapHub_blocks x
      · exact State.endSweep_blocks (State.visitSlots_blocks _ _ x)
  · exact x

theorem State.detach_blocks (next : AttachState) (x : s.BlocksFit) : (s.detach next).BlocksFit := by
  have stopped : (((s.mapHub Hub.journalDetach).mapStage Stage.detach).mapRecorder Desk.detach).BlocksFit :=
    State.mapRecorder_blocks (fun _ => Desk.detach_fits)
      (State.mapStage_blocks (fun _ => Stage.detach_fits) (State.mapHub_blocks x))
  unfold State.detach
  dsimp only
  generalize ((s.mapHub Hub.journalDetach).mapStage Stage.detach).mapRecorder Desk.detach = u at stopped
  have silent : (u.trackerDetach.mapVoice Engine.detach).BlocksFit :=
    State.mapVoice_blocks (fun e _ => .of_eq e.detach_queue .nil) (stopped.edit rfl rfl rfl rfl)
  generalize u.trackerDetach.mapVoice Engine.detach = v at silent
  exact silent.edit rfl rfl rfl rfl

theorem State.enterAttached_blocks (r : RegionHeader) (x : s.BlocksFit) : (s.enterAttached r).BlocksFit := by
  unfold State.enterAttached
  exact x.edit rfl rfl rfl rfl

theorem State.headerRead_blocks (bytes : Option (List Byte)) (x : s.BlocksFit) : (s.headerRead bytes).BlocksFit := by
  unfold State.headerRead
  split
  · split
    · exact State.mapHub_blocks x
    · dsimp only
      split
      · exact State.enterAttached_blocks _ x
      · exact State.mapHub_blocks x
  · exact x

theorem State.holdRead_blocks (bytes : Option (List Byte)) (x : s.BlocksFit) : (s.holdRead bytes).BlocksFit := by
  unfold State.holdRead
  split <;> exact State.mapHub_blocks x

theorem State.enterStandby_blocks (x : s.BlocksFit) : s.enterStandby.BlocksFit := by
  unfold State.enterStandby
  dsimp only
  have y : ((List.finRange 9).foldl (fun s lane => s.laneToStandby lane) s).BlocksFit :=
    .foldl (fun _ n y => State.laneToStandby_blocks n y) _ x
  generalize (List.finRange 9).foldl (fun s lane => s.laneToStandby lane) s = u at y
  exact State.mapDeck_blocks (y.edit rfl rfl rfl rfl)

theorem State.completeEntry_blocks (slot : Fin 32) (x : s.BlocksFit) : (s.completeEntry slot).BlocksFit :=
  State.enterStandby_blocks (State.detach_blocks .standby (State.mapHub_blocks x))

theorem State.shutdownStep_blocks (x : s.BlocksFit) : s.shutdownStep.BlocksFit := by
  unfold State.shutdownStep
  split
  · split
    · exact x
    · exact State.completeEntry_blocks _ (State.silence_blocks x)
  · exact State.completeEntry_blocks _ x
  · exact x

theorem State.leaveStandby_blocks (x : s.BlocksFit) : s.leaveStandby.BlocksFit := by
  unfold State.leaveStandby
  dsimp only
  generalize start : ({ s with hub := _, standby := _, output := _, rail := _ } : State) = u
  have y : u.BlocksFit := by subst start; exact x.edit rfl rfl rfl rfl
  have z : (((List.finRange 9).foldl (fun s lane => s.laneFromStandby lane) u).mapDeck id).BlocksFit :=
    State.mapDeck_blocks (.foldl (fun _ n y => State.laneFromStandby_blocks n y) _ y)
  generalize ((List.finRange 9).foldl (fun s lane => s.laneFromStandby lane) u).mapDeck id = v at z
  split
  · exact State.mapMetronome_blocks z
  · exact z

theorem State.writeControl_blocks (value : Word32) (run : Bool) (x : s.BlocksFit) : (s.writeControl value run).BlocksFit := by
  have y : (s.mapHub (Hub.writeEnables value)).BlocksFit := State.mapHub_blocks x
  unfold State.writeControl
  dsimp only
  generalize s.mapHub (Hub.writeEnables value) = u at y
  split
  · unfold State.runOne
    split
    · exact State.mapHub_blocks y
    · exact State.mapHub_blocks y
    · exact State.mapHub_blocks (State.leaveStandby_blocks y)
    · exact State.mapHub_blocks (State.leaveStandby_blocks y)
    · exact y
    · exact y
  · unfold State.runZero
    split
    · exact State.mapHub_blocks y
    · exact State.detach_blocks _ y
    · exact y

theorem State.notify_blocks (board pages : Bool) (x : s.BlocksFit) : (s.notify board pages).BlocksFit := by
  have y : (if board then s.sweepDue else s).BlocksFit := by
    split
    · exact State.sweepDue_blocks x
    · exact x
  unfold State.notify
  dsimp only
  generalize (if board then s.sweepDue else s) = u at y
  split
  · unfold State.notifyPages
    split
    · exact State.mapHub_blocks y
    · exact y
  · exact y

theorem State.writeRegister_blocks (offset : Nat) (value : Word32) (x : s.BlocksFit) : (s.writeRegister offset value).BlocksFit := by
  unfold State.writeRegister
  split
  · exact State.mapHub_blocks x
  · split
    · exact State.mapHub_blocks x
    · split
      · exact State.writeControl_blocks _ _ x
      · split
        · exact State.notify_blocks _ _ x
        · split
          · exact State.mapHub_blocks x
          · exact x

theorem State.portLeave_blocks (x : s.BlocksFit) : s.portLeave.BlocksFit := by
  unfold State.portLeave
  split
  · exact State.detach_blocks _ x
  · exact State.leaveStandby_blocks x
  · exact State.leaveStandby_blocks x
  · exact State.mapHub_blocks x
  · exact State.mapHub_blocks x
  · exact State.mapHub_blocks x

theorem State.readFailed_blocks (tag : ReadTag) (x : s.BlocksFit) : (s.readFailed tag).BlocksFit := by
  cases tag with
  | voice => exact State.mapVoice_blocks (fun _ => Engine.voiceRead_fits _ _) x
  | block => exact State.mapStage_blocks (fun _ => Stage.blockRead_fits _ _ _) x
  | table => exact State.tableRead_blocks (.table _) none x
  | keymap => exact State.mapVoice_blocks (fun _ => Engine.keymapRead_fits _ _) x
  | list => exact State.mapRecorder_blocks (fun _ => Desk.listRead_fits _ _) x
  | board => exact State.boardRead_blocks (.board _) none x
  | pageHeader => exact State.mapHub_blocks x
  | hold => exact State.holdRead_blocks none x
  | regionHeader => exact State.headerRead_blocks none x

/-- Table 11-2: a POWER-ON or MAIN reset empties the queues, sets and counts. -/
theorem State.reset_blocks (voice : t.voice.queue = []) (capture : t.pedals.capture = []) (player : t.player = State.reset.player)
    (recorder : t.recorder = State.reset.recorder) : t.BlocksFit where
  starts := .of_eq voice .nil
  capture := by rw [capture]; exact List.nodup_nil
  player := by
    rw [player]
    exact ⟨⟨List.nodup_nil, Nat.zero_le _⟩, ⟨List.nodup_nil, Nat.zero_le _⟩, Nat.zero_le _⟩
  recorder := by
    rw [recorder]
    exact .closed List.nodup_nil (Nat.zero_le _) ⟨Nat.zero_le _, Nat.zero_le _, Nat.zero_le _⟩ rfl

/-! ### Every command -/

theorem State.samplePeriod_blocks (x : s.BlocksFit) : s.samplePeriod.BlocksFit := by
  have z := Engine.period_fits (e := (s.hub, s.voice)) x.starts
  unfold State.samplePeriod
  dsimp only
  generalize Engine.period (s.hub, s.voice) = p at z
  exact ⟨z, x.capture, x.player, x.recorder⟩

theorem execManagementReply_blocks {lane : Fin 9} {number : Nat} {content : ReplyContent} {body : List Byte} {crc : Byte}
    (e : execManagementReply lane number content body crc s = .next t) (x : s.BlocksFit) : t.BlocksFit := by
  obtain rfl := Host.Outcome.next.inj e
  split
  · split
    · exact State.whenUp_blocks (fun _ => State.exchangeSucceeds_blocks _ _ _) x
    · exact x
  · split
    · exact State.setScanner_blocks _ _ x
    · exact x
  · exact x

theorem execExchangeTimeout_blocks {lane : Fin 9} (e : execExchangeTimeout lane s = .next t) (x : s.BlocksFit) : t.BlocksFit := by
  obtain rfl := Host.Outcome.next.inj e
  split
  · split
    · exact State.whenUp_blocks (fun _ => State.retryExchange_blocks _ _) x
    · exact x
  · split
    · split
      · exact State.retryScanner_blocks _ _ _ x
      · exact x
    · exact x
  · exact x

theorem execLaneFrame_blocks {lane : Fin 9} {bytes : List Byte} (e : execLaneFrame lane bytes s = .next t) (x : s.BlocksFit) :
    t.BlocksFit := by
  obtain rfl := Host.Outcome.next.inj e
  refine State.whenUp_blocks (fun u y => ?_) x
  split
  · exact y
  · dsimp only
    split
    · exact State.activeFrame_blocks _ _ _ y
    · split
      · exact State.awaitedFrame_blocks _ _ _ y
      · exact y
    · exact y

theorem execFootswitchInputChange_blocks {i : Fin 2} {high : Bool} (e : execFootswitchInputChange i high s = .next t)
    (x : s.BlocksFit) : t.BlocksFit := by
  unfold execFootswitchInputChange at e
  split at e
  · rwa [← Host.Outcome.next.inj e]
  · dsimp only at e
    split at e
    · obtain rfl := Host.Outcome.next.inj e
      exact x.edit rfl rfl rfl rfl
    · obtain rfl := Host.Outcome.next.inj e
      exact State.acceptHeld_blocks i (x.edit rfl rfl rfl rfl)

/-- A rail operation that is carried out when a condition holds. -/
theorem State.deckIf_blocks {c : Prop} [Decidable c] {f : Deck → Deck} (x : s.BlocksFit) :
    (if c then s.mapDeck f else s).BlocksFit := by
  split
  · exact State.mapDeck_blocks x
  · exact x

/-- The commands of the rail controller outside the requests (R101 to R117). -/
theorem railCommand_blocks {c : Instr} (rail : changes c = railPieces ∨ changes c = .pins :: railPieces) (plain : plainCommand c = true)
    (e : exec c s = .next t) (x : s.BlocksFit) : t.BlocksFit := by
  cases c with
  | drvEnSettle | quietHoldReached | gateTimeout | pauseTimeout | seatTimeout =>
    obtain rfl := Host.Outcome.next.inj e
    exact State.whenUp_blocks (fun _ => State.deckIf_blocks) x
  | indexPulse =>
    obtain rfl := Host.Outcome.next.inj e
    exact State.whenUp_blocks (fun _ => State.mapDeck_blocks) x
  | stepPulse =>
    obtain rfl := Host.Outcome.next.inj e
    exact State.whenUp_blocks (fun _ => State.deckIf_blocks) (x.edit rfl rfl rfl rfl)
  | homeSensorChange | driverFault =>
    obtain rfl := Host.Outcome.next.inj e
    exact State.whenUp_blocks (fun _ => State.mapDeck_blocks) (x.edit rfl rfl rfl rfl)
  | seatedFilterExpiry =>
    obtain rfl := Host.Outcome.next.inj e
    refine State.whenUp_blocks (fun u y => ?_) x
    split
    · exact State.deckIf_blocks y
    · exact y
  | _ =>
    first
      | exact absurd plain Bool.false_ne_true
      | exact absurd rail (by simp [changes, railPieces, playPieces, lanePieces, switchPieces])

theorem exec_blocksFit {c : Instr} (e : exec c s = .next t) (x : s.BlocksFit) : t.BlocksFit := by
  cases row : requestOf c with
  | some r =>
    rw [exec_request row] at e
    obtain rfl := Host.Outcome.next.inj e
    exact State.visitSlot_blocks (fun taken u y => actRequest_blocks _ _ _ s taken y) x
  | none =>
    cases c with
    | managementReply => exact execManagementReply_blocks e x
    | exchangeTimeout => exact execExchangeTimeout_blocks e x
    | laneFrame => exact execLaneFrame_blocks e x
    | footswitchInputChange => exact execFootswitchInputChange_blocks e x
    | firstFrameTimeout =>
      obtain rfl := Host.Outcome.next.inj e
      refine State.whenUp_blocks (fun u y => ?_) x
      split
      · split
        · exact State.stepFails_blocks _ y
        · exact y
      · exact y
    | framePeriodEnd =>
      obtain rfl := Host.Outcome.next.inj e
      refine State.whenUp_blocks (fun u y => ?_) x
      split
      · exact State.endPeriod_blocks _ y
      · exact y
    | calibWindowEnd =>
      obtain rfl := Host.Outcome.next.inj e
      refine State.whenUp_blocks (fun u y => ?_) x
      split
      · split
        · exact State.finishWindow_blocks _ y
        · exact y
      · exact y
    | footswitchDebounceExpiry =>
      obtain rfl := Host.Outcome.next.inj e
      split
      · exact x
      · exact State.acceptHeld_blocks _ x
    | outputSamplePeriod =>
      obtain rfl := Host.Outcome.next.inj e
      refine State.whenUp_blocks (fun u y => ?_) x
      split
      · exact State.samplePeriod_blocks y
      · exact y
    | cutFadeEnd =>
      obtain rfl := Host.Outcome.next.inj e
      refine State.whenUp_blocks (fun _ => State.mapVoice_blocks fun e y => ?_) x
      exact Engine.endFade_fits _ y
    | drvEnSettle | quietHoldReached | gateTimeout | pauseTimeout | seatedFilterExpiry | seatTimeout | indexPulse =>
      exact railCommand_blocks (.inl rfl) rfl e x
    | stepPulse | homeSensorChange | driverFault => exact railCommand_blocks (.inr rfl) rfl e x
    | mainResetEnd =>
      obtain rfl := Host.Outcome.next.inj e
      split
      · exact State.mapDeck_blocks (x.edit rfl rfl rfl rfl)
      · exact x
    | scoreGroupDue =>
      obtain rfl := Host.Outcome.next.inj e
      exact State.whenUp_blocks (fun _ => State.mapStage_blocks fun _ => Stage.play_fits) x
    | waitTimeout =>
      obtain rfl := Host.Outcome.next.inj e
      refine State.whenUp_blocks (fun _ => State.mapStage_blocks fun p y => ?_) x
      split
      · exact Stage.skipWait_fits y
      · exact y
    | takeClockTick =>
      obtain rfl := Host.Outcome.next.inj e
      refine State.whenUp_blocks (fun _ => State.mapRecorder_blocks fun d y => ?_) x
      split
      · exact Desk.readClock_fits y
      · exact y
    | powerOnReset =>
      obtain rfl := Host.Outcome.next.inj e
      exact State.reset_blocks rfl rfl rfl rfl
    | mainReset =>
      obtain rfl := Host.Outcome.next.inj e
      split
      · exact x
      · exact State.reset_blocks rfl rfl rfl rfl
    | portReset =>
      obtain rfl := Host.Outcome.next.inj e
      exact State.whenUp_blocks (fun _ y => State.mapHub_blocks (State.portLeave_blocks y)) x
    | registerWrite =>
      obtain rfl := Host.Outcome.next.inj e
      exact State.whenUp_blocks (fun _ => State.writeRegister_blocks _ _) x
    | runSet | runClear =>
      obtain rfl := Host.Outcome.next.inj e
      exact State.whenUp_blocks (fun _ => State.writeControl_blocks _ _) x
    | standbyShutdownStep =>
      obtain rfl := Host.Outcome.next.inj e
      exact State.whenUp_blocks (fun _ => State.shutdownStep_blocks) x
    | wakeDelayExpiry =>
      obtain rfl := Host.Outcome.next.inj e
      split
      · split
        · exact x.edit rfl rfl rfl rfl
        · exact x
      · exact x
    | controlEnableWrite | causeClear | sealPeriodExpiry | waitRereadExpiry =>
      obtain rfl := Host.Outcome.next.inj e
      exact State.whenUp_blocks (fun _ => State.mapHub_blocks) x
    | notifyPages =>
      obtain rfl := Host.Outcome.next.inj e
      exact State.whenUp_blocks (fun _ => State.notify_blocks _ _) x
    | boardReadArrival =>
      obtain rfl := Host.Outcome.next.inj e
      exact State.whenUp_blocks (fun _ => State.onArrival_blocks fun _ _ _ => State.boardRead_blocks _ _) x
    | tableReadArrival =>
      obtain rfl := Host.Outcome.next.inj e
      exact State.whenUp_blocks (fun _ => State.onArrival_blocks fun _ _ _ => State.tableRead_blocks _ _) x
    | keymapReadArrival =>
      obtain rfl := Host.Outcome.next.inj e
      exact State.whenUp_blocks (fun _ => State.onArrival_blocks fun _ _ _ =>
        State.mapVoice_blocks fun _ => Engine.keymapRead_fits _ _) x
    | voiceReadArrival =>
      obtain rfl := Host.Outcome.next.inj e
      exact State.whenUp_blocks (fun _ => State.onArrival_blocks fun _ _ _ =>
        State.mapVoice_blocks fun _ => Engine.voiceRead_fits _ _) x
    | blockReadArrival =>
      obtain rfl := Host.Outcome.next.inj e
      refine State.whenUp_blocks (fun _ => State.onArrival_blocks fun _ _ _ y => ?_) x
      split
      · exact State.mapStage_blocks (fun _ => Stage.blockRead_fits _ _ _) y
      · exact y
    | listReadArrival =>
      obtain rfl := Host.Outcome.next.inj e
      exact State.whenUp_blocks (fun _ => State.onArrival_blocks fun _ _ _ =>
        State.mapRecorder_blocks fun _ => Desk.listRead_fits _ _) x
    | pageHeaderReadArrival =>
      obtain rfl := Host.Outcome.next.inj e
      exact State.whenUp_blocks (fun _ => State.onArrival_blocks fun _ _ _ => State.mapHub_blocks) x
    | headerReadArrival =>
      obtain rfl := Host.Outcome.next.inj e
      exact State.whenUp_blocks (fun _ => State.onArrival_blocks fun _ _ _ => State.headerRead_blocks _) x
    | holdReadArrival =>
      obtain rfl := Host.Outcome.next.inj e
      exact State.whenUp_blocks (fun _ => State.onArrival_blocks fun _ _ _ => State.holdRead_blocks _) x
    | readTimeout =>
      obtain rfl := Host.Outcome.next.inj e
      refine State.whenUp_blocks (fun u y => ?_) x
      split
      · exact State.readFailed_blocks _ (y.edit rfl rfl rfl rfl)
      · exact y.edit rfl rfl rfl rfl
    | _ =>
      first
        | exact (exec_work rfl e).blocksFit (by simp [changes]) x
        | cases row

end Sys2Proof.Machine
end

section
/-! PROOFS. The queues, tables, sets and counts of the part stay within what it holds (O8). -/

namespace Sys2Proof.Machine

variable {s t : State}

theorem capacitiesKept_iff : CapacitiesKept s ↔ HubInRange s.hub ∧ (∀ i : Fin 9, LaneInRange s.lanes[i]) ∧ s.BlocksFit := by
  constructor
  · intro x
    exact ⟨x.hub, x.lanes, ⟨x.pendingStarts⟩, x.capture.1, x.player, x.recorder⟩
  · rintro ⟨hub, lanes, blocks⟩
    exact ⟨hub, blocks.starts.length, lanes, ⟨blocks.capture, nodup_keys_length blocks.capture⟩, blocks.player, blocks.recorder⟩

theorem exec_capacitiesKept {c : Instr} (e : exec c s = .next t) (x : CapacitiesKept s) : CapacitiesKept t := by
  obtain ⟨hub, lanes, blocks⟩ := capacitiesKept_iff.mp x
  exact capacitiesKept_iff.mpr ⟨exec_hubInRange e hub, fun i => (exec_lanesFollow e i).inRange (lanes i), exec_blocksFit e blocks⟩

theorem Player.tick_sets (q : Player) : q.tick.sets = q.sets := by
  unfold Player.tick
  split <;> rfl

/-- A microsecond moves clocks and nothing that is counted. -/
theorem State.tick_capacitiesKept (x : CapacitiesKept s) : CapacitiesKept s.tick := by
  have hub (now : Nat) (tracking performance : Word32) :
      HubInRange { s.hub with now := now, tracking := tracking, performance := performance } :=
    ⟨x.hub.queue, x.hub.page, x.hub.outstanding, x.hub.reads, x.hub.inFlight, x.hub.slots, x.hub.detached, x.hub.writer, x.hub.messages⟩
  unfold State.tick State.whenUp
  dsimp only
  split
  · exact ⟨hub _ _ _, x.pendingStarts, x.lanes, x.capture, x.player.of_sets (Player.tick_sets _), x.recorder⟩
  · exact ⟨hub _ _ _, x.pendingStarts, x.lanes, x.capture, x.player, x.recorder⟩

end Sys2Proof.Machine

open Sys2Proof Sys2Proof.Machine

/-- Settles O8: a command keeps the bounds, which do not depend on the queue, and so does a microsecond. -/
theorem stepKeepsCapacities : Obligations.StepKeepsCapacities := by
  intro s t x e
  unfold step at e
  split at e
  · next c rest queue =>
    exact exec_capacitiesKept e ⟨x.hub, x.pendingStarts, x.lanes, x.capture, x.player, x.recorder⟩
  · obtain rfl := Host.Outcome.next.inj e
    exact State.tick_capacitiesKept x

end

section
/-! PROOFS. The POWER-ON and MAIN resets, their end, and the loss of V_MAIN (O60). -/

namespace Sys2Proof.Machine

variable {s : State}

/-- R1: every lane's line is active while a reset holds. -/
theorem State.laneResetActive_of_held {kind : ResetKind} (held : s.resetHeld = some kind) (n : Fin 9) :
    s.laneResetActive n = true := by
  simp [State.laneResetActive, held]

/-- R1, R199: the lane table of a POWER-ON or MAIN reset. -/
theorem State.mainDomainReset_lane (kind : ResetKind) (s : State) (n : Fin 9) :
    (s.mainDomainReset kind).lanes[n] = { Lane.reset with exchangeNumber := s.lanes[n].exchangeNumber } := by
  simp [State.mainDomainReset, Lane.mainReset]

theorem exec_mainReset (open_ : s.resetHeld ≠ some .powerOn) : exec .mainReset s = .next s.mainReset :=
  congrArg Host.Outcome.next (if_neg open_)

theorem exec_mainResetEnd {kind : ResetKind} (held : s.resetHeld = some kind) (pins : Pins) :
    exec (.mainResetEnd pins) s = .next (s.endReset kind pins) := by
  change execMainResetEnd pins s = _
  simp only [execMainResetEnd, held]

/-- R1, R4: at the end of a reset every lane begins its probe. -/
theorem State.endReset_lane (kind : ResetKind) (pins : Pins) (n : Fin 9) :
    (s.endReset kind pins).lanes[n] = s.lanes[n].beginProbe s.hub.now := by
  simp [State.endReset]

theorem State.endReset_laneResetActive (kind : ResetKind) (pins : Pins) {n : Fin 9} (probing : s.lanes[n].state = .probing)
    (unscanned : s.scannerLane n = none) : (s.endReset kind pins).laneResetActive n = true := by
  have scanner : (s.endReset kind pins).scannerLane n = none := unscanned
  have holds : (s.endReset kind pins).lanes[n].holdsReset = true := by
    rw [State.endReset_lane, Lane.holdsReset_iff]
    exact .inr (.inr ⟨.inl probing, .inr ⟨_, rfl⟩⟩)
  rw [State.laneResetActive, holds, scanner]
  simp

/-- R53: after a POWER-ON reset the input stages stand at their levels. -/
theorem State.endReset_switches (pins : Pins) : (s.endReset .powerOn pins).switches[(0 : Fin 2)].high = pins.fs1High ∧
    (s.endReset .powerOn pins).switches[(1 : Fin 2)].high = pins.fs2High := by
  simp [State.endReset, SwitchStage.afterReset, switchLevel]

/-- R98: the homed flag is lost if the rail was issuing steps. -/
theorem Rail.mainReset_homed (r : Rail) : r.mainReset.homed = (r.homed && r.motion.isNone) := by
  simp [Rail.mainReset]

end Sys2Proof.Machine

open Sys2Proof Sys2Proof.Machine

/-- Settles O60: each of the four commands, field by field. -/
theorem resetsReturnTheirDomains : Obligations.ResetsReturnTheirDomains := by
  intro s
  refine ⟨⟨s.powerOn, rfl, rfl, rfl, rfl, rfl, rfl, fun n => ⟨State.mainDomainReset_lane .powerOn s n, ?_⟩, ?_⟩,
    fun open_ => ⟨s.mainReset, exec_mainReset open_, rfl, rfl, rfl, rfl, rfl,
      fun n => ⟨State.mainDomainReset_lane .main s n, ?_⟩, ?_⟩, fun held => ?_, fun kind pins held => ?_, fun pins none_ => ?_, rfl⟩
  · exact State.laneResetActive_of_held (kind := .powerOn) rfl n
  · exact ⟨rfl, rfl, rfl, rfl, rfl, rfl, rfl, rfl, rfl, rfl, rfl, rfl, rfl, rfl, rfl, rfl, rfl, rfl, rfl⟩
  · exact State.laneResetActive_of_held (kind := .main) rfl n
  · refine ⟨rfl, rfl, rfl, rfl, rfl, rfl, rfl, rfl, rfl, rfl, rfl, rfl, rfl, rfl, rfl, rfl, rfl, rfl, rfl, rfl, rfl, rfl, rfl, rfl, ?_⟩
    exact ⟨Rail.mainReset_homed s.rail, rfl⟩
  · exact congrArg Host.Outcome.next (if_pos held)
  · refine ⟨_, exec_mainResetEnd held pins, rfl, rfl, fun n => ⟨?_, ?_, State.endReset_laneResetActive kind pins⟩, rfl, rfl, ?_⟩
    · rw [State.endReset_lane]; rfl
    · rw [State.endReset_lane]; rfl
    · rintro rfl
      exact State.endReset_switches pins
  · change execMainResetEnd pins s = _
    simp only [execMainResetEnd, none_]

end

section
/-! SUPPORT. A request handed to its owner (R184): the state in which the owner takes it, the answer that a completion gives, and
what leaves its entry in the table of requests in flight standing. -/

namespace Sys2Proof.Machine

/-! ### The request is taken (R184 step 5) -/

/-- R184 step 5: the state in which the owner acts on a request. -/
def State.handed (slot : Fin 32) (kind : RequestKind) (tag : Word16) (args : List Byte) (s : State) : State :=
  s.mapHub fun h => { h.takeRequest slot kind tag (kind.ownerFor args) with cursor := slot + 1 }

/-- R184: the table of requests in flight holds a slot exactly if it has an entry for it. -/
theorem Hub.holdsSlot_iff {slot : Fin 32} {h : Hub} : h.holdsSlot slot = true ↔ ∃ e ∈ h.inFlight, e.slot = slot := by
  simp [Hub.holdsSlot]

theorem Hub.not_mem_of_fresh {slot : Fin 32} {h : Hub} (fresh : h.holdsSlot slot = false) :
    ∀ e ∈ h.inFlight, e.slot ≠ slot := fun e mem same =>
  Bool.false_ne_true (fresh.symm.trans (Hub.holdsSlot_iff.mpr ⟨e, mem, same⟩))

/-- R184: a slot that is handed is visited, by an ATTACHED part with no standby entry under way, and is free in the table. -/
theorem State.hands_iff {slot : Fin 32} {s : State} : s.hands slot = true ↔
    s.mainUp = true ∧ s.hub.attach = .attached ∧ s.entry = none ∧ s.hub.holdsSlot slot = false ∧ s.hub.inFlight.length < 8 := by
  simp only [State.hands, State.visits, Bool.and_eq_true, beq_iff_eq, Option.isNone_iff_eq_none, Bool.not_eq_true',
    decide_eq_true_eq, and_assoc]

/-- R184: a request that its owner does not refuse is taken and acted on. -/
theorem exec_handed {c : Instr} {r : Request} {s : State} (row : requestOf c = some r) (hands : s.hands r.slot = true)
    (accepted : refuseRequest r.kind r.args s = none) :
    exec c s = .next (actRequest r.kind r.slot r.args (s.handed r.slot r.kind r.tag r.args)) := by
  obtain ⟨up, attached, free, fresh, room⟩ := State.hands_iff.mp hands
  have visited : ¬ (s.hub.attach ≠ .attached || s.entry.isSome || !s.mainUp || s.hub.holdsSlot r.slot) = true := by
    simp [attached, free, up, fresh]
  rw [exec_request row, accepted, State.visitSlot, if_neg visited, if_neg (Nat.not_le.mpr room)]
  rfl

section
variable {slot : Fin 32} {kind : RequestKind} {tag : Word16} {args : List Byte} {s : State}

theorem State.handed_posted (attached : s.hub.attach = .attached) :
    (s.handed slot kind tag args).hub.posted = s.hub.posted ++ [s.hub.slotWrite slot 0 (le8 2)] :=
  Hub.post_posted _ _ _ _ attached

theorem State.handed_steady : (s.handed slot kind tag args).hub.steady = { s.hub.steady with cursor := slot + 1 } := by
  have e := Hub.post_steady .exchange (s.hub.slotAddress slot 0) (le8 2)
    { s.hub with inFlight := s.hub.inFlight ++ [{ slot, kind, tag, owner := kind.ownerFor args }] }
  exact congrArg (fun y : Hub.Steady => { y with cursor := slot + 1 }) e

theorem State.handed_attach : (s.handed slot kind tag args).hub.attach = s.hub.attach :=
  congrArg Hub.Steady.attach State.handed_steady

theorem State.handed_region : (s.handed slot kind tag args).hub.region = s.hub.region :=
  congrArg Hub.Steady.region State.handed_steady

theorem State.handed_now : (s.handed slot kind tag args).hub.now = s.hub.now :=
  congrArg Hub.Steady.now State.handed_steady

theorem State.handed_tracking : (s.handed slot kind tag args).hub.tracking = s.hub.tracking :=
  congrArg Hub.Steady.tracking State.handed_steady

theorem State.handed_inFlight :
    (s.handed slot kind tag args).hub.inFlight = s.hub.inFlight ++ [{ slot, kind, tag, owner := kind.ownerFor args }] :=
  Hub.post_inFlight _ _ _ _

theorem State.handed_journal : (s.handed slot kind tag args).hub.journal = s.hub.journal := Hub.post_journal _ _ _ _

/-- R184: the taken request is the slot's entry. -/
theorem State.handed_entry (fresh : s.hub.holdsSlot slot = false) :
    (s.handed slot kind tag args).hub.inFlightEntry slot = some { slot, kind, tag, owner := kind.ownerFor args } := by
  have none_ : s.hub.inFlight.find? (fun e => e.slot == slot) = none := by
    simpa [List.find?_eq_none] using Hub.not_mem_of_fresh fresh
  rw [Hub.inFlightEntry, State.handed_inFlight, List.find?_append, none_]
  simp

end

/-- R185: no block owes an answer for a slot that the table does not hold. -/
theorem RequestsOwed.not_owed {slot : Fin 32} {s : State} (owed : RequestsOwed s) (fresh : s.hub.holdsSlot slot = false) :
    slot ∉ s.owedSlots := by
  intro mem
  obtain ⟨e, he, same⟩ := List.mem_map.mp (owed.owed.mem_iff.mp mem)
  exact Hub.not_mem_of_fresh fresh e he same

/-! ### The request is answered (R185) -/

theorem Hub.holdsSlot_of_entry {slot : Fin 32} {e : InFlight} {h : Hub} (entry : h.inFlightEntry slot = some e) :
    h.holdsSlot slot = true :=
  Hub.holdsSlot_iff.mpr ⟨e, List.mem_of_find?_eq_some entry, by simpa using List.find?_some entry⟩

/-- R178: a flag of CAUSE that is set. -/
theorem Hub.raise_cause (f : CauseFlag) {h : Hub} (attached : h.attach = .attached) :
    (h.raise f).regs.cause = h.regs.cause ||| f.mask := by
  unfold Hub.raise
  rw [if_pos attached]
  unfold Hub.setFlag Hub.setRegisters
  dsimp only
  split <;> rfl

section
variable {slot : Fin 32} {code : ResultCode} {data : List Byte} {h : Hub} {e : InFlight}

/-- R185: the completion of a request in flight is its result. -/
theorem Hub.completeRequest_of_entry (entry : h.inFlightEntry slot = some e) : h.completeRequest slot code data =
    { h with inFlight := h.inFlight.filter fun q => q.slot ≠ slot }.writeResult slot e.tag code data 3 := by
  simp only [Hub.completeRequest, entry]

/-- R185, R192: the four writes of a result, in their order. -/
theorem Hub.writeResult_posted (tag : Word16) (final : Nat) (attached : h.attach = .attached) :
    (h.writeResult slot tag code data final).posted = h.posted ++ h.resultWrites slot tag code data final := by
  simp [Hub.writeResult, Hub.post, attached, Hub.resultWrites, Hub.slotWrite, Hub.slotAddress, Hub.regionAddress]

theorem Hub.completeRequest_posted (entry : h.inFlightEntry slot = some e) (attached : h.attach = .attached) :
    (h.completeRequest slot code data).posted = h.posted ++ h.resultWrites slot e.tag code data 3 := by
  rw [Hub.completeRequest_of_entry entry]
  exact Hub.writeResult_posted _ _ attached

/-- R185: a completion sets CAUSE.BOARD. -/
theorem Hub.completeRequest_cause (entry : h.inFlightEntry slot = some e) (attached : h.attach = .attached) :
    (h.completeRequest slot code data).regs.cause.getLsbD 0 = true := by
  rw [Hub.completeRequest_of_entry entry, Hub.writeResult, Hub.raise_cause]
  · simp [CauseFlag.mask, CauseFlag.index]
  · simp [Hub.post, attached]

theorem Hub.completeRequest_holdsSlot : (h.completeRequest slot code data).holdsSlot slot = false := by
  rw [Hub.holdsSlot, Hub.completeRequest_inFlight, List.any_eq_false]
  intro e mem
  simpa using (List.mem_filter.mp mem).2

/-- A completion of another request leaves the slot's entry standing. -/
theorem Hub.completeRequest_entry_ne {k : Fin 32} (other : k ≠ slot) :
    (h.completeRequest k code data).inFlightEntry slot = h.inFlightEntry slot := by
  rw [Hub.inFlightEntry, Hub.completeRequest_inFlight, Hub.inFlightEntry, List.find?_filter]
  congr 1
  funext q
  by_cases same : q.slot = slot
  · simp [same, Ne.symm other]
  · simp [same]

end

/-- The writes of a result are the same for hubs that use the same region. -/
theorem Hub.resultWrites_congr {a b : Hub} (region : b.region = a.region) (slot : Fin 32) (tag : Word16) (code : ResultCode)
    (data : List Byte) (final : Nat) : b.resultWrites slot tag code data final = a.resultWrites slot tag code data final := by
  simp only [Hub.resultWrites, Hub.slotWrite, Hub.regionAddress, region]

/-- R184, R185: a request is answered if its owner, at work on the hub, leaves its entry standing and then completes it. -/
theorem answered_of_completed {slot : Fin 32} {kind : RequestKind} {tag : Word16} {args : List Byte} {code : ResultCode}
    {data : List Byte} {s t : State} {h : Hub} {e : InFlight} (attached : s.hub.attach = .attached)
    (reach : HubReach (s.handed slot kind tag args).hub h) (entry : h.inFlightEntry slot = some e) (tagged : e.tag = tag)
    (done : t.hub = h.completeRequest slot code data) : Answered slot tag code data s t := by
  have attached' : h.attach = .attached := by rw [reach.attach, State.handed_attach, attached]
  have region : h.region = s.hub.region := by rw [reach.region, State.handed_region]
  obtain ⟨between, grown⟩ := reach.posted
  unfold Answered
  rw [done]
  refine ⟨⟨between, [], ?_⟩, Hub.completeRequest_holdsSlot, Hub.completeRequest_cause entry attached'⟩
  rw [Hub.completeRequest_posted entry attached', ← grown, State.handed_posted attached, tagged,
    Hub.resultWrites_congr region]
  simp

/-- R184: a request whose entry its owner leaves standing is taken and held. -/
theorem takenAndHeld_of_entry {slot : Fin 32} {kind : RequestKind} {tag : Word16} {args : List Byte} {s t : State}
    {e : InFlight} (attached : s.hub.attach = .attached) (posted : (s.handed slot kind tag args).hub.posted <+: t.hub.posted)
    (entry : t.hub.inFlightEntry slot = some e) : TakenAndHeld slot s t := by
  obtain ⟨after, grown⟩ := posted
  refine ⟨⟨after, ?_⟩, Hub.holdsSlot_of_entry entry⟩
  rw [← grown, State.handed_posted attached]
  simp

/-! ### What leaves a request's entry standing -/

/-- A slot has its entry in the table, and the recorder owes it no answer. -/
def Desk.Spares (slot : Fin 32) (e : InFlight) (d : Desk) : Prop :=
  d.1.inFlightEntry slot = some e ∧ d.2.pendingSlot ≠ some slot

/-- Operations that keep the table and the recorder's pending slot. -/
theorem Desk.Spares.congr {slot : Fin 32} {e : InFlight} {d d' : Desk} (x : d.Spares slot e)
    (table : d'.1.inFlight = d.1.inFlight) (pending : d'.2.pendingSlot = d.2.pendingSlot) : d'.Spares slot e :=
  ⟨by rw [Hub.inFlightEntry, table]; exact x.1, by rw [pending]; exact x.2⟩

theorem Hub.note_inFlight (kind : RecordKind) (p q r i : Nat) (fl : RecordFlags) (h : Hub) :
    (h.note kind p q r i fl).inFlight = h.inFlight := Hub.hand_inFlight _ _

section
variable {slot : Fin 32} {e : InFlight} {d : Desk}

theorem Recorder.writeBlock_inFlight (last : Bool) (r : Recorder) (h : Hub) : (r.writeBlock last h).inFlight = h.inFlight := by
  unfold Recorder.writeBlock
  dsimp only
  rw [Hub.post_inFlight]
  split
  · rfl
  · exact Hub.post_inFlight _ _ _ _

theorem Desk.report_spares (n : Nat) (x : d.Spares slot e) : (d.report n).Spares slot e :=
  x.congr (by rw [Desk.report, Hub.raise_inFlight, Hub.note_inFlight]) rfl

/-- R162: the end of a take completes a waiting RECORD_STOP, and no other request. -/
theorem Desk.finish_spares (full : Bool) (x : d.Spares slot e) : (d.finish full).Spares slot e := by
  unfold Desk.finish
  refine Desk.report_spares _ ⟨?_, by simp⟩
  have entry : (d.2.writeBlock true d.1).inFlightEntry slot = some e := by
    rw [Hub.inFlightEntry, Recorder.writeBlock_inFlight]; exact x.1
  unfold Hub.completeOptional
  split
  · exact entry
  · next k pending =>
    rw [Hub.completeRequest_entry_ne (fun same => x.2 (pending.trans (congrArg some same))), entry]

theorem Desk.enter_spares (ev : ScoreEvent) (x : d.Spares slot e) : Desk.Spares slot e (d.1, d.2.enter ev) := x.congr rfl rfl

theorem Desk.push_spares (ev : ScoreEvent) (x : d.Spares slot e) : (d.push ev).Spares slot e := by
  unfold Desk.push
  dsimp only
  split
  · split
    · exact Desk.finish_spares _ (Desk.enter_spares endEvent (Desk.enter_spares ev x))
    · exact Desk.enter_spares ev x
  · split
    · exact (Desk.enter_spares ev x).congr (Recorder.writeBlock_inFlight _ _ _) rfl
    · exact Desk.enter_spares ev x

theorem Desk.pushSpacers_spares (n : Nat) (x : d.Spares slot e) : (d.pushSpacers n).Spares slot e := by
  induction n generalizing d with
  | zero => exact x
  | succ n ih =>
    unfold Desk.pushSpacers
    split
    · exact ih (Desk.push_spares _ x)
    · exact x

theorem Desk.appendAt_spares (time : Nat) (ev : ScoreEvent) (x : d.Spares slot e) : (d.appendAt time ev).Spares slot e := by
  unfold Desk.appendAt
  dsimp only
  split
  · exact Desk.push_spares _ (Desk.pushSpacers_spares _ x)
  · exact Desk.pushSpacers_spares _ x

theorem Desk.readClock_spares (x : d.Spares slot e) : d.readClock.Spares slot e := x.congr rfl rfl

theorem Desk.keyUp_spares (k : Fin 88) (velocity : Nat) (forced : Bool) (x : d.Spares slot e) :
    (d.keyUp k velocity forced).Spares slot e := by
  unfold Desk.keyUp
  dsimp only
  split
  · split
    · exact Desk.appendAt_spares _ _ ((Desk.readClock_spares x).congr rfl rfl)
    · exact Desk.readClock_spares x
  · exact x

theorem Desk.pedal_spares (p : Fin 3) (level : Nat) (forced : Bool) (x : d.Spares slot e) :
    (d.pedal p level forced).Spares slot e := by
  unfold Desk.pedal
  dsimp only
  split
  · split
    · exact Desk.appendAt_spares _ _ (Desk.readClock_spares x)
    · exact Desk.readClock_spares x
  · exact x

end

/-! ### The state's operations -/

/-- A slot has its entry in the state's table, and the recorder owes it no answer. -/
def State.Spares (slot : Fin 32) (e : InFlight) (s : State) : Prop := Desk.Spares slot e (s.hub, s.recorder)

theorem State.Spares.congr {slot : Fin 32} {e : InFlight} {s t : State} (x : s.Spares slot e)
    (table : t.hub.inFlight = s.hub.inFlight) (recorder : t.recorder = s.recorder) : t.Spares slot e :=
  Desk.Spares.congr x table (congrArg Recorder.pendingSlot recorder)

/-- R184: the taken request of a slot that no block owes. -/
theorem State.handed_spares {slot : Fin 32} {kind : RequestKind} {tag : Word16} {args : List Byte} {s : State}
    (owed : RequestsOwed s) (fresh : s.hub.holdsSlot slot = false) :
    (s.handed slot kind tag args).Spares slot { slot, kind, tag, owner := kind.ownerFor args } := by
  refine ⟨State.handed_entry fresh, fun pending => owed.not_owed fresh ?_⟩
  have pending' : s.recorder.pendingSlot = some slot := pending
  simp [State.owedSlots, pending']

section
variable {slot : Fin 32} {e : InFlight} {s : State}

theorem State.mapHub_spares {f : Hub → Hub} (table : ∀ h, (f h).inFlight = h.inFlight) (x : s.Spares slot e) :
    (s.mapHub f).Spares slot e := x.congr (table s.hub) rfl

theorem State.mapRecorder_spares {f : Desk → Desk} (one : ∀ d : Desk, d.Spares slot e → (f d).Spares slot e)
    (x : s.Spares slot e) : (s.mapRecorder f).Spares slot e := one _ x

theorem State.updateVoice_spares {f : VoiceEngine → VoiceEngine} (x : s.Spares slot e) : (s.updateVoice f).Spares slot e :=
  x.congr rfl rfl

theorem State.noteUp_spares (k : Fin 88) (v w : Nat) (forced : Bool) (x : s.Spares slot e) :
    (s.noteUp k v w forced).Spares slot e := by
  unfold State.noteUp
  refine State.mapRecorder_spares (fun _ => Desk.keyUp_spares k v forced) ?_
  refine State.mapHub_spares (fun _ => Hub.note_inFlight ..) ?_
  exact State.updateVoice_spares x

theorem State.forceKey_spares (k : Fin 88) (key : Key) (x : s.Spares slot e) : (s.forceKey k key).Spares slot e := by
  unfold State.forceKey
  dsimp only
  split
  · exact State.noteUp_spares _ _ _ _ (x.congr rfl rfl)
  · exact x.congr rfl rfl

theorem State.uncapture_spares (k : Fin 88) (x : s.Spares slot e) : (s.uncapture k).Spares slot e := by
  unfold State.uncapture
  split
  · exact x.congr rfl rfl
  · exact x

theorem State.loseKey_spares (k : Fin 88) (x : s.Spares slot e) : (s.loseKey k).Spares slot e := by
  unfold State.loseKey
  dsimp only
  split
  · exact State.uncapture_spares _ (State.forceKey_spares _ _ x)
  · exact State.forceKey_spares _ _ x

theorem State.reevalQuiet_spares (x : s.Spares slot e) : s.reevalQuiet.Spares slot e := by
  refine x.congr ?_ rfl
  rw [State.reevalQuiet, State.mapDeck_hub, Deck.setQuiet]
  split <;> rfl

theorem State.keyLaneLost_spares (n : Fin 8) (x : s.Spares slot e) : (s.keyLaneLost n).Spares slot e := by
  refine State.reevalQuiet_spares ?_
  generalize List.finRange 11 = keys
  induction keys generalizing s with
  | nil => exact x
  | cons j keys ih => exact ih (State.loseKey_spares _ x)

theorem State.pedalEvent_spares (p : Fin 3) (level detail : Nat) (forced : Bool) (x : s.Spares slot e) :
    (s.pedalEvent p level detail forced).Spares slot e :=
  State.mapRecorder_spares (fun _ => Desk.pedal_spares p level forced) (State.mapHub_spares (fun _ => Hub.note_inFlight ..) x)

theorem State.pedalLaneLost_spares (x : s.Spares slot e) : s.pedalLaneLost.Spares slot e := by
  unfold State.pedalLaneLost
  exact State.pedalEvent_spares _ _ _ _ (State.pedalEvent_spares _ _ _ _ (State.pedalEvent_spares _ _ _ _ (x.congr rfl rfl)))

theorem State.laneLost_spares (n : Fin 9) (x : s.Spares slot e) : (s.laneLost n).Spares slot e := by
  unfold State.laneLost
  split
  · exact State.keyLaneLost_spares _ x
  · exact State.pedalLaneLost_spares x

theorem State.noteLane_spares (n : Fin 9) (detail : LaneDetail) (x : s.Spares slot e) : (s.noteLane n detail).Spares slot e := by
  unfold State.noteLane
  refine State.mapHub_spares (fun h => ?_) x
  dsimp only
  split
  · rw [Hub.raise_inFlight, Hub.note_inFlight]
  · exact Hub.note_inFlight ..

theorem State.changeLane_spares (n : Fin 9) (l : Lane) (detail : LaneDetail) (x : s.Spares slot e) :
    (s.changeLane n l detail).Spares slot e := by
  unfold State.changeLane
  dsimp only
  refine State.noteLane_spares _ _ (State.reevalQuiet_spares ?_)
  split
  · exact (State.laneLost_spares n x).congr rfl rfl
  · exact x.congr rfl rfl

theorem State.moveLane_spares (n : Fin 9) (l : Lane) (detail : LaneDetail) (x : s.Spares slot e) :
    (s.moveLane n l detail).Spares slot e := by
  unfold State.moveLane
  split
  · exact x.congr rfl rfl
  · exact State.changeLane_spares n l detail x

/-- R16: the actions of LANE_CONTROL complete no request of their own accord. -/
theorem State.laneAction_spares (n : Fin 9) (action : Nat) (x : s.Spares slot e) : (s.laneAction n action).Spares slot e := by
  unfold State.laneAction
  dsimp only
  split
  · split
    · exact State.moveLane_spares _ _ _ x
    · exact x.congr rfl rfl
  · exact State.moveLane_spares _ _ _ x
  · exact State.moveLane_spares _ _ _ x
  · exact x

end

end Sys2Proof.Machine
end

section
/-! SUPPORT. What the lane notices do to keys and pedals, key by key (R14, R32, R33, R50), and what a change of a lane's record
leaves (R15, R16). -/

namespace Sys2Proof.Machine

variable {s : State} {n : Fin 8}

/-! ### The keys of a lane -/

@[simp] theorem laneOf_laneKey (n : Fin 8) (j : Fin 11) : laneOf (laneKey n j) = n := by
  apply Fin.ext
  simp only [laneOf, laneKey]
  omega

/-- The keys of lane `n` are those that `laneKey` lists. -/
theorem exists_laneKey_iff {k : Fin 88} : (∃ j, laneKey n j = k) ↔ laneOf k = n := by
  constructor
  · rintro ⟨j, rfl⟩
    exact laneOf_laneKey n j
  · rintro rfl
    exact ⟨⟨k.val % 11, Nat.mod_lt _ (by decide)⟩, Fin.ext (Nat.div_add_mod k.val 11)⟩

theorem laneKey_injective (n : Fin 8) : Function.Injective (laneKey n) := by
  intro i j same
  have := congrArg Fin.val same
  simp only [laneKey] at this
  exact Fin.ext (by omega)

/-- A fold over the keys of a lane is one over the list of them. -/
theorem foldl_laneKey (f : State → Fin 88 → State) (s : State) :
    (List.finRange 11).foldl (fun u j => f u (laneKey n j)) s = ((List.finRange 11).map (laneKey n)).foldl f s :=
  (List.foldl_map ..).symm

theorem mem_laneKeys_iff {k : Fin 88} : k ∈ (List.finRange 11).map (laneKey n) ↔ laneOf k = n := by
  simp [exists_laneKey_iff]

/-! ### A lost key lane (R32, R52) -/

/-- R32: a key of a lost lane. -/
def Key.lost (k : Key) : Key := { k.closed with state := .disabled, lastRaw := none, extremes := none }

theorem Key.lost_lost (k : Key) : k.lost.lost = k.lost := rfl

theorem State.loseKey_key (k j : Fin 88) (s : State) : (s.loseKey k).keys[j] = if j = k then s.keys[k].lost else s.keys[j] := by
  rw [show (s.loseKey k).keys = s.keys.set k s.keys[k].lost from State.loseKey_keys k s]
  by_cases same : j = k
  · subst same
    simp
  · have off : k.val ≠ j.val := fun e => same (Fin.ext e.symm)
    simp [same, off]

/-- R32: along a list of keys, those in it are lost and the others as before. -/
theorem State.loseKeys_key (k : Fin 88) (ks : List (Fin 88)) (s : State) :
    (ks.foldl (fun t j => t.loseKey j) s).keys[k] = if k ∈ ks then s.keys[k].lost else s.keys[k] := by
  induction ks generalizing s with
  | nil => rfl
  | cons j ks ih =>
    rw [List.foldl_cons, ih, State.loseKey_key]
    by_cases same : k = j <;> by_cases later : k ∈ ks <;> simp [same, later, Key.lost_lost]

theorem State.reevalQuiet_keys (s : State) : s.reevalQuiet.keys = s.keys := rfl
theorem State.reevalQuiet_pedals (s : State) : s.reevalQuiet.pedals = s.pedals := rfl

/-- R14, R32: the keys after a lane-lost notice. -/
theorem State.keyLaneLost_key (n : Fin 8) (k : Fin 88) (s : State) :
    (s.keyLaneLost n).keys[k] = if laneOf k = n then s.keys[k].lost else s.keys[k] := by
  unfold State.keyLaneLost
  rw [State.reevalQuiet_keys, foldl_laneKey fun t k => t.loseKey k, State.loseKeys_key]
  simp only [mem_laneKeys_iff]

/-- R14, R50: the pedals after the lane-lost notice of their lane. -/
theorem State.pedalLaneLost_pedals (s : State) : s.pedalLaneLost.pedals = .reset := rfl

/-- R14: a lane-lost notice of a key lane goes to the key tracker, one of lane 8 to the pedals. -/
theorem State.laneLost_castSucc (n : Fin 8) (s : State) : s.laneLost n.castSucc = s.keyLaneLost n := dif_pos n.isLt

theorem State.laneLost_pedalLane (s : State) : s.laneLost 8 = s.pedalLaneLost := dif_neg (Nat.lt_irrefl 8)

/-! ### A change of a lane's record (R15) -/

section
variable {m : Fin 9} {l : Lane} {d : LaneDetail}

/-- R14, R15: a lane that leaves ACTIVE hands its notice; nothing else of the change reaches the keys. -/
theorem State.changeLane_keys_of_lost (active : s.lanes[m].state = .active) (leaves : l.state ≠ .active) :
    (s.changeLane m l d).keys = (s.laneLost m).keys := by
  unfold State.changeLane
  simp only [active, leaves, ne_eq, not_false_eq_true, decide_true, Bool.and_self, if_true]
  rfl

theorem State.changeLane_pedals_of_lost (active : s.lanes[m].state = .active) (leaves : l.state ≠ .active) :
    (s.changeLane m l d).pedals = (s.laneLost m).pedals := by
  unfold State.changeLane
  simp only [active, leaves, ne_eq, not_false_eq_true, decide_true, Bool.and_self, if_true]
  rfl

/-- R14, R15: a lane that was not ACTIVE hands no lane-lost notice. -/
theorem State.changeLane_of_inactive (inactive : s.lanes[m].state ≠ .active) :
    (s.changeLane m l d).keys = s.keys ∧ (s.changeLane m l d).pedals = s.pedals := by
  unfold State.changeLane
  simp only [inactive, decide_false, Bool.false_and, Bool.false_eq_true, if_false]
  exact ⟨rfl, rfl⟩

theorem State.moveLane_of_moved (moved : s.lanes[m].state ≠ l.state) : s.moveLane m l d = s.changeLane m l d := if_neg moved

theorem State.moveLane_of_inactive (inactive : s.lanes[m].state ≠ .active) :
    (s.moveLane m l d).keys = s.keys ∧ (s.moveLane m l d).pedals = s.pedals := by
  unfold State.moveLane
  split
  · exact ⟨rfl, rfl⟩
  · exact State.changeLane_of_inactive inactive

/-- R36: after a change of a lane's record the rail's copy is the condition. -/
theorem State.changeLane_rail_quiet : (s.changeLane m l d).rail.quiet = (s.changeLane m l d).quietCondition := by
  have told : ∀ u : State, (u.reevalQuiet.noteLane m d).rail.quiet = (u.reevalQuiet.noteLane m d).quietCondition :=
    fun u => State.reevalQuiet_quiet u
  exact told _

end

/-- R36: a key lane that is being probed makes the quiet condition false. -/
theorem State.quietCondition_of_probing (probing : s.lanes[n.castSucc].state = .probing) : s.quietCondition = false := by
  refine List.all_eq_false.mpr ⟨n, List.mem_finRange n, ?_⟩
  have lane : (s.keyLane n).state = .probing := probing
  simp [lane]

end Sys2Proof.Machine
end

section
/-! PROOFS. LANE_CONTROL (O21): what each action does to its lane, to the keys and pedals, and to the rail's quiet condition. -/

namespace Sys2Proof.Machine

variable {s : State} {lane : Fin 9}

/-- R16: the record of a lane after an action. -/
def Lane.acted (now : Nat) (action : Nat) (l : Lane) : Lane :=
  match action with
  | 0 => if l.state = .off then { l with enabled := true, state := .probing }.beginProbe now else { l with enabled := true }
  | 1 => { l.forgive with enabled := false, state := .off, phase := .idle }
  | 2 => { l.forgive with state := .probing }.beginProbe now
  | _ => l

/-- R16: ENABLE begins a probe of an OFF lane. -/
theorem State.laneAction_enable (lane : Fin 9) (s : State) : s.laneAction lane 0 =
    if s.lanes[lane].state = .off then s.moveLane lane (s.lanes[lane].acted s.hub.now 0) .request
    else s.setLane lane (s.lanes[lane].acted s.hub.now 0) := by
  unfold Lane.acted
  by_cases off : s.lanes[lane].state = .off
  · simp only [if_pos off]
    exact if_pos off
  · simp only [if_neg off]
    exact if_neg off

/-- R16: an action of LANE_CONTROL changes its lane's record and no other. -/
theorem State.laneAction_lanes (lane : Fin 9) (action : Nat) (s : State) :
    (s.laneAction lane action).lanes = s.lanes.set lane (s.lanes[lane].acted s.hub.now action) := by
  match action with
  | 0 =>
    rw [State.laneAction_enable]
    split
    · exact State.moveLane_lanes ..
    · rfl
  | 1 => exact State.moveLane_lanes ..
  | 2 => exact State.moveLane_lanes ..
  | _ + 3 => exact (Vector.set_getElem_self lane.isLt).symm

/-- R16: DISABLE and REPROBE take an ACTIVE lane out of its state. -/
theorem State.laneAction_of_active {action : Nat} (active : s.lanes[lane].state = .active) (ends : action = 1 ∨ action = 2) :
    ∃ l : Lane, l = s.lanes[lane].acted s.hub.now action ∧ l.state ≠ .active ∧
      s.laneAction lane action = s.changeLane lane l .request := by
  rcases ends with rfl | rfl
  · exact ⟨_, rfl, LaneState.noConfusion, State.moveLane_of_moved (active ▸ LaneState.noConfusion)⟩
  · exact ⟨_, rfl, LaneState.noConfusion, State.moveLane_of_moved (active ▸ LaneState.noConfusion)⟩

/-- R16: the other actions, and all actions on a lane that is not ACTIVE, leave keys and pedals alone. -/
theorem State.laneAction_consumers {action : Nat} (stays : s.lanes[lane].state ≠ .active ∨ action = 0 ∨ action = 3) :
    (s.laneAction lane action).keys = s.keys ∧ (s.laneAction lane action).pedals = s.pedals := by
  have enable : (s.laneAction lane 0).keys = s.keys ∧ (s.laneAction lane 0).pedals = s.pedals := by
    rw [State.laneAction_enable]
    split
    · next off => exact State.moveLane_of_inactive (off ▸ LaneState.noConfusion)
    · exact ⟨rfl, rfl⟩
  rcases stays with inactive | rfl | rfl
  · match action with
    | 0 => exact enable
    | 1 => exact State.moveLane_of_inactive inactive
    | 2 => exact State.moveLane_of_inactive inactive
    | _ + 3 => exact ⟨rfl, rfl⟩
  · exact enable
  · exact ⟨rfl, rfl⟩

/-- R14, R32: the keys of an ACTIVE lane that is disabled or reprobed. -/
theorem State.laneAction_key {action : Nat} {n : Fin 8} (active : s.lanes[n.castSucc].state = .active)
    (ends : action = 1 ∨ action = 2) (j : Fin 11) :
    (s.laneAction n.castSucc action).keys[laneKey n j] = s.keys[laneKey n j].lost := by
  obtain ⟨l, -, leaves, changed⟩ := State.laneAction_of_active active ends
  simp only [changed, State.changeLane_keys_of_lost active leaves, State.laneLost_castSucc, State.keyLaneLost_key,
    laneOf_laneKey, if_true]

/-- R14, R50: the pedals when their ACTIVE lane is disabled or reprobed. -/
theorem State.laneAction_pedals {action : Nat} (active : s.lanes[(8 : Fin 9)].state = .active) (ends : action = 1 ∨ action = 2) :
    (s.laneAction 8 action).pedals = .reset := by
  obtain ⟨l, -, leaves, changed⟩ := State.laneAction_of_active active ends
  rw [changed, State.changeLane_pedals_of_lost active leaves, State.laneLost_pedalLane, State.pedalLaneLost_pedals]

/-- R36: a key lane reprobed leaves the rail told false. -/
theorem State.laneAction_reprobe_quiet {n : Fin 8} (active : s.lanes[n.castSucc].state = .active) :
    (s.laneAction n.castSucc 2).rail.quiet = false := by
  obtain ⟨l, rfl, -, changed⟩ := State.laneAction_of_active active (.inr rfl)
  rw [changed, State.changeLane_rail_quiet]
  refine State.quietCondition_of_probing (n := n) ?_
  rw [State.changeLane_at]
  rfl

/-- R36: a quiet condition that is true after a disable has been held for no time. -/
theorem State.laneAction_disable_quiet {n : Fin 8} (active : s.lanes[n.castSucc].state = .active)
    (q : (s.laneAction n.castSucc 1).rail.quiet = true) : (s.laneAction n.castSucc 1).rail.quietSince = s.hub.now := by
  obtain ⟨l, -, leaves, changed⟩ := State.laneAction_of_active active (.inl rfl)
  rw [changed] at q ⊢
  exact State.changeLane_quiet n l .request active leaves q

/-- The lanes are the eight key lanes and lane 8. -/
theorem exists_castSucc_of_ne {lane : Fin 9} (key : lane ≠ 8) : ∃ n : Fin 8, lane = n.castSucc :=
  ⟨⟨lane.val, by omega⟩, rfl⟩

theorem laneOfArgs_of_eq {a : List Byte} (named : u8At a 0 = lane.val) : laneOfArgs a = some lane := by
  simp [laneOfArgs, named]

theorem refuseLaneControl_of_allowed {a : List Byte} (named : u8At a 0 = lane.val) (action : u8At a 1 ≤ 3)
    (defined : u8At a 1 = 2 → s.lanes[lane].state ≠ .off) : refuseLaneControl a s = none := by
  simp only [refuseLaneControl, laneOfArgs_of_eq named, if_neg (Nat.not_lt.mpr action)]
  by_cases reprobe : u8At a 1 = 2
  · simp only [defined reprobe, decide_false, Bool.and_false, Bool.false_eq_true, if_false]
  · simp only [reprobe, decide_false, Bool.false_and, Bool.false_eq_true, if_false]

/-- R16: LANE_CONTROL performs the action and answers with the lane's record. -/
theorem actLaneControl_of_eq {slot : Fin 32} {a : List Byte} (named : u8At a 0 = lane.val) :
    actLaneControl slot a s = (s.laneAction lane (u8At a 1)).mapHub fun h =>
      h.completeRequest slot .ok (s.laneAction lane (u8At a 1)).lanes[lane].result := by
  simp only [actLaneControl, laneOfArgs_of_eq named]

end Sys2Proof.Machine

open Sys2Proof Sys2Proof.Machine

/-- Settles O21: the action is performed on the state that has taken the request, and the completion follows it. -/
theorem laneControlActsOnOneLane : Obligations.LaneControlActsOnOneLane := by
  intro slot tag a s lane hands owed named action defined l probe forgiven result
  obtain ⟨-, attached, -, fresh, -⟩ := State.hands_iff.mp hands
  have taken := exec_handed (c := .laneControl slot tag a) rfl hands (refuseLaneControl_of_allowed named action defined)
  have spares := State.laneAction_spares lane (u8At a 1)
    (State.handed_spares (kind := .laneControl) (tag := tag) (args := a) owed fresh)
  have work := State.laneAction_work lane (u8At a 1) (List.Subset.refl _)
    (Work.refl lanePieces (s.handed slot .laneControl tag a))
  refine ⟨_, taken.trans (congrArg Host.Outcome.next (actLaneControl_of_eq named)), ?_⟩
  generalize made : s.handed slot .laneControl tag a = u at spares work taken
  have lanes : u.lanes = s.lanes := made ▸ rfl
  have keys : u.keys = s.keys := made ▸ rfl
  have pedals : u.pedals = s.pedals := made ▸ rfl
  have now : u.hub.now = s.hub.now := made ▸ State.handed_now
  have record : l.acted s.hub.now (u8At a 1) = result := by
    simp only [result]
    generalize u8At a 1 = c
    match c with
    | 0 => rfl
    | 1 => rfl
    | 2 => rfl
    | _ + 3 => rfl
  have own : u.lanes[lane] = l := by rw [lanes]
  refine ⟨answered_of_completed (kind := .laneControl) (args := a) attached (made ▸ work.reach) spares.1 rfl rfl, ?_,
    fun active ends => ⟨fun n j same => ?_, fun same => ?_, fun key disable q => ?_, fun key reprobe => ?_⟩, fun stays => ?_⟩
  · rw [← record, ← now, ← lanes, ← own]
    exact State.laneAction_lanes lane (u8At a 1) u
  · subst same
    rw [← keys]
    exact State.laneAction_key (own ▸ active) ends j
  · subst same
    exact State.laneAction_pedals (own ▸ active) ends
  · obtain ⟨n, rfl⟩ := exists_castSucc_of_ne key
    rw [disable] at q ⊢
    exact (State.laneAction_disable_quiet (own ▸ active) q).trans now
  · obtain ⟨n, rfl⟩ := exists_castSucc_of_ne key
    rw [reprobe]
    exact State.laneAction_reprobe_quiet (own ▸ active)
  · rw [← keys, ← pedals]
    exact State.laneAction_consumers (own ▸ stays)

end

section
/-! SUPPORT. More of what a block's work on the hub keeps: a flag of CAUSE that is set stays set (R187), and a part that is not
ATTACHED and whose writer is OFF posts nothing (Table 10-3, R176). What a flush of the journal leaves alone (R174). -/

namespace Sys2Proof.Machine

variable {h a b : Hub} {i : Nat}

/-! ### A flag of CAUSE stays set -/

/-- A cause flag that is set in the one hub is set in the other. -/
def Hub.KeepsCause (i : Nat) (a b : Hub) : Prop := a.regs.cause.getLsbD i = true → b.regs.cause.getLsbD i = true

theorem Hub.KeepsCause.trans {c : Hub} (x : Hub.KeepsCause i a b) (y : Hub.KeepsCause i b c) : Hub.KeepsCause i a c :=
  fun set => y (x set)

theorem Hub.KeepsCause.of_eq (same : b.regs = a.regs) : Hub.KeepsCause i a b := fun set => by rw [same]; exact set

theorem Hub.post_regs (w : Writer) (ad : Word64) (d : List Byte) (h : Hub) : (h.post w ad d).regs = h.regs := by
  unfold Hub.post
  split <;> rfl

theorem Hub.issueOne_regs (h : Hub) : h.issueOne.regs = h.regs := by
  unfold Hub.issueOne
  split
  · split <;> rfl
  · rfl

theorem Hub.requestRead_regs (t : ReadTag) (ad : Word64) (n d : Nat) (h : Hub) : (h.requestRead t ad n d).regs = h.regs := by
  simp [Hub.requestRead, Hub.issueReads, Hub.issueOne_regs]

theorem Hub.setFlag_cause (f : CauseFlag) (h : Hub) : (h.setFlag f).regs.cause = h.regs.cause ||| f.mask := by
  unfold Hub.setFlag Hub.setRegisters
  dsimp only
  split <;> rfl

theorem Hub.raise_keeps (f : CauseFlag) (h : Hub) : Hub.KeepsCause i h (h.raise f) := by
  intro set
  unfold Hub.raise
  split
  · rw [Hub.setFlag_cause, BitVec.getLsbD_or, set, Bool.true_or]
  · exact set

theorem Hub.writeResult_keeps (slot : Fin 32) (tag : Word16) (code : ResultCode) (data : List Byte) (final : Nat) (h : Hub) :
    Hub.KeepsCause i h (h.writeResult slot tag code data final) := by
  unfold Hub.writeResult
  refine .trans (.of_eq ?_) (Hub.raise_keeps _ _)
  simp only [Hub.post_regs]

theorem Hub.writeResult_keeps_of {x : Hub} {slot : Fin 32} {tag : Word16} {code : ResultCode} {data : List Byte} {final : Nat}
    (same : x.regs = h.regs) : Hub.KeepsCause i h (x.writeResult slot tag code data final) :=
  (Hub.KeepsCause.of_eq same).trans (Hub.writeResult_keeps _ _ _ _ _ _)

theorem Hub.sealPage_keeps (h : Hub) : Hub.KeepsCause i h h.sealPage := by
  have posted : ∀ x : Hub, x.regs = h.regs → ∀ j, Hub.KeepsCause i h { x.raise .journal with journal := j } := fun x same j =>
    (Hub.KeepsCause.of_eq same).trans (Hub.raise_keeps .journal x)
  have regs : (Hub.post .journal (h.pageAddress 0) (le8 2) (Hub.post .journal (h.pageAddress 1) (le8 h.journal.pageRecords ++
      [0, 0] ++ le32 h.journal.sequence.toNat ++ le32 h.journal.pageGap.toNat ++ le32 h.journal.firstTimestamp.toNat) h)).regs =
      h.regs := by simp only [Hub.post_regs]
  unfold Hub.sealPage
  dsimp only
  split
  · exact posted _ regs _
  · exact (posted _ regs _).trans (.of_eq (by rw [Hub.claimPage, Hub.requestRead_regs]))

theorem Hub.writeRecord_regs (r : JournalRecord) (tag : Word32) (rest : List (JournalRecord × Word32)) (h : Hub) :
    (h.writeRecord r tag rest).regs = h.regs := Hub.post_regs ..

theorem Hub.fillFrom_keeps (l : List (JournalRecord × Word32)) (h : Hub) : Hub.KeepsCause i h (h.fillFrom l) := by
  induction l generalizing h with
  | nil => exact .of_eq rfl
  | cons e l ih =>
    obtain ⟨r, tag⟩ := e
    have wrote := Hub.KeepsCause.of_eq (i := i) (Hub.writeRecord_regs r tag l h)
    unfold Hub.fillFrom
    split
    · exact Hub.sealPage_keeps h
    · dsimp only
      split
      · exact wrote.trans (Hub.sealPage_keeps _)
      · exact wrote.trans (ih _)

theorem Hub.runWriter_keeps (h : Hub) : Hub.KeepsCause i h h.runWriter := by
  unfold Hub.runWriter
  split
  · split
    · exact .of_eq rfl
    · exact .of_eq (by rw [Hub.claimPage, Hub.requestRead_regs])
  · exact Hub.fillFrom_keeps _ _
  · exact .of_eq rfl

theorem Hub.runWriter_keeps_of {x : Hub} (same : x.regs = h.regs) : Hub.KeepsCause i h x.runWriter :=
  (Hub.KeepsCause.of_eq same).trans (Hub.runWriter_keeps x)

theorem Hub.hand_keeps (r : JournalRecord) (h : Hub) : Hub.KeepsCause i h (h.hand r) := by
  unfold Hub.hand
  dsimp only
  split
  · exact .of_eq rfl
  · split
    · exact .of_eq rfl
    · exact Hub.runWriter_keeps_of rfl

theorem HubMove.keepsCause (m : HubMove a b) : Hub.KeepsCause i a b := by
  cases m with
  | post w ad d h => exact .of_eq (Hub.post_regs ..)
  | raise f h => exact Hub.raise_keeps f _
  | hand r h => exact Hub.hand_keeps r _
  | request t ad n d h => exact .of_eq (Hub.requestRead_regs ..)
  | drop w h => exact .of_eq rfl
  | complete slot code data h =>
    unfold Hub.completeRequest
    split
    · exact .of_eq rfl
    · exact Hub.writeResult_keeps_of rfl
  | snapshot x h => exact .of_eq rfl
  | sweep x h => exact .of_eq rfl

/-- R187: a flag that is set stays set in all of a block's work. -/
theorem HubReach.keepsCause (x : HubReach a b) : Hub.KeepsCause i a b :=
  x.induct (P := fun b => Hub.KeepsCause i a b) (fun _ _ m p => p.trans m.keepsCause) (.of_eq rfl)

/-! ### A flush of the journal (R174) -/

theorem Hub.flush_steady (h : Hub) : h.flush.1.steady = h.steady := by
  unfold Hub.flush
  split
  · dsimp only
    split <;> simp
  · rfl

theorem Hub.flush_inFlight (h : Hub) : h.flush.1.inFlight = h.inFlight := by
  unfold Hub.flush
  split
  · dsimp only
    split <;> simp
  · rfl

theorem Hub.flush_prefix (h : Hub) : h.posted <+: h.flush.1.posted := by
  unfold Hub.flush
  split
  · dsimp only
    split
    · exact h.runWriter_prefix.trans (Hub.sealPage_prefix _)
    · exact h.runWriter_prefix
  · exact List.prefix_refl _

theorem Hub.flush_keeps (h : Hub) : Hub.KeepsCause i h h.flush.1 := by
  unfold Hub.flush
  split
  · dsimp only
    split
    · exact h.runWriter_keeps.trans (Hub.sealPage_keeps _)
    · exact h.runWriter_keeps
  · exact .of_eq rfl

/-! ### A part that is neither ATTACHED nor journaling -/

/-- R165: a writer that is OFF takes no record. -/
theorem Hub.note_of_off {kind : RecordKind} {p q r n : Nat} {fl : RecordFlags} (off : h.journal.state = .off) :
    h.note kind p q r n fl = h := if_pos off

theorem Hub.post_of_detached {w : Writer} {ad : Word64} {d : List Byte} (detached : h.attach ≠ .attached) :
    h.post w ad d = h := if_neg detached

theorem Hub.completeRequest_posted_of_detached {slot : Fin 32} {code : ResultCode} {data : List Byte}
    (detached : h.attach ≠ .attached) : (h.completeRequest slot code data).posted = h.posted := by
  unfold Hub.completeRequest
  split
  · rfl
  · next e _ =>
    dsimp only
    generalize made : ({ h with inFlight := h.inFlight.filter fun q => q.slot ≠ slot } : Hub) = u
    have detached' : u.attach ≠ .attached := made ▸ detached
    simp only [Hub.writeResult, Hub.raise_posted, Hub.post_of_detached detached']
    rw [← made]

theorem HubMove.silent (m : HubMove a b) (detached : a.attach ≠ .attached) (off : a.journal.state = .off) :
    b.posted = a.posted ∧ b.journal.state = .off := by
  cases m with
  | post w ad d h => rw [Hub.post_of_detached detached]; exact ⟨rfl, off⟩
  | raise f h => simp [off]
  | hand r h => rw [show Hub.hand r a = a from if_pos off]; exact ⟨rfl, off⟩
  | request t ad n d h => simp [off]
  | drop w h => exact ⟨rfl, off⟩
  | complete slot code data h => exact ⟨Hub.completeRequest_posted_of_detached detached, by simp [off]⟩
  | snapshot x h => exact ⟨rfl, off⟩
  | sweep x h => exact ⟨rfl, off⟩

/-- Table 10-3, R176: a part that is not ATTACHED and whose writer is OFF posts nothing, and its writer stays OFF. -/
theorem HubReach.silent (x : HubReach a b) (detached : a.attach ≠ .attached) (off : a.journal.state = .off) :
    b.posted = a.posted ∧ b.journal.state = .off := by
  induction x with
  | refl => exact ⟨rfl, off⟩
  | step y m ih =>
    obtain ⟨posted, off'⟩ := ih
    obtain ⟨posted', off''⟩ := m.silent (y.attach ▸ detached) off'
    exact ⟨posted'.trans posted, off''⟩

end Sys2Proof.Machine
end

section
/-! SUPPORT. What the player's stop does (R147): to the voices, to the request that waits for it, and to the player's record. -/

namespace Sys2Proof.Machine

/-! ### Notes released -/

/-- R68: a voice after note-offs: its key is up and it may be damped; nothing else of it has changed. -/
structure Voice.Released (v w : Voice) : Prop where
  alive : w.alive = v.alive
  same : w = { v with keyDown := w.keyDown, phase := w.phase }

theorem Voice.Released.refl (v : Voice) : v.Released v := ⟨rfl, rfl⟩

theorem Voice.Released.trans {u v w : Voice} (x : u.Released v) (y : v.Released w) : u.Released w :=
  ⟨y.alive.trans x.alive, y.same.trans (by rw [x.same])⟩

theorem Voice.noteOff_released (v : Voice) : v.Released v.noteOff := by
  refine ⟨?_, rfl⟩
  unfold Voice.noteOff Voice.alive
  cases v.phase <;> cases v.sostenutoHeld <;> rfl

/-- Note-offs reach the voices alone; the clock and the count of cuts stand. -/
structure VoiceEngine.Released (a b : VoiceEngine) : Prop where
  voice : ∀ k, (a.get k).Released (b.get k)
  clock : b.sampleClock = a.sampleClock
  cuts : b.cuts = a.cuts

theorem VoiceEngine.Released.refl (a : VoiceEngine) : a.Released a := ⟨fun _ => .refl _, rfl, rfl⟩

theorem VoiceEngine.Released.trans {a b c : VoiceEngine} (x : a.Released b) (y : b.Released c) : a.Released c :=
  ⟨fun k => (x.voice k).trans (y.voice k), y.clock.trans x.clock, y.cuts.trans x.cuts⟩

theorem VoiceEngine.noteOff_get (key : Fin 88) (source : Source) (ve : VoiceEngine) (k : Fin 96) :
    (ve.noteOff key source).get k =
      if (ve.get k).inUse && (ve.get k).ofPair key source then (ve.get k).noteOff else ve.get k := by
  simp [VoiceEngine.noteOff, VoiceEngine.eachVoice, VoiceEngine.get]

theorem VoiceEngine.noteOff_released (key : Fin 88) (source : Source) (ve : VoiceEngine) :
    ve.Released (ve.noteOff key source) := by
  have clock : (ve.noteOff key source).sampleClock = ve.sampleClock := by simp [VoiceEngine.noteOff, VoiceEngine.eachVoice]
  have cuts : (ve.noteOff key source).cuts = ve.cuts := by simp [VoiceEngine.noteOff, VoiceEngine.eachVoice]
  refine ⟨fun k => ?_, clock, cuts⟩
  rw [VoiceEngine.noteOff_get]
  split
  · exact Voice.noteOff_released _
  · exact .refl _

theorem VoiceEngine.setDamper_released (source : Source) (level : Nat) (ve : VoiceEngine) :
    ve.Released (ve.setDamper source level) := by
  cases source <;> exact ⟨fun _ => .refl _, rfl, rfl⟩

theorem VoiceEngine.setSoft_released (source : Source) (pressed : Bool) (ve : VoiceEngine) :
    ve.Released (ve.setSoft source pressed) := by
  cases source <;> exact ⟨fun _ => .refl _, rfl, rfl⟩

/-! ### The end of a take (R135, R147, R149, R154) -/

section
variable {p : Stage} {slot : Fin 32} {e : InFlight}

/-- The part that the ends of a take share: the open keys are released, the pedals let go, and the take's reading is over. -/
def Stage.ended (p : Stage) : Stage := (p.releaseAll.handPedals .zero).clearTake

theorem Stage.stop_of_inProgress (busy : p.player.state.inProgress = true) :
    p.stop = ((p.ended.completePending .aborted).report 1 1 0).onPlayer fun q => Player.unsettle { q with state := .idle } :=
  if_pos busy

theorem Stage.stop_of_idle (free : p.player.state.inProgress = false) :
    p.stop = p.onPlayer fun q => { q with state := .idle } := if_neg (by simp [free])

theorem Stage.detach_eq (p : Stage) :
    p.detach = p.ended.onPlayer fun q => { q with state := .idle, next := none, pendingSlot := none } := rfl

/-- A release keeps what every note-off and every journaled note keep. -/
theorem Stage.releaseOpen_keeps {P : Stage → Prop} (which : Nat → Bool) (x : P p)
    (off : ∀ (q : Stage) k, P q → P { q with voice := q.voice.noteOff k .playback })
    (noted : ∀ (q : Stage) kind k v n f, P q → P (q.reportNote kind k v n f))
    (keys : ∀ (q : Stage) (ks : Player → List (Fin 88 × Nat)), P q → P (q.onPlayer fun r => { r with openKeys := ks r })) :
    P (p.releaseOpen which) := by
  unfold Stage.releaseOpen
  dsimp only
  refine keys _ _ ?_
  generalize List.finRange 88 = l
  generalize p.player.openKeys.filter _ = go
  induction l generalizing p with
  | nil => exact x
  | cons k l ih =>
    rw [List.foldl_cons]
    split
    · exact ih (noted _ _ _ _ _ _ (off _ _ x))
    · exact ih x

theorem Stage.reportNote_voice (kind : RecordKind) (k v n : Nat) (f : Bool) (p : Stage) :
    (p.reportNote kind k v n f).voice = p.voice ∧ (p.reportNote kind k v n f).player = p.player ∧
      (p.reportNote kind k v n f).hub.inFlight = p.hub.inFlight := by
  unfold Stage.reportNote
  split
  · split
    · exact ⟨rfl, rfl, Hub.note_inFlight ..⟩
    · exact ⟨rfl, rfl, rfl⟩
  · exact ⟨rfl, rfl, rfl⟩

theorem Stage.ended_voice (p : Stage) : p.voice.Released p.ended.voice := by
  have released : p.voice.Released p.releaseAll.voice :=
    Stage.releaseOpen_keeps (P := fun q => p.voice.Released q.voice) _ (.refl _)
      (fun _ _ x => x.trans (VoiceEngine.noteOff_released _ _ _))
      (fun q kind k v n f x => by rw [(Stage.reportNote_voice kind k v n f q).1]; exact x) (fun _ _ x => x)
  exact (released.trans (VoiceEngine.setDamper_released .playback _ _)).trans (VoiceEngine.setSoft_released .playback _ _)

theorem Stage.ended_inFlight (p : Stage) : p.ended.hub.inFlight = p.hub.inFlight := by
  have released : p.releaseAll.hub.inFlight = p.hub.inFlight :=
    Stage.releaseOpen_keeps (P := fun q => q.hub.inFlight = p.hub.inFlight) _ rfl (fun _ _ x => x)
      (fun q kind k v n f x => by rw [(Stage.reportNote_voice kind k v n f q).2.2]; exact x) (fun _ _ x => x)
  unfold Stage.ended
  generalize p.releaseAll = q at released ⊢
  exact released

theorem Stage.ended_pendingSlot (p : Stage) : p.ended.player.pendingSlot = p.player.pendingSlot := by
  have released : p.releaseAll.player.pendingSlot = p.player.pendingSlot :=
    Stage.releaseOpen_keeps (P := fun q => q.player.pendingSlot = p.player.pendingSlot) _ rfl (fun _ _ x => x)
      (fun q kind k v n f x => by rw [(Stage.reportNote_voice kind k v n f q).2.1]; exact x) (fun _ _ x => x)
  unfold Stage.ended
  generalize p.releaseAll = q at released ⊢
  exact released

/-- R176: a part whose writer is OFF posts nothing at the end of a take. -/
theorem Stage.ended_of_off (off : p.hub.journal.state = .off) :
    p.ended.hub.posted = p.hub.posted ∧ p.ended.hub.journal.state = .off := by
  have silent : ∀ (q : Stage) kind k v n f, q.hub.journal.state = .off → (q.reportNote kind k v n f).hub = q.hub := by
    intro q kind k v n f off
    unfold Stage.reportNote
    split
    · split
      · exact Hub.note_of_off off
      · rfl
    · rfl
  have released : p.releaseAll.hub.posted = p.hub.posted ∧ p.releaseAll.hub.journal.state = .off :=
    Stage.releaseOpen_keeps (P := fun q => q.hub.posted = p.hub.posted ∧ q.hub.journal.state = .off) _ ⟨rfl, off⟩
      (fun _ _ x => x) (fun q kind k v n f x => by rw [silent q kind k v n f x.2]; exact x) (fun _ _ x => x)
  unfold Stage.ended
  generalize p.releaseAll = q at released ⊢
  exact released

theorem Stage.ended_openKeys (p : Stage) : p.ended.player.openKeys = [] := by
  show List.filter (fun _ => !true) _ = []
  simp

theorem Stage.ended_held (p : Stage) : p.ended.player.held = none := rfl

theorem Stage.ended_pedals (p : Stage) : p.ended.player.pedals = .zero := rfl

theorem Stage.ended_reach (p : Stage) : HubReach p.hub p.ended.hub :=
  Stage.clearTake_reach (Stage.handPedals_reach _ (Stage.releaseAll_reach (.refl _)))

/-! ### The stop (R147) -/

theorem Stage.stop_state (p : Stage) : p.stop.player.state = .idle := by
  unfold Stage.stop
  split <;> rfl

/-- R147: the player's record after a stop of a take in progress. -/
theorem Stage.stop_player (busy : p.player.state.inProgress = true) :
    p.stop.player.openKeys = [] ∧ p.stop.player.held = none ∧ p.stop.player.pedals = .zero ∧ p.stop.player.pendingSlot = none := by
  rw [Stage.stop_of_inProgress busy]
  exact ⟨p.ended_openKeys, p.ended_held, p.ended_pedals, rfl⟩

theorem Stage.stop_voice (p : Stage) : p.voice.Released p.stop.voice := by
  by_cases busy : p.player.state.inProgress = true
  · rw [Stage.stop_of_inProgress busy]
    exact p.ended_voice
  · rw [Stage.stop_of_idle (Bool.not_eq_true _ ▸ busy)]
    exact .refl _

/-- R147: a stop completes the request that waits for the player, and no other. -/
theorem Stage.stop_entry (entry : p.hub.inFlightEntry slot = some e) (other : p.player.pendingSlot ≠ some slot) :
    p.stop.hub.inFlightEntry slot = some e := by
  by_cases busy : p.player.state.inProgress = true
  · have ended : p.ended.hub.inFlightEntry slot = some e := by rw [Hub.inFlightEntry, Stage.ended_inFlight]; exact entry
    have completed : (p.ended.completePending .aborted).hub.inFlightEntry slot = some e := by
      unfold Stage.completePending Hub.completeOptional
      dsimp only
      split
      · exact ended
      · next k pending =>
        have different : k ≠ slot := fun same => other (by rw [← Stage.ended_pendingSlot, pending, same])
        rw [Hub.completeRequest_entry_ne different, ended]
    rw [Stage.stop_of_inProgress busy]
    show Hub.inFlightEntry slot (Hub.raise .practice (Hub.note ..)) = some e
    rw [Hub.inFlightEntry, Hub.raise_inFlight, Hub.note_inFlight]
    exact completed
  · rw [Stage.stop_of_idle (Bool.not_eq_true _ ▸ busy)]
    exact entry

/-- R147, R153: a stop of a take in progress sets CAUSE.PRACTICE. -/
theorem Stage.stop_cause (busy : p.player.state.inProgress = true) (attached : p.hub.attach = .attached) :
    p.stop.hub.regs.cause.getLsbD 3 = true := by
  have reach : HubReach p.hub (p.ended.completePending .aborted).hub := Stage.completePending_reach _ p.ended_reach
  rw [Stage.stop_of_inProgress busy]
  show (Hub.raise .practice (Hub.note ..)).regs.cause.getLsbD 3 = true
  rw [Hub.raise_cause]
  · simp [CauseFlag.mask, CauseFlag.index]
  · exact (Hub.note_reach _ _ _ _ _ _ reach).attach.trans attached

end

end Sys2Proof.Machine
end

section
/-! SUPPORT. The recorder asked to close before standby (R162, R164): how a take ends, what becomes of a pending request, and which
requests stand. -/

namespace Sys2Proof.Machine

variable {d : Desk} {slot : Fin 32} {e : InFlight}

/-! ### The end of a take (R160, R162) -/

/-- R162, R163: a take is over: the recorder is IDLE without open keys or a waiting request, and CAUSE.PRACTICE is set. -/
structure Desk.Over (d : Desk) : Prop where
  state : d.2.state = .idle
  keys : d.2.openKeys = []
  pending : d.2.pendingSlot = none
  cause : d.1.regs.cause.getLsbD 3 = true

/-- R162: in an ATTACHED part a take that closes is being closed, or over. -/
structure Desk.Closes (d : Desk) : Prop where
  attached : d.1.attach = .attached
  state : d.2.state = .closing ∨ d.Over

theorem Desk.running_of_closing (closing : d.2.state = .closing) : d.2.running = true := by simp [Recorder.running, closing]

theorem Desk.Over.not_running (done : d.Over) : d.2.running = false := by simp [Recorder.running, done.state]

theorem Desk.Closes.closing (x : d.Closes) (running : d.2.running = true) : d.2.state = .closing :=
  x.state.resolve_right fun done => Bool.false_ne_true (done.not_running.symm.trans running)

theorem Desk.finish_attach (full : Bool) (d : Desk) : (d.finish full).1.attach = d.1.attach :=
  (Desk.finish_reach full (.refl d.1)).attach

/-- R160, R162: the end of a take. -/
theorem Desk.finish_over (full : Bool) (attached : d.1.attach = .attached) : (d.finish full).Over := by
  refine ⟨rfl, rfl, rfl, ?_⟩
  have end_ := Desk.finish_attach full d
  unfold Desk.finish Desk.report at end_ ⊢
  dsimp only at end_ ⊢
  rw [Hub.raise_cause]
  · simp [CauseFlag.mask, CauseFlag.index]
  · rw [← attached, ← end_]
    exact (Hub.raise_reach .practice (.refl _)).attach.symm

theorem Desk.finish_closes (full : Bool) (attached : d.1.attach = .attached) : (d.finish full).Closes :=
  ⟨(Desk.finish_attach full d).trans attached, .inr (Desk.finish_over full attached)⟩

theorem Desk.push_closes (ev : ScoreEvent) (attached : d.1.attach = .attached) (closing : d.2.state = .closing) :
    (d.push ev).Closes := by
  have attached' : (d.push ev).1.attach = .attached := (Desk.push_reach ev (.refl d.1)).attach.trans attached
  unfold Desk.push at attached' ⊢
  dsimp only at attached' ⊢
  split
  · split
    · exact Desk.finish_closes true attached
    · exact ⟨attached, .inl closing⟩
  · next more =>
    rw [if_neg more] at attached'
    split
    · next full => rw [if_pos full] at attached'; exact ⟨attached', .inl closing⟩
    · exact ⟨attached, .inl closing⟩

theorem Desk.pushSpacers_closes (n : Nat) (x : d.Closes) : (d.pushSpacers n).Closes := by
  induction n generalizing d with
  | zero => exact x
  | succ n ih =>
    unfold Desk.pushSpacers
    split
    · next running => exact ih (Desk.push_closes _ x.attached (x.closing running))
    · exact x

theorem Desk.appendAt_closes (time : Nat) (ev : ScoreEvent) (x : d.Closes) : (d.appendAt time ev).Closes := by
  have spaced := Desk.pushSpacers_closes ((time - d.2.lastScoreTime - 1) / 65535) x
  unfold Desk.appendAt
  dsimp only
  split
  · next running => exact Desk.push_closes _ spaced.attached (spaced.closing running)
  · exact spaced

/-- R162: the NOTE_OFFs of the keys that are open when a take closes. -/
def Desk.closeKeys (stop : Nat) (keys : List (Fin 88)) (d : Desk) : Desk :=
  keys.foldl (fun d k =>
    if d.2.running then
      d.appendAt (max stop d.2.lastScoreTime)
        { delta := 0, kind := 2, target := k.val, value := 64, part := d.2.partOf k, aux := 2 }
    else d) d

/-- R162: the closing of a take, its NOTE_OFFs and its END. -/
theorem Desk.close_eq (d : Desk) : ∃ stop keys,
    let noted := Desk.closeKeys stop keys (d.readClock.1, { d.readClock.2 with state := .closing })
    d.close = if noted.2.running then
      let ended : Desk := (noted.1, noted.2.enter endEvent)
      Desk.finish false (if !ended.2.inLastBlock && ended.2.buffer.length = Config.blockEvents then ended.turnBlock else ended)
    else noted := ⟨_, _, rfl⟩

theorem Desk.closeKeys_keeps {P : Desk → Prop} (stop : Nat) (keys : List (Fin 88)) (x : P d)
    (one : ∀ (d : Desk) time ev, P d → P (d.appendAt time ev)) : P (d.closeKeys stop keys) := by
  unfold Desk.closeKeys
  induction keys generalizing d with
  | nil => exact x
  | cons k keys ih =>
    rw [List.foldl_cons]
    split
    · exact ih (one _ _ _ x)
    · exact ih x

/-- R162, R163: a take that is closed is over. -/
theorem Desk.close_over (attached : d.1.attach = .attached) : d.close.Over := by
  obtain ⟨stop, keys, closed⟩ := d.close_eq
  dsimp only at closed
  have start : Desk.Closes (d.readClock.1, { d.readClock.2 with state := .closing }) := ⟨attached, .inl rfl⟩
  have noted := Desk.closeKeys_keeps (P := Desk.Closes) stop keys start fun _ time ev => Desk.appendAt_closes time ev
  generalize Desk.closeKeys stop keys _ = n at closed noted
  rw [closed]
  split
  · refine Desk.finish_over false ?_
    split
    · exact (Recorder.writeBlock_reach false _ (.refl n.1)).attach.trans noted.attached
    · exact noted.attached
  · next stopped =>
    exact noted.state.resolve_left fun closing => stopped (Desk.running_of_closing closing)

theorem Desk.close_spares (x : d.Spares slot e) : d.close.Spares slot e := by
  obtain ⟨stop, keys, closed⟩ := d.close_eq
  dsimp only at closed
  have start : Desk.Spares slot e (d.readClock.1, { d.readClock.2 with state := .closing }) := x.congr rfl rfl
  have noted := Desk.closeKeys_keeps (P := Desk.Spares slot e) stop keys start fun _ time ev => Desk.appendAt_spares time ev
  generalize Desk.closeKeys stop keys _ = n at closed noted
  rw [closed]
  split
  · refine Desk.finish_spares false ?_
    split
    · exact (Desk.enter_spares endEvent noted).congr (Recorder.writeBlock_inFlight _ _ _) rfl
    · exact Desk.enter_spares endEvent noted
  · exact noted

/-! ### Arming ends (R162, R164) -/

theorem Desk.disarm_spares (x : d.Spares slot e) : d.disarm.Spares slot e := by
  refine ⟨?_, by simp [Desk.disarm]⟩
  show ((d.1.dropReads ReadTag.isList).completeOptional d.2.pendingSlot .aborted []).inFlightEntry slot = some e
  unfold Hub.completeOptional
  split
  · exact x.1
  · next k pending =>
    rw [Hub.completeRequest_entry_ne fun same => x.2 (pending.trans (congrArg some same))]
    exact x.1

/-! ### The close before standby (R164) -/

theorem Desk.closeForStandby_of_recording (recording : d.2.state = .recording) :
    d.closeForStandby = Desk.close (d.1, { d.2 with pendingSlot := none }) := by simp only [Desk.closeForStandby, recording]

theorem Desk.closeForStandby_of_armed (armed : d.2.state = .armed) : d.closeForStandby = d.disarm := by
  simp only [Desk.closeForStandby, armed]

theorem Desk.closeForStandby_of_resting (resting : d.2.state = .idle ∨ d.2.state = .closing) : d.closeForStandby = d := by
  rcases resting with state | state <;> simp only [Desk.closeForStandby, state]

theorem Desk.closeForStandby_spares (x : d.Spares slot e) : d.closeForStandby.Spares slot e := by
  unfold Desk.closeForStandby
  split
  · exact Desk.close_spares ⟨x.1, by simp⟩
  · exact Desk.disarm_spares x
  · exact x

/-- R164: only a closing in progress is awaited. -/
theorem Desk.closeForStandby_closing_iff (attached : d.1.attach = .attached) :
    d.closeForStandby.2.state = .closing ↔ d.2.state = .closing := by
  cases state : d.2.state with
  | idle => rw [Desk.closeForStandby_of_resting (.inl state), state]
  | closing => rw [Desk.closeForStandby_of_resting (.inr state), state]
  | armed => rw [Desk.closeForStandby_of_armed state]; simp [Desk.disarm]
  | recording =>
    rw [Desk.closeForStandby_of_recording state, (Desk.close_over (d := (d.1, { d.2 with pendingSlot := none })) attached).state]
    simp

end Sys2Proof.Machine
end

section
/-! SUPPORT. The entry to standby (R194, R195): the stop of the player and the close of the recorder, the silence that follows, and
what each leaves of the hub, the voices and the recorder. -/

namespace Sys2Proof.Machine

variable {s : State} {slot : Fin 32} {e : InFlight}

/-! ### The silence (R195 steps 3 and 4) -/

theorem Engine.cutVoice_inFlight (k : Fin 96) (e : Engine) : (e.cutVoice k).1.inFlight = e.1.inFlight := by
  unfold Engine.cutVoice
  dsimp only
  split
  · split
    · unfold Engine.freeVoice
      dsimp only
      split <;> rfl
    · rfl
  · rfl

theorem Engine.cutAll_inFlight (p : Voice → Bool) (e : Engine) : (e.cutAll p).1.inFlight = e.1.inFlight := by
  unfold Engine.cutAll
  generalize List.finRange 96 = l
  induction l generalizing e with
  | nil => rfl
  | cons k l ih =>
    rw [List.foldl_cons, ih]
    split
    · exact Engine.cutVoice_inFlight k e
    · rfl

/-- R78: a cut of both sources is the cut of all voices, with nothing left to serve. -/
theorem Engine.cutSources_both_eq (e : Engine) :
    e.cutSources 3 = Engine.cutAll (fun v => v.source.inMask 3 && v.alive) (e.1, { e.2 with queue := [] }) := by
  have both : ∀ x : Source, x.inMask 3 = true := by intro x; cases x <;> decide
  have gone : e.2.queue.filter (fun p => !p.source.inMask 3) = [] := by
    rw [List.filter_eq_nil_iff]; intro p _; simp [both]
  have queue := (Engine.cutFold_get (fun v => v.source.inMask 3 && v.alive) (fun v h => by simpa [both] using h)
    (List.finRange 96) (List.nodup_finRange 96) (e.1, { e.2 with queue := [] })).2.2.2.1
  dsimp only at queue
  unfold Engine.cutSources Engine.cutAll
  rw [gone]
  dsimp only
  rw [Engine.settle_empty _ _ queue]

theorem Engine.cutSources_both_inFlight (e : Engine) : (e.cutSources 3).1.inFlight = e.1.inFlight := by
  rw [Engine.cutSources_both_eq]
  exact Engine.cutAll_inFlight _ _

theorem State.cut_reach (s : State) : HubReach s.hub (Engine.cutSources 3 (s.hub, s.voice)).1 :=
  Engine.cutSources_reach (e := (s.hub, s.voice)) 3 (.refl _)

theorem State.silence_hub_eq (s : State) : s.silence.hub = (Engine.cutSources 3 (s.hub, s.voice)).1.flush.1 := by
  rw [State.silence, State.mapHub_hub, State.mapVoice_hub]

theorem State.silence_voice (s : State) : s.silence.voice = (Engine.cutSources 3 (s.hub, s.voice)).2 := by
  rw [State.silence, State.mapHub_voice, State.mapVoice_voice]

theorem State.silence_player (s : State) : s.silence.player = s.player := by
  simp only [State.silence, State.mapHub_player, State.mapVoice_player]
theorem State.silence_recorder (s : State) : s.silence.recorder = s.recorder := by
  simp only [State.silence, State.mapHub_recorder, State.mapVoice_recorder]
theorem State.silence_standby (s : State) : s.silence.standby = s.standby := by
  simp only [State.silence, State.mapHub_standby, State.mapVoice_standby]

theorem State.silence_inFlight (s : State) : s.silence.hub.inFlight = s.hub.inFlight := by
  rw [State.silence_hub_eq, Hub.flush_inFlight, Engine.cutSources_both_inFlight]

theorem State.silence_steady (s : State) : s.silence.hub.steady = s.hub.steady := by
  rw [State.silence_hub_eq, Hub.flush_steady, s.cut_reach.steady]

theorem Hub.attach_of_steady {a b : Hub} (same : b.steady = a.steady) : b.attach = a.attach := congrArg Hub.Steady.attach same

theorem State.silence_attach (s : State) : s.silence.hub.attach = s.hub.attach := Hub.attach_of_steady s.silence_steady

theorem State.silence_posted (s : State) : s.hub.posted <+: s.silence.hub.posted := by
  rw [State.silence_hub_eq]
  exact s.cut_reach.posted.trans (Hub.flush_prefix _)

theorem State.silence_keeps (i : Nat) (s : State) : Hub.KeepsCause i s.hub s.silence.hub := by
  rw [State.silence_hub_eq]
  exact s.cut_reach.keepsCause.trans (Hub.flush_keeps _)

/-- R174, R195: the open page is sealed. -/
theorem State.silence_journal (s : State) :
    s.hub.journal.sealsOnce s.silence.hub.journal ∧ s.silence.hub.journal.state ≠ .filling := by
  rw [State.silence_hub_eq]
  obtain ⟨once, closed⟩ := Hub.flush_once (Engine.cutSources 3 (s.hub, s.voice)).1
  exact ⟨s.cut_reach.sealsOnce.trans once, closed⟩

/-- R78, R195: after the silence no entry waits and no voice sounds. -/
theorem State.silence_queue (s : State) : s.silence.voice.queue = [] := by
  obtain ⟨queue, -, -⟩ := Engine.cutSources_both (s.hub, s.voice)
  rw [State.silence_voice, queue]

theorem State.silence_get (s : State) (k : Fin 96) :
    ((s.voice.get k).alive = false → s.silence.voice.get k = s.voice.get k) ∧
    ((s.voice.get k).alive = true → ∃ n, s.voice.cuts ≤ n ∧
      s.silence.voice.get k = (s.voice.get k).cutAt s.voice.sampleClock.toNat n) := by
  obtain ⟨-, stands, cut⟩ := Engine.cutSources_both (s.hub, s.voice)
  rw [State.silence_voice]
  exact ⟨stands k, cut k⟩

theorem Voice.alive_iff (v : Voice) : v.alive = true ↔ v.phase = .sounding ∨ v.phase = .damping := by
  simp [Voice.alive]

theorem State.silence_not_alive (s : State) (k : Fin 96) : (s.silence.voice.get k).alive = false := by
  obtain ⟨stands, cut⟩ := s.silence_get k
  by_cases alive : (s.voice.get k).alive = true
  · obtain ⟨n, -, eq⟩ := cut alive
    rw [eq, Voice.cutAt_not_alive]
  · have dead : (s.voice.get k).alive = false := Bool.not_eq_true _ ▸ alive
    rw [stands dead, dead]

/-! ### The stop of the player and the close of the recorder (R195 steps 1 and 2) -/

/-- R195 steps 1 and 2. -/
def State.stopped (s : State) : State := (s.mapStage Stage.stop).mapRecorder Desk.closeForStandby

theorem State.beginEntry_of_closing (closing : s.stopped.recorder.state = .closing) :
    s.beginEntry slot = { s.stopped with entry := some (slot, .recorderClose) } := if_pos closing

theorem State.beginEntry_of_closed (closed : s.stopped.recorder.state ≠ .closing) :
    s.beginEntry slot = { s.stopped.silence with entry := some (slot, .journalSeal) } := if_neg closed

theorem State.stopped_player (s : State) : s.stopped.player = s.stage.stop.player := rfl
theorem State.stopped_standby (s : State) : s.stopped.standby = s.standby := rfl
theorem State.stopped_desk (s : State) :
    (s.stopped.hub, s.stopped.recorder) = Desk.closeForStandby (s.stage.stop.hub, s.recorder) := rfl
theorem State.stopped_recorder (s : State) :
    s.stopped.recorder = (Desk.closeForStandby (s.stage.stop.hub, s.recorder)).2 := rfl
theorem State.stopped_hub (s : State) : s.stopped.hub = (Desk.closeForStandby (s.stage.stop.hub, s.recorder)).1 := rfl

theorem State.stop_reach (s : State) : HubReach s.hub s.stage.stop.hub := Stage.stop_reach (p := s.stage) (.refl _)

theorem State.stopped_reach_stop (s : State) : HubReach s.stage.stop.hub s.stopped.hub :=
  Desk.closeForStandby_reach (d := (s.stage.stop.hub, s.recorder)) (.refl _)

theorem State.stopped_reach (s : State) : HubReach s.hub s.stopped.hub := s.stop_reach.trans s.stopped_reach_stop

/-- R195: the requests that neither the player nor the recorder owes stand. -/
theorem State.stopped_entry (entry : s.hub.inFlightEntry slot = some e) (player : s.player.pendingSlot ≠ some slot)
    (recorder : s.recorder.pendingSlot ≠ some slot) : s.stopped.hub.inFlightEntry slot = some e :=
  (Desk.closeForStandby_spares (d := (s.stage.stop.hub, s.recorder)) ⟨Stage.stop_entry (p := s.stage) entry player, recorder⟩).1

theorem State.stopped_closing_iff (attached : s.hub.attach = .attached) :
    s.stopped.recorder.state = .closing ↔ s.recorder.state = .closing :=
  Desk.closeForStandby_closing_iff (d := (s.stage.stop.hub, s.recorder)) (s.stop_reach.attach.trans attached)

/-- R195: the entry stops the player and closes the recorder; unless a closing is awaited, the silence follows. -/
theorem State.beginEntry_eq (slot : Fin 32) (s : State) :
    ∃ u x, s.beginEntry slot = { u with entry := x } ∧ (u = s.stopped ∨ u = s.stopped.silence) := by
  by_cases closing : s.stopped.recorder.state = .closing
  · exact ⟨_, _, State.beginEntry_of_closing closing, .inl rfl⟩
  · exact ⟨_, _, State.beginEntry_of_closed closing, .inr rfl⟩

/-- What the silence leaves alone, the entry to standby leaves as the stop and the close made it. -/
theorem State.beginEntry_keeps_of {P : State → Prop} (entry : ∀ (u : State) x, P u → P { u with entry := x })
    (stopped : P s.stopped) (silent : P s.stopped.silence) : P (s.beginEntry slot) := by
  obtain ⟨u, x, begun, same | same⟩ := State.beginEntry_eq slot s
  · rw [begun]
    exact entry u x (same ▸ stopped)
  · rw [begun]
    exact entry u x (same ▸ silent)

theorem State.beginEntry_player (s : State) : (s.beginEntry slot).player = s.stage.stop.player :=
  State.beginEntry_keeps_of (P := fun u => u.player = s.stage.stop.player) (fun _ _ x => x) s.stopped_player
    (s.stopped.silence_player.trans s.stopped_player)

theorem State.beginEntry_recorder (s : State) : (s.beginEntry slot).recorder = s.stopped.recorder :=
  State.beginEntry_keeps_of (P := fun u => u.recorder = s.stopped.recorder) (fun _ _ x => x) rfl s.stopped.silence_recorder

theorem State.beginEntry_standby (s : State) : (s.beginEntry slot).standby = s.standby :=
  State.beginEntry_keeps_of (P := fun u => u.standby = s.standby) (fun _ _ x => x) s.stopped_standby
    (s.stopped.silence_standby.trans s.stopped_standby)

theorem State.beginEntry_inFlight (s : State) : (s.beginEntry slot).hub.inFlight = s.stopped.hub.inFlight :=
  State.beginEntry_keeps_of (P := fun u => u.hub.inFlight = s.stopped.hub.inFlight) (fun _ _ x => x) rfl
    s.stopped.silence_inFlight

theorem State.beginEntry_posted (s : State) : s.stopped.hub.posted <+: (s.beginEntry slot).hub.posted :=
  State.beginEntry_keeps_of (P := fun u => s.stopped.hub.posted <+: u.hub.posted) (fun _ _ x => x) (List.prefix_refl _)
    s.stopped.silence_posted

theorem State.beginEntry_keeps (i : Nat) (s : State) : Hub.KeepsCause i s.stopped.hub (s.beginEntry slot).hub :=
  State.beginEntry_keeps_of (P := fun u => Hub.KeepsCause i s.stopped.hub u.hub) (fun _ _ x => x) (.of_eq rfl)
    (s.stopped.silence_keeps i)

end Sys2Proof.Machine
end

section
/-! PROOFS. STANDBY_ENTER (first part of O58): what the entry leaves of the recorder, the player, the voices, the journal and the
requests. -/

namespace Sys2Proof.Machine

variable {s t u : State} {slot : Fin 32}

/-! ### Requests answered in the course of other work (R185) -/

/-- R185: a request in flight that some work completes, with other work before and after. -/
theorem finished_of_completed {k : Fin 32} {code : ResultCode} {data : List Byte} {h h' : Hub}
    (before : s.hub.posted <+: h.posted) (steady : h.attach = s.hub.attach ∧ h.region = s.hub.region)
    (entry : ∀ e, s.hub.inFlightEntry k = some e → h.inFlightEntry k = some e)
    (done : h' = h.completeRequest k code data) (after : h'.posted <+: t.hub.posted) (table : t.hub.inFlight = h'.inFlight)
    (cause : Hub.KeepsCause 0 h' t.hub) : Finished k code data s t := by
  intro e attached owed
  have entry' := entry e owed
  have attached' : h.attach = .attached := steady.1.trans attached
  obtain ⟨w, before⟩ := before
  obtain ⟨w', after⟩ := after
  subst done
  refine ⟨⟨w, w', ?_⟩, ?_, cause (Hub.completeRequest_cause entry' attached')⟩
  · rw [← after, Hub.completeRequest_posted entry' attached', ← before, Hub.resultWrites_congr steady.2]
  · rw [Hub.holdsSlot, table]
    exact Hub.completeRequest_holdsSlot

/-- R184: a slot's entry stands when another request is taken. -/
theorem State.handed_entry_of_entry {kind : RequestKind} {tag : Word16} {args : List Byte} {k : Fin 32} {e : InFlight}
    (entry : s.hub.inFlightEntry k = some e) : (s.handed slot kind tag args).hub.inFlightEntry k = some e := by
  rw [Hub.inFlightEntry] at entry
  rw [Hub.inFlightEntry, State.handed_inFlight, List.find?_append, entry]
  rfl

/-- R181: no two blocks owe the same request. -/
theorem RequestsOwed.player_ne_recorder {k : Fin 32} (owed : RequestsOwed s) (recorder : s.recorder.pendingSlot = some k) :
    s.player.pendingSlot ≠ some k := by
  intro player
  have once : s.owedSlots.Nodup := owed.owed.nodup_iff.mpr owed.once
  simp [State.owedSlots, player, recorder, List.nodup_append] at once

/-! ### The recorder (R164) -/

theorem State.beginEntry_recorder_of_resting (resting : u.recorder.state = .idle ∨ u.recorder.state = .closing) :
    (u.beginEntry slot).recorder = u.recorder := by
  rw [State.beginEntry_recorder, State.stopped_recorder, Desk.closeForStandby_of_resting resting]

theorem State.beginEntry_recorder_of_armed (armed : u.recorder.state = .armed) :
    (u.beginEntry slot).recorder = { u.recorder with state := .idle, pendingSlot := none } := by
  rw [State.beginEntry_recorder, State.stopped_recorder, Desk.closeForStandby_of_armed armed]
  rfl

/-- R164: a take that is being recorded is closed. -/
theorem State.beginEntry_recorder_of_recording (recording : u.recorder.state = .recording) :
    (u.beginEntry slot).recorder = (Desk.close (u.stage.stop.hub, { u.recorder with pendingSlot := none })).2 := by
  rw [State.beginEntry_recorder, State.stopped_recorder, Desk.closeForStandby_of_recording recording]

theorem State.stopped_over (attached : u.hub.attach = .attached) (recording : u.recorder.state = .recording) :
    Desk.Over (u.stopped.hub, u.stopped.recorder) := by
  rw [State.stopped_desk, Desk.closeForStandby_of_recording recording]
  exact Desk.close_over (u.stop_reach.attach.trans attached)

/-- R164: a RECORD_START still pending completes ABORTED. -/
theorem State.stopped_hub_of_armed {k : Fin 32} (armed : u.recorder.state = .armed) (pending : u.recorder.pendingSlot = some k) :
    u.stopped.hub = (u.stage.stop.hub.dropReads ReadTag.isList).completeRequest k .aborted [] := by
  rw [State.stopped_hub, Desk.closeForStandby_of_armed armed]
  show (u.stage.stop.hub.dropReads ReadTag.isList).completeOptional u.recorder.pendingSlot .aborted [] = _
  rw [pending]
  rfl

/-! ### CAUSE.PRACTICE (R153, R163) -/

theorem State.beginEntry_cause (attached : u.hub.attach = .attached)
    (ends : u.player.state.inProgress = true ∨ u.recorder.state = .recording) :
    (u.beginEntry slot).hub.regs.cause.getLsbD 3 = true := by
  refine State.beginEntry_keeps 3 u ?_
  rcases ends with playing | recording
  · exact u.stopped_reach_stop.keepsCause (Stage.stop_cause (p := u.stage) playing attached)
  · exact (State.stopped_over attached recording).cause

/-! ### The silence (R195 steps 3 and 4) -/

/-- R64: a voice that awaits its first fill goes FREE when it is cut. -/
theorem Voice.cutAt_phase_of_awaiting {v : Voice} (awaits : v.firstFill = true) (clock n : Nat) :
    (v.cutAt clock n).phase = .free := by simp [Voice.cutAt, awaits, Voice.reset]

theorem Voice.cutAt_of_filled {v : Voice} (filled : v.firstFill = false) (clock n : Nat) : v.cutAt clock n =
    { v with phase := .cutting, keyDown := false, sostenutoHeld := false, cutTime := clock, cutLevel := v.level, cutNumber := n } := by
  simp [Voice.cutAt, filled]

theorem Voice.Released.firstFill {v w : Voice} (x : v.Released w) : w.firstFill = v.firstFill := by rw [x.same]

/-- R68, R64: a note-off before a cut makes no difference to what the cut leaves. -/
theorem Voice.Released.cutAt_of_filled {v w : Voice} (x : v.Released w) (filled : v.firstFill = false) (clock n : Nat) :
    w.cutAt clock n = v.cutAt clock n := by
  rw [Voice.cutAt_of_filled (x.firstFill.trans filled), Voice.cutAt_of_filled filled, x.same]

/-- R64, R195: a voice that was alive when the entry began is FREE or CUTTING after the silence. -/
theorem State.stopped_silence_voice (k : Fin 96) (alive : (u.voice.get k).alive = true) :
    ((u.voice.get k).firstFill = true → (u.stopped.silence.voice.get k).phase = .free) ∧
    ((u.voice.get k).firstFill = false → ∃ n, u.voice.cuts ≤ n ∧
      u.stopped.silence.voice.get k = (u.voice.get k).cutAt u.voice.sampleClock.toNat n) := by
  obtain ⟨voices, clock, cuts⟩ : u.voice.Released u.stopped.voice := Stage.stop_voice u.stage
  have released := voices k
  obtain ⟨n, least, cut⟩ := (u.stopped.silence_get k).2 (released.alive.trans alive)
  refine ⟨fun awaits => ?_, fun filled => ⟨n, cuts ▸ least, ?_⟩⟩
  · rw [cut, Voice.cutAt_phase_of_awaiting (released.firstFill.trans awaits)]
  · rw [cut, clock, released.cutAt_of_filled filled]

/-- R174, R195: the journal at the entry: the open page is sealed, and no other. -/
theorem State.stopped_silence_journal (u : State) :
    u.stopped.silence.hub.journal.state ≠ .filling ∧
    if u.hub.journal.state = .filling then u.stopped.silence.hub.journal.sealed = u.hub.journal.sealed + 1 ∧
      u.stopped.silence.hub.journal.sequence = u.hub.journal.sequence + 1
    else u.stopped.silence.hub.journal.sealed = u.hub.journal.sealed ∧
      u.stopped.silence.hub.journal.sequence = u.hub.journal.sequence := by
  obtain ⟨once, closed⟩ := u.stopped.silence_journal
  exact ⟨closed, (u.stopped_reach.sealsOnce.trans once).closed closed⟩

/-! ### The request -/

theorem refuseStandbyEnter_of_allowed {a : List Byte} (still : s.rail.state.still = true)
    (codes : bitOf (u8At a 0) 0 = true → u8At a 1 ≤ 50 ∧ 1 ≤ u8At a 2 ∧ u8At a 2 ≤ 20) : refuseStandbyEnter a s = none := by
  have allowed : ¬ (bitOf (u8At a 0) 0 && (50 < u8At a 1 || u8At a 2 < 1 || 20 < u8At a 2)) = true := by
    rintro refused
    simp only [Bool.and_eq_true, Bool.or_eq_true, decide_eq_true_eq] at refused
    obtain ⟨flag, out⟩ := refused
    obtain ⟨delay, width, width'⟩ := codes flag
    omega
  simp only [refuseStandbyEnter, if_neg allowed, still, Bool.not_true, Bool.false_eq_true, if_false]

/-- R195 steps 3 and 4: what the entry leaves unless it awaits a closing. -/
theorem State.beginEntry_silent (closed : u.stopped.recorder.state ≠ .closing) :
    (u.beginEntry slot).entry = some (slot, .journalSeal) ∧ (u.beginEntry slot).voice.queue = [] ∧
    (∀ k : Fin 96, let v := u.voice.voices[k]
      (v.phase = .sounding ∨ v.phase = .damping → v.firstFill = true → (u.beginEntry slot).voice.voices[k].phase = .free) ∧
      (v.phase = .sounding ∨ v.phase = .damping → v.firstFill = false → ∃ n, u.voice.cuts ≤ n ∧
        (u.beginEntry slot).voice.voices[k] = { v with
          phase := .cutting, keyDown := false, sostenutoHeld := false, cutTime := u.voice.sampleClock.toNat
          cutLevel := v.level, cutNumber := n }) ∧
      (u.beginEntry slot).voice.voices[k].phase ≠ .sounding ∧ (u.beginEntry slot).voice.voices[k].phase ≠ .damping) ∧
    (u.beginEntry slot).hub.journal.state ≠ .filling ∧
    (u.hub.journal.state = .filling → (u.beginEntry slot).hub.journal.sealed = u.hub.journal.sealed + 1 ∧
      (u.beginEntry slot).hub.journal.sequence = u.hub.journal.sequence + 1) ∧
    (u.hub.journal.state ≠ .filling → (u.beginEntry slot).hub.journal.sealed = u.hub.journal.sealed) := by
  have queue := u.stopped.silence_queue
  have voice := fun k => u.stopped_silence_voice k
  have silent := fun k => u.stopped.silence_not_alive k
  obtain ⟨sealed, count⟩ := u.stopped_silence_journal
  rw [State.beginEntry_of_closed closed]
  generalize u.stopped.silence = w at *
  refine ⟨rfl, queue, fun k => ⟨fun alive => (voice k ((Voice.alive_iff _).mpr alive)).1, fun alive filled => ?_, ?_⟩, sealed,
    fun filling => ?_, fun other => ?_⟩
  · obtain ⟨n, least, cut⟩ := (voice k ((Voice.alive_iff _).mpr alive)).2 filled
    exact ⟨n, least, cut.trans (Voice.cutAt_of_filled filled _ _)⟩
  · exact not_or.mp fun alive => Bool.false_ne_true ((silent k).symm.trans ((Voice.alive_iff _).mpr alive))
  · rwa [if_pos filling] at count
  · rw [if_neg other] at count
    exact count.1

/-- R164, R185: the answer that a RECORD_START still pending gets. -/
theorem State.beginEntry_finished {kind : RequestKind} {tag : Word16} {args : List Byte} {k : Fin 32}
    (owed : RequestsOwed s) (attached : s.hub.attach = .attached) (handed : u.hub = (s.handed slot kind tag args).hub)
    (player : u.player = s.player) (recorder : u.recorder = s.recorder)
    (armed : s.recorder.state = .armed) (pending : s.recorder.pendingSlot = some k) :
    Finished k .aborted [] s (u.beginEntry slot) := by
  have stop := u.stop_reach
  refine finished_of_completed (h := u.stage.stop.hub.dropReads ReadTag.isList) (h' := u.stopped.hub) ?_ ⟨?_, ?_⟩
    (fun e entry => ?_) (State.stopped_hub_of_armed (recorder ▸ armed) (recorder ▸ pending)) u.beginEntry_posted
    u.beginEntry_inFlight (u.beginEntry_keeps 0)
  · refine List.IsPrefix.trans ?_ stop.posted
    rw [handed, State.handed_posted attached]
    exact List.prefix_append _ _
  · show u.stage.stop.hub.attach = _
    rw [stop.attach, handed, State.handed_attach]
  · show u.stage.stop.hub.region = _
    rw [stop.region, handed, State.handed_region]
  · show u.stage.stop.hub.inFlightEntry k = some e
    refine Stage.stop_entry (p := u.stage) ?_ ?_
    · show u.hub.inFlightEntry k = some e
      rw [handed]
      exact State.handed_entry_of_entry entry
    · show u.player.pendingSlot ≠ some k
      rw [player]
      exact owed.player_ne_recorder pending

/-- R194: the codes are stored with the apply flag set. -/
theorem Standby.configure_of_set {a : List Byte} {b : Standby} (set : bitOf (u8At a 0) 0 = true) :
    b.configure a = { b with delay := u8At a 1, width := u8At a 2 } := if_pos set

theorem Standby.configure_of_clear {a : List Byte} {b : Standby} (clear : bitOf (u8At a 0) 0 = false) : b.configure a = b :=
  if_neg (by simp [clear])

end Sys2Proof.Machine
end

section
/-! SUPPORT. The detach (R181) and the lanes at the entry to STANDBY (R18): what each posts, keeps and tells the rail. -/

namespace Sys2Proof.Machine

variable {s : State} {n : Fin 8}

/-! ### The detach (R181) -/

/-- From the hub `a` to the hub `b` nothing is posted, no time passes, and the writer is OFF. -/
structure Hub.LeftOff (a b : Hub) : Prop where
  posted : b.posted = a.posted
  now : b.now = a.now
  off : b.journal.state = .off

theorem Hub.LeftOff.drop {a b : Hub} (x : a.LeftOff b) (which : ReadTag → Bool) : a.LeftOff (b.dropReads which) :=
  ⟨x.posted, x.now, x.off⟩

theorem Hub.journalDetach_leftOff (h : Hub) : h.LeftOff h.journalDetach := ⟨rfl, rfl, rfl⟩

theorem Stage.detach_leftOff {a : Hub} {p : Stage} (x : a.LeftOff p.hub) : a.LeftOff p.detach.hub := by
  obtain ⟨posted, off⟩ := p.ended_of_off x.off
  exact ⟨posted.trans x.posted, p.ended_reach.now.trans x.now, off⟩

theorem Engine.freeVoice_leftOff {a : Hub} {e : Engine} (k : Fin 96) (x : a.LeftOff e.1) : a.LeftOff (e.freeVoice k).1 := by
  unfold Engine.freeVoice
  dsimp only
  split
  · exact ⟨x.posted, x.now, x.off⟩
  · exact x

theorem Engine.cutVoice_leftOff {a : Hub} {e : Engine} (k : Fin 96) (x : a.LeftOff e.1) : a.LeftOff (e.cutVoice k).1 := by
  unfold Engine.cutVoice
  dsimp only
  split
  · split
    · exact Engine.freeVoice_leftOff k x
    · exact x
  · exact x

theorem Engine.cutAll_leftOff {a : Hub} {e : Engine} (p : Voice → Bool) (x : a.LeftOff e.1) : a.LeftOff (e.cutAll p).1 := by
  unfold Engine.cutAll
  generalize List.finRange 96 = l
  induction l generalizing e with
  | nil => exact x
  | cons k l ih =>
    rw [List.foldl_cons]
    split
    · exact ih (Engine.cutVoice_leftOff k x)
    · exact ih x

theorem Engine.detach_leftOff {a : Hub} {e : Engine} (x : a.LeftOff e.1) : a.LeftOff e.detach.1 := by
  have cut := Engine.cutAll_leftOff (e := (e.1, { e.2 with queue := [], keyMap := emptyKeyMap, load := none })) Voice.alive x
  unfold Engine.detach
  dsimp only
  generalize Engine.cutAll Voice.alive _ = e' at cut ⊢
  exact cut.drop _

/-- R181: the owners at a detach, before the exchange controller. -/
def State.letGo (s : State) : State :=
  (((s.mapHub Hub.journalDetach).mapStage Stage.detach).mapRecorder Desk.detach).trackerDetach.mapVoice Engine.detach

theorem State.detach_eq (next : AttachState) (s : State) :
    s.detach next = { s.letGo with rail := s.letGo.rail.detach, hub := s.letGo.hub.detach next, entry := none } := rfl

theorem State.letGo_leftOff (s : State) : s.hub.LeftOff s.letGo.hub := by
  have stage : s.hub.LeftOff ((s.mapHub Hub.journalDetach).mapStage Stage.detach).hub :=
    Stage.detach_leftOff (p := (s.mapHub Hub.journalDetach).stage) (Hub.journalDetach_leftOff s.hub)
  unfold State.letGo
  generalize (s.mapHub Hub.journalDetach).mapStage Stage.detach = u at stage
  have desk : s.hub.LeftOff (u.mapRecorder Desk.detach).trackerDetach.hub := (stage.drop _).drop _
  generalize (u.mapRecorder Desk.detach).trackerDetach = v at desk
  exact Engine.detach_leftOff (e := (v.hub, v.voice)) desk

/-- What the owners at a detach leave alone. -/
theorem State.letGo_lanes (s : State) : s.letGo.lanes = s.lanes := by simp [State.letGo, State.trackerDetach]
theorem State.letGo_calibration (s : State) : s.letGo.calibration = s.calibration := by
  simp [State.letGo, State.trackerDetach]
theorem State.letGo_standby (s : State) : s.letGo.standby = s.standby := by simp [State.letGo, State.trackerDetach]
theorem State.letGo_power (s : State) : s.letGo.mainUp = s.mainUp := by
  simp [State.letGo, State.trackerDetach, State.mainUp]

/-- R38, R42: a detach leaves the masks of the keys. -/
theorem State.letGo_masked (k : Fin 88) (s : State) : s.letGo.keys[k].masked = s.keys[k].masked := by
  have ended : ∀ u : State, u.trackerDetach.keys = if u.tracker.window.isSome then endCalibrating u.keys else u.keys :=
    fun _ => rfl
  simp only [State.letGo, State.mapVoice_keys, ended, State.mapRecorder_keys, State.mapStage_keys, State.mapHub_keys]
  split
  · simp only [endCalibrating, Fin.getElem_fin, Vector.getElem_ofFn]
    split <;> rfl
  · rfl

/-! ### The lanes at the entry to STANDBY (R18) -/

theorem State.laneToStandby_of_running (m : Fin 9) (s : State)
    (running : s.lanes[m].state = .probing ∨ s.lanes[m].state = .active ∨ s.lanes[m].state = .recovering) :
    s.laneToStandby m = s.changeLane m { s.lanes[m].countExchange with state := .off, phase := .idle } .standby := by
  unfold State.laneToStandby
  rcases running with state | state | state <;> simp only [state]

theorem State.laneToStandby_of_resting (m : Fin 9) (s : State)
    (resting : s.lanes[m].state = .off ∨ s.lanes[m].state = .absent) : s.laneToStandby m = s := by
  unfold State.laneToStandby
  rcases resting with state | state <;> simp only [state]

/-- Table 1-2: the five states of a lane, by whether it serves or is being brought to serve. -/
theorem LaneState.running_or_resting (x : LaneState) : (x = .probing ∨ x = .active ∨ x = .recovering) ∨ x = .off ∨ x = .absent := by
  cases x <;> simp

/-- R18: the lane itself is OFF or ABSENT, and the others are as before. -/
theorem State.laneToStandby_lane (m i : Fin 9) (s : State) :
    (i = m → (s.laneToStandby m).lanes[i].state = .off ∨ (s.laneToStandby m).lanes[i].state = .absent) ∧
    (i ≠ m → (s.laneToStandby m).lanes[i] = s.lanes[i]) := by
  rcases LaneState.running_or_resting s.lanes[m].state with running | resting
  · rw [State.laneToStandby_of_running m s running, State.changeLane_lanes]
    refine ⟨fun same => ?_, fun other => ?_⟩
    · subst same
      exact .inl (by simp)
    · have off : m.val ≠ i.val := fun x => other (Fin.ext x.symm)
      simp [off]
  · rw [State.laneToStandby_of_resting m s resting]
    exact ⟨fun same => same ▸ resting, fun _ => rfl⟩

/-- R18: along a list of lanes. -/
theorem State.lanesToStandby_lane (i : Fin 9) (l : List (Fin 9)) (s : State)
    (done : i ∈ l ∨ s.lanes[i].state = .off ∨ s.lanes[i].state = .absent) :
    let t := l.foldl (fun s m => s.laneToStandby m) s
    t.lanes[i].state = .off ∨ t.lanes[i].state = .absent := by
  induction l generalizing s with
  | nil => exact done.resolve_left List.not_mem_nil
  | cons m l ih =>
    refine ih (s.laneToStandby m) ?_
    obtain ⟨own, others⟩ := State.laneToStandby_lane m i s
    by_cases same : i = m
    · exact .inr (own same)
    · rw [others same]
      exact done.imp_left fun mem => (List.mem_cons.mp mem).resolve_left same

/-! ### The quiet condition at the entry (R18, R36) -/

/-- The rail's copy of the quiet condition, where true, has been so since `now`, the state's time. -/
structure State.QuietFrom (now : Nat) (s : State) : Prop where
  time : s.hub.now = now
  held : s.rail.quiet = true → s.rail.quietSince = now

theorem State.QuietFrom.congr {now : Nat} {s t : State} (x : s.QuietFrom now) (time : t.hub.now = s.hub.now)
    (rail : t.rail = s.rail) : t.QuietFrom now := ⟨time.trans x.time, by rw [rail]; exact x.held⟩

theorem State.reevalQuiet_quietFrom {now : Nat} (x : s.QuietFrom now) : s.reevalQuiet.QuietFrom now := by
  have time : s.reevalQuiet.hub.now = s.hub.now := (State.reevalQuiet_work (List.Subset.refl _) (Work.refl _ s)).now
  refine ⟨time.trans x.time, fun quiet => ?_⟩
  by_cases before : s.rail.quiet = true
  · have same : s.quietCondition = s.rail.quiet := by rw [before, ← s.reevalQuiet_quiet, quiet]
    have rail : s.reevalQuiet.rail = s.rail := by
      rw [State.reevalQuiet, State.mapDeck_rail, Deck.setQuiet, if_pos (show s.quietCondition = s.deck.rail.quiet from same)]
      rfl
    rw [rail]
    exact x.held before
  · rw [State.reevalQuiet_since (Bool.not_eq_true _ ▸ before) quiet, x.time]

/-- Work that leaves the rail alone leaves its copy of the quiet condition. -/
theorem Work.quietFrom {l : List Piece} {t : State} {now : Nat} (w : Work l s t) (rail : Piece.rail ∉ l) (x : s.QuietFrom now) :
    t.QuietFrom now := x.congr w.now (w.same .rail rail)

theorem State.laneLost_quietFrom {now : Nat} (m : Fin 9) (x : s.QuietFrom now) : (s.laneLost m).QuietFrom now := by
  unfold State.laneLost
  split
  · refine State.reevalQuiet_quietFrom (Work.quietFrom (l := [.keys, .pedals, .hub, .voice, .recorder]) ?_ (by decide) x)
    exact Work.foldl (fun _ _ y => State.loseKey_work _ (List.Subset.refl _) y) _ (.refl _ s)
  · exact Work.quietFrom (State.pedalLaneLost_work (List.Subset.refl _) (.refl _ s)) (by decide) x

theorem State.changeLane_quietFrom {now : Nat} (m : Fin 9) (l : Lane) (d : LaneDetail) (x : s.QuietFrom now) :
    (s.changeLane m l d).QuietFrom now := by
  unfold State.changeLane
  dsimp only
  refine Work.quietFrom (State.noteLane_work m d (List.Subset.refl _) (.refl _ _)) (by decide)
    (State.reevalQuiet_quietFrom ?_)
  split
  · exact (State.laneLost_quietFrom m x).congr rfl rfl
  · exact x.congr rfl rfl

theorem State.laneToStandby_quietFrom {now : Nat} (m : Fin 9) (x : s.QuietFrom now) : (s.laneToStandby m).QuietFrom now := by
  rcases LaneState.running_or_resting s.lanes[m].state with running | resting
  · rw [State.laneToStandby_of_running m s running]
    exact State.changeLane_quietFrom _ _ _ x
  · rw [State.laneToStandby_of_resting m s resting]
    exact x

/-- R18, R36: an ACTIVE key lane that goes OFF tells the rail false first. -/
theorem State.laneToStandby_quiet (active : s.lanes[n.castSucc].state = .active) :
    (s.laneToStandby n.castSucc).QuietFrom s.hub.now := by
  refine ⟨(State.laneToStandby_work _ (List.Subset.refl _) (.refl _ s)).now, ?_⟩
  rw [State.laneToStandby_of_running _ s (.inr (.inl active))]
  exact State.changeLane_quiet n _ _ active LaneState.noConfusion

theorem State.lanesToStandby_quiet (l : List (Fin 9)) (now : Nat) (s : State)
    (told : n.castSucc ∈ l ∧ s.lanes[n.castSucc].state = .active ∧ s.hub.now = now ∨ s.QuietFrom now) :
    (l.foldl (fun s m => s.laneToStandby m) s).QuietFrom now := by
  induction l generalizing s with
  | nil => exact told.resolve_left fun x => List.not_mem_nil x.1
  | cons m l ih =>
    refine ih (s.laneToStandby m) ?_
    rcases told with ⟨mem, active, time⟩ | told
    · by_cases same : n.castSucc = m
      · subst same
        exact .inr (time ▸ State.laneToStandby_quiet active)
      · refine .inl ⟨(List.mem_cons.mp mem).resolve_left same, ?_, ?_⟩
        · rw [(State.laneToStandby_lane m n.castSucc s).2 same, active]
        · exact (State.laneToStandby_work m (List.Subset.refl _) (.refl _ s)).now.trans time
    · exact .inr (State.laneToStandby_quietFrom m told)

end Sys2Proof.Machine
end

section
/-! PROOFS. The shutdown step (R195, R196) and the statement of O58. -/

namespace Sys2Proof.Machine

variable {s : State} {slot : Fin 32}

/-! ### The entry to STANDBY (R18, R196) -/

/-- R18: the lanes go OFF, or stay set aside. -/
def State.lanesOff (s : State) : State := (List.finRange 9).foldl (fun s lane => s.laneToStandby lane) s

theorem State.lanesOff_work (s : State) : Work lanePieces s s.lanesOff :=
  Work.foldl (fun _ _ y => State.laneToStandby_work _ (List.Subset.refl _) y) _ (.refl _ s)

theorem State.lanesOff_lane (i : Fin 9) (s : State) : s.lanesOff.lanes[i].state = .off ∨ s.lanesOff.lanes[i].state = .absent :=
  State.lanesToStandby_lane i _ s (.inl (List.mem_finRange i))

theorem State.lanesOff_quiet {n : Fin 8} (active : s.lanes[n.castSucc].state = .active) : s.lanesOff.QuietFrom s.hub.now :=
  State.lanesToStandby_quiet _ _ s (.inl ⟨List.mem_finRange _, active, rfl⟩)

/-- R196: the standby record at the entry. -/
def State.standbyAtEntry (s : State) : Standby :=
  { s.standby with
    thresholds := s.thresholdsAtEntry, scanner := s.scannerAtEntry, pulse := .idle, lastPulse := none, cause := .none }

/-- What the entry to STANDBY makes of the state `u`, whose lanes are off, with the standby record `record`. -/
structure StandbyEntered (record : Standby) (u t : State) : Prop where
  standby : t.standby = record
  output : t.output.standby = true
  click : t.metronome.click = none
  driver : t.rail.drvEn = false
  quiet : t.rail.quiet = u.rail.quiet ∧ t.rail.quietSince = u.rail.quietSince
  hub : t.hub = u.hub
  lanes : t.lanes = u.lanes
  entry : t.entry = u.entry
  up : t.mainUp = u.mainUp

theorem State.enterStandby_entered (s : State) : StandbyEntered s.standbyAtEntry s.lanesOff s.enterStandby := by
  unfold State.enterStandby State.lanesOff
  dsimp only
  generalize (List.finRange 9).foldl (fun s lane => s.laneToStandby lane) s = u
  exact ⟨rfl, rfl, rfl, rfl, ⟨rfl, rfl⟩, rfl, rfl, rfl, rfl⟩

/-- R196: the lanes that the wake scanner takes. -/
theorem State.scannerAtEntry_lane (n : Fin 8) (s : State) : s.scannerAtEntry[n] =
    if s.lanes[n.castSucc].state = .active then
      some
        { exchange := some
            { step := .startLowRate, value := some 2, number := s.lanes[n.castSucc].exchangeNumber + 1, attempt := 1
              sentAt := s.hub.now, firstSentAt := s.hub.now }
          expected := none, last := none }
    else none := by
  have lane : s.keyLane n = s.lanes[n.castSucc] := rfl
  simp only [State.scannerAtEntry, Fin.getElem_fin, Vector.getElem_ofFn, Fin.eta, lane]
  rfl

theorem State.thresholdsAtEntry_key (k : Fin 88) (s : State) : s.thresholdsAtEntry[k] =
    if s.lanes[(laneOf k).castSucc].state = .active ∧ s.keys[k].masked = false then
      some { rest := s.calibration[k].keyRest, bottom := s.calibration[k].keyBottom, press := s.calibration[k].press }
    else none := by
  have lane : s.keyLane (laneOf k) = s.lanes[(laneOf k).castSucc] := rfl
  simp only [State.thresholdsAtEntry, Fin.getElem_fin, Vector.getElem_ofFn, Fin.eta, lane, Bool.and_eq_true,
    Bool.not_eq_true', decide_eq_true_eq]

/-- Table 1-2: a lane that is OFF or set aside holds its reset line. -/
theorem Lane.holdsReset_of_resting {l : Lane} (resting : l.state = .off ∨ l.state = .absent) : l.holdsReset = true := by
  rw [Lane.holdsReset_iff, ← or_assoc]
  exact .inl resting

theorem State.scannerLane_castSucc (n : Fin 8) (s : State) : s.scannerLane n.castSucc = s.standby.scanner[n] := dif_pos n.isLt

theorem State.scannerLane_pedalLane (s : State) : s.scannerLane 8 = none := dif_neg (Nat.lt_irrefl 8)

/-! ### The completion of the entry (R195 steps 5 to 7) -/

/-- R181, R195: the state in which the part, detached, enters STANDBY. -/
def State.closing (slot : Fin 32) (s : State) : State :=
  (s.mapHub fun h => h.completeRequest slot .ok (le8 s.standby.delay ++ le8 s.standby.width)).detach .standby

theorem State.completeEntry_eq (slot : Fin 32) (s : State) : s.completeEntry slot = (s.closing slot).enterStandby := rfl

/-- R181, R195: what the detach of the entry leaves of the state `s`. -/
structure EntryDetached (slot : Fin 32) (s t : State) : Prop where
  posted : t.hub.posted = (s.hub.completeRequest slot .ok (le8 s.standby.delay ++ le8 s.standby.width)).posted
  now : t.hub.now = s.hub.now
  off : t.hub.journal.state = .off
  attach : t.hub.attach = .standby
  inFlight : t.hub.inFlight = []
  entry : t.entry = none
  lanes : t.lanes = s.lanes
  masked : ∀ k : Fin 88, t.keys[k].masked = s.keys[k].masked
  calibration : t.calibration = s.calibration
  standby : t.standby = s.standby
  up : t.mainUp = s.mainUp

theorem State.closing_detached (slot : Fin 32) (s : State) : EntryDetached slot s (s.closing slot) := by
  have completed : (s.hub.completeRequest slot .ok (le8 s.standby.delay ++ le8 s.standby.width)).now = s.hub.now :=
    (Hub.completeRequest_reach _ _ _ (.refl _)).now
  unfold State.closing
  rw [State.detach_eq]
  generalize made : s.mapHub (fun h => h.completeRequest slot .ok (le8 s.standby.delay ++ le8 s.standby.width)) = u
  have hub : u.hub = s.hub.completeRequest slot .ok (le8 s.standby.delay ++ le8 s.standby.width) := made ▸ rfl
  obtain ⟨posted, now, off⟩ := u.letGo_leftOff
  have lanes := u.letGo_lanes
  have calibration := u.letGo_calibration
  have standby := u.letGo_standby
  have power := u.letGo_power
  have masked := fun k => u.letGo_masked k
  generalize u.letGo = v at *
  exact ⟨posted.trans (by rw [hub]), now.trans (by rw [hub, completed]), off, rfl, rfl, rfl, lanes.trans (made ▸ rfl),
    fun k => (masked k).trans (made ▸ rfl), calibration.trans (made ▸ rfl), standby.trans (made ▸ rfl),
    power.trans (made ▸ rfl)⟩

/-- R196: the scanner's lanes and the thresholds are those of the state in which the entry was completed. -/
theorem EntryDetached.scanner {u : State} (x : EntryDetached slot s u) (n : Fin 8) : u.scannerAtEntry[n] =
    if s.lanes[n.castSucc].state = .active then
      some
        { exchange := some
            { step := .startLowRate, value := some 2, number := s.lanes[n.castSucc].exchangeNumber + 1, attempt := 1
              sentAt := s.hub.now, firstSentAt := s.hub.now }
          expected := none, last := none }
    else none := by
  rw [State.scannerAtEntry_lane, x.lanes, x.now]

theorem EntryDetached.thresholds {u : State} (x : EntryDetached slot s u) (k : Fin 88) : u.thresholdsAtEntry[k] =
    if s.lanes[(laneOf k).castSucc].state = .active ∧ s.keys[k].masked = false then
      some { rest := s.calibration[k].keyRest, bottom := s.calibration[k].keyBottom, press := s.calibration[k].press }
    else none := by
  rw [State.thresholdsAtEntry_key, x.lanes, x.masked, x.calibration]

/-- R195: the entry does not ask which of its stages it had reached. -/
theorem State.closing_entry (slot : Fin 32) (x : Option (Fin 32 × EntryStage)) (s : State) :
    ({ s with entry := x } : State).closing slot = s.closing slot := by
  unfold State.closing State.detach
  rfl

theorem exec_standbyShutdownStep (up : s.mainUp = true) : exec .standbyShutdownStep s = .next s.shutdownStep :=
  congrArg Host.Outcome.next (State.whenUp_of_up _ _ up)

/-- R195: the shutdown step by the stage of the entry. -/
theorem State.shutdownStep_of_seal (waits : s.entry = some (slot, .journalSeal)) : s.shutdownStep = s.completeEntry slot := by
  rw [State.shutdownStep, waits]

theorem State.shutdownStep_of_closing (waits : s.entry = some (slot, .recorderClose)) (closing : s.recorder.state = .closing) :
    s.shutdownStep = s := by
  rw [State.shutdownStep, waits]
  exact if_pos closing

theorem State.shutdownStep_of_closed (waits : s.entry = some (slot, .recorderClose)) (closed : s.recorder.state ≠ .closing) :
    s.shutdownStep = s.silence.completeEntry slot := by
  rw [State.shutdownStep, waits]
  exact if_neg closed

/-- R195, R196: what the part is in STANDBY, of the state `s` in which the entry was completed. -/
theorem State.completeEntry_entered (slot : Fin 32) (s : State) : ∃ u w, EntryDetached slot s u ∧
    StandbyEntered u.standbyAtEntry w (s.completeEntry slot) ∧ w.hub.posted = u.hub.posted ∧ w.hub.journal.state = .off ∧
    w.hub.attach = .standby ∧ w.hub.inFlight = [] ∧ w.entry = none ∧ w.mainUp = s.mainUp ∧
    (∀ i : Fin 9, w.lanes[i].state = .off ∨ w.lanes[i].state = .absent) ∧
    ∀ n : Fin 8, s.lanes[n.castSucc].state = .active → w.rail.quiet = true → w.rail.quietSince = s.hub.now := by
  have detached := s.closing_detached slot
  rw [State.completeEntry_eq]
  generalize s.closing slot = u at detached
  have work := u.lanesOff_work
  have away : u.hub.attach ≠ .attached := by rw [detached.attach]; exact AttachState.noConfusion
  obtain ⟨posted, off⟩ := work.reach.silent away detached.off
  have power : u.lanesOff.mainUp = u.mainUp := by
    obtain ⟨on, held⟩ := work.same .power (by decide)
    rw [State.mainUp, State.mainUp, on, held]
  refine ⟨u, u.lanesOff, detached, u.enterStandby_entered, posted, off, work.reach.attach.trans detached.attach,
    List.sublist_nil.mp (detached.inFlight ▸ work.reach.inFlight), (work.same .entry (by decide)).trans detached.entry,
    power.trans detached.up, fun i => u.lanesOff_lane i, fun n active quiet => ?_⟩
  rw [(State.lanesOff_quiet (s := u) (detached.lanes ▸ active)).held quiet, detached.now]

/-- R4, R196: in STANDBY a lane's reset line is active unless the wake scanner has the lane. -/
theorem laneResetActive_iff_unscanned {t : State} {i : Fin 9} (up : t.mainUp = true)
    (resting : t.lanes[i].state = .off ∨ t.lanes[i].state = .absent) : t.laneResetActive i = (t.scannerLane i).isNone := by
  rw [State.laneResetActive_of_up up, Lane.holdsReset_of_resting resting, Bool.true_and]

end Sys2Proof.Machine

open Sys2Proof Sys2Proof.Machine

/-- Settles O58: the entry by what its parts leave, the shutdown step by the detach and the entry to STANDBY that it makes. -/
theorem standbyIsEntered : Obligations.StandbyIsEntered := by
  intro s
  refine ⟨fun slot tag a hands owed still codes => ?_, fun slot e up attached waits entry => ?_,
    fun slot up waits closing => ?_, fun slot up waits closed => ?_, fun up none_ => ?_⟩
  · obtain ⟨-, attached, -, fresh, -⟩ := State.hands_iff.mp hands
    have taken := exec_handed (c := .standbyEnter slot tag a) rfl hands (refuseStandbyEnter_of_allowed still codes)
    have entry := State.handed_entry (s := s) (kind := .standbyEnter) (tag := tag) (args := a) fresh
    have posted := State.handed_posted (s := s) (slot := slot) (kind := .standbyEnter) (tag := tag) (args := a) attached
    have unowed := owed.not_owed fresh
    have noPlayer : s.player.pendingSlot ≠ some slot := fun pending => unowed (by simp [State.owedSlots, pending])
    have noRecorder : s.recorder.pendingSlot ≠ some slot := fun pending => unowed (by simp [State.owedSlots, pending])
    generalize started : ({ s.handed slot .standbyEnter tag a with standby := s.standby.configure a } : State) = u
    have hub : u.hub = (s.handed slot .standbyEnter tag a).hub := started ▸ rfl
    have player : u.player = s.player := started ▸ rfl
    have recorder : u.recorder = s.recorder := started ▸ rfl
    have voice : u.voice = s.voice := started ▸ rfl
    have standby : u.standby = s.standby.configure a := started ▸ rfl
    have journal : u.hub.journal = s.hub.journal := by rw [hub, State.handed_journal]
    have attached' : u.hub.attach = .attached := by rw [hub, State.handed_attach, attached]
    have tracking : u.stage.stop.hub.tracking = s.hub.tracking := by
      rw [u.stop_reach.tracking, hub, State.handed_tracking]
    refine ⟨u.beginEntry slot, taken.trans (congrArg Host.Outcome.next (started ▸ rfl)),
      takenAndHeld_of_entry attached (kind := .standbyEnter) (tag := tag) (args := a) ?_
        (e := { slot, kind := .standbyEnter, tag, owner := RequestKind.ownerFor a .standbyEnter }) ?_, ?_, fun busy => ?_,
      fun ends => ?_, fun closing => ?_, fun idle => ?_, fun armed => ⟨?_, fun k pending => ?_⟩, fun recording => ?_,
      fun open_ => ?_, fun set => ?_, fun clear => ?_⟩
    · rw [← hub]
      exact u.stopped_reach.posted.trans u.beginEntry_posted
    · rw [Hub.inFlightEntry, State.beginEntry_inFlight]
      exact State.stopped_entry (hub ▸ entry) (player ▸ noPlayer) (recorder ▸ noRecorder)
    · rw [State.beginEntry_player]
      exact Stage.stop_state u.stage
    · rw [State.beginEntry_player]
      exact Stage.stop_player (p := u.stage) (show u.player.state.inProgress = true from player ▸ busy)
    · exact State.beginEntry_cause attached' (by rw [player, recorder]; exact ends)
    · have closing' := (State.stopped_closing_iff attached').mpr (recorder ▸ closing)
      exact ⟨by rw [State.beginEntry_of_closing closing'],
        (State.beginEntry_recorder_of_resting (recorder ▸ .inr closing)).trans recorder⟩
    · exact (State.beginEntry_recorder_of_resting (recorder ▸ .inl idle)).trans recorder
    · rw [State.beginEntry_recorder_of_armed (recorder ▸ armed), recorder]
    · exact State.beginEntry_finished owed attached hub player recorder armed pending
    · obtain ⟨idle, keys, pending, -⟩ := State.stopped_over attached' (recorder ▸ recording)
      rw [State.beginEntry_recorder]
      refine ⟨idle, keys, pending, u.stage.stop.hub, tracking, ?_⟩
      rw [← State.beginEntry_recorder (slot := slot), State.beginEntry_recorder_of_recording (recorder ▸ recording), recorder]
    · rw [← voice, ← journal]
      exact State.beginEntry_silent fun closing => open_ (recorder ▸ (State.stopped_closing_iff attached').mp closing)
    · rw [State.beginEntry_standby, standby, Standby.configure_of_set set]
    · rw [State.beginEntry_standby, standby, Standby.configure_of_clear clear]
  · obtain ⟨u, w, detached, entered, posted, off, attach, inFlight, none_, power, resting, quiet⟩ := s.completeEntry_entered slot
    refine ⟨s.completeEntry slot, (exec_standbyShutdownStep up).trans (by rw [State.shutdownStep_of_seal waits]), ?_⟩
    generalize s.completeEntry slot = t at entered
    have up' : t.mainUp = true := entered.up.trans (power.trans up)
    have resting' : ∀ i : Fin 9, t.lanes[i].state = .off ∨ t.lanes[i].state = .absent := fun i => by
      rw [entered.lanes]; exact resting i
    have scanner : t.standby.scanner = u.scannerAtEntry := by rw [entered.standby]; rfl
    refine ⟨?_, ?_, ?_, ?_, ?_, resting', entered.output, entered.click, entered.driver, ?_, ?_, ?_, ?_, fun n active q => ?_,
      fun n => ⟨?_, ?_⟩, fun k => ?_⟩
    · rw [entered.hub, posted, detached.posted, Hub.completeRequest_posted entry attached]
    · rw [entered.hub, attach]
    · rw [entered.hub, inFlight]
    · rw [entered.entry, none_]
    · rw [entered.hub, off]
    · rw [entered.standby]; rfl
    · rw [entered.standby]; rfl
    · rw [entered.standby]; rfl
    · rw [laneResetActive_iff_unscanned up' (resting' 8), State.scannerLane_pedalLane]; rfl
    · obtain ⟨same, since⟩ := entered.quiet
      rw [since]
      exact quiet n active (same ▸ q)
    · rw [laneResetActive_iff_unscanned up' (resting' n.castSucc), State.scannerLane_castSucc, scanner, detached.scanner]
      split
      · next active => exact iff_of_false Bool.false_ne_true (not_not_intro active)
      · next inactive => exact iff_of_true rfl inactive
    · rw [scanner, detached.scanner]
    · rw [entered.standby]
      exact detached.thresholds k
  · rw [exec_standbyShutdownStep up, State.shutdownStep_of_closing waits closing]
  · obtain ⟨-, sealed⟩ := s.silence_journal
    refine ⟨s.silence, ?_, ?_, s.silence_queue, fun k => ?_, sealed, s.silence_attach, s.silence_inFlight⟩
    · have up' : s.silence.mainUp = true := by simp [State.silence, State.mainUp] at up ⊢; exact up
      rw [exec_standbyShutdownStep up, State.shutdownStep_of_closed waits closed]
      generalize s.silence = u at up'
      rw [exec_standbyShutdownStep (s := { u with entry := some (slot, .journalSeal) }) up',
        State.shutdownStep_of_seal (s := { u with entry := some (slot, .journalSeal) }) rfl, State.completeEntry_eq,
        State.completeEntry_eq, State.closing_entry slot (some (slot, .journalSeal)) u]
    · have silent : ∀ f g, (s.mapVoice f).mapHub g =
          { s with hub := ((s.mapVoice f).mapHub g).hub, voice := ((s.mapVoice f).mapHub g).voice } := fun _ _ => rfl
      exact silent _ _
    · exact not_or.mp fun alive => Bool.false_ne_true ((s.silence_not_alive k).symm.trans ((Voice.alive_iff _).mpr alive))
  · rw [exec_standbyShutdownStep up, State.shutdownStep, none_]

end

section
/-! SUPPORT. The key step and the hammer step, state by state (R21 to R28). -/

namespace Sys2Proof.Machine

variable {c : Calibration} {curve : Vector Nat 127} {r : Readings} {k : Key}

/-! ### What a reading says (R21) -/

theorem Readings.risesPast_iff {line : Nat} :
    r.risesPast line = true ↔ ∃ p, r.previous = some p ∧ line ≤ p.1 ∧ r.depth < line := by
  unfold Readings.risesPast
  cases r.previous with
  | none => simp
  | some p => simp

theorem Readings.hammerCrosses_iff {line : Nat} :
    r.hammerCrosses line = true ↔ ∃ p, r.previous = some p ∧ p.2 < line ∧ line ≤ r.height := by
  unfold Readings.hammerCrosses
  cases r.previous with
  | none => simp
  | some p => simp

/-- A key that rises past a line does not go down. -/
theorem Readings.movesDown_of_risesPast {line : Nat} (rises : r.risesPast line = true) : r.movesDown = false := by
  obtain ⟨p, previous, above, below⟩ := Readings.risesPast_iff.mp rises
  simp only [Readings.movesDown, previous, decide_eq_false_iff_not]
  omega

/-! ### The key step (R22, R24, R25, R27, R28) -/

/-- R25, R27: the states of a key whose note is open. -/
def Key.sounds (k : Key) : Bool := k.state == .sounding || k.state == .rearmed || k.state == .restriking

theorem Key.rearmLine_of_silent (silent : k.sounds = false) : k.rearmLine c r = k := by
  unfold Key.rearmLine
  rw [if_neg]
  simp only [Key.sounds, Bool.or_eq_false_iff] at silent
  simp [silent]

theorem Key.damperLine_of_silent (silent : k.sounds = false) : k.damperLine c r = (k, []) := by
  unfold Key.damperLine
  rw [if_neg]
  rw [show (k.state == .sounding || k.state == .rearmed || k.state == .restriking) = false from silent]
  simp

theorem Key.pressLine_of_sounding (sounds : k.sounds = true) : k.pressLine c r = k := by
  unfold Key.pressLine
  simp only [Key.sounds, Bool.or_eq_true, beq_iff_eq] at sounds
  rcases sounds with (state | state) | state <;> simp [state]

theorem Key.pressLine_silent (silent : k.sounds = false) : (k.pressLine c r).sounds = false := by
  unfold Key.pressLine
  split <;> first | exact silent | (split <;> first | rfl | exact silent)

/-- R21: for a key without an open note the line PRESS is all there is. -/
theorem Key.keyStep_of_silent (silent : k.sounds = false) : k.keyStep c r = (k.pressLine c r, []) := by
  have after := Key.pressLine_silent (c := c) (r := r) silent
  unfold Key.keyStep Key.downLines Key.upLines
  dsimp only
  split
  · rw [Key.damperLine_of_silent after, Key.rearmLine_of_silent after]
  · rw [Key.rearmLine_of_silent silent, Key.damperLine_of_silent silent]

/-- R27: what a release leaves and hands out, with the time stamp of REARM. -/
def Key.released (c : Calibration) (r : Readings) (rearm : Option Word32) (k : Key) : Key × List KeyEvent :=
  ({ k with
    state := if r.depth < c.press ∧ r.movesDown = false then .rest else .returning, openNote := false, gateLowStamp := none
    rearmStamp := none }, [.up (releaseVelocity rearm r.stamp) k.lastVelocity false])

/-- R25: the key passes REARM on its way up. -/
def Key.rearmed (r : Readings) (k : Key) : Key := { k with state := .rearmed, rearmStamp := some r.stamp }

theorem Key.rearmLine_of_rises (state : k.state = .sounding ∨ k.state = .rearmed) (rises : r.risesPast c.rearm = true) :
    k.rearmLine c r = k.rearmed r := by
  unfold Key.rearmLine
  rw [if_pos]
  · rfl
  · rw [rises]
    rcases state with state | state <;> simp [state]

theorem Key.rearmLine_of_not (stays : r.risesPast c.rearm = false ∨ k.state = .restriking) : k.rearmLine c r = k := by
  unfold Key.rearmLine
  rw [if_neg]
  rcases stays with stays | state
  · simp [stays]
  · simp [state]

theorem Key.damperLine_of_sounding (sounds : k.sounds = true) :
    k.damperLine c r = if r.depth < c.damper then k.release r else (k, []) := by
  unfold Key.damperLine
  rw [show (k.state == .sounding || k.state == .rearmed || k.state == .restriking) = true from sounds]
  simp

theorem Key.release_pressLine (k : Key) : ((k.release r).1.pressLine c r, (k.release r).2) =
    ({ k with state := if r.depth < c.press then .rest else .returning, openNote := false, gateLowStamp := none
              rearmStamp := none }, [.up (releaseVelocity k.rearmStamp r.stamp) k.lastVelocity false]) := by
  unfold Key.pressLine Key.release
  dsimp only
  split <;> rfl

/-- R25, R27: the key step of a key whose note is open, `q` being the key past the line REARM. -/
theorem Key.keyStep_of_sounding {q : Key} (sounds : k.sounds = true) (past : k.rearmLine c r = q) (sounds' : q.sounds = true)
    (still : r.movesDown = true → q = k) :
    k.keyStep c r = if r.depth < c.damper then q.released c r q.rearmStamp else (q, []) := by
  unfold Key.keyStep Key.downLines Key.upLines
  dsimp only
  split
  · next down =>
    rw [Key.pressLine_of_sounding sounds, Key.damperLine_of_sounding sounds]
    have same := still down
    split
    · rw [Key.rearmLine_of_silent rfl, same]
      simp [Key.released, Key.release, down]
    · rw [past]
  · next up =>
    rw [past, Key.damperLine_of_sounding sounds']
    split
    · rw [Key.release_pressLine]
      simp [Key.released, up]
    · rw [Key.pressLine_of_sounding sounds']

/-! ### The hammer step (R22 to R26) -/

theorem Key.missedStep_of_ne (other : k.state ≠ .missed) : k.missedStep c r = k := by simp [Key.missedStep, other]

theorem Key.missedStep_of_missed (missed : k.state = .missed) :
    k.missedStep c r = if r.height < c.gateLow then { k with state := .pressed } else k := by
  simp [Key.missedStep, missed]

theorem Key.beginStrike_of_not (stays : r.hammerCrosses c.gateLow = false) : k.beginStrike c r = (k, []) := by
  simp [Key.beginStrike, stays]

/-- R22, R26: the state in which a strike begins to be timed. -/
def KeyState.struck : KeyState → Option KeyState
  | .pressed | .returning => some .rising
  | .rearmed => some .restriking
  | _ => none

theorem Key.beginStrike_of_none (none_ : k.state.struck = none) : k.beginStrike c r = (k, []) := by
  unfold Key.beginStrike
  split
  · split <;> first | rfl | (next state => rw [state] at none_; cases none_)
  · rfl

theorem Key.beginStrike_of_crosses {state : KeyState} (crosses : r.hammerCrosses c.gateLow = true)
    (struck : k.state.struck = some state) :
    k.beginStrike c r = ({ k with state := state, gateLowStamp := some r.stamp }, [.launch]) := by
  unfold Key.beginStrike
  rw [if_pos crosses]
  cases from_ : k.state <;> rw [from_] at struck <;> cases struck <;> rfl

/-- R23, R24: only a strike being timed is judged. -/
theorem Key.timeStrike_of_untimed (rising : k.state ≠ .rising) (restriking : k.state ≠ .restriking) :
    k.timeStrike c curve r = (k, []) := by
  unfold Key.timeStrike
  split
  · next state => exact absurd state rising
  · next state => exact absurd state restriking
  · rfl

theorem Key.hammerStep_of_unstruck {q : Key} {e : List KeyEvent} (other : k.state ≠ .missed)
    (begins : k.beginStrike c r = (q, e)) :
    k.hammerStep c curve r = ((q.timeStrike c curve r).1, e ++ (q.timeStrike c curve r).2) := by
  simp only [Key.hammerStep, Key.missedStep_of_ne other, begins]

/-- R24: a MISSED key waits for its hammer to fall below GATE_LOW; no strike begins. -/
theorem Key.hammerStep_of_missed (missed : k.state = .missed) :
    k.hammerStep c curve r = (if r.height < c.gateLow then { k with state := .pressed } else k, []) := by
  have stands : ∀ q : Key, q.state = .missed ∨ q.state = .pressed → q.timeStrike c curve r = (q, []) := fun q state =>
    Key.timeStrike_of_untimed (by rcases state with s | s <;> simp [s]) (by rcases state with s | s <;> simp [s])
  unfold Key.hammerStep
  rw [Key.missedStep_of_missed missed]
  split
  · next low =>
    have stays : r.hammerCrosses c.gateLow = false := by
      rw [← Bool.not_eq_true, Readings.hammerCrosses_iff]
      rintro ⟨p, -, -, reached⟩
      omega
    simp only [Key.beginStrike_of_not stays, stands { k with state := .pressed } (.inr rfl), List.nil_append]
  · simp only [Key.beginStrike_of_none (k := k) (by rw [missed]; rfl), stands k (.inl missed), List.nil_append]

/-! ### The velocity of a strike (R23, R31) -/

theorem curveAt_succ (curve : Vector Nat 127) (i : Fin 127) : curveAt curve (i.val + 1) = curve[i] := by
  simp [curveAt]

/-- R23: the largest velocity whose interval is long enough. -/
theorem strikeVelocity_of_last {t : Nat} (i : Fin 127) (enough : t ≤ curve[i]) (last : ∀ j : Fin 127, i < j → curve[j] < t) :
    strikeVelocity curve t = some (i.val + 1) := by
  have mirror : (List.range 127).find? ((fun v => decide (t ≤ curveAt curve v)) ∘ fun j => 127 - j) = some (126 - i.val) := by
    rw [List.find?_range_eq_some]
    have place : 127 - (126 - i.val) = i.val + 1 := by omega
    refine ⟨?_, List.mem_range.mpr (by omega), fun j before => ?_⟩
    · simpa [place, curveAt_succ] using enough
    · have at_ : 127 - j = (126 - j) + 1 := by omega
      have short := last ⟨126 - j, by omega⟩ (Fin.lt_def.mpr (by simp only; omega))
      simp only [Function.comp, at_, curveAt_succ curve ⟨126 - j, by omega⟩]
      simpa using short
  rw [strikeVelocity, List.find?_map, mirror]
  simp only [Option.map_some, Option.some.injEq]
  omega

theorem strikeVelocity_of_slow {t : Nat} (slow : ∀ i : Fin 127, curve[i] < t) : strikeVelocity curve t = none := by
  rw [strikeVelocity, List.find?_eq_none]
  intro v mem
  obtain ⟨j, inside, rfl⟩ := List.mem_map.mp mem
  have inside' := List.mem_range.mp inside
  have at_ : 127 - j = (126 - j) + 1 := by omega
  have short := slow ⟨126 - j, by omega⟩
  rw [at_, curveAt_succ curve ⟨126 - j, by omega⟩]
  simpa using short

theorem curveAt_one (curve : Vector Nat 127) : curveAt curve 1 = curve[(0 : Fin 127)] := curveAt_succ curve 0

end Sys2Proof.Machine
end

section
/-! SUPPORT. A strike judged and a key tracked, state by state (R20 to R28, R39), and what a launch notice does to the rail (R30,
R109). -/

namespace Sys2Proof.Machine

variable {c : Calibration} {curve : Vector Nat 127} {r : Readings} {k : Key}

/-! ### A strike being timed (R22, R23, R26) -/

/-- R22, R26: the key whose strike fails: MISSED, or REARMED if it was a repeat. -/
def Key.strikeMissed (k : Key) : Key :=
  { k with state := if decide (k.state = .restriking) then .rearmed else .missed, gateLowStamp := none }

/-- R23, R26: the key whose note is struck, and its event. -/
def Key.strikeMade (velocity : Nat) (k : Key) : Key × List KeyEvent :=
  ({ k with state := .sounding, openNote := true, gateLowStamp := none, rearmStamp := none, lastVelocity := velocity },
    [.down velocity (decide (k.state = .restriking))])

/-- R23: the interval of a strike. -/
def Key.strikeTime (gateLow : Word32) (r : Readings) : Nat := max 125 (r.stamp - gateLow).toNat

section
variable {gateLow : Word32} (timed : k.gateLowStamp = some gateLow) (state : k.state = .rising ∨ k.state = .restriking)
include timed state

/-- R23: at GATE_HIGH the strike is judged by the velocity curve. -/
theorem Key.timeStrike_of_fast {v : Nat} (high : c.gateHigh ≤ r.height)
    (fast : strikeVelocity curve (Key.strikeTime gateLow r) = some v) : k.timeStrike c curve r = k.strikeMade v := by
  have t : interval (k.gateLowStamp.getD r.stamp) r.stamp = Key.strikeTime gateLow r := by rw [timed]; rfl
  unfold Key.timeStrike
  rw [t]
  rcases state with state | state <;> simp [state, high, fast, Key.strike, Key.strikeMade]

theorem Key.timeStrike_of_slow (high : c.gateHigh ≤ r.height)
    (slow : strikeVelocity curve (Key.strikeTime gateLow r) = none) : k.timeStrike c curve r = (k.strikeMissed, []) := by
  have t : interval (k.gateLowStamp.getD r.stamp) r.stamp = Key.strikeTime gateLow r := by rw [timed]; rfl
  unfold Key.timeStrike
  rw [t]
  rcases state with state | state <;> simp [state, high, slow, Key.strikeMissed]

/-- R22, R26: between the gates the strike fails once no velocity is left for it. -/
theorem Key.timeStrike_of_between (below : r.height < c.gateHigh) (above : c.gateLow ≤ r.height) :
    k.timeStrike c curve r =
      (if curve[(0 : Fin 127)] < Key.strikeTime gateLow r then k.strikeMissed else k, []) := by
  have t : interval (k.gateLowStamp.getD r.stamp) r.stamp = Key.strikeTime gateLow r := by rw [timed]; rfl
  unfold Key.timeStrike
  rw [t, curveAt_one]
  rcases state with state | state
  · simp only [state, if_neg (Nat.not_le.mpr below), if_neg (Nat.not_lt.mpr above)]
    split <;> simp [Key.strikeMissed, state]
  · simp only [state, if_neg (Nat.not_le.mpr below), decide_eq_false (Nat.not_lt.mpr above), Bool.false_or, decide_eq_true_eq]
    split <;> simp [Key.strikeMissed, state]

end

/-- R22, R26: a hammer that falls below GATE_LOW ends the strike without a note. -/
theorem Key.timeStrike_of_low (state : k.state = .rising ∨ k.state = .restriking) (below : r.height < c.gateHigh)
    (low : r.height < c.gateLow) :
    k.timeStrike c curve r =
      (if k.state = .restriking then k.strikeMissed
       else { k with state := if c.press ≤ r.depth then .pressed else .rest, gateLowStamp := none }, []) := by
  unfold Key.timeStrike
  rcases state with state | state
  · simp [state, Nat.not_le.mpr below, low]
  · simp [state, Nat.not_le.mpr below, low, Key.strikeMissed]

/-! ### A key tracked (R21, R39) -/

/-- R21: the readings are kept. -/
def Key.seen (rawKey rawHammer : Nat) (k : Key) : Key := { k with lastRaw := some (rawKey, rawHammer) }

section
variable {stamp : Word32} {rawKey rawHammer : Nat}

theorem Key.track_of_disabled (state : k.state = .disabled) :
    k.track c curve stamp rawKey rawHammer = (k.seen rawKey rawHammer, []) := by
  simp only [Key.track, state, Key.seen]

theorem Key.track_of_calibrating (state : k.state = .calibrating) : k.track c curve stamp rawKey rawHammer =
    ({ k.seen rawKey rawHammer with extremes := some (extend rawKey rawHammer k.extremes) }, []) := by
  simp only [Key.track, state, Key.seen]

/-- R21: the readings of a frame, in the terms of the key's calibration. -/
def Key.readings (c : Calibration) (stamp : Word32) (rawKey rawHammer : Nat) (k : Key) : Readings :=
  { depth := c.depth rawKey, height := c.height rawHammer
    previous := k.lastRaw.map fun p => (c.depth p.1, c.height p.2), stamp }

/-- R21: the key step, then the hammer step. -/
theorem Key.track_of_playing (enabled : k.state ≠ .disabled) (playing : k.state ≠ .calibrating) :
    k.track c curve stamp rawKey rawHammer =
      let r := k.readings c stamp rawKey rawHammer
      let a := k.keyStep c r
      let b := a.1.hammerStep c curve r
      (b.1.seen rawKey rawHammer, a.2 ++ b.2) := by
  unfold Key.track
  split
  · next state => exact absurd state enabled
  · next state => exact absurd state playing
  · rfl

end

/-! ### A launch notice (R30, R109) -/

/-- R109: the rail is paused by a launch in the crossing zone or in HOMING, unless it is stopping. -/
def Deck.pausesAtLaunch (d : Deck) : Prop :=
  d.rail.stopping = false ∧ (d.rail.state = .moving ∧
    ((d.config.crossStart : Int) ≤ d.rail.position ∧ d.rail.position ≤ (d.config.crossEnd : Int)) ∨ d.rail.state = .homing)

theorem Deck.pausesAtLaunch_iff (d : Deck) : d.pausesAtLaunch ↔
    (!d.rail.stopping && ((d.rail.state == .moving && d.inZone) || d.rail.state == .homing)) = true := by
  simp [Deck.pausesAtLaunch, Deck.inZone]

theorem Deck.launchNotice_of_not (d : Deck) (goes : ¬ d.pausesAtLaunch) : d.launchNotice = d :=
  if_neg (mt (Deck.pausesAtLaunch_iff d).mpr goes)

/-- R109: a moving rail is PAUSED: a RAIL record, and a deceleration to rest. -/
theorem Deck.launchNotice_of_moving (d : Deck) {move : ActiveMove} {m : Motion} (pauses : d.pausesAtLaunch)
    (active : d.rail.active = some move) (motion : d.rail.motion = some m) (started : m.started = true) :
    d.launchNotice = { d with
      hub := d.hub.note .rail move.kind.code (clampPosition d.rail.position) 12 0 {}
      rail := { d.rail with
        state := .paused, pauseSince := d.hub.now, pauseExpired := false
        motion := some { m with phase := .decelerate, change := slowToFL move.profile d.hub.now m } } } := by
  have time : (d.hub.note .rail move.kind.code (clampPosition d.rail.position) 12 0 {}).now = d.hub.now :=
    (Hub.note_reach _ _ _ _ _ _ (.refl d.hub)).now
  unfold Deck.launchNotice
  rw [if_pos ((Deck.pausesAtLaunch_iff d).mp pauses)]
  simp only [Deck.note, Deck.subject, active, Deck.onHub, Deck.onRail, Deck.decelerate, motion, started, if_true, time]

end Sys2Proof.Machine
end

section
/-! SUPPORT. The key step and the hammer step by the state of the key (R21 to R28), as the statements of chapter 2 say them. -/

namespace Sys2Proof.Machine

variable {c : Calibration} {curve : Vector Nat 127} {r : Readings} {k : Key}

/-! ### The key step -/

theorem Key.keyStep_of_rest (state : k.state = .rest) :
    k.keyStep c r = (if c.press ≤ r.depth then { k with state := .pressed } else k, []) := by
  rw [Key.keyStep_of_silent (by simp [Key.sounds, state])]
  simp only [Key.pressLine, state]

theorem Key.keyStep_of_falling (state : k.state = .pressed ∨ k.state = .missed ∨ k.state = .returning) :
    k.keyStep c r = (if r.depth < c.press then { k with state := .rest } else k, []) := by
  rcases state with state | state | state <;>
  · rw [Key.keyStep_of_silent (by simp [Key.sounds, state])]
    simp only [Key.pressLine, state]

theorem Key.keyStep_of_waitRest (state : k.state = .waitRest) :
    k.keyStep c r = (if r.depth < c.press ∧ r.height < c.clear then { k with state := .rest } else k, []) := by
  rw [Key.keyStep_of_silent (by simp [Key.sounds, state])]
  simp only [Key.pressLine, state, Bool.and_eq_true, decide_eq_true_eq]

theorem Key.keyStep_of_rising (state : k.state = .rising) : k.keyStep c r = (k, []) := by
  rw [Key.keyStep_of_silent (by simp [Key.sounds, state])]
  simp only [Key.pressLine, state]

theorem Key.sounds_of_open (state : k.state = .sounding ∨ k.state = .rearmed) : k.sounds = true := by
  rcases state with state | state <;> simp [Key.sounds, state]

/-- R25, R27: an open note whose key rises past REARM. -/
theorem Key.keyStep_of_rises (state : k.state = .sounding ∨ k.state = .rearmed) (rises : r.risesPast c.rearm = true) :
    k.keyStep c r = if r.depth < c.damper then k.released c r (some r.stamp) else (k.rearmed r, []) :=
  Key.keyStep_of_sounding (Key.sounds_of_open state) (Key.rearmLine_of_rises state rises) rfl fun down =>
    Bool.noConfusion ((Readings.movesDown_of_risesPast rises).symm.trans down)

/-- R27: an open note whose key does not. -/
theorem Key.keyStep_of_not_rises (state : k.state = .sounding ∨ k.state = .rearmed) (stays : r.risesPast c.rearm = false) :
    k.keyStep c r = if r.depth < c.damper then k.released c r k.rearmStamp else (k, []) :=
  Key.keyStep_of_sounding (Key.sounds_of_open state) (Key.rearmLine_of_not (.inl stays)) (Key.sounds_of_open state) fun _ => rfl

theorem Key.keyStep_of_restriking (state : k.state = .restriking) :
    k.keyStep c r = if r.depth < c.damper then k.released c r k.rearmStamp else (k, []) :=
  have sounds : k.sounds = true := by simp [Key.sounds, state]
  Key.keyStep_of_sounding sounds (Key.rearmLine_of_not (.inr state)) sounds fun _ => rfl

/-! ### The hammer step -/

theorem Key.hammerStep_of_resting (state : k.state ∈ [.rest, .sounding, .waitRest, .calibrating, .disabled]) :
    k.hammerStep c curve r = (k, []) := by
  simp only [List.mem_cons, List.not_mem_nil, or_false] at state
  rcases state with state | state | state | state | state <;>
  · rw [Key.hammerStep_of_unstruck (by simp [state]) (Key.beginStrike_of_none (by rw [state]; rfl)),
      Key.timeStrike_of_untimed (by simp [state]) (by simp [state])]
    rfl

/-- R22, R26, R30: a strike begins: the launch notice comes first. -/
theorem Key.hammerStep_of_crosses {state : KeyState} (crosses : r.hammerCrosses c.gateLow = true)
    (struck : k.state.struck = some state) :
    k.hammerStep c curve r =
      let timed := Key.timeStrike c curve r { k with state := state, gateLowStamp := some r.stamp }
      (timed.1, .launch :: timed.2) := by
  have other : k.state ≠ .missed := fun missed => by rw [missed] at struck; cases struck
  rw [Key.hammerStep_of_unstruck other (Key.beginStrike_of_crosses crosses struck)]
  rfl

theorem Key.hammerStep_of_not_crosses (state : k.state = .pressed ∨ k.state = .returning ∨ k.state = .rearmed)
    (stays : r.hammerCrosses c.gateLow = false) : k.hammerStep c curve r = (k, []) := by
  rcases state with state | state | state <;>
  · rw [Key.hammerStep_of_unstruck (by simp [state]) (Key.beginStrike_of_not stays),
      Key.timeStrike_of_untimed (by simp [state]) (by simp [state])]
    rfl

theorem Key.hammerStep_of_timed (state : k.state = .rising ∨ k.state = .restriking) :
    k.hammerStep c curve r = k.timeStrike c curve r := by
  rcases state with state | state <;>
  · rw [Key.hammerStep_of_unstruck (by simp [state]) (Key.beginStrike_of_none (by rw [state]; rfl))]
    rfl

end Sys2Proof.Machine
end

section
/-! SUPPORT. The lane notices at the keys, the pedals and the voices (R14, R32, R33, R50, R52, R69), and the capture set. -/

namespace Sys2Proof.Machine

variable {s : State} {n : Fin 8}

/-! ### Lane up (R33) -/

/-- R33: a key of a lane that has come up. -/
def Key.woken (k : Key) : Key := if k.masked then k else { k with state := .waitRest }

/-- R33: a key wakes with its lane. -/
def State.wakeKey (k : Fin 88) (s : State) : State :=
  if s.keys[k].masked then s else s.setKey k { s.keys[k] with state := .waitRest }

theorem State.keyLaneUp_eq (n : Fin 8) (s : State) :
    s.keyLaneUp n = ((List.finRange 11).foldl (fun u j => u.wakeKey (laneKey n j)) s).reevalQuiet := rfl

theorem State.wakeKey_eq (k : Fin 88) (s : State) : s.wakeKey k = { s with keys := s.keys.set k s.keys[k].woken } := by
  unfold State.wakeKey Key.woken
  split
  · exact congrArg (fun keys => { s with keys := keys }) (Vector.set_getElem_self k.isLt).symm
  · rfl

theorem Key.woken_woken (k : Key) : k.woken.woken = k.woken := by
  by_cases masked : k.masked = true <;> simp [Key.woken, masked]

/-- R33: along a list of keys, those in it wake and nothing else changes. -/
theorem State.wakeKeys_eq (ks : List (Fin 88)) (s : State) : ∃ keys : Vector Key 88,
    ks.foldl (fun u k => u.wakeKey k) s = { s with keys := keys } ∧
    ∀ k : Fin 88, keys[k] = if k ∈ ks then s.keys[k].woken else s.keys[k] := by
  induction ks generalizing s with
  | nil => exact ⟨s.keys, rfl, fun _ => rfl⟩
  | cons j ks ih =>
    obtain ⟨keys, fold, each⟩ := ih { s with keys := s.keys.set j s.keys[j].woken }
    refine ⟨keys, ?_, fun k => ?_⟩
    · rw [List.foldl_cons, State.wakeKey_eq, fold]
    · rw [each]
      by_cases same : k = j
      · subst same
        simp [Key.woken_woken]
      · have off : j.val ≠ k.val := fun x => same (Fin.ext x.symm)
        simp [same, off]

/-- R33: the keys after a lane-up notice. -/
theorem State.keyLaneUp_keys (n : Fin 8) (s : State) : ∃ keys : Vector Key 88,
    s.keyLaneUp n = State.reevalQuiet { s with keys := keys } ∧
    ∀ k : Fin 88, keys[k] = if laneOf k = n then s.keys[k].woken else s.keys[k] := by
  obtain ⟨keys, fold, each⟩ := State.wakeKeys_eq ((List.finRange 11).map (laneKey n)) s
  refine ⟨keys, ?_, fun k => ?_⟩
  · rw [State.keyLaneUp_eq, foldl_laneKey fun u k => u.wakeKey k, fold]
  · rw [each]
    simp only [mem_laneKeys_iff]

/-! ### The keys of a lost lane (R32, R52) -/

/-- R32: a key of a lost lane without an open note is DISABLED and no more. -/
theorem State.loseKey_of_closed {k : Fin 88} (closed : s.keys[k].openNote = false) :
    s.loseKey k = s.setKey k s.keys[k].lost := by
  unfold State.loseKey State.forceKey
  dsimp only
  rw [closed]
  rfl

/-- R32, R52: one with an open note gives a forced KEY_UP and leaves the capture set. -/
theorem State.loseKey_of_open {k : Fin 88} (open_ : s.keys[k].openNote = true) :
    s.loseKey k = ((s.setKey k s.keys[k].lost).noteUp k 64 s.keys[k].lastVelocity true).uncapture k := by
  unfold State.loseKey State.forceKey
  dsimp only
  rw [open_]
  rfl

theorem State.uncapture_of_mem {k : Fin 88} (captured : k ∈ s.pedals.capture) :
    s.uncapture k = s.setCapture (s.pedals.capture.filter fun c => c ≠ k) :=
  if_pos (List.contains_iff_mem.mpr captured)

theorem State.uncapture_of_not_mem {k : Fin 88} (free : k ∉ s.pedals.capture) : s.uncapture k = s :=
  if_neg fun captured => free (List.contains_iff_mem.mp captured)

theorem State.uncapture_capture (k : Fin 88) (s : State) :
    (s.uncapture k).pedals.capture = s.pedals.capture.filter fun c => c ≠ k := by
  by_cases captured : k ∈ s.pedals.capture
  · rw [State.uncapture_of_mem captured]
    rfl
  · rw [State.uncapture_of_not_mem captured, eq_comm, List.filter_eq_self]
    intro c mem
    exact decide_eq_true fun same => captured (same ▸ mem)

/-- R32, R52: a lost key with an open note leaves the capture set. -/
theorem State.loseKey_capture (k : Fin 88) (s : State) :
    (s.loseKey k).pedals.capture = s.pedals.capture.filter fun c => !(decide (c = k) && s.keys[k].openNote) := by
  by_cases open_ : s.keys[k].openNote = true
  · have pedals : ((s.setKey k s.keys[k].lost).noteUp k 64 s.keys[k].lastVelocity true).pedals = s.pedals :=
      (State.noteUp_work k _ _ _ (List.Subset.refl _) (Work.refl _ (s.setKey k s.keys[k].lost))).same .pedals (by decide)
    rw [State.loseKey_of_open open_, State.uncapture_capture, pedals, open_]
    simp
  · have closed : s.keys[k].openNote = false := Bool.not_eq_true _ ▸ open_
    rw [State.loseKey_of_closed closed, closed]
    simp

theorem State.loseKeys_capture (ks : List (Fin 88)) (s : State) :
    (ks.foldl (fun t j => t.loseKey j) s).pedals.capture =
      s.pedals.capture.filter fun c => !(decide (c ∈ ks) && s.keys[c].openNote) := by
  induction ks generalizing s with
  | nil => simp
  | cons j ks ih =>
    rw [List.foldl_cons, ih, State.loseKey_capture, List.filter_filter]
    congr 1
    funext c
    rw [State.loseKey_key]
    by_cases same : c = j
    · subst same
      simp [Key.lost, Key.closed]
    · simp [same]

/-- R32, R52: the capture set after a lane-lost notice. -/
theorem State.keyLaneLost_capture (n : Fin 8) (s : State) :
    (s.keyLaneLost n).pedals.capture =
      s.pedals.capture.filter fun k => !(decide (laneOf k = n) && s.keys[k].openNote) := by
  unfold State.keyLaneLost
  rw [State.reevalQuiet_pedals, foldl_laneKey fun t k => t.loseKey k, State.loseKeys_capture]
  simp only [mem_laneKeys_iff]

/-! ### The capture set at the voices (R69) -/

theorem VoiceEngine.setCapture_get (keys : List (Fin 88)) (ve : VoiceEngine) (j : Fin 96) :
    (ve.setCapture keys).voices[j] = (ve.voices[j]).capture (keys.contains (ve.voices[j]).key) := by
  simp [VoiceEngine.setCapture, VoiceEngine.eachVoice, VoiceEngine.get]

theorem Voice.capture_of_captured {v : Voice} (live : v.source = .live) (alive : v.alive = true) :
    v.capture true = { v with sostenutoHeld := true, phase := .sounding } := by simp [Voice.capture, live, alive]

theorem Voice.capture_of_freed {v : Voice} (live : v.source = .live) (alive : v.alive = true) :
    v.capture false = if v.sostenutoHeld then
        { v with sostenutoHeld := false, phase := if v.phase = .sounding ∧ v.keyDown = false then .damping else v.phase }
      else v := by simp [Voice.capture, live, alive]

theorem Voice.capture_of_other {v : Voice} {captured : Bool} (other : ¬ (v.source = .live ∧ v.alive = true)) :
    v.capture captured = v := by
  unfold Voice.capture
  rw [if_neg]
  simpa using other

/-! ### The ninth error (R10, R12) -/

/-- R12: an entry to RECOVERING is a change of the lane's record. -/
theorem State.enterRecovering_eq (m : Fin 9) (d : LaneDetail) (s : State) :
    ∃ d', s.enterRecovering m d = s.changeLane m (s.lanes[m].recovering s.hub.now) d' := by
  unfold State.enterRecovering
  dsimp only
  split
  · next closed => exact ⟨d, by rw [Lane.recovering_of_closed _ closed]⟩
  · next window =>
    split
    · next few => exact ⟨d, by rw [Lane.recovering_of_open _ window few]⟩
    · next spent => exact ⟨.retries, by rw [Lane.recovering_of_spent _ window (Nat.not_lt.mp spent)]⟩

theorem Lane.recovering_not_active (now : Nat) (l : Lane) : (l.recovering now).state ≠ .active := by
  rcases Lane.recovering_state now l with state | state <;> simp [state]

theorem Lane.recovering_errors (now : Nat) (l : Lane) : (l.recovering now).errors = l.errors := by
  unfold Lane.recovering
  split
  · rfl
  · split <;> rfl

end Sys2Proof.Machine
end

section
/-! SUPPORT. A frame of a key lane (R9, R21): every key of the lane is tracked once, from its own record. -/

namespace Sys2Proof.Machine

variable {s u : State} {n : Fin 8} {readings : List Nat}

/-! ### One key -/

/-- R29, R30: what a key's events reach is not a key. -/
theorem State.handEvents_work (k : Fin 88) (events : List KeyEvent) (s : State) :
    Work (.recorder :: .rail :: .lamp :: playPieces) s (events.foldl (fun w e => w.handEvent k e) s) :=
  Work.foldl (fun _ _ y => State.handEvent_work k _ (List.Subset.refl _) y) _ (.refl _ s)

/-- R21: a tracked key's record takes its new value, and no other key's. -/
theorem State.trackKey_keys (k : Fin 88) (rawKey rawHammer : Nat) (s : State) :
    (s.trackKey k rawKey rawHammer).keys =
      s.keys.set k (s.keys[k].track s.calibration[k] s.curve s.hub.tracking rawKey rawHammer).1 :=
  (State.handEvents_work k _ _).same .keys (by decide)

/-- What the tracking of a key reads besides its record. -/
structure State.TracksLike (s u : State) : Prop where
  calibration : u.calibration = s.calibration
  curve : u.curve = s.curve
  tracking : u.hub.tracking = s.hub.tracking

theorem State.trackKey_tracksLike (x : s.TracksLike u) (k : Fin 88) (rawKey rawHammer : Nat) :
    s.TracksLike (u.trackKey k rawKey rawHammer) := by
  have work := State.trackKey_work k rawKey rawHammer (List.Subset.refl _) (Work.refl _ u)
  exact ⟨(work.same .calibration (by decide)).trans x.calibration, (work.same .curve (by decide)).trans x.curve,
    work.reach.tracking.trans x.tracking⟩

/-! ### The keys of a lane -/

/-- R21: what a frame makes of the key in place `j` of a lane. -/
def State.tracked (readings : List Nat) (n : Fin 8) (j : Fin 11) (k : Key) (s : State) : Key × List KeyEvent :=
  k.track s.calibration[laneKey n j] s.curve s.hub.tracking (readings.getD j.val 0) (readings.getD (11 + j.val) 0)

theorem State.TracksLike.tracked (x : s.TracksLike u) (j : Fin 11) (k : Key) :
    u.tracked readings n j k = s.tracked readings n j k := by
  simp only [State.tracked, x.calibration, x.curve, x.tracking]

/-- R21: a frame tracks the key in place `j`. -/
def State.trackPlace (readings : List Nat) (n : Fin 8) (j : Fin 11) (s : State) : State :=
  s.trackKey (laneKey n j) (readings.getD j.val 0) (readings.getD (11 + j.val) 0)

theorem State.trackPlace_keys (j : Fin 11) (s : State) : (s.trackPlace readings n j).keys =
    s.keys.set (laneKey n j) (s.tracked readings n j s.keys[laneKey n j]).1 := State.trackKey_keys _ _ _ s

theorem State.trackPlace_tracksLike (x : s.TracksLike u) (j : Fin 11) : s.TracksLike (u.trackPlace readings n j) :=
  State.trackKey_tracksLike x _ _ _

theorem State.keyFrame_eq (n : Fin 8) (readings : List Nat) (s : State) :
    s.keyFrame n readings = ((List.finRange 11).foldl (fun u j => u.trackPlace readings n j) s).reevalQuiet := rfl

/-- R21: along a list of places each key is tracked from its record before the frame. -/
theorem State.trackPlaces_key (l : List (Fin 11)) (once : l.Nodup) (x : s.TracksLike u) :
    (∀ j, (l.foldl (fun u j => u.trackPlace readings n j) u).keys[laneKey n j] =
      if j ∈ l then (s.tracked readings n j u.keys[laneKey n j]).1 else u.keys[laneKey n j]) ∧
    ∀ k : Fin 88, laneOf k ≠ n → (l.foldl (fun u j => u.trackPlace readings n j) u).keys[k] = u.keys[k] := by
  induction l generalizing u with
  | nil => exact ⟨fun _ => rfl, fun _ _ => rfl⟩
  | cons i l ih =>
    obtain ⟨fresh, once'⟩ := List.nodup_cons.mp once
    obtain ⟨own, others⟩ := ih once' (State.trackPlace_tracksLike x i)
    have keys := u.trackPlace_keys (readings := readings) (n := n) i
    refine ⟨fun j => ?_, fun k off => ?_⟩
    · rw [List.foldl_cons]
      refine (own j).trans ?_
      rw [keys, x.tracked]
      by_cases same : j = i
      · subst same
        simp [fresh]
      · have apart : (laneKey n i).val ≠ (laneKey n j).val := fun e => same (laneKey_injective n (Fin.ext e)).symm
        simp [same, apart]
    · rw [List.foldl_cons]
      refine (others k off).trans ?_
      rw [keys]
      have apart : (laneKey n i).val ≠ k.val := fun e => off (by rw [← Fin.ext e, laneOf_laneKey])
      simp [apart]

/-- R21: the keys of the lane after a frame. -/
theorem State.keyFrame_key (n : Fin 8) (readings : List Nat) (j : Fin 11) (s : State) :
    (s.keyFrame n readings).keys[laneKey n j] = (s.tracked readings n j s.keys[laneKey n j]).1 := by
  rw [State.keyFrame_eq, State.reevalQuiet_keys,
    (State.trackPlaces_key (s := s) _ (List.nodup_finRange 11) ⟨rfl, rfl, rfl⟩).1, if_pos (List.mem_finRange j)]

/-- R21: the keys of the other lanes after a frame. -/
theorem State.keyFrame_key_other {k : Fin 88} (other : laneOf k ≠ n) (readings : List Nat) (s : State) :
    (s.keyFrame n readings).keys[k] = s.keys[k] := by
  rw [State.keyFrame_eq, State.reevalQuiet_keys]
  exact (State.trackPlaces_key (s := s) _ (List.nodup_finRange 11) ⟨rfl, rfl, rfl⟩).2 k other

/-- R21, R29: a frame as a fold over the places of the lane, each key tracked and its events handed out. -/
theorem State.trackPlaces_eq (l : List (Fin 11)) (x : s.TracksLike u) :
    l.foldl (fun u j => u.trackPlace readings n j) u =
      l.foldl (fun u j =>
        let p := s.tracked readings n j u.keys[laneKey n j]
        p.2.foldl (fun w e => w.handEvent (laneKey n j) e) { u with keys := u.keys.set (laneKey n j) p.1 }) u := by
  induction l generalizing u with
  | nil => rfl
  | cons j l ih =>
    rw [List.foldl_cons, List.foldl_cons, ih (State.trackPlace_tracksLike x j), ← x.tracked j]
    rfl

end Sys2Proof.Machine
end

section
/-! SUPPORT. A frame of the pedal lane (R47 to R49, R51), and the loss of that lane (R50). -/

namespace Sys2Proof.Machine

variable {s : State}

/-! ### A pedal's event (R49) -/

/-- The pedals' record takes a value. -/
def State.putPedals (x : Pedals) (s : State) : State := { s with pedals := x }

/-- R49: a pedal gives an event, or does not. -/
def State.pedalEventIf (gives : Bool) (p : Fin 3) (level detail : Nat) (s : State) : State :=
  if gives then s.pedalEvent p level detail false else s

/-- R49: the event of a pedal neither reads nor changes the pedals' record. -/
theorem State.pedalEventIf_putPedals (gives : Bool) (p : Fin 3) (level detail : Nat) (x : Pedals) (s : State) :
    (s.putPedals x).pedalEventIf gives p level detail = (s.pedalEventIf gives p level detail).putPedals x := by
  unfold State.pedalEventIf
  split <;> rfl

theorem State.pedalEventIf_settings (gives : Bool) (p : Fin 3) (level detail : Nat) (s : State) :
    (s.pedalEventIf gives p level detail).pedalSettings = s.pedalSettings := by
  unfold State.pedalEventIf
  split <;> rfl

/-- R49: the pedals' record after a pedal's event: its level has been emitted. -/
def Pedals.emit (gives : Bool) (p : Fin 3) (x : Pedals) : Pedals :=
  if gives then { x with emitted := x.emitted.set p x.level[p] } else x

/-- R49: an event in terms of the record before it. -/
theorem State.emitPedal_putPedals (p : Fin 3) (changed pressed : Bool) (x : Pedals) (s : State) :
    (s.putPedals x).emitPedal p changed pressed =
      let gives := givesEvent x.level[p] x.emitted[p] s.pedalSettings.step changed
      (s.pedalEventIf gives p x.level[p] (pedalDetail changed pressed)).putPedals (x.emit gives p) := by
  by_cases gives : givesEvent x.level[p] x.emitted[p] s.pedalSettings.step changed = true
  · refine (if_pos gives).trans ?_
    simp only [State.pedalEventIf, Pedals.emit, gives, if_true]
    rfl
  · refine (if_neg gives).trans ?_
    simp only [State.pedalEventIf, Pedals.emit, gives, if_false, Bool.false_eq_true]

/-- R49: whether a pedal gives an event in this frame. -/
def Pedals.gives (step : Nat) (changed : Fin 3 → Bool) (p : Fin 3) (x : Pedals) : Bool :=
  givesEvent x.level[p] x.emitted[p] step (changed p)

/-- R49: the pedals' record after the events of a frame. -/
def Pedals.emitAll (step : Nat) (changed : Fin 3 → Bool) (x : Pedals) : Pedals :=
  { x with emitted := Vector.ofFn fun p => if x.gives step changed p then x.level[p] else x.emitted[p] }

theorem Pedals.emitAll_emitted (step : Nat) (changed : Fin 3 → Bool) (q : Fin 3) (x : Pedals) :
    (x.emitAll step changed).emitted[q] = if x.gives step changed q then x.level[q] else x.emitted[q] := by
  simp [Pedals.emitAll]

theorem Pedals.emit_level (gives : Bool) (p : Fin 3) (x : Pedals) : (x.emit gives p).level = x.level := by
  unfold Pedals.emit
  split <;> rfl

theorem Pedals.emit_emitted (gives : Bool) (p q : Fin 3) (x : Pedals) :
    (x.emit gives p).emitted[q] = if q = p ∧ gives = true then x.level[p] else x.emitted[q] := by
  unfold Pedals.emit
  by_cases same : q = p
  · subst same
    split <;> simp [*]
  · have off : p.val ≠ q.val := fun e => same (Fin.ext e.symm)
    split <;> simp [same, off]

/-- R49: the three pedals' events leave the record with every level emitted that was given. -/
theorem Pedals.emit_emit_emit (step : Nat) (changed : Fin 3 → Bool) (x : Pedals) :
    ((x.emit (x.gives step changed 0) 0).emit (x.gives step changed 1) 1).emit (x.gives step changed 2) 2 =
      x.emitAll step changed := by
  have frame : ∀ (g : Bool) p (y : Pedals), y.emit g p = { y with emitted := (y.emit g p).emitted } := fun g p y => by
    unfold Pedals.emit
    split <;> rfl
  have emitted : ∀ q : Fin 3, (((x.emit (x.gives step changed 0) 0).emit (x.gives step changed 1) 1).emit
      (x.gives step changed 2) 2).emitted[q] = (x.emitAll step changed).emitted[q] := fun q => by
    rw [Pedals.emit_emitted, Pedals.emit_emitted, Pedals.emit_emitted, Pedals.emit_level, Pedals.emit_level,
      Pedals.emitAll_emitted]
    match q with
    | 0 => simp
    | 1 => simp
    | 2 => simp
  generalize ended : ((x.emit (x.gives step changed 0) 0).emit (x.gives step changed 1) 1).emit (x.gives step changed 2) 2 = y
    at emitted
  have fields : y = { x with emitted := y.emitted } := by
    rw [← ended, frame _ 2, frame _ 1, frame _ 0]
  rw [fields, Pedals.emitAll]
  congr 1
  exact Vector.ext fun i h => emitted ⟨i, h⟩

/-- R49: the events of a frame, in terms of the record that stands after them. -/
theorem State.emitPedals_eq (changed pressed : Fin 3 → Bool) (x : Pedals) (s : State) :
    let gives p := x.gives s.pedalSettings.step changed p
    let event (p : Fin 3) (w : State) := w.pedalEventIf (gives p) p x.level[p] (pedalDetail (changed p) (pressed p))
    (((s.putPedals x).emitPedal 0 (changed 0) (pressed 0)).emitPedal 1 (changed 1) (pressed 1)).emitPedal 2 (changed 2)
      (pressed 2) = event 2 (event 1 (event 0 (s.putPedals (x.emitAll s.pedalSettings.step changed)))) := by
  dsimp only
  simp only [State.emitPedal_putPedals, State.pedalEventIf_settings, State.pedalEventIf_putPedals, Pedals.emit_level,
    Pedals.emit_emitted, ← Pedals.emit_emit_emit]
  rfl

/-! ### A frame of the pedal lane (R47, R48, R51) -/

/-- R47: the level of a pedal in a frame. -/
def State.frameLevel (readings : List Nat) (p : Fin 3) (s : State) : Nat :=
  s.pedalSettings.calibration[p].level (readings.getD p.val 0)

/-- R48: the pressed states of the sostenuto and soft pedals after a frame. -/
def State.framePressed (readings : List Nat) (p : Fin 3) (s : State) : Bool :=
  if p = 1 then pressedAfter (s.frameLevel readings 1) s.pedals.sostenuto
  else if p = 2 then pressedAfter (s.frameLevel readings 2) s.pedals.soft
  else false

/-- R48: which of them a frame changes. -/
def State.frameChanged (readings : List Nat) (p : Fin 3) (s : State) : Bool :=
  if p = 1 then s.framePressed readings 1 != s.pedals.sostenuto
  else if p = 2 then s.framePressed readings 2 != s.pedals.soft
  else false

/-- R51: the capture set after a frame. -/
def State.frameCapture (readings : List Nat) (s : State) : List (Fin 88) :=
  if s.frameChanged readings 1 then (if s.framePressed readings 1 then s.openNotes else []) else s.pedals.capture

/-- R48, R51: the pedals' record after a frame, but for the levels emitted. -/
def State.framePedals (readings : List Nat) (s : State) : Pedals :=
  { s.pedals with
    level := Vector.ofFn fun p => s.frameLevel readings p, sostenuto := s.framePressed readings 1
    soft := s.framePressed readings 2, capture := s.frameCapture readings }

/-- R67, R69: what the frame hands the voices. -/
def State.frameVoice (readings : List Nat) (s : State) : VoiceEngine :=
  let damped := s.voice.setDamper .live (s.frameLevel readings 0)
  let held := if s.frameChanged readings 1 then damped.setCapture (s.frameCapture readings) else damped
  if s.frameChanged readings 2 then held.setSoft .live (s.framePressed readings 2) else held

/-- R48: the first part of a frame: the levels, the pressed states and the capture set. -/
def State.pressPedals (readings : List Nat) (s : State) : State :=
  State.putPedals (s.framePedals readings) { s with voice := s.frameVoice readings }

/-- R48, R51: the model's first part of a pedal frame, for any levels and pressed states. -/
def State.pressWith (level : Vector Nat 3) (sostenuto soft : Bool) (s : State) : State :=
  let s1 : State :=
    { s with
      pedals := { s.pedals with level := level, sostenuto := sostenuto, soft := soft }
      voice := s.voice.setDamper .live level[0] }
  let s2 := if sostenuto ≠ s.pedals.sostenuto then s1.setCapture (if sostenuto then s1.openNotes else []) else s1
  if soft ≠ s.pedals.soft then s2.updateVoice (VoiceEngine.setSoft .live soft) else s2

theorem State.pressWith_eq (level : Vector Nat 3) (sostenuto soft : Bool) (s : State) :
    let capture :=
      if sostenuto != s.pedals.sostenuto then (if sostenuto then s.openNotes else []) else s.pedals.capture
    let damped := s.voice.setDamper .live level[0]
    let held := if sostenuto != s.pedals.sostenuto then damped.setCapture capture else damped
    s.pressWith level sostenuto soft =
      State.putPedals { s.pedals with level := level, sostenuto := sostenuto, soft := soft, capture := capture }
        { s with voice := if soft != s.pedals.soft then held.setSoft .live soft else held } := by
  unfold State.pressWith
  by_cases held : sostenuto = s.pedals.sostenuto <;> by_cases pressed : soft = s.pedals.soft <;>
  · simp only [bne_iff_ne, ne_eq, held, pressed, not_true, not_false_eq_true, if_true, if_false]
    rfl

theorem State.pressPedals_eq (readings : List Nat) (s : State) :
    s.pressPedals readings = s.pressWith (Vector.ofFn fun p => s.frameLevel readings p) (s.framePressed readings 1)
      (s.framePressed readings 2) := by
  rw [State.pressWith_eq]
  have level : (Vector.ofFn fun p => s.frameLevel readings p)[0] = s.frameLevel readings 0 := by simp
  rw [level]
  rfl

/-- R48, R49: a frame presses the pedals, then gives their events. -/
theorem State.pedalFrame_eq (readings : List Nat) (s : State) :
    s.pedalFrame readings =
      (((s.pressPedals readings).emitPedal 0 (s.frameChanged readings 0) (s.framePressed readings 0)).emitPedal 1
        (s.frameChanged readings 1) (s.framePressed readings 1)).emitPedal 2 (s.frameChanged readings 2)
        (s.framePressed readings 2) := by
  let level : Vector Nat 3 := Vector.ofFn fun p => s.frameLevel readings p
  have model : s.pedalFrame readings =
      (((s.pressWith level (pressedAfter level[1] s.pedals.sostenuto) (pressedAfter level[2] s.pedals.soft)).emitPedal 0 false
        false).emitPedal 1 (pressedAfter level[1] s.pedals.sostenuto ≠ s.pedals.sostenuto)
        (pressedAfter level[1] s.pedals.sostenuto)).emitPedal 2 (pressedAfter level[2] s.pedals.soft ≠ s.pedals.soft)
        (pressedAfter level[2] s.pedals.soft) := rfl
  have sostenuto : pressedAfter level[1] s.pedals.sostenuto = s.framePressed readings 1 := by simp [level, State.framePressed]
  have soft : pressedAfter level[2] s.pedals.soft = s.framePressed readings 2 := by simp [level, State.framePressed]
  have held : decide (s.framePressed readings 1 ≠ s.pedals.sostenuto) = s.frameChanged readings 1 := by
    simp [State.frameChanged, bne, beq_eq_decide]
  have changed : decide (s.framePressed readings 2 ≠ s.pedals.soft) = s.frameChanged readings 2 := by
    simp [State.frameChanged, bne, beq_eq_decide]
  rw [model, sostenuto, soft, held, changed, State.pressPedals_eq]
  rfl

/-- R49: a frame of the pedal lane, in terms of the record that stands after it. -/
theorem State.pedalFrame_events (readings : List Nat) (s : State) :
    let x := s.framePedals readings
    let changed p := s.frameChanged readings p
    let gives p := x.gives s.pedalSettings.step changed p
    let event (p : Fin 3) (w : State) :=
      w.pedalEventIf (gives p) p x.level[p] (pedalDetail (changed p) (s.framePressed readings p))
    s.pedalFrame readings =
      event 2 (event 1 (event 0
        (State.putPedals (x.emitAll s.pedalSettings.step changed) { s with voice := s.frameVoice readings }))) := by
  rw [State.pedalFrame_eq]
  exact State.emitPedals_eq (fun p => s.frameChanged readings p) (fun p => s.framePressed readings p) (s.framePedals readings)
    { s with voice := s.frameVoice readings }

/-- R50: a frame leaves the flag of the pedal lane. -/
theorem State.pedalFrame_laneFlag (readings : List Nat) (s : State) :
    (s.pedalFrame readings).pedals.laneFlag = s.pedals.laneFlag := by
  rw [State.pedalFrame_events]
  simp only [State.pedalEventIf_putPedals]
  rfl

end Sys2Proof.Machine
end

section
/-! SUPPORT. LANE_FRAME (R7 to R10): the first frame of a probe, a valid frame of an ACTIVE lane, and a frame error. -/

namespace Sys2Proof.Machine

variable {s : State} {lane : Fin 9} {bytes : List Byte} {f : Frame} {crcGood : Bool}

theorem exec_laneFrame_of_active (up : s.mainUp = true) (parsed : parseFrame (frameReadings lane) bytes = some (f, crcGood))
    (active : s.lanes[lane].state = .active) : exec (.laneFrame lane bytes) s = .next (s.activeFrame lane f crcGood) := by
  change Host.Outcome.next (s.whenUp _) = _
  rw [State.whenUp_of_up _ _ up, parsed]
  simp only [active]

theorem exec_laneFrame_of_awaited {since : Nat} (up : s.mainUp = true)
    (parsed : parseFrame (frameReadings lane) bytes = some (f, crcGood)) (wait : s.lanes[lane].phase = .awaitFrame since)
    (inactive : s.lanes[lane].state ≠ .active) (early : s.hub.now ≤ since + 2000) :
    exec (.laneFrame lane bytes) s = .next (s.awaitedFrame lane f crcGood) := by
  have early' : s.hub.now ≤ since + Config.firstFrameLimit := early
  change Host.Outcome.next (s.whenUp _) = _
  rw [State.whenUp_of_up _ _ up, parsed]
  dsimp only
  split
  · next active => exact absurd active inactive
  · next wait' _ =>
    obtain rfl := ProbePhase.awaitFrame.inj (wait.symm.trans wait')
    rw [if_pos early']
  · next other => exact absurd wait (other since)

/-! ### Consumers of a frame (R9, R14) -/

theorem State.laneUp_castSucc (n : Fin 8) (s : State) : s.laneUp n.castSucc = s.keyLaneUp n := dif_pos n.isLt
theorem State.laneUp_pedalLane (s : State) : s.laneUp 8 = s.pedalLaneUp := dif_neg (Nat.lt_irrefl 8)

theorem State.laneReadings_castSucc (n : Fin 8) (readings : List Nat) (s : State) :
    s.laneReadings n.castSucc readings = s.keyFrame n readings := dif_pos n.isLt

theorem State.laneReadings_pedalLane (readings : List Nat) (s : State) : s.laneReadings 8 readings = s.pedalFrame readings :=
  dif_neg (Nat.lt_irrefl 8)

/-- R9: a frame of one lane reaches the keys of no other. -/
theorem State.laneReadings_key_other {k : Fin 88} (readings : List Nat) (other : lane ≠ (laneOf k).castSucc) (s : State) :
    (s.laneReadings lane readings).keys[k] = s.keys[k] := by
  by_cases pedals : lane = 8
  · subst pedals
    rw [State.laneReadings_pedalLane, (State.pedalFrame_work readings (List.Subset.refl _) (Work.refl _ s)).same .keys (by decide)]
  · obtain ⟨n, rfl⟩ := exists_castSucc_of_ne pedals
    rw [State.laneReadings_castSucc]
    exact State.keyFrame_key_other (fun same => other (congrArg Fin.castSucc same.symm)) readings s

/-! ### The first frame (R7, R33) -/

theorem State.keyLaneUp_key (n : Fin 8) (j : Fin 11) (s : State) :
    (s.keyLaneUp n).keys[laneKey n j] = s.keys[laneKey n j].woken := by
  obtain ⟨keys, up, each⟩ := s.keyLaneUp_keys n
  rw [up, State.reevalQuiet_keys]
  exact (each _).trans (if_pos (laneOf_laneKey n j))

theorem State.keyLaneUp_tracksLike (n : Fin 8) (s : State) : s.TracksLike (s.keyLaneUp n) := by
  have work := State.keyLaneUp_work n (List.Subset.refl _) (Work.refl _ s)
  exact ⟨work.same .calibration (by decide), work.same .curve (by decide), work.reach.tracking⟩

theorem State.firstFrame_keys (f : Frame) (s : State) : (s.firstFrame lane f).keys =
    (((s.setLane lane { s.lanes[lane].acceptFrame f.sequence s.hub.performance with
      state := .active, phase := .idle }).laneUp lane).laneReadings lane f.readings).keys := rfl

theorem State.firstFrame_pedals (f : Frame) (s : State) : (s.firstFrame lane f).pedals =
    (((s.setLane lane { s.lanes[lane].acceptFrame f.sequence s.hub.performance with
      state := .active, phase := .idle }).laneUp lane).laneReadings lane f.readings).pedals := rfl

/-- R7, R33: the first frame wakes the keys of the lane, then tracks them. -/
theorem State.firstFrame_key (n : Fin 8) (j : Fin 11) (f : Frame) (s : State) :
    (s.firstFrame n.castSucc f).keys[laneKey n j] = (s.tracked f.readings n j s.keys[laneKey n j].woken).1 := by
  rw [State.firstFrame_keys, State.laneUp_castSucc, State.laneReadings_castSucc, State.keyFrame_key, State.keyLaneUp_key,
    (State.keyLaneUp_tracksLike n _).tracked]
  rfl

theorem State.firstFrame_laneFlag (f : Frame) (s : State) : (s.firstFrame 8 f).pedals.laneFlag = true := by
  rw [State.firstFrame_pedals, State.laneUp_pedalLane, State.laneReadings_pedalLane, State.pedalFrame_laneFlag]
  rfl

/-! ### A frame of an ACTIVE lane (R9, R10) -/

/-- R9: a valid frame. -/
theorem State.activeFrame_of_valid {expected : BitVec 4} (known : s.lanes[lane].expected = some expected)
    (next : f.sequence = expected) : s.activeFrame lane f true =
      (s.setLane lane (s.lanes[lane].acceptFrame f.sequence s.hub.performance)).laneReadings lane f.readings := by
  have known' : s.lanes[lane].expected.getD 0 = expected := by rw [known]; rfl
  unfold State.activeFrame
  dsimp only
  rw [known', Bool.not_true, if_neg Bool.false_ne_true, if_neg (not_not_intro next)]

/-- R9: a frame error, and the sequence number that is expected after it. -/
theorem State.activeFrame_of_error {expected next : BitVec 4} (known : s.lanes[lane].expected = some expected)
    (error : crcGood = false ∧ next = expected + 1 ∨ crcGood = true ∧ f.sequence ≠ expected ∧ next = f.sequence + 1) :
    s.activeFrame lane f crcGood = s.takeFrameError lane next := by
  have known' : s.lanes[lane].expected.getD 0 = expected := by rw [known]; rfl
  unfold State.activeFrame
  dsimp only
  rw [known']
  rcases error with ⟨rfl, rfl⟩ | ⟨rfl, skipped, rfl⟩
  · exact if_pos rfl
  · rw [Bool.not_true, if_neg Bool.false_ne_true, if_pos skipped]

theorem State.takeFrameError_of_few {next : BitVec 4} (few : (s.lanes[lane].frameError next).errorWindow.length < 9) :
    s.takeFrameError lane next = s.setLane lane (s.lanes[lane].frameError next) := if_neg (Nat.not_le.mpr few)

/-- R10, R12: the ninth error in the window takes the lane out of service. -/
theorem State.takeFrameError_of_ninth {next : BitVec 4} (active : s.lanes[lane].state = .active)
    (ninth : 9 ≤ (s.lanes[lane].frameError next).errorWindow.length) :
    let t := s.takeFrameError lane next
    t.lanes[lane] = (s.lanes[lane].frameError next).recovering s.hub.now ∧
    t.keys = ((s.setLane lane (s.lanes[lane].frameError next)).laneLost lane).keys ∧
    t.pedals = ((s.setLane lane (s.lanes[lane].frameError next)).laneLost lane).pedals := by
  have taken : s.takeFrameError lane next = (s.setLane lane (s.lanes[lane].frameError next)).enterRecovering lane .errors :=
    if_pos ninth
  have own : (s.setLane lane (s.lanes[lane].frameError next)).lanes[lane] = s.lanes[lane].frameError next := State.setLane_at _
  have active' : (s.setLane lane (s.lanes[lane].frameError next)).lanes[lane].state = .active := by rw [own]; exact active
  have now : (s.setLane lane (s.lanes[lane].frameError next)).hub.now = s.hub.now := rfl
  obtain ⟨d, changed⟩ := (s.setLane lane (s.lanes[lane].frameError next)).enterRecovering_eq lane .errors
  rw [own, now] at changed
  rw [taken, changed]
  exact ⟨State.changeLane_at _ _, State.changeLane_keys_of_lost active' (Lane.recovering_not_active _ _),
    State.changeLane_pedals_of_lost active' (Lane.recovering_not_active _ _)⟩

end Sys2Proof.Machine
end

section
/-! PROOFS. Frames checked and taken (O20). -/

open Sys2Proof Sys2Proof.Machine

/-- Settles O20: the key step and the hammer step by the state of the key, the notices key by key, a frame by what it is. -/
theorem framesAreCheckedAndTaken : Obligations.FramesAreCheckedAndTaken := by
  refine ⟨?_, ?_, ?_, ?_, ?_, ?_, ?_, ?_, ?_, ?_, ?_, ?_⟩
  · exact fun c raw => ⟨rfl, rfl⟩
  · intro c r k result rises down velocity released
    have passes : r.risesPast c.rearm = true ↔ rises := Readings.risesPast_iff
    have moves : down = r.movesDown := by
      simp only [down, Readings.movesDown]
      cases r.previous <;> rfl
    have speed : ∀ rearm, velocity rearm = releaseVelocity rearm r.stamp := fun rearm => by cases rearm <;> rfl
    have release : ∀ rearm, released rearm = k.released c r rearm := fun rearm => by
      simp only [released, Key.released, moves, speed]
    have stays : ¬ rises → r.risesPast c.rearm = false := fun stay => Bool.not_eq_true _ ▸ mt passes.mp stay
    refine ⟨Key.keyStep_of_rest, Key.keyStep_of_falling, Key.keyStep_of_waitRest, Key.keyStep_of_rising,
      fun state => ⟨fun low => ⟨fun rise => ?_, fun stay => ?_⟩, fun high => ⟨fun rise => ?_, fun stay => ?_⟩⟩,
      fun state => ⟨fun low => ?_, fun high => ?_⟩⟩
    · exact (Key.keyStep_of_rises state (passes.mpr rise)).trans ((if_pos low).trans (release _).symm)
    · exact (Key.keyStep_of_not_rises state (stays stay)).trans ((if_pos low).trans (release _).symm)
    · exact (Key.keyStep_of_rises state (passes.mpr rise)).trans (if_neg (Nat.not_lt.mpr high))
    · exact (Key.keyStep_of_not_rises state (stays stay)).trans (if_neg (Nat.not_lt.mpr high))
    · exact (Key.keyStep_of_restriking state).trans ((if_pos low).trans (release _).symm)
    · exact (Key.keyStep_of_restriking state).trans (if_neg (Nat.not_lt.mpr high))
  · intro c curve r k result crosses begun
    have gate : r.hammerCrosses c.gateLow = true ↔ crosses := Readings.hammerCrosses_iff
    have stays : ¬ crosses → r.hammerCrosses c.gateLow = false := fun stay => Bool.not_eq_true _ ▸ mt gate.mp stay
    refine ⟨Key.hammerStep_of_resting, Key.hammerStep_of_missed, fun state => ⟨fun cross => ?_, fun stay => ?_⟩,
      fun state => ⟨fun cross => ?_, fun stay => ?_⟩, Key.hammerStep_of_timed⟩
    · exact Key.hammerStep_of_crosses (gate.mpr cross) (by rcases state with state | state <;> rw [state] <;> rfl)
    · exact Key.hammerStep_of_not_crosses (state.imp_right .inl) (stays stay)
    · exact Key.hammerStep_of_crosses (gate.mpr cross) (by rw [state]; rfl)
    · exact Key.hammerStep_of_not_crosses (.inr (.inr state)) (stays stay)
  · intro c curve r k gateLow timed state result t rep missed struck
    refine ⟨fun high => ⟨fun i enough last => ?_, fun slow => ?_⟩, fun below above => ?_, fun below low => ?_⟩
    · exact Key.timeStrike_of_fast timed state high (strikeVelocity_of_last i enough last)
    · exact Key.timeStrike_of_slow timed state high (strikeVelocity_of_slow slow)
    · exact Key.timeStrike_of_between timed state below above
    · refine (Key.timeStrike_of_low state below low).trans ?_
      simp only [rep, decide_eq_true_eq]
      rfl
  · intro c curve stamp rawKey rawHammer k result seen r a b
    refine ⟨Key.track_of_disabled, fun state => ⟨_, Key.track_of_calibrating state, fun none_ => ?_, fun x some_ => ?_⟩,
      Key.track_of_playing⟩
    · rw [none_]; rfl
    · rw [some_]; rfl
  · exact fun k s => ⟨fun _ _ => rfl, fun _ _ _ => rfl, rfl⟩
  · intro d zone pauses
    exact ⟨Deck.launchNotice_of_not d, fun move m pauses active motion started =>
      Deck.launchNotice_of_moving d pauses active motion started⟩
  · intro n s
    obtain ⟨keys, up, each⟩ := s.keyLaneUp_keys n
    refine ⟨⟨keys, up, fun k => (each k).trans ?_⟩, rfl, fun k => s.keyLaneLost_key n k, s.keyLaneLost_capture n⟩
    generalize s.keys[k] = q
    by_cases own : laneOf k = n
    · by_cases masked : q.masked = true <;> simp [own, Key.woken, masked]
    · simp [own]
  · intro k s lost
    exact ⟨State.loseKey_of_closed, State.loseKey_of_open, State.uncapture_of_not_mem, State.uncapture_of_mem⟩
  · exact fun s => ⟨rfl, rfl⟩
  · intro keys ve
    refine ⟨rfl, fun j => ?_⟩
    intro v
    rw [VoiceEngine.setCapture_get]
    split
    · next heard =>
      obtain ⟨live, sounds⟩ := heard
      have alive := (Voice.alive_iff v).mpr sounds
      by_cases captured : v.key ∈ keys
      · rw [if_pos captured, List.contains_iff_mem.mpr captured, Voice.capture_of_captured live alive]
      · have free : keys.contains v.key = false := Bool.not_eq_true _ ▸ mt List.contains_iff_mem.mp captured
        rw [if_neg captured, free, Voice.capture_of_freed live alive]
    · next other => exact Voice.capture_of_other fun heard => other ⟨heard.1, (Voice.alive_iff v).mp heard.2⟩
  · intro lane bytes s f crcGood up parsed l put valid result tracked
    refine ⟨fun since wait inactive early => ?_, fun expected active known => ?_⟩
    · have taken : result = .next (s.awaitedFrame lane f crcGood) :=
        exec_laneFrame_of_awaited up parsed wait inactive early
      refine ⟨fun good => ?_, fun bad => ?_⟩
      · subst good
        refine ⟨s.firstFrame lane f, taken, ?_, fun n j same => ?_, fun same => ?_⟩
        · simp only [State.firstFrame_lanes, Fin.getElem_fin, Vector.getElem_set_self]
          rfl
        · subst same
          exact State.firstFrame_key n j f s
        · subst same
          exact State.firstFrame_laneFlag f s
      · subst bad
        exact taken
    · have taken : result = .next (s.activeFrame lane f crcGood) := exec_laneFrame_of_active up parsed active
      refine ⟨fun good next => ?_, fun next error => ?_⟩
      · subst good
        rw [State.activeFrame_of_valid known next] at taken
        have accepted : s.setLane lane (s.lanes[lane].acceptFrame f.sequence s.hub.performance) = put valid := rfl
        rw [accepted] at taken
        refine ⟨⟨_, taken, ?_, fun n j same => ?_, fun n j other => ?_⟩, fun n same => ?_, fun same => ?_⟩
        · rw [State.laneReadings_lanes]
        · subst same
          rw [State.laneReadings_castSucc]
          exact State.keyFrame_key n f.readings j (put valid)
        · exact State.laneReadings_key_other f.readings (by rw [laneOf_laneKey]; exact other) (put valid)
        · subst same
          rw [taken, State.laneReadings_castSucc, State.keyFrame_eq,
            State.trackPlaces_eq (s := put valid) _ ⟨rfl, rfl, rfl⟩]
          rfl
        · subst same
          intro old level pressed sostenuto soft changed detail gives capture held u emit
          have details : ∀ p, pedalDetail ((put valid).frameChanged f.readings p) ((put valid).framePressed f.readings p) =
              detail p := fun p => by
            match p with
            | 0 => rfl
            | 1 => rfl
            | 2 => rfl
          have levels : ∀ p : Fin 3, ((put valid).framePedals f.readings).level[p] = level p := fun p => by
            simp only [State.framePedals, Fin.getElem_fin, Vector.getElem_ofFn]
            rfl
          have events : ∀ p, ((put valid).framePedals f.readings).gives s.pedalSettings.step
              (fun p => (put valid).frameChanged f.readings p) p = gives p := fun p => by
            rw [Pedals.gives, levels]
            simp only [givesEvent, gives, Bool.decide_or]
            rfl
          have emits : ∀ p w, State.pedalEventIf (gives p) p (level p) (detail p) w = emit p w := fun p w => rfl
          have start : State.putPedals (((put valid).framePedals f.readings).emitAll s.pedalSettings.step
              (fun p => (put valid).frameChanged f.readings p)) { put valid with voice := (put valid).frameVoice f.readings } =
              u := by
            simp only [Pedals.emitAll, events, levels]
            rfl
          rw [taken, State.laneReadings_pedalLane, State.pedalFrame_events]
          have step : (put valid).pedalSettings.step = s.pedalSettings.step := rfl
          simp only [step, start, events, levels, details, emits]
      · rw [State.activeFrame_of_error known error] at taken
        refine ⟨fun few => ?_, fun ninth => ?_⟩
        · exact taken.trans (congrArg Host.Outcome.next (State.takeFrameError_of_few few))
        · obtain ⟨record, keys, pedals⟩ := State.takeFrameError_of_ninth (next := next) active ninth
          refine ⟨_, taken, ?_, ?_, fun n j same => ?_, fun same => ?_⟩
          · rw [record]
            exact Lane.recovering_state _ _
          · rw [record, Lane.recovering_errors]
            rfl
          · subst same
            simp only [keys, State.laneLost_castSucc, State.keyLaneLost_key, laneOf_laneKey, if_true]
            rfl
          · subst same
            rw [pedals, State.laneLost_pedalLane, State.pedalLaneLost_pedals]

end

section
/-! PROOFS. The rail's laws are not kept by every step (O11). -/

namespace Sys2Proof.Machine

/-- A HOME move that stands GATED while a deceleration is in progress, the hammers quiet for 100 ms and a step pulse waiting. No
run of the part reaches it (a GATED move has no motion), but the rail's laws admit it. -/
def gatedDeceleration : State :=
  { State.reset with
    pending := [.stepPulse false false]
    hub := { Hub.reset with now := 100000 }
    rail := { Rail.reset with
      state := .gated, quiet := true, drvEn := true, drvSettled := true
      active := some { kind := .home, target := 0, profile := RailConfig.default.profile, slot := none, before := .unknown, homing := false }
      motion := some { outward := true, phase := .decelerate, change := .steady 0 0, started := false, lastPulse := 0, rate := 0
                       travel := 0 } } }

theorem gatedDeceleration_railLaws : RailLaws gatedDeceleration := by
  refine ⟨by decide, by decide, by decide, by decide, ?_⟩
  intro m active
  obtain rfl := Option.some.inj active
  decide

/-- R110: the deceleration comes to rest, and the move resumes in HOMING without having left GATED. -/
theorem gatedDeceleration_step : ∃ t m, step gatedDeceleration = .next t ∧ t.rail.state = .homing ∧ t.rail.active = some m ∧
    m.kind = .home ∧ m.homing = false :=
  ⟨_, _, rfl, by decide, rfl, by decide, by decide⟩

end Sys2Proof.Machine

open Sys2Proof Sys2Proof.Machine

/-- Refutes O11: the laws of the rail do not keep a motion out of GATED, and a HOME move that comes to rest there resumes in HOMING
without its homing flag. -/
theorem not_stepKeepsCopiesInAgreement : ¬ Obligations.StepKeepsCopiesInAgreement := by
  rintro ⟨-, laws⟩
  obtain ⟨t, m, stepped, homing, active, home, unset⟩ := gatedDeceleration_step
  obtain ⟨-, -, -, homes, -, -⟩ := (laws _ _ gatedDeceleration_railLaws stepped).before m active
  have set : m.homing = true := homes home (homing ▸ RailState.noConfusion)
  exact Bool.false_ne_true (unset.symm.trans set)

end

section
/-! PROOFS. The idle step (O2) and a taken request (O13). -/

namespace Sys2Proof.Machine

variable {s : State}

/-- With no command waiting a step is one microsecond. -/
theorem step_of_empty (idle : s.pending = []) : step s = .next s.tick := by
  unfold step
  rw [idle]

/-- The standing of the main domain does not depend on the hub. -/
theorem State.mainUp_hub (h : Hub) (s : State) : ({ s with hub := h } : State).mainUp = s.mainUp := rfl

/-- R19: outside the main domain's time a microsecond moves `now` alone. -/
theorem State.tick_of_down (down : s.mainUp = false) : s.tick = { s with hub := { s.hub with now := s.hub.now + 1 } } := by
  unfold State.tick State.whenUp
  dsimp only
  rw [State.mainUp_hub, down]
  rfl

/-- R19, R133: a microsecond of the main domain moves its clocks and the player's. -/
theorem State.tick_of_up (up : s.mainUp = true) :
    s.tick = { s with hub := Hub.tick { s.hub with now := s.hub.now + 1 }, player := s.player.tick } := by
  unfold State.tick State.whenUp
  dsimp only
  rw [State.mainUp_hub, up]
  rfl

theorem Player.tick_of_playing {p : Player} (playing : p.state = .playing) :
    p.tick = { p with position := p.position + BitVec.ofNat 32 ((p.positionPart + p.tempo) / 10000)
                      positionPart := (p.positionPart + p.tempo) % 10000 } := if_pos playing

theorem Player.tick_of_not_playing {p : Player} (still : p.state ≠ .playing) : p.tick = p := if_neg still

/-- R184 step 5: the state in which the owner acts, while the part is ATTACHED. -/
theorem State.handed_of_attached {slot : Fin 32} {kind : RequestKind} {tag : Word16} {args : List Byte}
    (attached : s.hub.attach = .attached) : s.handed slot kind tag args =
      { s with hub := { s.hub with
          inFlight := s.hub.inFlight ++ [{ slot, kind, tag, owner := kind.ownerFor args }]
          posted := s.hub.posted ++ [s.hub.slotWrite slot 0 (le8 2)], cursor := slot + 1 } } := by
  unfold State.handed State.mapHub Hub.takeRequest Hub.post
  dsimp only
  rw [if_pos attached]
  rfl

end Sys2Proof.Machine

open Sys2Proof Sys2Proof.Machine

/-- Settles O2: the step by whether the main domain is up, and the player's clock by whether it is PLAYING. -/
theorem idleStepIsOneMicrosecond : Obligations.IdleStepIsOneMicrosecond := by
  intro s idle
  refine ⟨fun down => ?_, fun up => ⟨fun playing => ?_, fun still => ?_⟩⟩
  · rw [step_of_empty idle, State.tick_of_down down]
  · rw [step_of_empty idle, State.tick_of_up up, Player.tick_of_playing playing]
    rfl
  · rw [step_of_empty idle, State.tick_of_up up, Player.tick_of_not_playing still]
    rfl

/-- Settles O13: the owner acts on the state in which the request is written TAKEN and tabled. -/
theorem takenRequestReachesItsOwner : Obligations.TakenRequestReachesItsOwner := by
  intro c r s row hands accepted
  obtain ⟨-, attached, -⟩ := State.hands_iff.mp hands
  refine ⟨?_, fun table => ?_⟩
  · rw [exec_handed row hands accepted, State.handed_of_attached attached]
  · rw [table]
    rfl

end

section
/-! PROOFS. TABLE_LOAD (O25): the load begins, and the reads that cover its table are asked for. -/

namespace Sys2Proof.Machine

variable {slot : Fin 32} {tag : Word16} {a : List Byte} {s t : State}

/-- R184: a request whose owner only works on the hub, and leaves the table of requests alone, is taken and held. -/
theorem takenAndHeld_of_reach {kind : RequestKind} (attached : s.hub.attach = .attached) (fresh : s.hub.holdsSlot slot = false)
    (reach : HubReach (s.handed slot kind tag a).hub t.hub) (kept : t.hub.inFlight = (s.handed slot kind tag a).hub.inFlight) :
    TakenAndHeld slot s t :=
  takenAndHeld_of_entry attached reach.posted (by rw [Hub.inFlightEntry, kept]; exact State.handed_entry fresh)

theorem Hub.requestParts_inFlight {n : Nat} (which : Fin n → ReadTag) (address : Word64) (size : Nat) (h : Hub) :
    (h.requestParts which address size).inFlight = h.inFlight :=
  List.foldlRecOn (motive := fun u : Hub => u.inFlight = h.inFlight) _ _ rfl fun u same _ _ =>
    (Hub.requestRead_inFlight _ _ _ _ u).trans same

/-- R184: taking a request numbers no read. -/
theorem State.handed_sched {kind : RequestKind} : (s.handed slot kind tag a).hub.sched = s.hub.sched := by
  unfold State.handed State.mapHub Hub.takeRequest Hub.post
  dsimp only
  split <;> rfl

/-- R43: a CURVE or CALIB load that nothing refuses. -/
theorem refuseTableLoad_of_table (named : u8At a 8 ≤ 1) (some_ : u64At a 0 ≠ 0) (aligned : u64At a 0 % 4 = 0)
    (free : s.tracker.load = none) (calib : u8At a 8 = 1 → s.tracker.window = none) : refuseTableLoad a s = none := by
  unfold refuseTableLoad
  rw [if_neg (by omega), if_neg (by simp [some_, aligned]; omega), if_neg]
  by_cases one : u8At a 8 = 1
  · simp [free, calib one]
  · simp [free, one]

/-- R61: a KEYMAP load that nothing refuses. -/
theorem refuseTableLoad_of_keymap (named : u8At a 8 = 2) (some_ : u64At a 0 ≠ 0) (aligned : u64At a 0 % 4 = 0)
    (free : s.voice.load = none) : refuseTableLoad a s = none := by
  simp [refuseTableLoad, refuseKeymapLoad, named, some_, aligned, free]

/-- R43: TABLE_LOAD of the key tracker. -/
theorem actTableLoad_of_table (named : u8At a 8 ≠ 2) :
    actTableLoad slot a s = s.startTableLoad slot (u8At a 8 == 1) (BitVec.ofNat 64 (u64At a 0)) := if_neg named

/-- R61: TABLE_LOAD of the voice engine. -/
theorem actTableLoad_of_keymap (named : u8At a 8 = 2) :
    actTableLoad slot a s = s.mapVoice (Engine.startKeymapLoad slot (u64At a 0)) := if_pos named

/-- R43: the reads of a CURVE or CALIB table. -/
def tableReads (calib : Bool) (address : Word64) : List (ReadTag × Word64 × Nat) :=
  if calib then [(.table 0, address, 512), (.table 1, address + 512, 512), (.table 2, address + 1024, 512),
    (.table 3, address + 1536, 224)]
  else [(.table 0, address, 254)]

theorem Hub.requestAll_inFlight (wanted : List (ReadTag × Word64 × Nat)) (h : Hub) :
    (h.requestAll wanted).inFlight = h.inFlight :=
  List.foldlRecOn (motive := fun u : Hub => u.inFlight = h.inFlight) _ _ rfl fun u same _ _ =>
    (Hub.requestRead_inFlight _ _ _ _ u).trans same

/-- R43: a load asks for the reads of its table. -/
theorem State.startTableLoad_hub (calib : Bool) (address : Word64) (s : State) :
    (s.startTableLoad slot calib address).hub = s.hub.requestAll (tableReads calib address) := by
  unfold State.startTableLoad State.mapHub tableReads Hub.requestAll
  cases calib <;> simp only [if_true, Bool.false_eq_true, if_false, List.foldl_cons, List.foldl_nil]

/-- R43, R184: a CURVE or CALIB load is taken, stays in flight and asks for the reads of its table. -/
theorem exec_tableLoad_of_table {calib : Bool} (named : u8At a 8 = flagBit calib) (hands : s.hands slot = true)
    (numbered : s.hub.readsNumbered) (some_ : u64At a 0 ≠ 0) (aligned : u64At a 0 % 4 = 0) (free : s.tracker.load = none)
    (closed : calib = true → s.tracker.window = none) : ∃ t, exec (.tableLoad slot tag a) s = .next t ∧ TakenAndHeld slot s t ∧
      t.tracker = { s.tracker with load := some { calib, slot, chunks := noChunks (if calib then 4 else 1) } } ∧
      t.hub.askedFor s.hub.sched.nextReadId (tableReads calib (BitVec.ofNat 64 (u64At a 0))) := by
  obtain ⟨-, attached, -, fresh, -⟩ := State.hands_iff.mp hands
  have is : (u8At a 8 == 1) = calib := by rw [named]; cases calib <;> rfl
  have small : u8At a 8 ≤ 1 := by rw [named]; cases calib <;> decide
  have other : u8At a 8 ≠ 2 := by omega
  have window : u8At a 8 = 1 → s.tracker.window = none := fun one => closed (is ▸ beq_iff_eq.mpr one)
  have taken := exec_handed (c := .tableLoad slot tag a) rfl hands (refuseTableLoad_of_table small some_ aligned free window)
  refine ⟨_, taken.trans (congrArg Host.Outcome.next (actTableLoad_of_table other)), ?_⟩
  rw [is]
  refine ⟨takenAndHeld_of_reach attached fresh
    (State.startTableLoad_work slot calib _ (List.Subset.refl _) (Work.refl _ _)).reach ?_, rfl, ?_⟩
  · rw [State.startTableLoad_hub, Hub.requestAll_inFlight]
  · rw [State.startTableLoad_hub, ← State.handed_sched (kind := .tableLoad) (tag := tag) (a := a) (slot := slot)]
    refine (Hub.requestAll_asked _ ?_).2
    rw [Hub.readsNumbered, State.handed_sched]
    exact numbered

theorem State.startKeymapLoad_hub (address : Nat) (s : State) : (s.mapVoice (Engine.startKeymapLoad slot address)).hub =
    s.hub.requestParts (n := 44) .keymap (BitVec.ofNat 64 address) 512 := by
  unfold State.mapVoice Engine.startKeymapLoad
  with_reducible rfl

theorem State.startKeymapLoad_voice (address : Nat) (s : State) :
    (s.mapVoice (Engine.startKeymapLoad slot address)).voice = { s.voice with load := some { slot, chunks := noChunks 44 } } := by
  unfold State.mapVoice Engine.startKeymapLoad
  with_reducible rfl

/-- R61, R184: a KEYMAP load is taken, stays in flight and asks for the reads of its table. -/
theorem exec_tableLoad_of_keymap (named : u8At a 8 = 2) (hands : s.hands slot = true) (numbered : s.hub.readsNumbered)
    (some_ : u64At a 0 ≠ 0) (aligned : u64At a 0 % 4 = 0) (free : s.voice.load = none) :
    ∃ t, exec (.tableLoad slot tag a) s = .next t ∧ TakenAndHeld slot s t ∧
      t.voice = { s.voice with load := some { slot, chunks := noChunks 44 } } ∧
      t.hub.askedFor s.hub.sched.nextReadId (readsOf (n := 44) .keymap (BitVec.ofNat 64 (u64At a 0))) := by
  obtain ⟨-, attached, -, fresh, -⟩ := State.hands_iff.mp hands
  have taken := exec_handed (c := .tableLoad slot tag a) rfl hands (refuseTableLoad_of_keymap named some_ aligned free)
  refine ⟨_, taken.trans (congrArg Host.Outcome.next (actTableLoad_of_keymap named)), ?_⟩
  refine ⟨takenAndHeld_of_reach attached fresh
    (State.mapVoice_work (List.Subset.refl _) (fun _ _ q => Engine.startKeymapLoad_reach _ _ q) (Work.refl _ _)).reach ?_, ?_, ?_⟩
  · rw [State.startKeymapLoad_hub, Hub.requestParts_inFlight]
  · rw [State.startKeymapLoad_voice]
    exact rfl
  · rw [State.startKeymapLoad_hub, ← State.handed_sched (kind := .tableLoad) (tag := tag) (a := a) (slot := slot)]
    refine Hub.requestParts_asked (n := 44) .keymap _ ?_
    rw [Hub.readsNumbered, State.handed_sched]
    exact numbered

end Sys2Proof.Machine

open Sys2Proof Sys2Proof.Machine

/-- Settles O25: the tracker's two tables, then the voice engine's. -/
theorem tableLoadReadsItsTable : Obligations.TableLoadReadsItsTable := by
  intro slot tag a s hands numbered some_ aligned address next
  refine ⟨fun named free => ?_, fun named free closed => ?_, fun named free => ?_⟩
  · exact exec_tableLoad_of_table (calib := false) named hands numbered some_ aligned free (fun no => absurd no Bool.false_ne_true)
  · exact exec_tableLoad_of_table (calib := true) named hands numbered some_ aligned free (fun _ => closed)
  · exact exec_tableLoad_of_keymap named hands numbered some_ aligned free

end

section
/-! SUPPORT. The key tracker's operations on one key, and the folds of them over a list of keys (R34, R35, R38, R45). -/

namespace Sys2Proof.Machine

variable {s : State}

/-- R32, R35, R38, R45: the record a key is forced to. -/
theorem State.forceKey_keys (k : Fin 88) (key : Key) (s : State) : (s.forceKey k key).keys = s.keys.set k key := by
  unfold State.forceKey
  dsimp only
  split <;> rfl

theorem State.forceKey_lanes (k : Fin 88) (key : Key) (s : State) : (s.forceKey k key).lanes = s.lanes := by
  unfold State.forceKey
  dsimp only
  split <;> rfl

/-- A key's record replaced by a function of it. -/
theorem keys_set_get (keys : Vector Key 88) (j k : Fin 88) (key : Key) : (keys.set j key)[k] = if k = j then key else keys[k] := by
  by_cases same : k = j
  · subst same
    simp
  · have off : j.val ≠ k.val := fun e => same (Fin.ext e.symm)
    simp [same, off]

/-- Along a list of keys that names none twice, an operation that replaces its own key's record replaces those of the keys in the
list, each by the same function of what it was. -/
theorem foldl_keys {op : State → Fin 88 → State} {value : Fin 88 → Key → Key} {kept : State → Prop}
    (keeps : ∀ u k, kept u → kept (op u k)) (one : ∀ u k, kept u → (op u k).keys = u.keys.set k (value k u.keys[k]))
    (k : Fin 88) (ks : List (Fin 88)) (once : ks.Nodup) (x : kept s) :
    (ks.foldl op s).keys[k] = if k ∈ ks then value k s.keys[k] else s.keys[k] := by
  induction ks generalizing s with
  | nil => rfl
  | cons j ks ih =>
    obtain ⟨fresh, once⟩ := List.nodup_cons.mp once
    rw [List.foldl_cons, ih once (keeps s j x), one s j x, keys_set_get]
    by_cases same : k = j
    · subst same
      simp [fresh]
    · simp [same]

theorem foldl_keeps {α : Type} {op : State → α → State} {kept : State → Prop} (keeps : ∀ u k, kept u → kept (op u k))
    (ks : List α) (x : kept s) : kept (ks.foldl op s) :=
  List.foldlRecOn (motive := kept) ks op x fun u y k _ => keeps u k y

/-! ### Masking (R34, R35) -/

/-- R34, R35: what a masked flag that takes a value makes of its key, whose lane is ACTIVE or not. -/
def Key.masking (active masked : Bool) (k : Key) : Key :=
  if masked = k.masked then k
  else if masked then { k.closed with state := .disabled, masked := true, extremes := none }
  else { k with masked := false, state := if active then .waitRest else k.state }

theorem Key.masking_masked (active masked : Bool) (k : Key) : (k.masking active masked).masked = masked := by
  unfold Key.masking
  split
  · next same => exact same.symm
  · cases masked <;> rfl

theorem Key.masking_of_same {active masked : Bool} {k : Key} (same : masked = k.masked) : k.masking active masked = k := if_pos same

theorem Key.masking_of_masked {active : Bool} {k : Key} (free : k.masked = false) :
    k.masking active true = { k.closed with state := .disabled, masked := true, extremes := none } := by
  unfold Key.masking
  rw [if_neg (by rw [free]; decide), if_pos rfl]

theorem Key.masking_of_unmasked {active : Bool} {k : Key} (hidden : k.masked = true) :
    k.masking active false = { k with masked := false, state := if active then .waitRest else k.state } := by
  unfold Key.masking
  rw [if_neg (by rw [hidden]; decide), if_neg Bool.false_ne_true]

theorem State.maskKey_keys (k : Fin 88) (masked : Bool) (s : State) : (s.maskKey k masked).keys =
    s.keys.set k (s.keys[k].masking (s.lanes[(laneOf k).castSucc].state = .active) masked) := by
  unfold State.maskKey
  by_cases same : masked = s.keys[k].masked
  · rw [if_pos same, Key.masking_of_same same]
    exact (Vector.set_getElem_self k.isLt).symm
  · rw [if_neg same, Key.masking, if_neg same]
    cases masked
    · simp [State.keyLane]
      rfl
    · exact State.forceKey_keys _ _ _

theorem State.maskKey_lanes (k : Fin 88) (masked : Bool) (s : State) : (s.maskKey k masked).lanes = s.lanes := by
  unfold State.maskKey
  dsimp only
  split
  · rfl
  · split
    · exact State.forceKey_lanes _ _ _
    · rfl

theorem State.maskKey_spares {slot : Fin 32} {e : InFlight} (k : Fin 88) (masked : Bool) (x : s.Spares slot e) :
    (s.maskKey k masked).Spares slot e := by
  unfold State.maskKey
  dsimp only
  split
  · exact x
  · split
    · exact State.forceKey_spares _ _ x
    · exact x.congr rfl rfl

end Sys2Proof.Machine
end

section
/-! PROOFS. SENSE_CONFIG (O22). -/

namespace Sys2Proof.Machine

variable {s : State} {a : List Byte}

/-- R34: the masks of SENSE_CONFIG. -/
def State.setMasks (a : List Byte) (s : State) : State :=
  if bitOf (u8At a 0) 0 then (List.finRange 88).foldl (fun s k => s.maskKey k (maskBit a 1 k.val)) s else s

/-- R34: the LED levels of SENSE_CONFIG, if its apply flag is set. -/
def State.senseSet (a : List Byte) (s : State) : State :=
  if bitOf (u8At a 0) 1 then (s.setMasks a).setLeds a else s.setMasks a

/-- R34: SENSE_CONFIG answers with the settings as they then stand. -/
theorem actSenseConfig_eq (slot : Fin 32) (a : List Byte) (s : State) : actSenseConfig slot a s =
    (s.senseSet a).mapHub fun h => h.completeRequest slot .ok (s.senseSet a).senseResult := rfl

theorem refuseSenseConfig_of_levels (levels : bitOf (u8At a 0) 1 = true → ∀ i : Fin 9, u8At a (12 + i.val) ≤ 15) :
    refuseSenseConfig a = none := by
  unfold refuseSenseConfig
  by_cases apply_ : bitOf (u8At a 0) 1 = true
  · have low : (List.range 9).any (fun i => 15 < u8At a (12 + i)) = false := by
      simpa using fun i small => levels apply_ ⟨i, small⟩
    simp [low]
  · simp [apply_]

theorem State.setMasks_lanes (a : List Byte) (s : State) : (s.setMasks a).lanes = s.lanes := by
  unfold State.setMasks
  split
  · exact foldl_keeps (kept := fun u => u.lanes = s.lanes) (fun u k same => (State.maskKey_lanes k _ u).trans same) _ rfl
  · rfl

/-- R34, R35: the keys after the masks are set. -/
theorem State.setMasks_key (a : List Byte) (k : Fin 88) (s : State) : (s.setMasks a).keys[k] =
    if bitOf (u8At a 0) 0 then s.keys[k].masking (s.lanes[(laneOf k).castSucc].state = .active) (maskBit a 1 k.val)
    else s.keys[k] := by
  unfold State.setMasks
  split
  · rw [foldl_keys (kept := fun u => u.lanes = s.lanes)
      (value := fun k key => key.masking (s.lanes[(laneOf k).castSucc].state = .active) (maskBit a 1 k.val))
      (fun u k same => (State.maskKey_lanes k _ u).trans same)
      (fun u k same => by rw [State.maskKey_keys]; simp only [same]) k _ (List.nodup_finRange 88) rfl,
      if_pos (List.mem_finRange k)]
  · rfl

theorem State.senseSet_keys (a : List Byte) (s : State) : (s.senseSet a).keys = (s.setMasks a).keys := by
  unfold State.senseSet
  split <;> rfl

/-- R34: the lanes after the LED levels are set. -/
theorem State.senseSet_lane (a : List Byte) (i : Fin 9) (s : State) : (s.senseSet a).lanes[i] =
    if bitOf (u8At a 0) 1 then { s.lanes[i] with ledLevel := u8At a (12 + i.val) } else s.lanes[i] := by
  unfold State.senseSet
  split
  · simp [State.setLeds, State.setMasks_lanes]
  · simp only [State.setMasks_lanes]

theorem State.senseSet_spares {slot : Fin 32} {e : InFlight} (a : List Byte) (x : s.Spares slot e) :
    (s.senseSet a).Spares slot e := by
  have masks : (s.setMasks a).Spares slot e := by
    unfold State.setMasks
    split
    · exact foldl_keeps (fun u k y => State.maskKey_spares k _ y) _ x
    · exact x
  unfold State.senseSet
  split
  · exact masks.congr rfl rfl
  · exact masks

theorem State.senseSet_reach (a : List Byte) (s : State) : HubReach s.hub (s.senseSet a).hub := by
  have masks : HubReach s.hub (s.setMasks a).hub := by
    unfold State.setMasks
    split
    · exact (Work.foldl (fun u k y => State.maskKey_work k _ (List.Subset.refl _) y) _ (Work.refl _ s)).reach
    · exact .refl _
  unfold State.senseSet
  split <;> exact masks

end Sys2Proof.Machine

open Sys2Proof Sys2Proof.Machine

/-- Settles O22: each key's record by the mask's fold, each lane's by its LED level, then the completion. -/
theorem senseConfigSetsMasksAndLevels : Obligations.SenseConfigSetsMasksAndLevels := by
  intro slot tag a s hands owed levels
  obtain ⟨-, attached, -, fresh, -⟩ := State.hands_iff.mp hands
  have taken := exec_handed (c := .senseConfig slot tag a) rfl hands (refuseSenseConfig_of_levels levels)
  refine ⟨_, taken.trans (congrArg Host.Outcome.next (actSenseConfig_eq slot a _)), ?_⟩
  have spares := State.senseSet_spares a (State.handed_spares (kind := .senseConfig) (tag := tag) (args := a) owed fresh)
  have reach := State.senseSet_reach a (s.handed slot .senseConfig tag a)
  have key (k : Fin 88) : ((s.handed slot .senseConfig tag a).setMasks a).keys[k] =
      if bitOf (u8At a 0) 0 then s.keys[k].masking (s.lanes[(laneOf k).castSucc].state = .active) (maskBit a 1 k.val)
      else s.keys[k] := State.setMasks_key a k _
  have lane := fun i => State.senseSet_lane a i (s.handed slot .senseConfig tag a)
  have keys := State.senseSet_keys a (s.handed slot .senseConfig tag a)
  refine ⟨answered_of_completed attached reach spares.1 rfl rfl, fun k => ?_, fun k apply_ masked free => ?_,
    fun k apply_ free hidden => ?_, fun k same => ?_, lane⟩
  all_goals rw [State.mapHub_keys, keys, key]
  · split
    · exact Key.masking_masked _ _ _
    · rfl
  · rw [if_pos apply_, masked, Key.masking_of_masked free]
    exact ⟨rfl, rfl⟩
  · rw [if_pos apply_, free, Key.masking_of_unmasked hidden]
    simp only [decide_eq_true_eq]
  · split
    · next apply_ =>
      rcases same with none_ | same
      · exact absurd (apply_.symm.trans none_) Bool.noConfusion
      · exact Key.masking_of_same same
    · rfl

end

section
/-! PROOFS. Calibration windows: their opening and end (O23). -/

namespace Sys2Proof.Machine

variable {s t : State}

/-! ### The opening (R37, R38) -/

/-- R38: a key at the opening of a window. -/
def Key.opened (k : Key) : Key :=
  if k.state = .disabled then k else { k.closed with state := .calibrating, extremes := none }

theorem State.openKey_keys (k : Fin 88) (s : State) : (s.openKey k).keys = s.keys.set k s.keys[k].opened := by
  unfold State.openKey Key.opened
  by_cases off : s.keys[k].state = .disabled
  · simp only [if_pos off]
    exact (Vector.set_getElem_self k.isLt).symm
  · simp only [if_neg off]
    exact State.forceKey_keys _ _ _

theorem State.openKey_spares {slot : Fin 32} {e : InFlight} (k : Fin 88) (x : s.Spares slot e) : (s.openKey k).Spares slot e := by
  unfold State.openKey
  dsimp only
  split
  · exact x
  · exact State.forceKey_spares _ _ x

theorem mem_keyRange_iff {first last : Nat} {k : Fin 88} : k ∈ keyRange first last ↔ first ≤ k.val ∧ k.val ≤ last := by
  simp [keyRange]

/-- R38: the keys of a range, opened one after the other. -/
theorem State.openKeys_key (first last : Nat) (k : Fin 88) (s : State) :
    ((keyRange first last).foldl (fun u j => u.openKey j) s).keys[k] =
      if first ≤ k.val ∧ k.val ≤ last then s.keys[k].opened else s.keys[k] := by
  rw [foldl_keys (kept := fun _ => True) (value := fun _ => Key.opened) (fun _ _ _ => trivial)
    (fun u k _ => State.openKey_keys k u) k (keyRange first last) ((List.nodup_finRange 88).filter _) trivial]
  simp only [mem_keyRange_iff]

/-- R38: the keys when a window has opened. -/
theorem State.openWindow_key (w : CalibWindow) (k : Fin 88) (s : State) :
    (s.openWindow w).keys[k] = if w.first ≤ k.val ∧ k.val ≤ w.last then s.keys[k].opened else s.keys[k] :=
  State.openKeys_key w.first w.last k s

theorem State.openWindow_tracker (w : CalibWindow) (s : State) :
    (s.openWindow w).tracker.window = some w := rfl

theorem State.openWindow_spares {slot : Fin 32} {e : InFlight} (w : CalibWindow) (x : s.Spares slot e) :
    (s.openWindow w).Spares slot e := by
  have opened := foldl_keeps (op := fun u k => u.openKey k) (fun u k y => State.openKey_spares k y) (keyRange w.first w.last) x
  exact State.mapHub_spares (fun _ => Hub.note_inFlight ..) (opened.congr rfl rfl)

theorem refuseCalibrateKeys_of_free {a : List Byte} (range : u8At a 8 ≤ u8At a 9) (keys : u8At a 9 ≤ 87) (least : 2 ≤ u8At a 10)
    (most : u8At a 10 ≤ 30) (some_ : u64At a 0 ≠ 0) (aligned : u64At a 0 % 4 = 0) (closed : s.tracker.window = none)
    (free : ∀ x, s.tracker.load = some x → x.calib = false) : refuseCalibrateKeys a s = none := by
  have no : s.tracker.load.any TableLoad.calib = false := by
    cases load : s.tracker.load with
    | none => rfl
    | some x => exact free x load
  unfold refuseCalibrateKeys
  rw [if_neg (by simp [some_, aligned]; omega), if_neg (by simp [closed, no])]

/-- R37: the window that CALIBRATE_KEYS opens. -/
def windowOf (slot : Fin 32) (a : List Byte) (now : Nat) : CalibWindow :=
  { first := u8At a 8, last := u8At a 9, address := BitVec.ofNat 64 (u64At a 0), endsAt := now + u8At a 10 * 1000000, slot }

theorem actCalibrateKeys_eq {slot : Fin 32} {tag : Word16} {a : List Byte} :
    actRequest .calibrateKeys slot a (s.handed slot .calibrateKeys tag a) =
      (s.handed slot .calibrateKeys tag a).openWindow (windowOf slot a s.hub.now) := by
  rw [← State.handed_now (slot := slot) (kind := .calibrateKeys) (tag := tag) (args := a)]
  rfl

/-! ### The end (R40) -/

theorem endCalibrating_get (keys : Vector Key 88) (k : Fin 88) : (endCalibrating keys)[k] =
    if keys[k].state = .calibrating then { keys[k] with state := .waitRest, extremes := none } else keys[k] := by
  simp [endCalibrating]

/-- R40: the calibration records after a window. -/
def State.measuredTable (s : State) : Vector Calibration 88 :=
  Vector.ofFn fun k : Fin 88 => (s.measuredKey k).getD s.calibration[k]

/-- R40: the bytes of the whole table. -/
def State.tableBytes (s : State) : List Byte := s.measuredTable.toList.flatMap Calibration.bytes

/-- R40: the write of the whole table to a window's result address. -/
def State.tableWrite (w : CalibWindow) (s : State) : PostedWrite :=
  { writer := .tracker, address := w.address, data := s.tableBytes }

/-- R40: what the request that opened a window is answered at its end. -/
def State.windowResult (w : CalibWindow) (s : State) : List Byte :=
  let count := (List.finRange 88).countP fun k => (s.measuredKey k).isSome
  le8 count ++ le8 (w.last + 1 - w.first - count)

/-- R40: the hub when the table is written and the request completed. -/
def State.windowAnswered (w : CalibWindow) (s : State) : Hub :=
  (s.hub.post .tracker w.address s.tableBytes).completeRequest w.slot .ok (s.windowResult w)

theorem State.reevalQuiet_hub (s : State) : s.reevalQuiet.hub = s.hub := by
  rw [State.reevalQuiet, State.mapDeck_hub, Deck.setQuiet]
  split <;> rfl

theorem State.finishWindow_keys (w : CalibWindow) (s : State) : (s.finishWindow w).keys = endCalibrating s.keys := rfl
theorem State.finishWindow_calibration (w : CalibWindow) (s : State) : (s.finishWindow w).calibration = s.measuredTable := rfl
theorem State.finishWindow_window (w : CalibWindow) (s : State) : (s.finishWindow w).tracker.window = none := rfl

theorem State.finishWindow_hub (w : CalibWindow) (s : State) : (s.finishWindow w).hub = ((s.windowAnswered w).noteCalib w.first
    w.last 1 ((List.finRange 88).countP fun k => (s.measuredKey k).isSome)).raise .sense := by
  unfold State.finishWindow
  rw [State.reevalQuiet_hub, State.mapHub_hub]
  unfold State.windowAnswered State.windowResult State.tableBytes State.measuredTable
  with_reducible rfl

/-- R40: after the completion the window's end only hands its record and sets CAUSE.SENSE. -/
theorem State.finishWindow_reach (w : CalibWindow) (s : State) : HubReach (s.windowAnswered w) (s.finishWindow w).hub := by
  rw [State.finishWindow_hub]
  exact Hub.raise_reach _ (Hub.note_reach _ _ _ _ _ _ (.refl _))

theorem State.finishWindow_inFlight (w : CalibWindow) (s : State) :
    (s.finishWindow w).hub.inFlight = (s.windowAnswered w).inFlight := by
  rw [State.finishWindow_hub, Hub.raise_inFlight, Hub.noteCalib, Hub.note_inFlight]

theorem State.tableWrite_posted {w : CalibWindow} (attached : s.hub.attach = .attached) :
    (s.hub.post .tracker w.address s.tableBytes).posted = s.hub.posted ++ [s.tableWrite w] := by
  unfold State.tableWrite
  exact Hub.post_posted _ _ _ _ attached

/-- R40: the table is the first write of a window's end. -/
theorem State.finishWindow_posted {w : CalibWindow} (attached : s.hub.attach = .attached) :
    ∃ after, (s.finishWindow w).hub.posted = s.hub.posted ++ s.tableWrite w :: after := by
  obtain ⟨after, grown⟩ := ((Hub.completeRequest_reach w.slot .ok (s.windowResult w) (.refl _)).trans (s.finishWindow_reach w)).posted
  exact ⟨after, by rw [← grown, State.tableWrite_posted attached, List.append_assoc]; rfl⟩

/-- R40: the completion of the request follows the table. -/
theorem State.finishWindow_answered {w : CalibWindow} {e : InFlight} (attached : s.hub.attach = .attached)
    (entry : s.hub.inFlightEntry w.slot = some e) :
    (∃ after, (s.finishWindow w).hub.posted = s.hub.posted ++ s.tableWrite w ::
      (s.hub.resultWrites w.slot e.tag .ok (s.windowResult w) 3 ++ after)) ∧ (s.finishWindow w).hub.holdsSlot w.slot = false := by
  have wrote : HubReach s.hub (s.hub.post .tracker w.address s.tableBytes) := Hub.post_reach _ _ _ (.refl _)
  have entry' : (s.hub.post .tracker w.address s.tableBytes).inFlightEntry w.slot = some e := by
    rw [Hub.inFlightEntry, Hub.post_inFlight]
    exact entry
  obtain ⟨after, grown⟩ := (s.finishWindow_reach w).posted
  refine ⟨⟨after, ?_⟩, ?_⟩
  · rw [← grown, State.windowAnswered, Hub.completeRequest_posted entry' (wrote.attach.trans attached),
      State.tableWrite_posted attached, Hub.resultWrites_congr wrote.region]
    simp
  · rw [Hub.holdsSlot, State.finishWindow_inFlight]
    exact Hub.completeRequest_holdsSlot

/-! ### What a key has measured (R40) -/

theorem Calibration.measured_eq (e : Extremes) (c : Calibration) : c.measured e =
    if 200 ≤ e.keyHigh - e.keyLow ∧ 200 ≤ e.hammerHigh - e.hammerLow then
      some { c with
        keyRest := if c.keyRest < c.keyBottom then e.keyLow else e.keyHigh
        keyBottom := if c.keyRest < c.keyBottom then e.keyHigh else e.keyLow
        hammerRest := if c.hammerRest < c.hammerTop then e.hammerLow else e.hammerHigh
        hammerTop := if c.hammerRest < c.hammerTop then e.hammerHigh else e.hammerLow }
    else none := by
  simp only [Calibration.measured, reorient, Bool.and_eq_true, decide_eq_true_eq]
  split_ifs <;> rfl

theorem Calibration.measured_isSome (e : Extremes) (c : Calibration) :
    (c.measured e).isSome = (200 ≤ e.keyHigh - e.keyLow && 200 ≤ e.hammerHigh - e.hammerLow) := by
  unfold Calibration.measured
  dsimp only
  split
  · next enough => simp [enough]
  · next short => simp only [Bool.not_eq_true] at short; simp [short]

theorem State.measuredKey_of_idle {k : Fin 88} (idle : s.keys[k].state ≠ .calibrating) : s.measuredKey k = none := if_neg idle

theorem State.measuredKey_of_extremes {k : Fin 88} (calibrating : s.keys[k].state = .calibrating) :
    s.measuredKey k = s.keys[k].extremes.bind fun e => s.calibration[k].measured e := if_pos calibrating

theorem State.measuredTable_get (k : Fin 88) (s : State) : s.measuredTable[k] = (s.measuredKey k).getD s.calibration[k] := by
  simp [State.measuredTable]

theorem State.measuredKey_isSome (k : Fin 88) (s : State) : (s.measuredKey k).isSome =
    (decide (s.keys[k].state = .calibrating) && s.keys[k].extremes.any fun e =>
      200 ≤ e.keyHigh - e.keyLow && 200 ≤ e.hammerHigh - e.hammerLow) := by
  by_cases calibrating : s.keys[k].state = .calibrating
  · rw [State.measuredKey_of_extremes calibrating, decide_eq_true calibrating, Bool.true_and]
    cases s.keys[k].extremes with
    | none => rfl
    | some e => exact Calibration.measured_isSome e _
  · rw [State.measuredKey_of_idle calibrating, decide_eq_false calibrating]
    rfl

theorem exec_calibWindowEnd {w : CalibWindow} (up : s.mainUp = true) (open_ : s.tracker.window = some w)
    (due : w.endsAt ≤ s.hub.now) : exec .calibWindowEnd s = .next (s.finishWindow w) := by
  show Host.Outcome.next (s.whenUp _) = _
  rw [State.whenUp_of_up _ _ up, open_]
  simp only [due, if_true]

end Sys2Proof.Machine

open Sys2Proof Sys2Proof.Machine

/-- Settles O23: the opening key by key; at the end the measured table, the keys, and the writes in their order. -/
theorem calibrationOpensAndEnds : Obligations.CalibrationOpensAndEnds := by
  intro s
  refine ⟨fun slot tag a hands owed range keys least most some_ aligned closed free => ?_, fun w up attached open_ due => ?_⟩
  · obtain ⟨-, attached, -, fresh, -⟩ := State.hands_iff.mp hands
    have taken := exec_handed (c := .calibrateKeys slot tag a) rfl hands
      (refuseCalibrateKeys_of_free range keys least most some_ aligned closed free)
    refine ⟨_, taken.trans (congrArg Host.Outcome.next actCalibrateKeys_eq), takenAndHeld_of_entry attached
      (State.openWindow_work _ (List.Subset.refl _) (Work.refl _ _)).reach.posted
      (State.openWindow_spares _ (State.handed_spares owed fresh)).1, State.openWindow_tracker _ _, ?_⟩
    have key (k : Fin 88) : ((s.handed slot .calibrateKeys tag a).openWindow (windowOf slot a s.hub.now)).keys[k] =
        if u8At a 8 ≤ k.val ∧ k.val ≤ u8At a 9 then s.keys[k].opened else s.keys[k] := State.openWindow_key _ k _
    refine ⟨fun k above below awake => ?_, fun k out => ?_⟩
    · rw [key, if_pos ⟨above, below⟩, Key.opened, if_neg awake]
      exact ⟨rfl, rfl, rfl⟩
    · rw [key]
      split
      · next within =>
        rcases out with before | after | off
        · exact absurd within.1 (Nat.not_le.mpr before)
        · exact absurd within.2 (Nat.not_le.mpr after)
        · exact if_pos off
      · rfl
  · refine ⟨_, exec_calibWindowEnd up open_ due, State.finishWindow_window w s, ?_⟩
    rw [State.finishWindow_keys, State.finishWindow_calibration]
    refine ⟨fun k calibrating => ?_, fun k idle => ?_, fun k e calibrating extremes => ?_, fun k empty => ?_, ?_⟩
    · rw [endCalibrating_get, if_pos calibrating]
    · rw [endCalibrating_get, if_neg idle, State.measuredTable_get, State.measuredKey_of_idle idle]
      exact ⟨rfl, rfl⟩
    · dsimp only
      rw [State.measuredTable_get, State.measuredKey_of_extremes calibrating, extremes, Option.bind_some, Calibration.measured_eq]
      split <;> rfl
    · rw [State.measuredTable_get]
      unfold State.measuredKey
      rw [empty]
      split <;> rfl
    · have answer : s.windowResult w = le8 _ ++ le8 (w.last + 1 - w.first - _) := rfl
      simp only [State.measuredKey_isSome] at answer
      refine ⟨State.finishWindow_posted attached, fun e entry => ?_⟩
      obtain ⟨⟨after, grown⟩, gone⟩ := State.finishWindow_answered attached entry
      exact ⟨after, answer ▸ grown, gone⟩

end

section
/-! PROOFS. CALIB_ABORT (O24): its refusal, what the journal writer posts, and the order of the abort's writes. -/

namespace Sys2Proof.Machine

variable {s : State} {h : Hub} {slot : Fin 32}

/-- R184: a request that its owner refuses. -/
theorem exec_refused {c : Instr} {r : Request} {code : ResultCode} (row : requestOf c = some r) (hands : s.hands r.slot = true)
    (refused : refuseRequest r.kind r.args s = some code) :
    exec c s = .next (s.mapHub fun h => { h.refuseRequest r.slot r.tag code with cursor := r.slot + 1 }) := by
  obtain ⟨up, attached, free, fresh, room⟩ := State.hands_iff.mp hands
  have visited : ¬ (s.hub.attach ≠ .attached || s.entry.isSome || !s.mainUp || s.hub.holdsSlot r.slot) = true := by
    simp [attached, free, up, fresh]
  rw [exec_request row, refused, State.visitSlot, if_neg visited, if_neg (Nat.not_le.mpr room)]

/-- R185: what a refusal posts. -/
theorem State.refused_posted {tag : Word16} {code : ResultCode} {cursor : Fin 32} (attached : s.hub.attach = .attached) :
    (s.mapHub fun h => { h.refuseRequest slot tag code with cursor := cursor }).hub.posted =
      s.hub.posted ++ s.hub.resultWrites slot tag code [] 4 := by
  rw [State.mapHub_hub]
  exact Hub.writeResult_posted tag 4 attached

/-! ### What the journal writer posts (R170, R171) -/

/-- From one hub to the other, only writes of one writer are posted. -/
def Hub.PostsOnly (writer : Writer) (a b : Hub) : Prop :=
  ∃ writes : List PostedWrite, (∀ x ∈ writes, x.writer = writer) ∧ b.posted = a.posted ++ writes

theorem Hub.PostsOnly.of_eq {writer : Writer} {a b : Hub} (same : b.posted = a.posted) : Hub.PostsOnly writer a b := ⟨[], by simp, by simp [same]⟩

theorem Hub.PostsOnly.trans {writer : Writer} {a b c : Hub} (x : Hub.PostsOnly writer a b) (y : Hub.PostsOnly writer b c) :
    Hub.PostsOnly writer a c := by
  obtain ⟨l, of_l, is_l⟩ := x
  obtain ⟨m, of_m, is_m⟩ := y
  refine ⟨l ++ m, fun w mem => ?_, by rw [is_m, is_l, List.append_assoc]⟩
  exact (List.mem_append.mp mem).elim (of_l w) (of_m w)

theorem Hub.post_postsOnly (writer : Writer) (address : Word64) (data : List Byte) (h : Hub) :
    Hub.PostsOnly writer h (h.post writer address data) := by
  unfold Hub.post
  split
  · exact ⟨[_], by simp, rfl⟩
  · exact .of_eq rfl

theorem Hub.claimPage_postsJournal (h : Hub) : Hub.PostsOnly .journal h h.claimPage := .of_eq (by rw [Hub.claimPage, Hub.requestRead_posted])

theorem Hub.sealPage_postsJournal (h : Hub) : Hub.PostsOnly .journal h h.sealPage := by
  have two (header : List Byte) (j : Journal) :
      Hub.PostsOnly .journal h { Hub.raise .journal (Hub.post .journal (h.pageAddress 0) (le8 2)
        (Hub.post .journal (h.pageAddress 1) header h)) with journal := j } :=
    ((Hub.post_postsOnly _ _ _ h).trans (Hub.post_postsOnly _ _ _ _)).trans (.of_eq (Hub.raise_posted _ _))
  unfold Hub.sealPage
  dsimp only
  split
  · exact two _ _
  · exact (two _ _).trans (Hub.claimPage_postsJournal _)

theorem Hub.writeRecord_postsJournal (r : JournalRecord) (tag : Word32) (rest : List (JournalRecord × Word32)) (h : Hub) :
    Hub.PostsOnly .journal h (h.writeRecord r tag rest) := (Hub.post_postsOnly _ _ _ h).trans (.of_eq rfl)

theorem Hub.fillFrom_postsJournal (records : List (JournalRecord × Word32)) (h : Hub) : Hub.PostsOnly .journal h (h.fillFrom records) := by
  induction records generalizing h with
  | nil => exact .of_eq rfl
  | cons record rest ih =>
    obtain ⟨r, tag⟩ := record
    have wrote := Hub.writeRecord_postsJournal r tag rest h
    unfold Hub.fillFrom
    split
    · exact Hub.sealPage_postsJournal h
    · dsimp only
      split
      · exact wrote.trans (Hub.sealPage_postsJournal _)
      · exact wrote.trans (ih _)

theorem Hub.runWriter_postsJournal (h : Hub) : Hub.PostsOnly .journal h h.runWriter := by
  unfold Hub.runWriter
  split
  · split
    · exact .of_eq rfl
    · exact Hub.claimPage_postsJournal h
  · exact Hub.fillFrom_postsJournal _ h
  · exact .of_eq rfl

theorem Hub.hand_postsJournal (r : JournalRecord) (h : Hub) : Hub.PostsOnly .journal h (h.hand r) := by
  unfold Hub.hand
  dsimp only
  split
  · exact .of_eq rfl
  · split
    · exact .of_eq rfl
    · exact (Hub.PostsOnly.of_eq rfl).trans (Hub.runWriter_postsJournal _)

/-! ### The count of records handed, and the queue (R167, R168) -/

theorem Hub.sealPage_handed (h : Hub) : h.sealPage.journal.handed = h.journal.handed := by
  unfold Hub.sealPage
  dsimp only
  split <;> simp

theorem Hub.fillFrom_handed (records : List (JournalRecord × Word32)) (h : Hub) :
    (h.fillFrom records).journal.handed = h.journal.handed := by
  induction records generalizing h with
  | nil => rfl
  | cons record rest ih =>
    obtain ⟨r, tag⟩ := record
    have wrote : (h.writeRecord r tag rest).journal.handed = h.journal.handed := rfl
    unfold Hub.fillFrom
    split
    · exact Hub.sealPage_handed h
    · dsimp only
      split
      · exact (Hub.sealPage_handed _).trans wrote
      · exact (ih _).trans wrote

theorem Hub.runWriter_handed (h : Hub) : h.runWriter.journal.handed = h.journal.handed := by
  unfold Hub.runWriter
  split
  · split
    · rfl
    · rw [Hub.claimPage_journal]
  · exact Hub.fillFrom_handed _ h
  · rfl

/-- R167: a writer that is not OFF counts the record. -/
theorem Hub.hand_handed {r : JournalRecord} (on : h.journal.state ≠ .off) :
    (h.hand r).journal.handed = h.journal.handed + 1 := by
  unfold Hub.hand
  rw [if_neg on]
  split
  · rfl
  · exact Hub.runWriter_handed _

/-- R168: with no page being filled the writer takes nothing from its queue. -/
theorem Hub.runWriter_queue (closed : h.journal.state ≠ .filling) : h.runWriter.journal.queue = h.journal.queue := by
  unfold Hub.runWriter
  split
  · split
    · rfl
    · rw [Hub.claimPage_journal]
  · next filling => exact absurd filling closed
  · rfl

/-- R168: a record that finds room enters the queue with the gap before it. -/
theorem Hub.hand_queue {r : JournalRecord} (on : h.journal.state ≠ .off) (room : h.journal.queue.length < 128)
    (closed : h.journal.state ≠ .filling) : (h.hand r).journal.queue = h.journal.queue ++ [(r, h.journal.runningGap)] := by
  unfold Hub.hand
  rw [if_neg on, if_neg (Nat.not_le.mpr room)]
  exact Hub.runWriter_queue closed

/-! ### The abort (R41) -/

/-- R41: the hub when CALIBRATE_KEYS is answered. -/
def Hub.abortAnswered (w : CalibWindow) (h : Hub) : Hub :=
  h.completeRequest w.slot .aborted (le8 0 ++ le8 (w.last + 1 - w.first))

/-- R41: the hub when the record is handed and CAUSE.SENSE is set. -/
def Hub.abortNoted (w : CalibWindow) (h : Hub) : Hub := ((h.abortAnswered w).noteCalib w.first w.last 2 0).raise .sense

theorem State.abortWindow_hub (w : CalibWindow) (s : State) : (s.abortWindow w).hub = s.hub.abortNoted w := rfl

theorem Hub.abortNoted_reach (w : CalibWindow) (h : Hub) : HubReach (h.abortAnswered w) (h.abortNoted w) :=
  Hub.raise_reach _ (Hub.note_reach _ _ _ _ _ _ (.refl _))

theorem Hub.abortAnswered_reach (w : CalibWindow) (h : Hub) : HubReach h (h.abortAnswered w) :=
  Hub.completeRequest_reach _ _ _ (.refl _)

theorem Hub.abortNoted_inFlight (w : CalibWindow) (h : Hub) : (h.abortNoted w).inFlight = (h.abortAnswered w).inFlight := by
  rw [Hub.abortNoted, Hub.raise_inFlight, Hub.noteCalib, Hub.note_inFlight]

theorem Hub.abortNoted_postsJournal (w : CalibWindow) (h : Hub) : Hub.PostsOnly .journal (h.abortAnswered w) (h.abortNoted w) :=
  (Hub.hand_postsJournal _ _).trans (.of_eq (Hub.raise_posted _ _))

/-- R41: the record that an abort hands. -/
theorem Hub.abortNoted_journal (w : CalibWindow) (h : Hub) : (h.abortNoted w).journal = ((h.abortAnswered w).hand
    { timestamp := h.performance, kind := .calib, flags := {}, subject := w.first, detail := 2, value := w.last
      item := 0 }).journal := by
  have clock : (h.abortAnswered w).performance = h.performance :=
    congrArg Hub.Steady.performance (Hub.completeRequest_steady w.slot .aborted _ h)
  rw [Hub.abortNoted, Hub.raise_journal, Hub.noteCalib, Hub.note, clock]

theorem Hub.abortAnswered_journal (w : CalibWindow) (h : Hub) : (h.abortAnswered w).journal = h.journal :=
  Hub.completeRequest_journal _ _ _ _

theorem refuseCalibAbort_of_open {w : CalibWindow} (open_ : s.tracker.window = some w) : refuseCalibAbort s = none := by
  simp [refuseCalibAbort, open_]

theorem refuseCalibAbort_of_closed (closed : s.tracker.window = none) : refuseCalibAbort s = some .state := by
  simp [refuseCalibAbort, closed]

theorem actCalibAbort_of_open {w : CalibWindow} (open_ : s.tracker.window = some w) : actCalibAbort slot s =
    (s.abortWindow w).mapHub fun h => h.completeRequest slot .ok [] := by
  unfold actCalibAbort
  rw [open_]

/-- A slot that is answered is not in the table, nor is it after another answer. -/
theorem Hub.completeRequest_gone {k : Fin 32} {code : ResultCode} {data : List Byte} (gone : h.holdsSlot k = false) :
    (h.completeRequest slot code data).holdsSlot k = false := by
  rw [Hub.holdsSlot, List.any_eq_false] at gone ⊢
  intro e mem
  rw [Hub.completeRequest_inFlight] at mem
  exact gone e (List.mem_filter.mp mem).1

/-- R41, R184, R185: the writes of CALIB_ABORT in their order, and the two slots it frees. -/
theorem abort_answers {w : CalibWindow} {e : InFlight} {tag : Word16} {a : List Byte} (attached : s.hub.attach = .attached)
    (fresh : s.hub.holdsSlot slot = false) (entry : s.hub.inFlightEntry w.slot = some e) :
    let u := s.handed slot .calibAbort tag a
    let v := (u.hub.abortNoted w).completeRequest slot .ok []
    (∃ journal : List PostedWrite, (∀ x ∈ journal, x.writer = .journal) ∧
      v.posted = s.hub.posted ++ s.hub.slotWrite slot 0 (le8 2) :: s.hub.resultWrites w.slot e.tag .aborted
        (le8 0 ++ le8 (w.last + 1 - w.first)) 3 ++ journal ++ s.hub.resultWrites slot tag .ok [] 3) ∧
    v.holdsSlot slot = false ∧ v.holdsSlot w.slot = false := by
  intro u v
  have other : w.slot ≠ slot := by
    intro same
    rw [same] at entry
    exact absurd (Hub.holdsSlot_of_entry entry) (by simp [fresh])
  have attached' : u.hub.attach = .attached := State.handed_attach.trans attached
  have region : u.hub.region = s.hub.region := State.handed_region
  have reach := (u.hub.abortAnswered_reach w).trans (u.hub.abortNoted_reach w)
  have own : (u.hub.abortNoted w).inFlightEntry slot = some { slot, kind := .calibAbort, tag, owner := RequestKind.ownerFor a .calibAbort } := by
    rw [Hub.inFlightEntry, Hub.abortNoted_inFlight]
    exact (Hub.completeRequest_entry_ne other).trans (State.handed_entry fresh)
  have freed : (u.hub.abortNoted w).holdsSlot w.slot = false := by
    rw [Hub.holdsSlot, Hub.abortNoted_inFlight]
    exact Hub.completeRequest_holdsSlot
  obtain ⟨journal, of_journal, is_journal⟩ := u.hub.abortNoted_postsJournal w
  refine ⟨⟨journal, of_journal, ?_⟩, Hub.completeRequest_holdsSlot, Hub.completeRequest_gone freed⟩
  rw [Hub.completeRequest_posted own (reach.attach.trans attached'), is_journal, Hub.abortAnswered,
    Hub.completeRequest_posted (State.handed_entry_of_entry entry) attached', State.handed_posted attached,
    Hub.resultWrites_congr region, Hub.resultWrites_congr (reach.region.trans region)]
  simp

end Sys2Proof.Machine

open Sys2Proof Sys2Proof.Machine

/-- Settles O24: the refusal, then the abort of the window in the state that has taken the request. -/
theorem calibAbortEndsTheWindow : Obligations.CalibAbortEndsTheWindow := by
  intro slot tag a s hands
  obtain ⟨-, attached, -, fresh, -⟩ := State.hands_iff.mp hands
  refine ⟨fun closed => ?_, fun w e open_ entry on => ?_⟩
  · exact ⟨_, exec_refused (c := .calibAbort slot tag a) rfl hands (refuseCalibAbort_of_closed closed),
      State.refused_posted attached, rfl, rfl⟩
  · have taken := exec_handed (c := .calibAbort slot tag a) rfl hands (refuseCalibAbort_of_open open_)
    refine ⟨_, taken.trans (congrArg Host.Outcome.next (actCalibAbort_of_open (w := w) open_)),
      fun k => endCalibrating_get s.keys k, rfl, rfl, ?_⟩
    obtain ⟨posted, own, window⟩ := abort_answers (tag := tag) (a := a) attached fresh entry
    have answered : ((s.handed slot .calibAbort tag a).hub.abortAnswered w).journal = s.hub.journal :=
      (Hub.abortAnswered_journal w _).trans State.handed_journal
    have clock : (s.handed slot .calibAbort tag a).hub.performance = s.hub.performance :=
      congrArg Hub.Steady.performance State.handed_steady
    have journal := (Hub.completeRequest_journal slot .ok [] ((s.handed slot .calibAbort tag a).hub.abortNoted w)).trans
      (Hub.abortNoted_journal w _)
    rw [State.mapHub_hub, State.abortWindow_hub, journal, clock]
    have on' := on
    rw [← answered] at on'
    refine ⟨posted, ?_, fun room closed => ?_, ?_, own, window⟩
    · rw [Hub.hand_handed on', answered]
    · rw [← answered] at room closed
      rw [Hub.hand_queue on' room closed, answered]
    · refine (Hub.completeRequest_reach slot .ok [] (.refl _)).keepsCause ?_
      have up : ((((s.handed slot .calibAbort tag a).hub.abortAnswered w).noteCalib w.first w.last 2 0)).attach = .attached :=
        (Hub.note_reach _ _ _ _ _ _ (Hub.abortAnswered_reach w _)).attach.trans (State.handed_attach.trans attached)
      rw [Hub.abortNoted, Hub.raise_cause _ up]
      simp [CauseFlag.mask, CauseFlag.index]

end

section
/-! PROOFS. Table loads (O26): a CALIB load forces key-ups, which the recorder may answer a request for; a state in which the load
and the recorder owe the same request. -/

namespace Sys2Proof.Machine

variable {s u : State}

/-! ### The state -/

/-- A calibration record that is valid: 0 to 1000 for both sensors, and the lines of the stroke. -/
def recordBytes : List Byte :=
  [0, 0, 0xE8, 3, 0, 0, 0xE8, 3, 100, 0, 200, 0, 0x2C, 1, 100, 0, 200, 0, 0x2C, 1]

/-- A CALIB table of 88 times that record. -/
def tableOfRecords : List Byte := (List.range 1760).map fun i => recordBytes.getD (i % 20) 0

/-- A CALIB load, all of whose table is in one read that has arrived, and a take whose last block is all but full. The load's
request is also the one that the recorder owes an answer. No run of the part reaches it (no two blocks owe a request), but the
statement admits it. -/
def sharedRequest : State :=
  { State.reset with
    hub := { Hub.reset with
      attach := .attached
      inFlight := [{ slot := 0, kind := .tableLoad, tag := 0, owner := .keyTracker }]
      sched := { waiting := [], nextReadId := 1, outstanding :=
        [{ id := 0, tag := .table 0, address := 0, length := 1760, deadline := 0, requestedAt := 0, issuedAt := 0, discarded := false }] } }
    keys := (Vector.replicate 88 Key.reset).set 0 { Key.reset with state := .sounding, openNote := true }
    tracker := { window := none, load := some { calib := true, slot := 0, chunks := [none] } }
    recorder := { Recorder.reset with state := .recording, buffer := List.replicate 506 endEvent, openKeys := [0], pendingSlot := some 0 } }

/-- The state in which the read's bytes are handled. -/
def sharedRequestRead : State := { sharedRequest with hub := sharedRequest.hub.retireRead 0 }

/-! ### The table is valid -/

theorem tableOfRecords_length : tableOfRecords.length = 1760 := by simp [tableOfRecords]

theorem padded_of_length {n : Nat} {bs : List Byte} (full : bs.length = n) : padded n bs = bs := by
  simp [padded, full, List.take_of_length_le]

theorem u8At_tableOfRecords {i : Nat} (within : i < 1760) : u8At tableOfRecords i = u8At recordBytes (i % 20) := by
  simp [u8At, tableOfRecords, List.getD_eq_getElem?_getD, within]

/-- The fields of each record of the table. -/
theorem u16At_tableOfRecords {k j : Nat} (key : k < 88) (field : j < 20) (even : j % 2 = 0) :
    u16At tableOfRecords (20 * k + j) = u16At recordBytes j := by
  have low : (20 * k + j) % 20 = j := by omega
  have high : (20 * k + j + 1) % 20 = j + 1 := by omega
  rw [u16At, u8At_tableOfRecords (by omega), u8At_tableOfRecords (by omega), low, high, u16At]

theorem parse_tableOfRecords {k : Nat} (key : k < 88) : Calibration.parse tableOfRecords (20 * k) = Calibration.parse recordBytes 0 := by
  have first : u16At tableOfRecords (20 * k) = u16At recordBytes 0 := by
    rw [← Nat.add_zero (20 * k)]
    exact u16At_tableOfRecords key (by decide) rfl
  simp [Calibration.parse, first, u16At_tableOfRecords key]

theorem tableOfRecords_valid {k : Nat} (key : k < 88) : (Calibration.parse tableOfRecords (20 * k)).valid = true := by
  rw [parse_tableOfRecords key]
  decide

/-! ### What a valid table's load does to the hub (R45) -/

/-- R45: the keys are reloaded one after the other. -/
def State.reloadKeys (s : State) : State := (List.finRange 88).foldl (fun s k => s.reloadKey k) s

/-- R45: the table is applied. -/
def State.calibrated (table : List Byte) (s : State) : State :=
  { s with calibration := Vector.ofFn fun k : Fin 88 => Calibration.parse table (20 * k.val) }

/-- R45: the number of keys that a load sends to WAIT_REST. -/
def State.reloadCount (s : State) : Nat :=
  (List.finRange 88).countP fun k => s.keys[k].state ≠ .rest && s.keys[k].state ≠ .disabled

/-- R45: a valid table is applied, the keys are reloaded, the record handed, and the request completed. -/
theorem State.applyCalib_of_valid {slot : Fin 32} {table : List Byte}
    (valid : ∀ k < 88, (Calibration.parse table (20 * k)).valid = true) : (s.applyCalib slot table).hub =
      ((s.calibrated table).reloadKeys.hub.noteCalib 0 87 3 0).completeRequest slot .ok (le8 s.reloadCount) := by
  have none_ : (List.range 88).find? (fun k => !(Calibration.parse table (20 * k)).valid) = none := by
    simpa [List.find?_eq_none] using valid
  unfold State.applyCalib
  dsimp only
  rw [none_]
  unfold State.endTableLoad
  rw [State.mapHub_hub]
  dsimp only
  rw [State.reevalQuiet_hub, State.mapHub_hub]
  unfold State.reloadKeys State.calibrated State.reloadCount
  with_reducible rfl

/-- R45: what a load makes of a key's record. -/
def Key.reloaded (k : Key) : Key :=
  if k.state = .rest || k.state = .disabled then { k with gateLowStamp := none, rearmStamp := none }
  else { k.closed with state := .waitRest, extremes := none }

theorem State.reloadKey_keys (k : Fin 88) (s : State) : (s.reloadKey k).keys = s.keys.set k s.keys[k].reloaded := by
  unfold State.reloadKey Key.reloaded
  by_cases resting : (s.keys[k].state = .rest || s.keys[k].state = .disabled) = true
  · simp only [if_pos resting, State.setKey_keys]
  · simp only [if_neg resting, State.forceKey_keys]

/-- R45: a key without an open note is reloaded without a key-up. -/
theorem State.reloadKey_hub_of_silent {k : Fin 88} (silent : s.keys[k].openNote = false) : (s.reloadKey k).hub = s.hub := by
  unfold State.reloadKey State.forceKey
  simp only [silent, Bool.false_eq_true, if_false]
  split <;> rfl

/-- R45: a key with an open note, the journal writer OFF: its key-up reaches the hub through the recorder alone. -/
theorem State.reloadKey_hub_of_open {k : Fin 88} (sounding : s.keys[k].state = .sounding) (open_ : s.keys[k].openNote = true)
    (off : s.hub.journal.state = .off) : (s.reloadKey k).hub = (Desk.keyUp k 64 true (s.hub, s.recorder)).1 := by
  have reloads : ¬ (s.keys[k].state = .rest || s.keys[k].state = .disabled) = true := by rw [sounding]; decide
  unfold State.reloadKey State.forceKey
  simp only [if_neg reloads, open_, if_true]
  unfold State.noteUp
  dsimp only
  rw [State.mapRecorder_hub, State.mapHub_hub]
  exact congrArg (fun h => (Desk.keyUp k 64 true (h, s.recorder)).1) (Hub.note_of_off off)

/-- All keys but the first are without an open note. -/
def State.OthersSilent (s : State) : Prop := ∀ k : Fin 88, k ≠ 0 → s.keys[k].openNote = false

theorem State.OthersSilent.reloadKey (x : s.OthersSilent) (k : Fin 88) : (s.reloadKey k).OthersSilent := by
  intro j other
  rw [State.reloadKey_keys, keys_set_get]
  split
  · next same =>
    subst same
    unfold Key.reloaded
    split
    · exact x j other
    · rfl
  · exact x j other

/-- If only the first key has an open note, the hub after its reloading is that after all. -/
theorem State.OthersSilent.reloadKeys_hub (x : s.OthersSilent) : s.reloadKeys.hub = (s.reloadKey 0).hub := by
  unfold State.reloadKeys
  rw [List.finRange_succ, List.foldl_cons]
  refine (List.foldlRecOn (motive := fun u : State => u.hub = (s.reloadKey 0).hub ∧ u.OthersSilent) _ _ ⟨rfl, x.reloadKey 0⟩ ?_).1
  rintro u ⟨same, silent⟩ k mem
  obtain ⟨j, -, rfl⟩ := List.mem_map.mp mem
  exact ⟨(State.reloadKey_hub_of_silent (silent _ (Fin.succ_ne_zero j))).trans same, silent.reloadKey _⟩

/-! ### The run -/

theorem sharedRequest_outstanding : sharedRequest.hub.outstandingRead 0 = some
    { id := 0, tag := .table 0, address := 0, length := 1760, deadline := 0, requestedAt := 0, issuedAt := 0, discarded := false } := rfl

/-- R192: what is left of the arrival of a read in time. -/
theorem Hub.arrive_data {id : Nat} {r : Read} {bytes : List Byte} {h : Hub} (out : h.outstandingRead id = some r)
    (timely : h.now ≤ r.issuedAt + 2000) (wanted : r.discarded = false) :
    h.arrive id (.data bytes) = (h.retireRead id, some (r.tag, some (padded r.length bytes))) := by
  simp only [Hub.arrive, out, if_neg (Nat.not_lt.mpr timely), wanted, Bool.false_eq_true, if_false]

theorem State.onArrival_data {rows : ReadTag → Bool} {id : Nat} {r : Read} {bytes : List Byte}
    {handle : ReadTag → Option (List Byte) → State → State} (out : s.hub.outstandingRead id = some r)
    (timely : s.hub.now ≤ r.issuedAt + 2000) (wanted : r.discarded = false) (row : rows r.tag = true) :
    s.onArrival rows id (.data bytes) handle = handle r.tag (some (padded r.length bytes)) { s with hub := s.hub.retireRead id } := by
  simp only [State.onArrival, out, row, if_true, Hub.arrive_data out timely wanted]

/-- R43: the only part of a table. -/
theorem State.tableRead_whole {slot : Fin 32} {part : Fin 4} {table : List Byte} (load : s.tracker.load = some { calib := true, slot, chunks := [none] })
    (first : part = 0) : s.tableRead (.table part) (some table) = s.applyCalib slot table := by
  subst first
  simp [State.tableRead, load, putChunk, allChunks]

theorem sharedRequest_arrival : exec (.tableReadArrival 0 (.data tableOfRecords)) sharedRequest =
    .next (sharedRequestRead.applyCalib 0 tableOfRecords) := by
  have arrived := State.onArrival_data (rows := ReadTag.isTable) (bytes := tableOfRecords) (handle := State.tableRead)
    sharedRequest_outstanding (Nat.zero_le _) rfl rfl
  rw [padded_of_length tableOfRecords_length] at arrived
  show Host.Outcome.next (sharedRequest.whenUp _) = _
  rw [State.whenUp_of_up _ _ rfl, arrived]
  exact congrArg Host.Outcome.next (State.tableRead_whole (slot := 0) rfl rfl)

/-- The one key with an open note is the first. -/
theorem sharedRequestRead_silent : (sharedRequestRead.calibrated tableOfRecords).OthersSilent := by
  intro k other
  show ((Vector.replicate 88 Key.reset).set (0 : Fin 88) _)[k].openNote = false
  rw [keys_set_get, if_neg other]
  simp
  rfl

/-! ### The last block of the take fills up (R160, R162) -/

/-- R160: an event for which the last block has no room but for END ends the take. -/
theorem Desk.push_last {d : Desk} {ev : ScoreEvent} (last : d.2.inLastBlock = true) (full : d.2.buffer.length = 506) :
    d.push ev = Desk.finish true (d.1, (d.2.enter ev).enter endEvent) := by
  have last' : (d.2.enter ev).inLastBlock = true := last
  have full' : (d.2.enter ev).buffer.length = 507 := by simp [Recorder.enter, full]
  simp only [Desk.push, last', if_true, full', Config.blockEvents, Nat.reduceSub]

/-- R158, R160: such an event at the last score time needs no spacer. -/
theorem Desk.appendAt_last {d : Desk} {ev : ScoreEvent} {time : Nat} (now : time = d.2.lastScoreTime) (open_ : d.2.running = true)
    (last : d.2.inLastBlock = true) (full : d.2.buffer.length = 506) :
    ∃ r : Recorder, d.appendAt time ev = Desk.finish true (d.1, r) ∧ r.pendingSlot = d.2.pendingSlot := by
  subst now
  have none_ : d.pushSpacers 0 = d := rfl
  refine ⟨(d.2.enter { ev with delta := 0 }).enter endEvent, ?_, rfl⟩
  simp only [Desk.appendAt, Nat.sub_self, Nat.zero_sub, Nat.zero_div, none_, open_, if_true, Nat.zero_mul]
  exact Desk.push_last last full

/-- R159: the key-up of a recorded key, at the last score time. -/
theorem Desk.keyUp_last {d : Desk} {key : Fin 88} {velocity : Nat} {forced : Bool} (recording : d.2.state = .recording)
    (open_ : d.2.openKeys.contains key = true) (now : d.readClock.2.scoreTime = d.2.lastScoreTime)
    (last : d.2.inLastBlock = true) (full : d.2.buffer.length = 506) :
    ∃ r : Recorder, d.keyUp key velocity forced = Desk.finish true (d.1, r) ∧ r.pendingSlot = d.2.pendingSlot := by
  have has : d.readClock.2.openKeys.contains key = true := open_
  unfold Desk.keyUp
  rw [if_pos recording]
  dsimp only
  rw [if_pos has]
  exact Desk.appendAt_last (d := (d.1, { d.readClock.2 with openKeys := _ })) now (by simp [Recorder.running, Desk.readClock, recording])
    last full

/-- R160: the writes of a block are the recorder's. -/
theorem Recorder.writeBlock_postsOnly (last : Bool) (r : Recorder) (h : Hub) : Hub.PostsOnly .recorder h (r.writeBlock last h) := by
  unfold Recorder.writeBlock
  refine .trans ?_ (Hub.post_postsOnly _ _ _ _)
  split
  · exact .of_eq rfl
  · exact Hub.post_postsOnly _ _ _ h

theorem Recorder.writeBlock_journal (last : Bool) (r : Recorder) (h : Hub) : (r.writeBlock last h).journal = h.journal := by
  unfold Recorder.writeBlock
  dsimp only
  rw [Hub.post_journal]
  split
  · rfl
  · exact Hub.post_journal _ _ _ _

/-- R160, R162: at the end of a take with the journal writer OFF, the block is written and the request that waits is answered with
the recorder's data. -/
theorem Desk.finish_hub {d : Desk} {slot : Fin 32} (off : d.1.journal.state = .off) (pending : d.2.pendingSlot = some slot) :
    (d.finish true).1 = Hub.raise .practice ((d.2.writeBlock true d.1).completeRequest slot .ok (d.2.stopResult true)) := by
  unfold Desk.finish Desk.report
  rw [pending]
  refine congrArg (Hub.raise .practice) (Hub.note_of_off ?_)
  rw [Hub.completeOptional, Hub.completeRequest_journal, Recorder.writeBlock_journal]
  exact off

theorem Desk.finish_posted {d : Desk} {slot : Fin 32} {e : InFlight} (attached : d.1.attach = .attached)
    (off : d.1.journal.state = .off) (pending : d.2.pendingSlot = some slot) (entry : d.1.inFlightEntry slot = some e) :
    ∃ blocks : List PostedWrite, (∀ x ∈ blocks, x.writer = .recorder) ∧ (d.finish true).1.posted =
      d.1.posted ++ blocks ++ d.1.resultWrites slot e.tag .ok (d.2.stopResult true) 3 := by
  obtain ⟨blocks, of_blocks, is_blocks⟩ := Recorder.writeBlock_postsOnly true d.2 d.1
  have reach : HubReach d.1 (d.2.writeBlock true d.1) := Recorder.writeBlock_reach _ _ (.refl _)
  have entry' : (d.2.writeBlock true d.1).inFlightEntry slot = some e := by
    rw [Hub.inFlightEntry, Recorder.writeBlock_inFlight]
    exact entry
  refine ⟨blocks, of_blocks, ?_⟩
  rw [Desk.finish_hub off pending, Hub.raise_posted, Hub.completeRequest_posted entry' (reach.attach.trans attached), is_blocks,
    Hub.resultWrites_congr reach.region]

theorem Desk.finish_answered {d : Desk} {slot : Fin 32} (off : d.1.journal.state = .off) (pending : d.2.pendingSlot = some slot) :
    (d.finish true).1.holdsSlot slot = false ∧ (d.finish true).1.journal.state = .off := by
  rw [Desk.finish_hub off pending]
  refine ⟨?_, ?_⟩
  · rw [Hub.holdsSlot, Hub.raise_inFlight]
    exact Hub.completeRequest_holdsSlot
  · rw [Hub.raise_journal, Hub.completeRequest_journal, Recorder.writeBlock_journal]
    exact off

/-! ### The recorder's answer comes first -/

/-- The state in which the keys are reloaded. -/
def sharedRequestApplied : State := sharedRequestRead.calibrated tableOfRecords

/-- R45: the key-up of the first key is the last event of the take. -/
theorem sharedRequest_keyUp : ∃ r : Recorder, r.pendingSlot = some 0 ∧
    (sharedRequestApplied.reloadKey 0).hub = (Desk.finish true (sharedRequestApplied.hub, r)).1 := by
  obtain ⟨r, last, pending⟩ := Desk.keyUp_last (d := (sharedRequestApplied.hub, sharedRequestApplied.recorder)) (key := 0)
    (velocity := 64) (forced := true) rfl rfl rfl rfl (List.length_replicate ..)
  refine ⟨r, pending, ?_⟩
  rw [← last]
  exact State.reloadKey_hub_of_open rfl rfl rfl

/-- A request that the table does not hold is not answered. -/
theorem Hub.completeRequest_of_gone {h : Hub} {slot : Fin 32} {code : ResultCode} {data : List Byte} (gone : h.holdsSlot slot = false) :
    h.completeRequest slot code data = h := by
  have none_ : h.inFlightEntry slot = none := by
    rw [Hub.inFlightEntry, List.find?_eq_none]
    exact fun e mem => List.any_eq_false.mp gone e mem
  simp only [Hub.completeRequest, none_]

/-- R45, R162: all that the arrival posts: a block of the take, and the answer that the recorder gives the request. -/
theorem sharedRequest_posted : ∃ (blocks : List PostedWrite) (r : Recorder), (∀ x ∈ blocks, x.writer = .recorder) ∧
    (sharedRequestRead.applyCalib 0 tableOfRecords).hub.posted =
      blocks ++ sharedRequestApplied.hub.resultWrites 0 0 .ok (r.stopResult true) 3 := by
  obtain ⟨r, pending, hub⟩ := sharedRequest_keyUp
  obtain ⟨blocks, of_blocks, posted⟩ := Desk.finish_posted (d := (sharedRequestApplied.hub, r)) (slot := 0)
    (e := { slot := 0, kind := .tableLoad, tag := 0, owner := .keyTracker }) rfl rfl pending rfl
  obtain ⟨gone, off⟩ := Desk.finish_answered (d := (sharedRequestApplied.hub, r)) (slot := 0) rfl pending
  refine ⟨blocks, r, of_blocks, ?_⟩
  rw [State.applyCalib_of_valid fun k => tableOfRecords_valid, sharedRequestRead_silent.reloadKeys_hub]
  rw [show (sharedRequestRead.calibrated tableOfRecords).reloadKey 0 = sharedRequestApplied.reloadKey 0 from rfl, hub, Hub.noteCalib,
    Hub.note_of_off off, Hub.completeRequest_of_gone gone, posted]
  rfl

/-- R162: the recorder's answer says FULL in its second byte; a load's says nothing there. -/
theorem stopResult_ne_count (r : Recorder) (n : Nat) : padded 32 (r.stopResult true) ≠ padded 32 (le8 n) := by
  intro same
  have second := congrArg (fun bs : List Byte => bs[1]?) same
  simp [padded, Recorder.stopResult, le8, leBytes, flagBit] at second

/-- No answer that a load could give stands among the writes. -/
theorem sharedRequest_unanswered (n : Nat) (h : Hub) : h.slotWrite 0 0x20 (padded 32 (le8 n)) ∉
    (sharedRequestRead.applyCalib 0 tableOfRecords).hub.posted := by
  obtain ⟨blocks, r, of_blocks, posted⟩ := sharedRequest_posted
  rw [posted]
  intro mem
  rcases List.mem_append.mp mem with block | answer
  · exact absurd (of_blocks _ block) (by simp [Hub.slotWrite])
  · have data : padded 32 (le8 n) ∈ (sharedRequestApplied.hub.resultWrites 0 0 .ok (r.stopResult true) 3).map PostedWrite.data :=
      List.mem_map_of_mem (f := PostedWrite.data) answer
    have size : (padded 32 (le8 n)).length = 32 := by simp [padded, le8, leBytes]
    simp only [Hub.resultWrites, Hub.slotWrite, List.map_cons, List.map_nil, List.mem_cons, List.not_mem_nil, or_false] at data
    rcases data with tag | code | result | final
    · exact absurd (congrArg List.length tag) (by rw [size]; decide)
    · exact absurd (congrArg List.length code) (by rw [size]; decide)
    · exact stopResult_ne_count r n result.symm
    · exact absurd (congrArg List.length final) (by rw [size]; decide)

theorem sharedRequest_not_finished (n : Nat) :
    ¬ Finished 0 .ok (le8 n) sharedRequest (sharedRequestRead.applyCalib 0 tableOfRecords) := by
  intro finished
  obtain ⟨⟨before, after, posted⟩, -⟩ := finished { slot := 0, kind := .tableLoad, tag := 0, owner := .keyTracker } rfl rfl
  refine sharedRequest_unanswered n sharedRequest.hub ?_
  rw [posted]
  simp [Hub.resultWrites]

end Sys2Proof.Machine

open Sys2Proof Sys2Proof.Machine

/-- Refutes O26: the statement does not ask that the request of the load is owed by the load alone, and a key-up that the load
forces can let the recorder answer it. -/
theorem not_tableReadsApplyValidTables : ¬ Obligations.TableReadsApplyValidTables := by
  intro holds
  obtain ⟨-, -, calib, -⟩ := (holds 0 _ tableOfRecords sharedRequest rfl sharedRequest_outstanding (Nat.zero_le _) rfl).1 0
    { calib := true, slot := 0, chunks := [none] } rfl rfl
  obtain ⟨t, arrived, -, good, -⟩ := calib tableOfRecords (by rw [padded_of_length tableOfRecords_length]; simp [putChunk, allChunks]) rfl
  obtain rfl := Host.Outcome.next.inj (sharedRequest_arrival.symm.trans arrived)
  obtain ⟨-, -, finished⟩ := good fun k key => by
    have field (i : Nat) (x : i < 10) : u16At tableOfRecords (20 * k + 2 * i) = u16At recordBytes (2 * i) :=
      u16At_tableOfRecords key (by omega) (by omega)
    refine ⟨fun i low => ?_, ?_⟩
    · dsimp only
      rw [field i (by omega)]
      revert i
      decide
    · dsimp only
      rw [field 0 (by decide), field 1 (by decide), field 2 (by decide), field 3 (by decide), field 4 (by decide),
        field 5 (by decide), field 6 (by decide), field 7 (by decide), field 8 (by decide), field 9 (by decide)]
      decide
  exact sharedRequest_not_finished _ finished

end

section
/-! SUPPORT. What the rail's operations leave of its inputs: the quiet condition and its time, the seated level and its pending
change (Table 6-1, R102, R107). -/

namespace Sys2Proof.Machine

variable {d : Deck}

/-- What the rail knows of its inputs: the quiet condition and since when, the seated level and its pending change. -/
structure Rail.Inputs where
  quiet : Bool
  quietSince : Nat
  seated : Bool
  seatedPending : Option Nat

/-- What the rail knows of its inputs. -/
def Rail.inputs (r : Rail) : Rail.Inputs :=
  { quiet := r.quiet, quietSince := r.quietSince, seated := r.seated, seatedPending := r.seatedPending }

@[simp] theorem Deck.onHub_rail (f : Hub → Hub) (d : Deck) : (d.onHub f).rail = d.rail := rfl
@[simp] theorem Deck.note_rail (s e i : Nat) (d : Deck) : (d.note s e i).rail = d.rail := rfl
@[simp] theorem Deck.sync_rail (d : Deck) : d.sync.rail = d.rail := rfl
@[simp] theorem Deck.onRail_rail (f : Rail → Rail) (d : Deck) : (d.onRail f).rail = f d.rail := rfl

/-- An edit of the rail's record that leaves its inputs. -/
theorem Deck.onRail_inputs {f : Rail → Rail} (same : ∀ r, (f r).inputs = r.inputs) (d : Deck) :
    (d.onRail f).rail.inputs = d.rail.inputs := same d.rail

@[simp] theorem Deck.beginReturn_inputs (p : Profile) (d : Deck) : (d.beginReturn p).rail.inputs = d.rail.inputs := rfl

@[simp] theorem Deck.beginHoming_inputs (p : Profile) (d : Deck) : (d.beginHoming p).rail.inputs = d.rail.inputs := by
  unfold Deck.beginHoming
  split <;> rfl

@[simp] theorem Deck.leaveGate_inputs (d : Deck) : d.leaveGate.rail.inputs = d.rail.inputs := by
  unfold Deck.leaveGate
  split
  · rfl
  · split
    · exact Deck.beginHoming_inputs _ _
    · rfl

@[simp] theorem Deck.enterGate_inputs (d : Deck) : d.enterGate.rail.inputs = d.rail.inputs := by
  unfold Deck.enterGate
  dsimp only
  split
  · exact Deck.leaveGate_inputs _
  · rfl

@[simp] theorem Rail.enableDriver_inputs (now : Nat) (r : Rail) : (r.enableDriver now).inputs = r.inputs := by
  unfold Rail.enableDriver
  split <;> rfl

@[simp] theorem Deck.activateCore_inputs (m : MoveRequest) (d : Deck) : (d.activateCore m).1.rail.inputs = d.rail.inputs := by
  have enabled (f : Rail → Rail) (same : ∀ r, (f r).inputs = r.inputs) :
      (f (d.rail.enableDriver d.hub.now)).inputs = d.rail.inputs := (same _).trans (Rail.enableDriver_inputs _ _)
  unfold Deck.activateCore
  dsimp only
  split
  · split
    · exact enabled (fun r => { r with active := _, pauseExpired := _, stopping := _, state := _, seatSince := _ }) fun _ => rfl
    · exact enabled (fun r => { r with active := _, pauseExpired := _, stopping := _ }) fun _ => rfl
  · split
    · rw [Deck.enterGate_inputs]
      exact enabled (fun r => { r with active := _, pauseExpired := _, stopping := _ }) fun _ => rfl
    · exact enabled (fun r => { r with active := _, pauseExpired := _, stopping := _, state := _, motion := _ }) fun _ => rfl

@[simp] theorem Rail.afterEnd_inputs (cause : StopCause) (fast : Bool) (m : ActiveMove) (r : Rail) :
    (r.afterEnd cause fast m).inputs = r.inputs := by
  cases cause with
  | haltRequest => simp only [Rail.afterEnd]; split <;> rfl
  | _ => rfl

@[simp] theorem Deck.endBasic_inputs (cause : StopCause) (d : Deck) : (d.endBasic cause).rail.inputs = d.rail.inputs := by
  unfold Deck.endBasic
  split
  · rfl
  · exact Rail.afterEnd_inputs _ _ _ _

@[simp] theorem Deck.startNext_inputs (notice : Bool) (m : MoveRequest) (d : Deck) :
    (d.startNext notice m).rail.inputs = d.rail.inputs := by
  unfold Deck.startNext
  dsimp only
  split
  · rfl
  · have active := Deck.activateCore_inputs m (d.onRail fun r => { r with next := none })
    split
    · rw [Deck.endBasic_inputs]
      split <;> exact active
    · split <;> exact active

@[simp] theorem Deck.endMove_inputs (cause : StopCause) (d : Deck) : (d.endMove cause).rail.inputs = d.rail.inputs := by
  have ended := Deck.endBasic_inputs cause d
  unfold Deck.endMove
  dsimp only
  split
  · exact ended
  · split
    · split
      · rw [Deck.startNext_inputs, ended]
      · exact ended
    · exact ended

@[simp] theorem Deck.activate_inputs (m : MoveRequest) (d : Deck) : (d.activate m).rail.inputs = d.rail.inputs := by
  unfold Deck.activate
  dsimp only
  split
  · rw [Deck.endMove_inputs, Deck.activateCore_inputs]
  · exact Deck.activateCore_inputs m d

@[simp] theorem Deck.arrive_inputs (d : Deck) : d.arrive.rail.inputs = d.rail.inputs := by
  unfold Deck.arrive
  split
  · rfl
  · dsimp only
    split
    · split
      · exact Deck.endMove_inputs _ _
      · rfl
    · exact Deck.endMove_inputs _ _

@[simp] theorem Deck.resume_inputs (d : Deck) : d.resume.rail.inputs = d.rail.inputs := by
  unfold Deck.resume
  split
  · rfl
  · dsimp only
    split
    · exact Deck.beginHoming_inputs _ _
    · rfl

@[simp] theorem Deck.comeToRest_inputs (d : Deck) : d.comeToRest.rail.inputs = d.rail.inputs := by
  unfold Deck.comeToRest
  dsimp only
  split
  · exact Deck.endMove_inputs _ _
  · split
    · rfl
    · split
      · exact Deck.arrive_inputs _
      · split
        · exact Deck.endMove_inputs _ _
        · split
          · exact Deck.resume_inputs _
          · rfl

@[simp] theorem Deck.decelerate_inputs (d : Deck) : d.decelerate.rail.inputs = d.rail.inputs := by
  unfold Deck.decelerate
  split
  · split
    · rfl
    · exact Deck.comeToRest_inputs d
  · exact Deck.comeToRest_inputs d

@[simp] theorem Deck.launchNotice_inputs (d : Deck) : d.launchNotice.rail.inputs = d.rail.inputs := by
  unfold Deck.launchNotice
  split
  · exact Deck.decelerate_inputs _
  · rfl

@[simp] theorem Deck.driverFaulted_inputs (d : Deck) : d.driverFaulted.rail.inputs = d.rail.inputs := by
  unfold Deck.driverFaulted
  split
  · exact Deck.endMove_inputs _ _
  · rfl

@[simp] theorem Deck.driverSettled_inputs (d : Deck) : d.driverSettled.rail.inputs = d.rail.inputs := by
  unfold Deck.driverSettled
  dsimp only
  split
  · exact Deck.driverFaulted_inputs _
  · rfl

@[simp] theorem Rail.trackIndex_inputs (before : Int) (r : Rail) : (r.trackIndex before).inputs = r.inputs := by
  unfold Rail.trackIndex
  split <;> rfl

@[simp] theorem Rail.step_inputs (now : Nat) (m : Motion) (r : Rail) : (r.step now m).inputs = r.inputs :=
  Rail.trackIndex_inputs _ _

@[simp] theorem Deck.afterPulse_inputs (move : ActiveMove) (m : Motion) (d : Deck) : (d.afterPulse move m).rail.inputs = d.rail.inputs := by
  unfold Deck.afterPulse
  dsimp only
  split
  · split
    · exact Deck.arrive_inputs d
    · split <;> rfl
  · split
    · exact Deck.comeToRest_inputs d
    · rfl
  · split
    · exact Deck.endMove_inputs _ d
    · rfl
  · split
    · exact Deck.beginReturn_inputs _ d
    · rfl
  · split
    · exact Deck.endMove_inputs _ d
    · rfl
  · split
    · exact Deck.endMove_inputs _ d
    · rfl

@[simp] theorem Deck.pulse_inputs (near far : Bool) (d : Deck) : (d.pulse near far).rail.inputs = d.rail.inputs := by
  have stepped (m : Motion) : (d.onRail (Rail.step d.hub.now m)).rail.inputs = d.rail.inputs := Rail.step_inputs _ _ _
  unfold Deck.pulse
  split
  · split
    · exact Deck.endMove_inputs _ d
    · dsimp only
      split
      · rw [Deck.endMove_inputs, stepped]
      · split
        · rw [Deck.afterPulse_inputs, stepped]
        · exact stepped _
  · rfl

@[simp] theorem Deck.homeChanged_inputs (active : Bool) (d : Deck) : (d.homeChanged active).rail.inputs = d.rail.inputs := by
  unfold Deck.homeChanged
  split
  · split <;> rfl
  · rfl

@[simp] theorem Rail.takeIndex_inputs (r : Rail) : r.takeIndex.inputs = r.inputs := by
  unfold Rail.takeIndex
  split
  · unfold Rail.learnIndex
    split <;> rfl
  · unfold Rail.satisfyIndex
    split
    · split <;> rfl
    · rfl

@[simp] theorem Deck.index_inputs (d : Deck) : d.index.rail.inputs = d.rail.inputs := by
  unfold Deck.index
  split
  · rfl
  · split
    · rfl
    · split
      · split
        · exact Deck.endMove_inputs _ _
        · exact Rail.takeIndex_inputs _
      · split
        · exact Deck.endMove_inputs _ d
        · exact Rail.takeIndex_inputs _

@[simp] theorem Deck.stopMove_inputs (d : Deck) : d.stopMove.rail.inputs = d.rail.inputs := by
  have slowed : (d.onRail fun r => { r with stopping := true }).decelerate.rail.inputs = d.rail.inputs := Deck.decelerate_inputs _
  unfold Deck.stopMove
  split
  · split
    · rfl
    · exact slowed
  · split
    · rfl
    · exact slowed
  · dsimp only
    split
    · exact Deck.endMove_inputs _ _
    · rfl
  · exact Deck.endMove_inputs _ d
  · exact Deck.endMove_inputs _ d
  · rfl

@[simp] theorem Deck.discardIf_inputs (a : List Byte) (d : Deck) : (d.discardIf a).rail.inputs = d.rail.inputs := by
  unfold Deck.discardIf
  split
  · unfold Deck.discardNext
    split <;> rfl
  · rfl

@[simp] theorem Deck.toggle_inputs (d : Deck) : d.toggle.rail.inputs = d.rail.inputs := by
  unfold Deck.toggle
  split
  · exact Deck.activate_inputs _ d
  · rfl

@[simp] theorem Deck.quietReached_inputs (d : Deck) : d.quietReached.rail.inputs = d.rail.inputs := by
  unfold Deck.quietReached
  split
  · exact Deck.leaveGate_inputs d
  · split
    · exact Deck.resume_inputs d
    · rfl
  · rfl

@[simp] theorem Deck.pauseEnds_inputs (d : Deck) : d.pauseEnds.rail.inputs = d.rail.inputs := by
  unfold Deck.pauseEnds
  split
  · exact Deck.endMove_inputs _ d
  · rfl

/-- R102: the acceptance takes the held level and nothing else of the inputs. -/
theorem Deck.seatedAccepted_inputs (d : Deck) : d.seatedAccepted.rail.inputs =
    { d.rail.inputs with seated := !d.rail.seated, seatedPending := none } := by
  unfold Deck.seatedAccepted
  dsimp only
  split
  · split <;> rfl
  · split
    · exact Deck.endMove_inputs _ _
    · rfl

end Sys2Proof.Machine
end

section
/-! SUPPORT. What every command does to the rail's copy of the quiet condition (R36, R107): where it becomes true, its time is now. -/

namespace Sys2Proof.Machine

variable {s : State} {now : Nat}

/-! ### The rail's own operations -/

/-- An operation of the rail that leaves its inputs leaves its copy of the quiet condition. -/
theorem State.mapDeck_quietFrom {f : Deck → Deck} (inputs : ∀ d, (f d).rail.inputs = d.rail.inputs)
    (reach : ∀ b d, DeckReach b d → DeckReach b (f d)) (x : s.QuietFrom now) : (s.mapDeck f).QuietFrom now := by
  have same : (s.mapDeck f).rail.inputs = s.rail.inputs := inputs s.deck
  refine ⟨(State.mapDeck_work (List.Subset.refl _) reach (.refl _ s)).now.trans x.time, fun quiet => ?_⟩
  have since := x.held ((congrArg Rail.Inputs.quiet same).symm.trans quiet)
  exact (congrArg Rail.Inputs.quietSince same).trans since

/-- Such an operation, followed by the completion of its request. -/
theorem State.mapDeck_completed_quietFrom {f : Deck → Deck} {slot : Fin 32} {code : ResultCode} {data : List Byte}
    (inputs : ∀ d, (f d).rail.inputs = d.rail.inputs) (reach : ∀ b d, DeckReach b d → DeckReach b (f d)) (x : s.QuietFrom now) :
    (s.mapDeck fun d => (f d).onHub fun h => h.completeRequest slot code data).QuietFrom now :=
  State.mapDeck_quietFrom (fun d => inputs d)
    (fun b d q => Deck.onHub_reach (fun _ _ r => Hub.completeRequest_reach _ _ _ r) (reach b d q)) x

theorem State.mapHub_quietFrom {f : Hub → Hub} (time : (f s.hub).now = s.hub.now) (x : s.QuietFrom now) :
    (s.mapHub f).QuietFrom now := x.congr time rfl

/-! ### Keys (R21, R33) -/

theorem State.handEvent_quietFrom (k : Fin 88) (e : KeyEvent) (x : s.QuietFrom now) : (s.handEvent k e).QuietFrom now := by
  cases e with
  | down => exact (State.noteDown_work k _ _ (List.Subset.refl _) (.refl _ s)).quietFrom (by decide) x
  | up => exact (State.noteUp_work k _ _ _ (List.Subset.refl _) (.refl _ s)).quietFrom (by decide) x
  | launch => exact State.mapDeck_quietFrom Deck.launchNotice_inputs (fun _ _ => Deck.launchNotice_reach) x

theorem State.trackKey_quietFrom (k : Fin 88) (r h : Nat) (x : s.QuietFrom now) : (s.trackKey k r h).QuietFrom now := by
  unfold State.trackKey
  exact foldl_keeps (kept := State.QuietFrom now) (fun _ e y => State.handEvent_quietFrom k e y) _ (x.congr rfl rfl)

theorem State.keyFrame_quietFrom (n : Fin 8) (r : List Nat) (x : s.QuietFrom now) : (s.keyFrame n r).QuietFrom now := by
  unfold State.keyFrame
  exact State.reevalQuiet_quietFrom (foldl_keeps (fun _ _ y => State.trackKey_quietFrom _ _ _ y) _ x)

theorem State.keyLaneUp_quietFrom (n : Fin 8) (x : s.QuietFrom now) : (s.keyLaneUp n).QuietFrom now := by
  unfold State.keyLaneUp
  refine State.reevalQuiet_quietFrom (foldl_keeps (fun u j y => ?_) _ x)
  dsimp only
  split
  · exact y
  · exact y.congr rfl rfl

theorem State.finishWindow_quietFrom (w : CalibWindow) (x : s.QuietFrom now) : (s.finishWindow w).QuietFrom now := by
  unfold State.finishWindow
  refine State.reevalQuiet_quietFrom (State.mapHub_quietFrom ?_ (x.congr rfl rfl))
  exact (Hub.raise_reach _ (Hub.note_reach _ _ _ _ _ _ (Hub.completeRequest_reach _ _ _ (Hub.post_reach _ _ _ (.refl _))))).now

theorem State.endTableLoad_quietFrom (slot : Fin 32) (c : ResultCode) (d : List Byte) (x : s.QuietFrom now) :
    (s.endTableLoad slot c d).QuietFrom now :=
  (State.endTableLoad_work slot c d (List.Subset.refl _) (.refl _ s)).quietFrom (by decide) x

theorem State.applyCalib_quietFrom (slot : Fin 32) (table : List Byte) (x : s.QuietFrom now) :
    (s.applyCalib slot table).QuietFrom now := by
  unfold State.applyCalib
  dsimp only
  split
  · exact State.endTableLoad_quietFrom _ _ _ x
  · refine State.endTableLoad_quietFrom _ _ _ (State.reevalQuiet_quietFrom (State.mapHub_quietFrom ?_ ?_))
    · exact (Hub.note_reach _ _ _ _ _ _ (.refl _)).now
    · exact foldl_keeps (kept := State.QuietFrom now)
        (fun u k y => (State.reloadKey_work k (List.Subset.refl _) (.refl _ u)).quietFrom (by decide) y) _ (x.congr rfl rfl)

theorem State.tableRead_quietFrom (tag : ReadTag) (bytes : Option (List Byte)) (x : s.QuietFrom now) :
    (s.tableRead tag bytes).QuietFrom now := by
  unfold State.tableRead
  split
  · split
    · exact State.endTableLoad_quietFrom _ _ _ (x.congr rfl rfl)
    · dsimp only
      split
      · exact x.congr rfl rfl
      · split
        · exact State.applyCalib_quietFrom _ _ x
        · exact (State.applyCurve_work _ _ (List.Subset.refl _) (.refl _ s)).quietFrom (by decide) x
  · exact x

/-! ### Lanes (R3 to R16) -/

theorem State.setLane_quietFrom (n : Fin 9) (l : Lane) (x : s.QuietFrom now) : (s.setLane n l).QuietFrom now := x.congr rfl rfl

theorem State.laneUp_quietFrom (n : Fin 9) (x : s.QuietFrom now) : (s.laneUp n).QuietFrom now := by
  unfold State.laneUp
  split
  · exact State.keyLaneUp_quietFrom _ x
  · exact (State.pedalLaneUp_work (List.Subset.refl _) (.refl _ s)).quietFrom (by decide) x

theorem State.laneReadings_quietFrom (n : Fin 9) (r : List Nat) (x : s.QuietFrom now) : (s.laneReadings n r).QuietFrom now := by
  unfold State.laneReadings
  split
  · exact State.keyFrame_quietFrom _ _ x
  · exact (State.pedalFrame_work _ (List.Subset.refl _) (.refl _ s)).quietFrom (by decide) x

theorem State.enterRecovering_quietFrom (n : Fin 9) (d : LaneDetail) (x : s.QuietFrom now) :
    (s.enterRecovering n d).QuietFrom now := by
  unfold State.enterRecovering
  dsimp only
  split
  · exact State.changeLane_quietFrom _ _ _ x
  · split <;> exact State.changeLane_quietFrom _ _ _ x

theorem State.stepFails_quietFrom (n : Fin 9) (x : s.QuietFrom now) : (s.stepFails n).QuietFrom now := by
  unfold State.stepFails
  dsimp only
  split
  · exact State.changeLane_quietFrom _ _ _ x
  · exact State.enterRecovering_quietFrom _ _ x
  · exact x

theorem State.exchangeSucceeds_quietFrom (n : Fin 9) (e : LaneExchange) (v : Word16) (x : s.QuietFrom now) :
    (s.exchangeSucceeds n e v).QuietFrom now := by
  unfold State.exchangeSucceeds
  dsimp only
  split
  · split
    · exact State.setLane_quietFrom _ _ x
    · exact State.changeLane_quietFrom _ _ _ x
    · exact State.stepFails_quietFrom _ (State.setLane_quietFrom _ _ x)
  · exact State.setLane_quietFrom _ _ x
  · split
    · exact State.setLane_quietFrom _ _ x
    · split
      · exact State.stepFails_quietFrom _ x
      · exact State.setLane_quietFrom _ _ x
  · exact State.setLane_quietFrom _ _ x
  · exact x

theorem State.retryExchange_quietFrom (n : Fin 9) (e : LaneExchange) (x : s.QuietFrom now) :
    (s.retryExchange n e).QuietFrom now := by
  unfold State.retryExchange
  dsimp only
  split
  · exact State.setLane_quietFrom _ _ x
  · unfold State.exchangeFails
    split
    · exact State.stepFails_quietFrom _ (State.setLane_quietFrom _ _ x)
    · exact State.stepFails_quietFrom _ x

theorem State.takeFrameError_quietFrom (n : Fin 9) (e : BitVec 4) (x : s.QuietFrom now) : (s.takeFrameError n e).QuietFrom now := by
  unfold State.takeFrameError
  dsimp only
  split
  · exact State.enterRecovering_quietFrom _ _ (State.setLane_quietFrom _ _ x)
  · exact State.setLane_quietFrom _ _ x

theorem State.noteLane_quietFrom (n : Fin 9) (d : LaneDetail) (x : s.QuietFrom now) : (s.noteLane n d).QuietFrom now :=
  (State.noteLane_work n d (List.Subset.refl _) (.refl _ s)).quietFrom (by decide) x

theorem State.activeFrame_quietFrom (n : Fin 9) (f : Frame) (c : Bool) (x : s.QuietFrom now) : (s.activeFrame n f c).QuietFrom now := by
  unfold State.activeFrame
  dsimp only
  split
  · exact State.takeFrameError_quietFrom _ _ x
  · split
    · exact State.takeFrameError_quietFrom _ _ x
    · exact State.laneReadings_quietFrom _ _ (State.setLane_quietFrom _ _ x)

theorem State.awaitedFrame_quietFrom (n : Fin 9) (f : Frame) (c : Bool) (x : s.QuietFrom now) :
    (s.awaitedFrame n f c).QuietFrom now := by
  unfold State.awaitedFrame State.firstFrame
  dsimp only
  split
  · exact State.noteLane_quietFrom _ _ (State.reevalQuiet_quietFrom
      (State.laneReadings_quietFrom _ _ (State.laneUp_quietFrom _ (State.setLane_quietFrom _ _ x))))
  · exact State.setLane_quietFrom _ _ x

theorem State.endPeriod_quietFrom (n : Fin 9) (x : s.QuietFrom now) : (s.endPeriod n).QuietFrom now := by
  unfold State.endPeriod
  dsimp only
  split
  · split
    · exact State.enterRecovering_quietFrom _ _ (State.setLane_quietFrom _ _ x)
    · exact State.setLane_quietFrom _ _ x
  · exact State.setLane_quietFrom _ _ x

theorem State.moveLane_quietFrom (n : Fin 9) (l : Lane) (d : LaneDetail) (x : s.QuietFrom now) :
    (s.moveLane n l d).QuietFrom now := by
  unfold State.moveLane
  split
  · exact State.setLane_quietFrom _ _ x
  · exact State.changeLane_quietFrom _ _ _ x

theorem State.laneAction_quietFrom (n : Fin 9) (action : Nat) (x : s.QuietFrom now) : (s.laneAction n action).QuietFrom now := by
  unfold State.laneAction
  dsimp only
  split
  · split
    · exact State.moveLane_quietFrom _ _ _ x
    · exact State.setLane_quietFrom _ _ x
  · exact State.moveLane_quietFrom _ _ _ x
  · exact State.moveLane_quietFrom _ _ _ x
  · exact x

/-! ### Footswitches (R53, R54) -/

theorem State.switchEdge_quietFrom (i : Fin 2) (high : Bool) (x : s.QuietFrom now) : (s.switchEdge i high).QuietFrom now := by
  have toggled : (s.mapDeck Deck.toggle).QuietFrom now :=
    State.mapDeck_quietFrom Deck.toggle_inputs (fun _ _ => Deck.toggle_reach) x
  have action : (s.switchAction s.actions[i]).1.QuietFrom now := by
    unfold State.switchAction
    split
    · exact x
    · split
      · exact x
      · split
        · split
          · exact (State.mapStage_work (List.Subset.refl _) (fun _ _ => Stage.toggle_reach) (.refl _ s)).quietFrom (by decide) x
          · exact x
        · exact (State.metronomeToggle_work (List.Subset.refl _) (.refl _ s)).quietFrom (by decide) x
        · split
          · exact (State.mapRecorder_work (List.Subset.refl _) (fun _ _ => Desk.mark_reach _) (.refl _ s)).quietFrom (by decide) x
          · exact x
        · split
          · exact toggled
          · exact x
        · exact x
  exact State.mapHub_quietFrom (Hub.note_reach _ _ _ _ _ _ (.refl _)).now action

theorem State.acceptHeld_quietFrom (i : Fin 2) (x : s.QuietFrom now) : (s.acceptHeld i).QuietFrom now := by
  unfold State.acceptHeld State.acceptSwitch
  dsimp only
  split
  · split
    · split
      · split <;> exact x.congr rfl rfl
      · split
        · exact State.switchEdge_quietFrom _ _ (x.congr rfl rfl)
        · exact x.congr rfl rfl
    · exact x.congr rfl rfl
  · exact x

end Sys2Proof.Machine
end

section
/-! SUPPORT. The requests and the exchange and standby controllers: what they do to the rail's copy of the quiet condition. -/

namespace Sys2Proof.Machine

variable {s : State} {now : Nat}

theorem Hub.now_of_steady {a b : Hub} (same : b.steady = a.steady) : b.now = a.now := congrArg Hub.Steady.now same

/-! ### The requests (R184) -/

theorem actLaneControl_quietFrom (slot : Fin 32) (a : List Byte) (x : s.QuietFrom now) : (actLaneControl slot a s).QuietFrom now := by
  unfold actLaneControl
  split
  · exact x
  · exact State.mapHub_quietFrom (Hub.completeRequest_reach _ _ _ (.refl _)).now (State.laneAction_quietFrom _ _ x)

theorem actPedalConfig_quietFrom (slot : Fin 32) (a : List Byte) (x : s.QuietFrom now) : (actPedalConfig slot a s).QuietFrom now := by
  unfold actPedalConfig
  extract_lets s1 s2
  have group : s1.QuietFrom now := by
    unfold s1
    split
    · exact x.congr rfl rfl
    · exact x
  have switch (i : Fin 2) (n : Nat) {u : State} (y : u.QuietFrom now) : (u.setSwitch i n).QuietFrom now :=
    (State.setSwitch_work i n (List.Subset.refl _) (.refl _ u)).quietFrom (by decide) y
  have both : s2.QuietFrom now := by
    unfold s2
    split
    · exact State.acceptHeld_quietFrom _ (State.acceptHeld_quietFrom _ (switch _ _ (switch _ _ group)))
    · exact group
  exact State.mapHub_quietFrom (Hub.completeRequest_reach _ _ _ (.refl _)).now both

theorem actRailMove_quietFrom (slot : Fin 32) (a : List Byte) (x : s.QuietFrom now) : (actRailMove slot a s).QuietFrom now := by
  unfold actRailMove
  split
  · exact x
  · refine State.mapDeck_quietFrom (fun d => ?_) (fun _ d q => ?_) x
    · split
      · rfl
      · exact Deck.activate_inputs _ d
    · split
      · exact Deck.onRail_reach q
      · exact Deck.activate_reach _ q

theorem actRailHalt_quietFrom (slot : Fin 32) (a : List Byte) (x : s.QuietFrom now) : (actRailHalt slot a s).QuietFrom now := by
  refine State.mapDeck_completed_quietFrom (fun d => ?_) (fun _ d q => Deck.discardIf_reach a ?_) x
  · rw [Deck.discardIf_inputs]
    split
    · exact Deck.endMove_inputs _ d
    · rfl
  · split
    · exact Deck.endMove_reach _ q
    · exact q

theorem actRailSettle_quietFrom (slot : Fin 32) (x : s.QuietFrom now) : (actRailSettle slot s).QuietFrom now := by
  refine State.mapDeck_quietFrom (fun d => ?_) (fun b d q => ?_) x
  · dsimp only
    split
    · rfl
    · split
      · exact Deck.startNext_inputs _ _ _
      · rfl
  · have completed : DeckReach b (d.onHub fun h => h.completeRequest slot .ok []) :=
      Deck.onHub_reach (fun _ _ r => Hub.completeRequest_reach _ _ _ r) q
    dsimp only
    split
    · exact completed
    · split
      · exact Deck.startNext_reach _ _ completed
      · exact Deck.onRail_reach completed

theorem State.stopped_quietFrom (x : s.QuietFrom now) : s.stopped.QuietFrom now := x.congr s.stopped_reach.now rfl

theorem State.silence_quietFrom (x : s.QuietFrom now) : s.silence.QuietFrom now :=
  x.congr (Hub.now_of_steady s.silence_steady) (by rw [State.silence, State.mapHub_rail, State.mapVoice_rail])

theorem State.beginEntry_quietFrom (slot : Fin 32) (x : s.QuietFrom now) : (s.beginEntry slot).QuietFrom now :=
  State.beginEntry_keeps_of (P := State.QuietFrom now) (fun _ _ y => y.congr rfl rfl) (State.stopped_quietFrom x)
    (State.silence_quietFrom (State.stopped_quietFrom x))

theorem actJournalFlush_quietFrom (slot : Fin 32) (x : s.QuietFrom now) : (actJournalFlush slot s).QuietFrom now := by
  refine State.mapHub_quietFrom ?_ x
  exact (Hub.completeRequest_reach _ _ _ (.refl _)).now.trans (Hub.now_of_steady (Hub.flush_steady s.hub))

theorem actRequest_quietFrom (kind : RequestKind) (slot : Fin 32) (a : List Byte) (x : s.QuietFrom now) :
    (actRequest kind slot a s).QuietFrom now := by
  by_cases off : kind.seals = false ∧ Piece.rail ∉ kind.pieces
  · exact (actRequest_work kind slot a s off.1).quietFrom off.2 x
  · cases kind with
    | laneControl => exact actLaneControl_quietFrom slot a x
    | pedalConfig => exact actPedalConfig_quietFrom slot a x
    | railConfig =>
      exact State.mapDeck_quietFrom (fun _ => rfl)
        (fun _ _ => Deck.onHub_reach fun _ _ r => Hub.completeRequest_reach _ _ _ r) (x.congr rfl rfl)
    | railMove => exact actRailMove_quietFrom slot a x
    | railStop =>
      exact State.mapDeck_completed_quietFrom (fun d => (Deck.discardIf_inputs a _).trans (Deck.stopMove_inputs d))
        (fun _ _ q => Deck.discardIf_reach a (Deck.stopMove_reach q)) x
    | railHalt => exact actRailHalt_quietFrom slot a x
    | railClear =>
      exact State.mapDeck_completed_quietFrom (fun d => Rail.enableDriver_inputs s.hub.now d.rail) (fun _ _ => Deck.onRail_reach) x
    | railSettle => exact actRailSettle_quietFrom slot x
    | railUnsettle => exact State.mapDeck_completed_quietFrom (fun _ => rfl) (fun _ _ => Deck.onRail_reach) x
    | journalFlush => exact actJournalFlush_quietFrom slot x
    | standbyEnter => exact State.beginEntry_quietFrom slot (x.congr rfl rfl)
    | _ => exact absurd ⟨rfl, by decide⟩ off

theorem Hub.refuseRequest_now (slot : Fin 32) (tag : Word16) (code : ResultCode) (h : Hub) : (h.refuseRequest slot tag code).now = h.now :=
  (Hub.now_of_steady (Hub.writeResult_steady slot tag code [] 4 h) :)

theorem State.visitSlot_quietFrom {slot : Fin 32} {kind : RequestKind} {tag : Word16} {a : List Byte} {refuse : Option ResultCode}
    {act : State → State} (one : ∀ u : State, u.QuietFrom now → (act u).QuietFrom now) (x : s.QuietFrom now) :
    (s.visitSlot slot kind tag a refuse act).QuietFrom now := by
  unfold State.visitSlot
  split
  · exact x
  · split
    · exact x.congr rfl rfl
    · split
      · next code => exact State.mapHub_quietFrom (Hub.refuseRequest_now slot tag code s.hub) x
      · exact one _ (x.congr (State.handed_now (slot := slot) (kind := kind) (tag := tag) (args := a)) rfl)

theorem State.visitSlots_quietFrom (copy : List Byte) (slots : List (Fin 32)) (x : s.QuietFrom now) :
    (s.visitSlots copy slots).QuietFrom now := by
  have visit (slot : Fin 32) (code : Nat) (tag : Word16) (a : List Byte) {u : State} (y : u.QuietFrom now) :
      (u.visitCode slot code tag a).QuietFrom now := by
    unfold State.visitCode
    split
    · exact State.visitSlot_quietFrom (fun _ => actRequest_quietFrom _ _ _) y
    · exact State.visitSlot_quietFrom (fun _ z => z) y
  induction slots generalizing s with
  | nil => exact x
  | cons slot rest ih =>
    unfold State.visitSlots
    dsimp only
    split
    · exact x
    · split
      · split
        · exact visit _ _ _ _ x
        · exact ih (visit _ _ _ _ x)
      · exact ih x

theorem State.boardRead_quietFrom (tag : ReadTag) (bytes : Option (List Byte)) (x : s.QuietFrom now) :
    (s.boardRead tag bytes).QuietFrom now := by
  have ends {u : State} (y : u.QuietFrom now) : u.endSweep.QuietFrom now :=
    (State.endSweep_work (List.Subset.refl _) (.refl _ u)).quietFrom (by decide) y
  unfold State.boardRead
  split
  · split
    · exact ends (x.congr rfl rfl)
    · dsimp only
      split
      · exact x.congr rfl rfl
      · exact ends (State.visitSlots_quietFrom _ _ x)
  · exact x

/-! ### Attach, detach and standby (R178 to R181, R195 to R198) -/

theorem State.detach_quietFrom (next : AttachState) (x : s.QuietFrom now) : (s.detach next).QuietFrom now := by
  have left : s.letGo.QuietFrom now := x.congr s.letGo_leftOff.now (by simp [State.letGo, State.trackerDetach])
  rw [State.detach_eq]
  generalize s.letGo = u at left
  exact ⟨left.time, left.held⟩

theorem State.enterStandby_quietFrom (x : s.QuietFrom now) : s.enterStandby.QuietFrom now := by
  have entered := s.enterStandby_entered
  have lanes : s.lanesOff.QuietFrom now := State.lanesToStandby_quiet (n := 0) _ now s (.inr x)
  refine ⟨(congrArg Hub.now entered.hub).trans lanes.time, fun quiet => ?_⟩
  rw [entered.quiet.1] at quiet
  rw [entered.quiet.2]
  exact lanes.held quiet

theorem State.completeEntry_quietFrom (slot : Fin 32) (x : s.QuietFrom now) : (s.completeEntry slot).QuietFrom now :=
  State.enterStandby_quietFrom (State.detach_quietFrom .standby
    (State.mapHub_quietFrom (Hub.completeRequest_reach _ _ _ (.refl _)).now x))

theorem State.shutdownStep_quietFrom (x : s.QuietFrom now) : s.shutdownStep.QuietFrom now := by
  unfold State.shutdownStep
  split
  · split
    · exact x
    · exact State.completeEntry_quietFrom _ (State.silence_quietFrom x)
  · exact State.completeEntry_quietFrom _ x
  · exact x

theorem State.laneFromStandby_quietFrom (n : Fin 9) (x : s.QuietFrom now) : (s.laneFromStandby n).QuietFrom now := by
  unfold State.laneFromStandby
  dsimp only
  split
  · exact State.changeLane_quietFrom _ _ _ x
  · exact x

theorem State.leaveStandby_quietFrom (x : s.QuietFrom now) : s.leaveStandby.QuietFrom now := by
  unfold State.leaveStandby
  dsimp only
  have left : ({ s with
      hub := { s.hub with attach := .detached }, standby := s.standby.leave, output := { s.output with standby := false }
      rail := { s.rail with seated := s.pins.seated, seatedPending := none } } : State).QuietFrom now := ⟨x.time, x.held⟩
  generalize ({ s with hub := _, standby := _, output := _, rail := _ } : State) = s1 at left ⊢
  have lanes : ((List.finRange 9).foldl (fun s lane => s.laneFromStandby lane) s1).QuietFrom now :=
    foldl_keeps (fun _ n y => State.laneFromStandby_quietFrom n y) _ left
  generalize (List.finRange 9).foldl (fun s lane => s.laneFromStandby lane) s1 = s2 at lanes ⊢
  have lamp : (s2.mapDeck id).QuietFrom now := State.mapDeck_quietFrom (fun _ => rfl) (fun _ _ q => q) lanes
  generalize s2.mapDeck id = s3 at lamp ⊢
  split
  · exact (State.mapMetronome_work (List.Subset.refl _) (fun _ _ => Beater.switchOn_reach _ _) (.refl _ s3)).quietFrom (by decide) lamp
  · exact lamp

theorem Hub.beginAttach_now (h : Hub) : h.beginAttach.now = h.now := by
  have flagged (f : CauseFlag) (h : Hub) : (h.setFlag f).now = h.now := Hub.now_of_steady (Hub.setFlag_steady f h)
  unfold Hub.beginAttach Hub.rejectAttach
  dsimp only
  split
  · rw [if_neg (by decide), flagged]
  · exact (Hub.now_of_steady (Hub.requestRead_steady _ _ _ _ _)).trans rfl

theorem Hub.setRegisters_now (r : Registers) (h : Hub) : (h.setRegisters r).now = h.now := by
  unfold Hub.setRegisters
  dsimp only
  split <;> rfl

theorem Hub.writeEnables_now (value : Word32) (h : Hub) : (h.writeEnables value).now = h.now := Hub.setRegisters_now _ h

theorem Hub.abandonValidation_now (h : Hub) : h.abandonValidation.now = h.now := rfl

theorem State.writeControl_quietFrom (value : Word32) (run : Bool) (x : s.QuietFrom now) : (s.writeControl value run).QuietFrom now := by
  have written : (s.mapHub (Hub.writeEnables value)).QuietFrom now := State.mapHub_quietFrom (Hub.writeEnables_now _ _) x
  unfold State.writeControl
  dsimp only
  generalize s.mapHub (Hub.writeEnables value) = u at written
  have begins {v : State} (y : v.QuietFrom now) : (v.mapHub Hub.beginAttach).QuietFrom now :=
    State.mapHub_quietFrom (Hub.beginAttach_now _) y
  split
  · unfold State.runOne
    split
    · exact begins written
    · exact begins written
    · exact begins (State.leaveStandby_quietFrom written)
    · refine State.mapHub_quietFrom ?_ (State.leaveStandby_quietFrom written)
      rw [Hub.beginAttach_now, Hub.now_of_steady (Hub.setFlag_steady .wake _)]
    · exact written
    · exact written
  · unfold State.runZero
    split
    · exact State.mapHub_quietFrom (Hub.abandonValidation_now _) written
    · exact State.detach_quietFrom _ written
    · exact written

theorem State.portLeave_quietFrom (x : s.QuietFrom now) : s.portLeave.QuietFrom now := by
  unfold State.portLeave
  split
  · exact State.detach_quietFrom _ x
  · exact State.leaveStandby_quietFrom x
  · exact State.leaveStandby_quietFrom x
  · exact State.mapHub_quietFrom rfl x
  · exact State.mapHub_quietFrom rfl x
  · exact State.mapHub_quietFrom rfl x

/-! ### Every command -/

/-- R36, R107: if the rail's copy of the quiet condition becomes true from `s` to `t`, it has been so since now. -/
def State.TellsQuiet (s t : State) : Prop := s.rail.quiet = false → t.rail.quiet = true → t.QuietFrom s.hub.now

/-- A command that leaves the rail's copy alone. -/
theorem State.TellsQuiet.of_same {t : State} (same : t.rail.quiet = s.rail.quiet) : s.TellsQuiet t := fun before after =>
  absurd (same.symm.trans after) (by rw [before]; decide)

theorem State.TellsQuiet.of_quietFrom {t : State} (one : s.QuietFrom s.hub.now → t.QuietFrom s.hub.now) : s.TellsQuiet t :=
  fun before _ => one ⟨rfl, fun quiet => absurd quiet (by rw [before]; decide)⟩

theorem State.TellsQuiet.whenUp {f : State → State} (one : ∀ u : State, u.TellsQuiet (f u)) (s : State) : s.TellsQuiet (s.whenUp f) :=
  State.whenUp_rel f s (.of_same rfl) (one s)

/-- R192: an arrival takes no time. -/
theorem Hub.arrive_now (id : Nat) (outcome : ReadOutcome) (h : Hub) : (h.arrive id outcome).1.now = h.now := by
  have retired : (h.retireRead id).now = h.now := Hub.now_of_steady (Hub.issueReads_steady _)
  unfold Hub.arrive
  split
  · rfl
  · split
    · rfl
    · split
      · exact retired
      · split
        · exact retired
        · exact (Hub.now_of_steady (Hub.raise_steady .fetch _)).trans retired

theorem State.TellsQuiet.onArrival {rows : ReadTag → Bool} {id : Nat} {outcome : ReadOutcome}
    {handle : ReadTag → Option (List Byte) → State → State}
    (one : ∀ tag bytes (u : State) n, u.QuietFrom n → (handle tag bytes u).QuietFrom n) (s : State) :
    s.TellsQuiet (s.onArrival rows id outcome handle) := by
  refine .of_quietFrom fun x => ?_
  have time := s.hub.arrive_now id outcome
  unfold State.onArrival
  split
  · exact x
  · split
    · split
      · next hub e =>
        rw [e] at time
        exact x.congr time rfl
      · next hub tag bytes e =>
        rw [e] at time
        exact one _ _ _ _ (x.congr time rfl)
    · exact x

/-- An arrival whose requester does not reach the rail. -/
theorem State.TellsQuiet.onArrival_rail {rows : ReadTag → Bool} {id : Nat} {outcome : ReadOutcome}
    {handle : ReadTag → Option (List Byte) → State → State} (one : ∀ tag bytes (u : State), (handle tag bytes u).rail = u.rail)
    (s : State) : s.TellsQuiet (s.onArrival rows id outcome handle) := by
  refine .of_same (congrArg Rail.quiet ?_)
  unfold State.onArrival
  split
  · rfl
  · split
    · split
      · rfl
      · exact one _ _ _
    · rfl

theorem State.headerRead_rail (bytes : Option (List Byte)) (s : State) : (s.headerRead bytes).rail = s.rail := by
  have rejected (r : RejectReason) : (s.mapHub (Hub.rejectAttach r)).rail = s.rail := State.mapHub_rail _ s
  have entered (r : RegionHeader) : (s.enterAttached r).rail = s.rail := by simp only [State.enterAttached]
  unfold State.headerRead
  split
  · split
    · exact rejected _
    · dsimp only
      split
      · exact entered _
      · exact rejected _
  · rfl

theorem State.holdRead_rail (bytes : Option (List Byte)) (s : State) : (s.holdRead bytes).rail = s.rail := by
  unfold State.holdRead
  split <;> rfl

theorem State.readFailed_quietFrom_or (tag : ReadTag) (s : State) :
    (∀ n, s.QuietFrom n → (s.readFailed tag).QuietFrom n) ∨ (s.readFailed tag).rail = s.rail := by
  cases tag with
  | voice | block | keymap | list | pageHeader => exact .inr rfl
  | table => exact .inl fun _ x => State.tableRead_quietFrom _ none x
  | board => exact .inl fun _ x => State.boardRead_quietFrom _ none x
  | hold => exact .inr (State.holdRead_rail _ s)
  | regionHeader => exact .inr (State.headerRead_rail _ s)

theorem State.notify_rail (board pages : Bool) (s : State) : (s.notify board pages).rail = s.rail := by
  have due (u : State) : u.sweepDue.rail = u.rail := by
    unfold State.sweepDue
    split <;> rfl
  have read (u : State) : u.notifyPages.rail = u.rail := by
    unfold State.notifyPages
    split <;> rfl
  unfold State.notify
  dsimp only
  split <;> split <;> simp [due, read]

theorem State.writeRegister_tellsQuiet (offset : Nat) (value : Word32) (s : State) : s.TellsQuiet (s.writeRegister offset value) := by
  unfold State.writeRegister
  split
  · exact .of_same rfl
  · split
    · exact .of_same rfl
    · split
      · exact .of_quietFrom (State.writeControl_quietFrom _ _)
      · split
        · exact .of_same (congrArg Rail.quiet (s.notify_rail _ _))
        · split <;> exact .of_same rfl

theorem Hub.timedOut_now (id : Nat) (h : Hub) : (h.timedOut id).1.now = h.now := by
  unfold Hub.timedOut
  split
  · rfl
  · split
    · rfl
    · exact (Hub.now_of_steady (Hub.raise_steady .fetch _)).trans (Hub.now_of_steady (Hub.issueReads_steady _))

theorem State.readTimeout_tellsQuiet (id : Nat) (s : State) : s.TellsQuiet
    (match s.hub.timedOut id with
      | (hub, some tag) => State.readFailed tag { s with hub := hub }
      | (hub, none) => { s with hub := hub }) := by
  have time := s.hub.timedOut_now id
  split
  · next hub tag e =>
    rw [e] at time
    rcases State.readFailed_quietFrom_or tag { s with hub := hub } with one | rail
    · exact .of_quietFrom fun x => one _ (x.congr time rfl)
    · exact .of_same (congrArg Rail.quiet rail)
  · exact .of_same rfl

end Sys2Proof.Machine
end

section
/-! SUPPORT. Over every command the rail's copy of the quiet condition becomes true with the present time (R36, R107). -/

namespace Sys2Proof.Machine

variable {s t : State} {now : Nat}

theorem State.QuietFrom.whenUp {f : State → State} (one : ∀ u : State, u.QuietFrom now → (f u).QuietFrom now) (x : s.QuietFrom now) :
    (s.whenUp f).QuietFrom now := State.whenUp_rel (R := fun _ t => t.QuietFrom now) f s x (one s x)

theorem State.QuietFrom.ite {c : Prop} [Decidable c] {u : State} (first : c → s.QuietFrom now) (second : u.QuietFrom now) :
    (if c then s else u).QuietFrom now := by
  split
  · next holds => exact first holds
  · exact second

/-- Main-domain work of the rail that leaves its inputs. -/
theorem State.TellsQuiet.whenUp_quietFrom {f : State → State} (one : ∀ (u : State) n, u.QuietFrom n → (f u).QuietFrom n) (s : State) :
    s.TellsQuiet (s.whenUp f) := .whenUp (fun u => .of_quietFrom (one u _)) s

/-! ### The rows of the lanes (R2 to R13) -/

theorem execManagementReply_tellsQuiet {lane : Fin 9} {number : Nat} {content : ReplyContent} {body : List Byte} {crc : Byte}
    (e : execManagementReply lane number content body crc s = .next t) : s.TellsQuiet t := by
  obtain rfl := Host.Outcome.next.inj e
  split
  · split
    · exact .whenUp_quietFrom (fun _ _ => State.exchangeSucceeds_quietFrom _ _ _) s
    · exact .of_same rfl
  · split
    · exact .of_same (congrArg Rail.quiet ((State.setScanner_work _ _ (List.Subset.refl _) (.refl _ s)).same .rail (by decide)))
    · exact .of_same rfl
  · exact .of_same rfl

theorem execExchangeTimeout_tellsQuiet {lane : Fin 9} (e : execExchangeTimeout lane s = .next t) : s.TellsQuiet t := by
  obtain rfl := Host.Outcome.next.inj e
  split
  · split
    · exact .whenUp_quietFrom (fun _ _ => State.retryExchange_quietFrom _ _) s
    · exact .of_same rfl
  · split
    · split
      · exact .of_same (congrArg Rail.quiet
          ((State.retryScanner_work _ _ _ (List.Subset.refl _) (.refl _ s)).same .rail (by decide)))
      · exact .of_same rfl
    · exact .of_same rfl
  · exact .of_same rfl

theorem execLaneFrame_tellsQuiet {lane : Fin 9} {bytes : List Byte} (e : execLaneFrame lane bytes s = .next t) : s.TellsQuiet t := by
  obtain rfl := Host.Outcome.next.inj e
  refine .whenUp_quietFrom (fun u n x => ?_) s
  split
  · exact x
  · dsimp only
    split
    · exact State.activeFrame_quietFrom _ _ _ x
    · exact .ite (fun _ => State.awaitedFrame_quietFrom _ _ _ x) x
    · exact x

theorem firstFrameTimeout_tellsQuiet {lane : Fin 9} (e : exec (.firstFrameTimeout lane) s = .next t) : s.TellsQuiet t := by
  obtain rfl := Host.Outcome.next.inj e
  refine .whenUp_quietFrom (fun u n x => ?_) s
  split
  · exact .ite (fun _ => State.stepFails_quietFrom _ x) x
  · exact x

theorem calibWindowEnd_tellsQuiet (e : exec .calibWindowEnd s = .next t) : s.TellsQuiet t := by
  obtain rfl := Host.Outcome.next.inj e
  refine .whenUp_quietFrom (fun u n x => ?_) s
  split
  · exact .ite (fun _ => State.finishWindow_quietFrom _ x) x
  · exact x

/-! ### The rows of the footswitches and of the rail (R53, R102 to R117) -/

theorem execFootswitchInputChange_tellsQuiet {i : Fin 2} {high : Bool} (e : execFootswitchInputChange i high s = .next t) :
    s.TellsQuiet t := by
  refine .of_quietFrom fun x => ?_
  unfold execFootswitchInputChange at e
  dsimp only at e
  split at e
  · obtain rfl := Host.Outcome.next.inj e
    exact x
  · split at e
    · obtain rfl := Host.Outcome.next.inj e
      exact x.congr rfl rfl
    · obtain rfl := Host.Outcome.next.inj e
      exact State.acceptHeld_quietFrom i (x.congr rfl rfl)

/-- A row of the rail that acts under a condition. -/
theorem State.TellsQuiet.deckWhen {c : State → Bool} {f : Deck → Deck} (inputs : ∀ d, (f d).rail.inputs = d.rail.inputs)
    (reach : ∀ b d, DeckReach b d → DeckReach b (f d)) (s : State) :
    s.TellsQuiet (s.whenUp fun u => if c u = true then u.mapDeck f else u) :=
  .whenUp_quietFrom (fun _ _ x => .ite (fun _ => State.mapDeck_quietFrom inputs reach x) x) s

/-- A row of the rail that gives the levels of inputs first. -/
theorem State.TellsQuiet.pinsThen {f : State → State} (pins : Pins) (one : ∀ (u : State) n, u.QuietFrom n → (f u).QuietFrom n)
    (s : State) : s.TellsQuiet (State.whenUp f { s with pins := pins }) :=
  .of_quietFrom fun x => State.QuietFrom.whenUp (fun u => one u _) (x.congr rfl rfl)

theorem State.seatedChanged_rail_quiet (active : Bool) (s : State) : (s.seatedChanged active).rail.quiet = s.rail.quiet := by
  unfold State.seatedChanged
  split
  · rfl
  · dsimp only
    split <;> rfl

theorem seatedFilterExpiry_tellsQuiet (e : exec .seatedFilterExpiry s = .next t) : s.TellsQuiet t := by
  obtain rfl := Host.Outcome.next.inj e
  refine .whenUp (fun u => .of_same ?_) s
  split
  · split
    · exact congrArg Rail.Inputs.quiet (Deck.seatedAccepted_inputs u.deck)
    · rfl
  · rfl

theorem driverFault_tellsQuiet {active : Bool} (e : exec (.driverFault active) s = .next t) : s.TellsQuiet t := by
  obtain rfl := Host.Outcome.next.inj e
  refine .pinsThen _ (fun u n => State.mapDeck_quietFrom (fun d => ?_) fun b d q => ?_) s
  · split
    · exact Deck.driverFaulted_inputs d
    · rfl
  · split
    · exact Deck.driverFaulted_reach q
    · exact q

/-! ### All of them -/

/-- R36, R107: no command tells the rail of a quiet condition that begins at another time than now. -/
theorem exec_tellsQuiet {c : Instr} (e : exec c s = .next t) : s.TellsQuiet t := by
  cases row : requestOf c with
  | some r =>
    rw [exec_request row] at e
    obtain rfl := Host.Outcome.next.inj e
    exact .of_quietFrom (State.visitSlot_quietFrom fun _ => actRequest_quietFrom _ _ _)
  | none =>
    cases c with
    | managementReply => exact execManagementReply_tellsQuiet e
    | exchangeTimeout => exact execExchangeTimeout_tellsQuiet e
    | laneFrame => exact execLaneFrame_tellsQuiet e
    | firstFrameTimeout => exact firstFrameTimeout_tellsQuiet e
    | framePeriodEnd =>
      obtain rfl := Host.Outcome.next.inj e
      exact .whenUp_quietFrom (fun _ _ x => .ite (fun _ => State.endPeriod_quietFrom _ x) x) s
    | calibWindowEnd => exact calibWindowEnd_tellsQuiet e
    | footswitchInputChange => exact execFootswitchInputChange_tellsQuiet e
    | footswitchDebounceExpiry =>
      obtain rfl := Host.Outcome.next.inj e
      exact .of_quietFrom fun x => .ite (fun _ => x) (State.acceptHeld_quietFrom _ x)
    | drvEnSettle =>
      obtain rfl := Host.Outcome.next.inj e
      exact .deckWhen (c := fun u => u.deck.settleOver) Deck.driverSettled_inputs (fun _ _ => Deck.driverSettled_reach) s
    | stepPulse =>
      obtain rfl := Host.Outcome.next.inj e
      exact .pinsThen _ (fun _ _ x => .ite (fun _ => State.mapDeck_quietFrom (Deck.pulse_inputs _ _)
        (fun _ _ => Deck.pulse_reach _ _) x) x) s
    | quietHoldReached =>
      obtain rfl := Host.Outcome.next.inj e
      exact .deckWhen (c := fun u => u.deck.quietLongEnough) Deck.quietReached_inputs (fun _ _ => Deck.quietReached_reach) s
    | gateTimeout =>
      obtain rfl := Host.Outcome.next.inj e
      exact .deckWhen (c := fun u => u.deck.gateOver) (Deck.endMove_inputs _) (fun _ _ => Deck.endMove_reach _) s
    | seatTimeout =>
      obtain rfl := Host.Outcome.next.inj e
      exact .deckWhen (c := fun u => u.deck.seatOver) (Deck.endMove_inputs _) (fun _ _ => Deck.endMove_reach _) s
    | pauseTimeout =>
      obtain rfl := Host.Outcome.next.inj e
      exact .deckWhen (c := fun u => u.deck.pauseOver) Deck.pauseEnds_inputs (fun _ _ => Deck.pauseEnds_reach) s
    | seatedInputChange =>
      obtain rfl := Host.Outcome.next.inj e
      exact .of_same (s.seatedChanged_rail_quiet _)
    | seatedFilterExpiry => exact seatedFilterExpiry_tellsQuiet e
    | homeSensorChange =>
      obtain rfl := Host.Outcome.next.inj e
      exact .pinsThen _ (fun _ _ => State.mapDeck_quietFrom (Deck.homeChanged_inputs _) fun _ _ => Deck.homeChanged_reach _) s
    | indexPulse =>
      obtain rfl := Host.Outcome.next.inj e
      exact .whenUp_quietFrom (fun _ _ => State.mapDeck_quietFrom Deck.index_inputs fun _ _ => Deck.index_reach) s
    | driverFault => exact driverFault_tellsQuiet e
    | powerOnReset =>
      obtain rfl := Host.Outcome.next.inj e
      exact fun _ after => nomatch after
    | mainReset =>
      obtain rfl := Host.Outcome.next.inj e
      split
      · exact .of_same rfl
      · exact fun _ after => nomatch after
    | mainResetEnd =>
      obtain rfl := Host.Outcome.next.inj e
      split <;> exact .of_same rfl
    | portReset =>
      obtain rfl := Host.Outcome.next.inj e
      exact .whenUp_quietFrom (fun u _ x => State.mapHub_quietFrom (Hub.setRegisters_now _ _) (State.portLeave_quietFrom x)) s
    | registerWrite => obtain rfl := Host.Outcome.next.inj e; exact .whenUp (fun u => u.writeRegister_tellsQuiet _ _) s
    | runSet | runClear =>
      obtain rfl := Host.Outcome.next.inj e
      exact .whenUp_quietFrom (fun _ _ => State.writeControl_quietFrom _ _) s
    | standbyShutdownStep =>
      obtain rfl := Host.Outcome.next.inj e
      exact .whenUp_quietFrom (fun _ _ => State.shutdownStep_quietFrom) s
    | wakeDelayExpiry =>
      obtain rfl := Host.Outcome.next.inj e
      split
      · split <;> exact .of_same rfl
      · exact .of_same rfl
    | controlEnableWrite | causeClear | sealPeriodExpiry | waitRereadExpiry =>
      obtain rfl := Host.Outcome.next.inj e
      exact .whenUp (fun u => .of_same (congrArg Rail.quiet (State.mapHub_rail _ u))) s
    | notifyPages =>
      obtain rfl := Host.Outcome.next.inj e
      exact .whenUp (fun u => .of_same (congrArg Rail.quiet (u.notify_rail _ _))) s
    | boardReadArrival =>
      obtain rfl := Host.Outcome.next.inj e
      exact .whenUp (.onArrival fun _ _ _ _ => State.boardRead_quietFrom _ _) s
    | tableReadArrival =>
      obtain rfl := Host.Outcome.next.inj e
      exact .whenUp (.onArrival fun _ _ _ _ => State.tableRead_quietFrom _ _) s
    | keymapReadArrival | voiceReadArrival =>
      obtain rfl := Host.Outcome.next.inj e
      exact .whenUp (.onArrival_rail fun _ _ v => State.mapVoice_rail _ v) s
    | blockReadArrival =>
      obtain rfl := Host.Outcome.next.inj e
      refine .whenUp (.onArrival_rail fun _ _ v => ?_) s
      split
      · exact State.mapStage_rail _ v
      · rfl
    | listReadArrival =>
      obtain rfl := Host.Outcome.next.inj e
      exact .whenUp (.onArrival_rail fun _ _ v => State.mapRecorder_rail _ v) s
    | pageHeaderReadArrival =>
      obtain rfl := Host.Outcome.next.inj e
      exact .whenUp (.onArrival_rail fun _ _ v => State.mapHub_rail _ v) s
    | headerReadArrival =>
      obtain rfl := Host.Outcome.next.inj e
      exact .whenUp (.onArrival_rail fun _ bytes v => v.headerRead_rail bytes) s
    | holdReadArrival =>
      obtain rfl := Host.Outcome.next.inj e
      exact .whenUp (.onArrival_rail fun _ bytes v => v.holdRead_rail bytes) s
    | readTimeout =>
      obtain rfl := Host.Outcome.next.inj e
      exact .whenUp (fun u => u.readTimeout_tellsQuiet _) s
    | _ =>
      first
        | exact .of_same (congrArg Rail.quiet ((exec_work rfl e).same .rail (by simp [changes, playPieces])))
        | cases row

end Sys2Proof.Machine
end

section
/-! PROOFS. The quiet condition and the rail's sensors (R36, R102, R107, R112 to R117) and the statement of O39. -/

namespace Sys2Proof.Machine

variable {s : State} {d : Deck} {m : Motion} {move : ActiveMove}

/-! ### The quiet condition (R36) -/

theorem State.hammerClear_iff (k : Fin 88) (s : State) : s.hammerClear k = true ↔ ∃ rawKey rawHammer,
    s.keys[k].lastRaw = some (rawKey, rawHammer) ∧ s.calibration[k].height rawHammer < s.calibration[k].clear := by
  unfold State.hammerClear
  split
  · next rawKey rawHammer last =>
    rw [decide_eq_true_iff]
    refine ⟨fun below => ⟨rawKey, rawHammer, last, below⟩, ?_⟩
    rintro ⟨rawKey', rawHammer', last', below⟩
    cases last.symm.trans last'
    exact below
  · next none_ =>
    refine iff_of_false (by decide) ?_
    rintro ⟨_, _, last, _⟩
    exact nomatch none_.symm.trans last

/-- R36: what one key lane asks of the quiet condition. -/
theorem State.quietLane_iff (lane : Fin 8) (s : State) :
    (match (s.keyLane lane).state with
      | .probing | .recovering => false
      | .active => (List.finRange 11).all fun j => s.hammerClear (laneKey lane j)
      | .off | .absent => true) = true ↔
      s.lanes[lane.castSucc].state ≠ .probing ∧ s.lanes[lane.castSucc].state ≠ .recovering ∧
        (s.lanes[lane.castSucc].state = .active → ∀ j : Fin 11, s.hammerClear (laneKey lane j) = true) := by
  rw [show s.keyLane lane = s.lanes[lane.castSucc] from rfl]
  cases s.lanes[lane.castSucc].state <;> simp

theorem State.quietCondition_iff (s : State) : s.quietCondition = true ↔ ∀ lane : Fin 8,
    s.lanes[lane.castSucc].state ≠ .probing ∧ s.lanes[lane.castSucc].state ≠ .recovering ∧
    (s.lanes[lane.castSucc].state = .active → ∀ j : Fin 11, ∃ rawKey rawHammer,
      s.keys[laneKey lane j].lastRaw = some (rawKey, rawHammer) ∧
        s.calibration[laneKey lane j].height rawHammer < s.calibration[laneKey lane j].clear) := by
  unfold State.quietCondition
  simp only [List.all_eq_true, List.mem_finRange, true_implies]
  refine forall_congr' fun lane => (s.quietLane_iff lane).trans ?_
  simp only [State.hammerClear_iff]

/-! ### The end of a move (Table 6-6, R118) -/

/-- R118: the rail once its active move has ended. -/
def Rail.atEnd (cause : StopCause) (fast : Bool) (move : ActiveMove) (r : Rail) : Rail :=
  { r.afterEnd cause fast move with
    active := none, motion := none, lastCause := cause, pauseExpired := false, stopping := false }

theorem Deck.endBasic_rail (cause : StopCause) (active : d.rail.active = some move) :
    (d.endBasic cause).rail = d.rail.atEnd cause (micro move.profile.fl < d.rail.rateNow d.hub.now) move := by
  unfold Deck.endBasic
  rw [active]
  rfl

theorem Rail.atEnd_next (cause : StopCause) (fast : Bool) (move : ActiveMove) (r : Rail) :
    (r.atEnd cause fast move).next = r.next := by
  cases cause with
  | haltRequest => simp only [Rail.atEnd, Rail.afterEnd]; split <;> rfl
  | _ => rfl

/-- R118, R123: with no next move, or after a failure, nothing follows but the flag of the next move. -/
theorem Deck.endMove_rail (cause : StopCause) (active : d.rail.active = some move) (stays : cause ≠ .complete ∨ d.rail.next = none) :
    ∃ fast next, (d.endMove cause).rail = { d.rail.atEnd cause fast move with next := next } := by
  have ended := Deck.endBasic_rail cause active
  have slot : (d.endBasic cause).rail.next = d.rail.next := by rw [ended, Rail.atEnd_next]
  refine ⟨decide (micro move.profile.fl < d.rail.rateNow d.hub.now), ?_⟩
  unfold Deck.endMove
  dsimp only
  split
  · exact ⟨(d.endBasic cause).rail.next, by rw [ended]⟩
  · next n some_ =>
    have failure : cause ≠ .complete := stays.resolve_right fun none_ => nomatch (some_.symm.trans slot).trans none_
    rw [if_neg failure]
    exact ⟨some { n with settled := false }, by rw [Deck.onRail_rail, ended]⟩

/-! ### SEATED_N and HOME_N (R102, R112 to R114) -/

/-- R102, R112: a seating move completes when the seated level is accepted. -/
theorem Deck.seatedAccepted_seating (seating : d.rail.state = .seating) (away : d.rail.seated = false)
    (active : d.rail.active = some move) (alone : d.rail.next = none) :
    d.seatedAccepted.rail.lastCause = .complete ∧ d.seatedAccepted.rail.state = .idle ∧ d.seatedAccepted.rail.active = none := by
  have ends : d.seatedAccepted =
      (d.onRail fun r => { r with seated := !d.rail.seated, seatedPending := none }).endMove .complete := by
    unfold Deck.seatedAccepted
    simp [seating, away]
  obtain ⟨fast, next, rail⟩ := Deck.endMove_rail (d := d.onRail fun r => { r with seated := !d.rail.seated, seatedPending := none })
    (move := move) .complete active (.inr alone)
  rw [ends, rail]
  exact ⟨rfl, rfl, rfl⟩

theorem seatedFilterExpiry_due (up : s.mainUp = true) {since : Nat} (pending : s.rail.seatedPending = some since)
    (due : since + 2000 ≤ s.hub.now) : exec .seatedFilterExpiry s = .next (s.mapDeck Deck.seatedAccepted) := by
  refine congrArg Host.Outcome.next ((State.whenUp_of_up _ s up).trans ?_)
  rw [pending]
  exact if_pos due

theorem seatedInputChange_same {active : Bool} (same : active = s.pins.seated) :
    exec (.seatedInputChange active) s = .next s := congrArg Host.Outcome.next (if_pos same)

theorem seatedInputChange_watched {active : Bool} (up : s.mainUp = true) (other : active ≠ s.pins.seated)
    (standby : s.hub.attach ≠ .standby) (woken : s.hub.attach ≠ .woken) :
    exec (.seatedInputChange active) s = .next { s with
      pins := { s.pins with seated := active }
      rail := { s.rail with seatedPending := if active = s.rail.seated then none else some s.hub.now } } := by
  refine congrArg Host.Outcome.next ((if_neg other).trans (if_neg ?_))
  simp [up, standby, woken]

theorem homeSensorChange_eq (active : Bool) (up : s.mainUp = true) : exec (.homeSensorChange active) s =
    .next (State.mapDeck (Deck.homeChanged active) { s with pins := { s.pins with home := active } }) :=
  congrArg Host.Outcome.next (State.whenUp_of_up _ _ up)

theorem Deck.homeChanged_escape (active : d.rail.active = some move) (motion : d.rail.motion = some m) (escape : m.phase = .escape) :
    (d.homeChanged false).rail = { d.rail with motion := some { m with phase := .escapeTail 200 } } := by
  unfold Deck.homeChanged
  rw [active, motion]
  dsimp only
  rw [escape]
  rfl

theorem Deck.homeChanged_return (active : d.rail.active = some move) (motion : d.rail.motion = some m)
    (back : m.phase = .homeReturn) :
    (d.homeChanged true).rail = { d.rail with motion := some (searchMotion move.profile d.hub.now m) } := by
  unfold Deck.homeChanged
  rw [active, motion]
  dsimp only
  rw [back]
  rfl

/-! ### INDEX (R114, R116) -/

theorem indexPulse_eq (up : s.mainUp = true) : exec .indexPulse s = .next (s.mapDeck Deck.index) :=
  congrArg Host.Outcome.next (State.whenUp_of_up _ s up)

/-- R116: an INDEX counts only while steps are issued. -/
theorem Deck.index_at_rest (rests : ∀ m, d.rail.motion = some m → m.started = false) : d.index = d := by
  unfold Deck.index
  split
  · rfl
  · next m motion => simp [rests m motion]

/-- R114: the last INDEX of the search. -/
theorem Deck.index_last {steps : Nat} (motion : d.rail.motion = some m) (started : m.started = true)
    (search : m.phase = .homeSearch d.config.homeIndexCount steps) : d.index = d.finishHome := by
  simp [Deck.index, motion, started, search]

/-- R114: an INDEX of the search before the last. -/
theorem Deck.index_counted {indexes steps : Nat} (motion : d.rail.motion = some m) (started : m.started = true)
    (search : m.phase = .homeSearch indexes steps) (before : indexes ≠ d.config.homeIndexCount) :
    d.index.rail = { d.rail.takeIndex with motion := some { m with phase := .homeSearch (indexes + 1) steps } } := by
  simp [Deck.index, motion, started, search, before, Deck.onRail]

/-- R116: an INDEX outside the search. -/
theorem Deck.index_outside (motion : d.rail.motion = some m) (started : m.started = true)
    (outside : ∀ indexes steps, m.phase ≠ .homeSearch indexes steps) :
    d.index = if d.rail.indexAstray then d.endMove .stall else d.onRail Rail.takeIndex := by
  unfold Deck.index
  simp only [motion, started, Bool.not_true, Bool.false_eq_true, if_false]

theorem nearIndex_iff (phase : Nat) (position : Int) :
    nearIndex phase position (-64) 64 = true ↔ (position + 64 - phase) % 1600 ≤ 128 := by
  simp [nearIndex]

theorem Rail.takeIndex_unknown {r : Rail} (none_ : r.indexPhase = none) : r.takeIndex =
    { r with indexPhase := some (r.position % 1600).toNat, awaitOut := none, awaitIn := none } := by
  simp [Rail.takeIndex, Rail.learnIndex, none_]

theorem Rail.takeIndex_near {r : Rail} {phase : Nat} (known : r.indexPhase = some phase)
    (near : (r.position + 64 - phase) % 1600 ≤ 128) : r.takeIndex = { r with awaitOut := none, awaitIn := none } := by
  simp [Rail.takeIndex, Rail.satisfyIndex, known, (nearIndex_iff phase r.position).mpr near]

theorem Rail.takeIndex_far {r : Rail} {phase : Nat} (known : r.indexPhase = some phase)
    (far : 128 < (r.position + 64 - phase) % 1600) : r.takeIndex = r := by
  have off : nearIndex phase r.position (-64) 64 ≠ true := fun near => by
    have := (nearIndex_iff phase r.position).mp near
    omega
  simp [Rail.takeIndex, Rail.satisfyIndex, known, off]

theorem Rail.indexAstray_unknown {r : Rail} (none_ : r.indexPhase = none) : r.indexAstray = false := by
  simp [Rail.indexAstray, none_]

theorem Rail.indexAstray_iff {r : Rail} {phase : Nat} (known : r.indexPhase = some phase) :
    r.indexAstray = true ↔ 128 < (r.position + 64 - phase) % 1600 := by
  have near := nearIndex_iff phase r.position
  unfold Rail.indexAstray
  rw [known]
  dsimp only
  rw [Bool.not_eq_true', ← Bool.not_eq_true, near]
  omega

/-- R114: the search finishes HOME. -/
theorem Deck.finishHome_rail (active : d.rail.active = some move) (alone : d.rail.next = none) :
    ∃ fast, d.finishHome.rail = { { d.rail with
      position := 0, indexPhase := some 0, awaitOut := none, awaitIn := none, homed := true }.atEnd .complete fast move with
        next := d.finishHome.rail.next } := by
  obtain ⟨fast, next, rail⟩ := Deck.endMove_rail (d := d.onRail fun r => { r with
    position := 0, indexPhase := some 0, awaitOut := none, awaitIn := none, homed := true }) (move := move) .complete active (.inr alone)
  exact ⟨fast, by rw [show d.finishHome.rail = _ from rail]; rfl⟩

/-! ### The driver's fault input (R117) -/

theorem Deck.driverFaulted_rail (d : Deck) : d.driverFaulted.rail.state = .faulted ∧ d.driverFaulted.rail.homed = false ∧
    d.driverFaulted.rail.drvEn = false ∧ d.driverFaulted.rail.active = none ∧ d.driverFaulted.rail.lastCause = .driverFault := by
  unfold Deck.driverFaulted
  split
  · next move active =>
    obtain ⟨fast, next, rail⟩ := Deck.endMove_rail .driverFault active (.inl (by decide))
    rw [rail]
    exact ⟨rfl, rfl, rfl, rfl, rfl⟩
  · next idle => exact ⟨rfl, rfl, rfl, idle, rfl⟩

theorem Deck.driverFaulted_of_watched (enabled : d.rail.drvEn = true) (settled : d.rail.drvSettled = true) :
    (if true && d.rail.drvEn && d.rail.drvSettled then d.driverFaulted else d) = d.driverFaulted :=
  if_pos (by rw [enabled, settled]; rfl)

theorem driverFault_eq (active : Bool) (up : s.mainUp = true) : exec (.driverFault active) s = .next (State.mapDeck (fun d =>
    if active && d.rail.drvEn && d.rail.drvSettled then d.driverFaulted else d) { s with pins := { s.pins with drvFault := active } }) :=
  congrArg Host.Outcome.next (State.whenUp_of_up _ _ up)

/-! ### The clauses of O39 -/

theorem exec_quiet_begins {c : Instr} {t : State} (e : exec c s = .next t) (before : s.rail.quiet = false) (after : t.rail.quiet = true) :
    t.rail.quietSince = s.hub.now ∧ t.rail.quietHeld t.hub.now = 0 := by
  obtain ⟨time, held⟩ := exec_tellsQuiet e before after
  refine ⟨held after, ?_⟩
  rw [Rail.quietHeld, if_pos after, held after, time, Nat.sub_self]

theorem seatedFilterExpiry_takes (up : s.mainUp = true) {since : Nat} (pending : s.rail.seatedPending = some since)
    (due : since + 2000 ≤ s.hub.now) : ∃ t, exec .seatedFilterExpiry s = .next t ∧ t.rail.seated = !s.rail.seated ∧
      t.rail.seatedPending = none ∧
      (∀ m, s.rail.state = .seating → s.rail.seated = false → s.rail.active = some m → s.rail.next = none →
        t.rail.lastCause = .complete ∧ t.rail.state = .idle ∧ t.rail.active = none) := by
  have inputs := Deck.seatedAccepted_inputs s.deck
  exact ⟨_, seatedFilterExpiry_due up pending due, congrArg Rail.Inputs.seated inputs, congrArg Rail.Inputs.seatedPending inputs,
    fun _ seating away active alone => Deck.seatedAccepted_seating (d := s.deck) seating away active alone⟩

theorem homeSensorChange_acts (up : s.mainUp = true) (active : Bool) (moves : s.rail.active = some move)
    (motion : s.rail.motion = some m) : ∃ t, exec (.homeSensorChange active) s = .next t ∧ t.pins = { s.pins with home := active } ∧
      (active = false → m.phase = .escape → t.rail = { s.rail with motion := some { m with phase := .escapeTail 200 } }) ∧
      (active = true → m.phase = .homeReturn →
        t.rail = { s.rail with motion := some (searchMotion move.profile s.hub.now m) }) := by
  refine ⟨_, homeSensorChange_eq active up, rfl, ?_, ?_⟩
  · rintro rfl escape
    exact Deck.homeChanged_escape (d := State.deck { s with pins := { s.pins with home := false } }) moves motion escape
  · rintro rfl back
    exact Deck.homeChanged_return (d := State.deck { s with pins := { s.pins with home := true } }) moves motion back

theorem indexPulse_last (up : s.mainUp = true) {steps : Nat} (moves : s.rail.active = some move) (motion : s.rail.motion = some m)
    (started : m.started = true) (search : m.phase = .homeSearch s.railConfig.homeIndexCount steps) (alone : s.rail.next = none) :
    ∃ t, exec .indexPulse s = .next t ∧ t.rail.position = 0 ∧ t.rail.homed = true ∧ t.rail.indexPhase = some 0 ∧
      t.rail.state = .idle ∧ t.rail.lastCause = .complete ∧ t.rail.active = none ∧ t.rail.awaitOut = none ∧
      t.rail.awaitIn = none := by
  refine ⟨_, indexPulse_eq up, ?_⟩
  obtain ⟨fast, rail⟩ := Deck.finishHome_rail (d := s.deck) moves alone
  rw [State.mapDeck_rail, Deck.index_last (d := s.deck) motion started search, rail]
  exact ⟨rfl, rfl, rfl, rfl, rfl, rfl, rfl, rfl⟩

theorem indexPulse_at_rest (up : s.mainUp = true) (rests : ∀ m, s.rail.motion = some m → m.started = false) :
    ∃ t, exec .indexPulse s = .next t ∧ t.rail = s.rail := by
  refine ⟨_, indexPulse_eq up, ?_⟩
  rw [State.mapDeck_rail, Deck.index_at_rest (d := s.deck) rests]
  rfl

/-- R114, R116: an INDEX in the search before its last counts, and is taken as elsewhere. -/
theorem indexPulse_counted (up : s.mainUp = true) {indexes steps : Nat} (motion : s.rail.motion = some m) (started : m.started = true)
    (search : m.phase = .homeSearch indexes steps) (before : indexes ≠ s.railConfig.homeIndexCount) {taken : Rail}
    (takes : s.rail.takeIndex = taken) : ∃ t, exec .indexPulse s = .next t ∧
      t.rail = { taken with motion := some { m with phase := .homeSearch (indexes + 1) steps } } := by
  refine ⟨_, indexPulse_eq up, ?_⟩
  rw [State.mapDeck_rail, Deck.index_counted (d := s.deck) motion started search before, ← takes]
  rfl

/-- R116: an INDEX outside the search that is not astray. -/
theorem indexPulse_taken (up : s.mainUp = true) (motion : s.rail.motion = some m) (started : m.started = true)
    (outside : ∀ indexes steps, m.phase ≠ .homeSearch indexes steps) (near : s.rail.indexAstray = false) {taken : Rail}
    (takes : s.rail.takeIndex = taken) : ∃ t, exec .indexPulse s = .next t ∧ t.rail = taken := by
  refine ⟨_, indexPulse_eq up, ?_⟩
  rw [State.mapDeck_rail, Deck.index_outside (d := s.deck) motion started outside,
    if_neg (show ¬ s.deck.rail.indexAstray = true from Bool.not_eq_true _ ▸ near), ← takes]
  rfl

/-- R116: an INDEX outside the search far from every expected position. -/
theorem indexPulse_astray (up : s.mainUp = true) (moves : s.rail.active = some move) (motion : s.rail.motion = some m)
    (started : m.started = true) (outside : ∀ indexes steps, m.phase ≠ .homeSearch indexes steps)
    (astray : s.rail.indexAstray = true) : ∃ t, exec .indexPulse s = .next t ∧ t.rail.lastCause = .stall ∧
      t.rail.state = .unknown ∧ t.rail.homed = false ∧ t.rail.indexPhase = none ∧ t.rail.active = none := by
  refine ⟨_, indexPulse_eq up, ?_⟩
  obtain ⟨fast, next, rail⟩ := Deck.endMove_rail (d := s.deck) .stall moves (.inl (by decide))
  rw [State.mapDeck_rail, Deck.index_outside (d := s.deck) motion started outside, if_pos (show s.deck.rail.indexAstray = true from astray),
    rail]
  exact ⟨rfl, rfl, rfl, rfl, rfl⟩

theorem driverFault_faults (up : s.mainUp = true) (enabled : s.rail.drvEn = true) (settled : s.rail.drvSettled = true) :
    ∃ t, exec (.driverFault true) s = .next t ∧ t.pins = { s.pins with drvFault := true } ∧ t.rail.state = .faulted ∧
      t.rail.homed = false ∧ t.rail.drvEn = false ∧ t.rail.active = none ∧ t.rail.lastCause = .driverFault := by
  refine ⟨_, driverFault_eq true up, rfl, ?_⟩
  rw [State.mapDeck_rail, Deck.driverFaulted_of_watched (d := State.deck { s with pins := { s.pins with drvFault := true } }) enabled settled]
  exact Deck.driverFaulted_rail _

theorem driverFault_clear (up : s.mainUp = true) :
    exec (.driverFault false) s = .next (State.mapDeck id { s with pins := { s.pins with drvFault := false } }) := driverFault_eq false up

end Sys2Proof.Machine

open Sys2Proof Sys2Proof.Machine

/-- Settles O39: the rail's copy of the quiet condition begins with the present time over every command (`exec_tellsQuiet`), and
each sensor row is evaluated through the rail operation that it stands for. -/
theorem railSensorsAct : Obligations.RailSensorsAct := by
  unfold Obligations.RailSensorsAct
  refine ⟨State.quietCondition_iff, fun c s t e before after => exec_quiet_begins e before after, fun s up => ?_⟩
  refine ⟨fun active other standby woken => seatedInputChange_watched up other standby woken,
    fun active same => seatedInputChange_same same, fun since pending due => seatedFilterExpiry_takes up pending due,
    fun active move m moves motion => homeSensorChange_acts up active moves motion,
    fun move m steps moves motion started search alone => indexPulse_last up moves motion started search alone,
    fun rests => indexPulse_at_rest up rests, fun move m moves motion started => ⟨?search, ?outside⟩,
    fun enabled settled => driverFault_faults up enabled settled, driverFault_clear up⟩
  case search =>
    intro indexes steps search before
    exact ⟨fun none_ => indexPulse_counted up motion started search before (Rail.takeIndex_unknown none_),
      fun phase known near => indexPulse_counted up motion started search before (Rail.takeIndex_near known near),
      fun phase known far => indexPulse_counted up motion started search before (Rail.takeIndex_far known far)⟩
  case outside =>
    intro outside
    refine ⟨fun none_ => indexPulse_taken up motion started outside (Rail.indexAstray_unknown none_) (Rail.takeIndex_unknown none_),
      fun phase known => ⟨fun near => ?_, fun far => ?_⟩⟩
    · have within : s.rail.indexAstray = false := Bool.not_eq_true _ ▸ fun astray => by
        have := (Rail.indexAstray_iff known).mp astray
        omega
      exact indexPulse_taken up motion started outside within (Rail.takeIndex_near known near)
    · exact indexPulse_astray up moves motion started outside ((Rail.indexAstray_iff known).mpr far)
end

section
/-! SUPPORT. The voice engine's operations leave its gain and DAMP_FULL (Table 4-1, R77): only VOICE_CONFIG gives them. -/

namespace Sys2Proof.Machine

/-- R77: the gain and DAMP_FULL in force. -/
def VoiceEngine.levels (ve : VoiceEngine) : Nat × Nat := (ve.gain, ve.dampFull)

/-- R77: the gain and DAMP_FULL of the engine of a pair. -/
def Engine.levels (e : Engine) : Nat × Nat := e.2.levels

theorem VoiceEngine.levels_of {a b : VoiceEngine} (gain : a.gain = b.gain) (dampFull : a.dampFull = b.dampFull) :
    a.levels = b.levels := Prod.ext gain dampFull

theorem Engine.levels_of {a b : Engine} (gain : a.2.gain = b.2.gain) (dampFull : a.2.dampFull = b.2.dampFull) :
    a.levels = b.levels := Prod.ext gain dampFull

variable {e : Engine}

@[simp] theorem Engine.freeVoice_levels (k : Fin 96) (e : Engine) : (e.freeVoice k).levels = e.levels := by
  unfold Engine.freeVoice
  dsimp only
  split <;> rfl

@[simp] theorem Engine.cutVoice_levels (k : Fin 96) (e : Engine) : (e.cutVoice k).levels = e.levels := by
  unfold Engine.cutVoice
  dsimp only
  split
  · split
    · exact e.freeVoice_levels k
    · rfl
  · rfl

@[simp] theorem Engine.cutAll_levels (p : Voice → Bool) (e : Engine) : (e.cutAll p).levels = e.levels := by
  refine List.foldlRecOn (motive := fun u : Engine => u.levels = e.levels) _ _ rfl fun y q k _ => ?_
  split
  · exact (y.cutVoice_levels k).trans q
  · exact q

@[simp] theorem Engine.serveOne_levels (e : Engine) : e.serveOne.levels = e.levels := by
  unfold Engine.serveOne
  split
  · dsimp only
    split
    · rfl
    · split <;> rfl
  · rfl

@[simp] theorem Engine.settleFor_levels (joined : Bool) (n : Nat) (e : Engine) : (e.settleFor joined n).levels = e.levels := by
  induction n generalizing e with
  | zero => rfl
  | succ n ih =>
    unfold Engine.settleFor
    split
    · rfl
    · split
      · rw [ih, Engine.serveOne_levels]
      · split
        · rfl
        · split
          · split
            · rfl
            · rw [ih]
              exact Engine.cutVoice_levels _ e
          · rfl

@[simp] theorem Engine.settle_levels (joined : Bool) (e : Engine) : (e.settle joined).levels = e.levels :=
  e.settleFor_levels joined 256

@[simp] theorem Engine.release_levels (k : Fin 96) (e : Engine) : (e.release k).levels = e.levels := by
  rw [Engine.release, Engine.settle_levels, Engine.freeVoice_levels]

@[simp] theorem Engine.supersede_levels (key : Fin 88) (source : Source) (e : Engine) :
    (e.supersede key source).levels = e.levels := by
  unfold Engine.supersede
  rw [Engine.settle_levels, Engine.cutAll_levels]
  exact List.foldlRecOn (motive := fun u : Engine => u.levels = e.levels) _ _ rfl fun u q k _ => (u.release_levels k).trans q

@[simp] theorem Engine.noteOn_levels (key : Fin 88) (source : Source) (velocity : Nat) (e : Engine) :
    (e.noteOn key source velocity).levels = e.levels := by
  have joins (u : Engine) (q : List PendingStart) : (Engine.settle true (u.1, { u.2 with queue := q })).levels = u.levels :=
    Engine.settle_levels true _
  unfold Engine.noteOn
  split
  · rfl
  · dsimp only
    have apart := e.supersede_levels key source
    generalize e.supersede key source = u at apart
    rw [← apart]
    split
    · split
      · rfl
      · split
        · rfl
        · exact joins u _
    · split
      · rfl
      · exact joins u _

@[simp] theorem Engine.cutExcess_levels (n : Nat) (e : Engine) : (e.cutExcess n).levels = e.levels := by
  induction n generalizing e with
  | zero => rfl
  | succ n ih =>
    unfold Engine.cutExcess
    split
    · rfl
    · rw [ih, Engine.cutVoice_levels]

@[simp] theorem Engine.setTarget_levels (target : Nat) (e : Engine) : (e.setTarget target).levels = e.levels := by
  unfold Engine.setTarget
  dsimp only
  split
  · exact Engine.settle_levels false _
  · rw [Engine.settle_levels, Engine.cutExcess_levels]
    rfl

@[simp] theorem Engine.cutSources_levels (mask : Nat) (e : Engine) : (e.cutSources mask).levels = e.levels := by
  unfold Engine.cutSources
  rw [Engine.settle_levels, Engine.cutAll_levels]
  rfl

@[simp] theorem Engine.detach_levels (e : Engine) : e.detach.levels = e.levels := by
  have cut : (Engine.cutAll Voice.alive (e.1, { e.2 with queue := [], keyMap := emptyKeyMap, load := none })).levels = e.levels :=
    (Engine.cutAll_levels Voice.alive _).trans (Engine.levels_of rfl rfl)
  unfold Engine.detach VoiceEngine.eachVoice
  dsimp only
  generalize Engine.cutAll Voice.alive _ = u at cut ⊢
  rw [← cut]
  simp only [Engine.levels, VoiceEngine.levels]

@[simp] theorem Engine.underrun_levels (k : Fin 96) (e : Engine) : (e.underrun k).levels = e.levels := by
  unfold Engine.underrun
  dsimp only
  split <;> exact Engine.release_levels k _

@[simp] theorem Engine.refill_levels (k : Fin 96) (e : Engine) : (e.refill k).levels = e.levels := by
  unfold Engine.refill
  dsimp only
  split <;> rfl

@[simp] theorem Engine.advance_levels (k : Fin 96) (e : Engine) : (e.advance k).levels = e.levels := by
  unfold Engine.advance
  extract_lets v level cursor e1
  have moved : e1.levels = e.levels := rfl
  clear_value e1
  rw [← moved]
  split
  · split
    · rfl
    · exact e1.release_levels k
  · split
    · exact e1.release_levels k
    · split
      · rfl
      · split
        · exact e1.refill_levels k
        · exact e1.underrun_levels k

@[simp] theorem Engine.endFade_levels (k : Fin 96) (e : Engine) : (e.endFade k).levels = e.levels := by
  unfold Engine.endFade
  split
  · exact e.release_levels k
  · rfl

@[simp] theorem Engine.endFades_levels (n : Nat) (e : Engine) : (e.endFades n).levels = e.levels := by
  induction n generalizing e with
  | zero => rfl
  | succ n ih =>
    unfold Engine.endFades
    split
    · rfl
    · rw [ih, Engine.release_levels]

@[simp] theorem Engine.period_levels (e : Engine) : e.period.1.levels = e.levels := by
  unfold Engine.period
  refine List.foldlRecOn (motive := fun p : Engine × Int => p.1.levels = e.levels) _ _ (e.endFades_levels 96) fun p q k _ => ?_
  unfold Engine.playVoice
  dsimp only
  split
  · exact (p.1.advance_levels k).trans q
  · exact q

@[simp] theorem Engine.voiceRead_levels (tag : ReadTag) (bytes : Option (List Byte)) (e : Engine) :
    (e.voiceRead tag bytes).levels = e.levels := by
  unfold Engine.voiceRead
  split
  · dsimp only
    split
    · split
      · exact Engine.release_levels _ _
      · rfl
      · rfl
      · rfl
    · rfl
  · rfl

@[simp] theorem Engine.keymapRead_levels (tag : ReadTag) (bytes : Option (List Byte)) (e : Engine) :
    (e.keymapRead tag bytes).levels = e.levels := by
  unfold Engine.keymapRead
  split
  · split
    · rfl
    · dsimp only
      split
      · rfl
      · unfold Engine.applyKeymap
        split <;> exact Engine.levels_of rfl rfl
  · rfl

@[simp] theorem VoiceEngine.noteOff_levels (key : Fin 88) (source : Source) (ve : VoiceEngine) :
    (ve.noteOff key source).levels = ve.levels := by
  unfold VoiceEngine.noteOff VoiceEngine.eachVoice
  exact VoiceEngine.levels_of rfl rfl

@[simp] theorem VoiceEngine.setCapture_levels (keys : List (Fin 88)) (ve : VoiceEngine) :
    (ve.setCapture keys).levels = ve.levels := by
  unfold VoiceEngine.setCapture VoiceEngine.eachVoice
  exact VoiceEngine.levels_of rfl rfl

@[simp] theorem VoiceEngine.setDamper_levels (source : Source) (level : Nat) (ve : VoiceEngine) :
    (ve.setDamper source level).levels = ve.levels := by cases source <;> rfl

@[simp] theorem VoiceEngine.setSoft_levels (source : Source) (pressed : Bool) (ve : VoiceEngine) :
    (ve.setSoft source pressed).levels = ve.levels := by cases source <;> rfl

/-! ### VOICE_CONFIG (R77) -/

/-- R77: the ranges of the gain and of DAMP_FULL. -/
def VoiceLevelsFit (levels : Nat × Nat) : Prop := 50 ≤ levels.1 ∧ levels.1 ≤ 150 ∧ 100 ≤ levels.2 ∧ levels.2 ≤ 20000

theorem Engine.configure_fit {a : List Byte} (taken : refuseVoiceConfig a = none) (x : VoiceLevelsFit e.levels) :
    VoiceLevelsFit (e.configure a).levels := by
  unfold Engine.configure
  split
  · next set =>
    rw [Engine.setTarget_levels]
    unfold refuseVoiceConfig at taken
    split at taken
    · cases taken
    · next fine =>
      simp only [set, Bool.true_and, Bool.or_eq_true, decide_eq_true_eq, not_or, Nat.not_lt] at fine
      obtain ⟨⟨⟨⟨_, lowGain⟩, highGain⟩, lowDamp⟩, highDamp⟩ := fine
      exact ⟨lowGain, highGain, lowDamp, highDamp⟩
  · exact x

end Sys2Proof.Machine
end

section
/-! SUPPORT. The metronome's operations leave its settings, and the player's leave the settings of the voice engine, of the metronome
and of the takes in range (Tables 4-1, 5-2, 7-1, 7-2): one lemma per operation. -/

namespace Sys2Proof.Machine

/-! ### The metronome (R90 to R97) -/

theorem Beater.beat_settings (one first : Bool) (b : Beater) : (b.beat one first).2.settings = b.2.settings := rfl

theorem Beater.freeBeat_settings (b : Beater) : b.freeBeat.2.settings = b.2.settings := by
  unfold Beater.freeBeat
  dsimp only
  split <;> rfl

theorem Beater.followBeat_settings (b : Beater) : b.followBeat.2.settings = b.2.settings := rfl

theorem Beater.restart_settings (position : Word32) (tempo : Nat) (first playing : Bool) (b : Beater) :
    (b.restart position tempo first playing).2.settings = b.2.settings := by
  unfold Beater.restart
  dsimp only
  split <;> rfl

theorem Beater.switchOn_settings (clock : Nat) (position : Word32) (b : Beater) :
    (b.switchOn clock position).2.settings = b.2.settings := by
  unfold Beater.switchOn
  dsimp only
  split <;> rfl

theorem Beater.configure_settings (new : MetronomeSettings) (clock : Nat) (position : Word32) (b : Beater) :
    (b.configure new clock position).2.settings = new := by
  unfold Beater.configure
  dsimp only
  split
  · split <;> rfl
  · split
    · exact Beater.switchOn_settings _ _ _
    · split <;> rfl

theorem Beater.toggle_settings (clock : Nat) (position : Word32) (b : Beater) :
    (b.toggle clock position).2.settings = { b.2.settings with on := !b.2.settings.on } :=
  Beater.configure_settings _ clock position b

theorem Metronome.endClick_settings (m : Metronome) : m.endClick.settings = m.settings := by
  unfold Metronome.endClick
  split
  · split <;> rfl
  · rfl

/-! ### The tempo and the takes of the player (R129, R136, R151) -/

/-- The tempo in force, the take and the take of the next slot. -/
structure Player.Choice where
  tempo : Nat
  take : Option TakeRecord
  next : Option TakeRecord

/-- The tempo in force, the take and the take of the next slot. -/
def Player.choice (q : Player) : Player.Choice := { tempo := q.tempo, take := q.take, next := q.next.map NextTake.take }

/-- R129, R136: they are in range. -/
structure Player.Choice.Fits (c : Player.Choice) : Prop where
  tempo : 25 ≤ c.tempo ∧ c.tempo ≤ 200
  take : ∀ x, c.take = some x → x.inRange
  next : ∀ x, c.next = some x → x.inRange

/-- The settings that the player's operations can reach are in range. -/
structure Stage.Ranged (p : Stage) : Prop where
  levels : VoiceLevelsFit p.voice.levels
  beats : p.metronome.settings.inRange
  choice : p.player.choice.Fits

theorem TakeRecord.inRange.tempo_fits {x : TakeRecord} (good : x.inRange) : 25 ≤ x.tempo ∧ x.tempo ≤ 200 := by
  obtain ⟨_, _, slow, fast, _⟩ := good
  exact ⟨slow, fast⟩

/-- The slot is empty. -/
theorem Player.Choice.Fits.emptied {c : Player.Choice} (x : c.Fits) : Player.Choice.Fits { c with next := none } :=
  ⟨x.tempo, x.take, fun _ no => nomatch no⟩

/-- R151: the take that waits in the slot. -/
theorem Player.Choice.Fits.waiting {q : Player} {n : NextTake} (x : q.choice.Fits) (some_ : q.next = some n) : n.take.inRange :=
  x.next n.take (congrArg (Option.map NextTake.take) some_)

theorem Player.choice_settle (b : Bool) (q : Player) :
    Player.choice { q with next := q.next.map fun n => { n with settled := b } } = q.choice := by
  simp only [Player.choice, Option.map_map]
  rfl

theorem Player.unsettle_choice (q : Player) : q.unsettle.choice = q.choice := q.choice_settle false

/-- R139: a strike of the list leaves the tempo and the takes. -/
theorem Player.countStrikes_choice (window : Nat) (q : Player) : (q.countStrikes window).choice = q.choice := by
  rw [Player.countStrikes_eq]
  refine List.foldlRecOn (motive := fun r : Player => r.choice = q.choice) _ _ rfl fun r same strike _ => ?_
  unfold Player.countStrike
  split <;> exact same

/-! ### The player's operations -/

section Stage
variable {p t : Stage}

/-- What changes none of them. -/
theorem Stage.Ranged.edit (x : p.Ranged) (levels : t.voice.levels = p.voice.levels)
    (beats : t.metronome.settings = p.metronome.settings) (choice : t.player.choice = p.player.choice) : t.Ranged :=
  ⟨levels ▸ x.levels, beats ▸ x.beats, choice ▸ x.choice⟩

theorem Stage.onPlayer_ranged {f : Player → Player} (same : ∀ q, (f q).choice = q.choice) (x : p.Ranged) : (p.onPlayer f).Ranged :=
  x.edit rfl rfl (same p.player)

theorem Stage.report_ranged (d n i : Nat) (x : p.Ranged) : (p.report d n i).Ranged := x.edit rfl rfl rfl

theorem Stage.reportNote_metronome (kind : RecordKind) (k v n : Nat) (f : Bool) (p : Stage) :
    (p.reportNote kind k v n f).metronome = p.metronome := by
  unfold Stage.reportNote
  split
  · split <;> rfl
  · rfl

theorem Stage.reportNote_ranged (kind : RecordKind) (k v n : Nat) (f : Bool) (x : p.Ranged) : (p.reportNote kind k v n f).Ranged := by
  obtain ⟨voice, player⟩ := p.reportNote_same kind k v n f
  have metronome := p.reportNote_metronome kind k v n f
  exact x.edit (by rw [voice]) (by rw [metronome]) (by rw [player])

theorem Stage.completePending_ranged (c : ResultCode) (x : p.Ranged) : (p.completePending c).Ranged := x.edit rfl rfl rfl

theorem Stage.emptyBuffer_ranged (b : Fin 2) (x : p.Ranged) : (p.emptyBuffer b).Ranged := x.edit rfl rfl rfl

theorem Stage.emptyBuffers_ranged (x : p.Ranged) : p.emptyBuffers.Ranged := Stage.emptyBuffer_ranged 1 (Stage.emptyBuffer_ranged 0 x)

theorem Stage.readBlock_ranged (b : Fin 2) (address : Word64) (index : Nat) (next : Bool) (x : p.Ranged) :
    (p.readBlock b address index next).Ranged := by
  unfold Stage.readBlock
  dsimp only
  exact x.edit rfl rfl rfl

theorem Stage.readAhead_ranged (x : p.Ranged) : p.readAhead.Ranged := by
  unfold Stage.readAhead
  split
  · dsimp only
    split
    · exact Stage.readBlock_ranged _ _ _ _ (Stage.emptyBuffer_ranged _ x)
    · exact x
  · exact x

theorem Stage.dropReadAhead_ranged (x : p.Ranged) : p.dropReadAhead.Ranged := by
  unfold Stage.dropReadAhead
  dsimp only
  split
  · exact Stage.emptyBuffer_ranged _ x
  · exact x

theorem Stage.enterBlock_ranged (x : p.Ranged) : p.enterBlock.Ranged := by
  unfold Stage.enterBlock
  split
  · exact x
  · dsimp only
    split
    · split
      · exact x
      · exact Stage.readAhead_ranged (Stage.emptyBuffer_ranged _ x)
    · exact Stage.readBlock_ranged _ _ _ _ (Stage.emptyBuffer_ranged _ x)

theorem Stage.advanceBlock_ranged (x : p.Ranged) : p.advanceBlock.Ranged := Stage.enterBlock_ranged (x.edit rfl rfl rfl)

theorem Stage.releaseOpen_ranged (which : Nat → Bool) (x : p.Ranged) : (p.releaseOpen which).Ranged := by
  unfold Stage.releaseOpen
  dsimp only
  have y : ((List.finRange 88).foldl (fun (p' : Stage) k =>
      match (p.player.openKeys.filter fun o => which o.2).find? fun o => o.1 == k with
      | some o => Stage.reportNote .playNoteOff k.val 64 o.2 true { p' with voice := p'.voice.noteOff k .playback }
      | none => p') p).Ranged := by
    refine List.foldlRecOn (motive := Stage.Ranged) _ _ x fun u y k _ => ?_
    split
    · exact Stage.reportNote_ranged _ _ _ _ _ (y.edit (VoiceEngine.noteOff_levels _ _ _) rfl rfl)
    · exact y
  exact Stage.onPlayer_ranged (fun _ => rfl) y

theorem Stage.releaseAll_ranged (x : p.Ranged) : p.releaseAll.Ranged := Stage.releaseOpen_ranged _ x

theorem Stage.handPedals_ranged (pedals : PlaybackPedals) (x : p.Ranged) : (p.handPedals pedals).Ranged :=
  x.edit (by simp [Stage.handPedals]) rfl rfl

theorem Stage.restart_ranged (position : Word32) (tempo : Nat) (first : Bool) (x : p.Ranged) : (p.restart position tempo first).Ranged :=
  x.edit rfl (Beater.restart_settings _ _ _ _ _) rfl

theorem Stage.clearTake_ranged (x : p.Ranged) : p.clearTake.Ranged := by
  have y := Stage.emptyBuffers_ranged x
  exact y.edit rfl rfl rfl

/-- R147, R149, R154: the take ends. -/
theorem Stage.endTake_ranged (x : p.Ranged) : ((p.releaseAll.handPedals .zero).clearTake).Ranged :=
  Stage.clearTake_ranged (Stage.handPedals_ranged _ (Stage.releaseAll_ranged x))

theorem Stage.fault_ranged (format : Bool) (x : p.Ranged) : (p.fault format).Ranged :=
  (Stage.report_ranged 9 (flagBit format) 0 (Stage.completePending_ranged (if format then .invalid else .failed)
    (Stage.endTake_ranged x))).edit rfl rfl (Player.unsettle_choice _)

theorem Stage.stop_ranged (x : p.Ranged) : p.stop.Ranged := by
  unfold Stage.stop
  split
  · exact (Stage.report_ranged 1 1 0 (Stage.completePending_ranged .aborted (Stage.endTake_ranged x))).edit rfl rfl
      (Player.unsettle_choice _)
  · exact x.edit rfl rfl rfl

theorem Stage.detach_ranged (x : p.Ranged) : p.detach.Ranged := by
  have y := Stage.endTake_ranged x
  exact ⟨y.levels, y.beats, y.choice.emptied⟩

theorem Stage.setTake_ranged {take : TakeRecord} (slot : Option (Fin 32)) (chained : Bool) (x : p.Ranged) (good : take.inRange) :
    (p.setTake take slot chained).Ranged := by
  exact ⟨x.levels, x.beats, good.tempo_fits, fun y same => Option.some.inj same ▸ good, x.choice.next⟩

theorem Stage.readFirst_ranged (x : p.Ranged) : p.readFirst.Ranged := by
  unfold Stage.readFirst
  split
  · exact x
  · exact Stage.readBlock_ranged _ _ _ _ ((Stage.emptyBuffers_ranged x).edit rfl rfl rfl)

theorem Stage.startTake_ranged {take : TakeRecord} (slot : Option (Fin 32)) (x : p.Ranged) (good : take.inRange) :
    (p.startTake take slot).Ranged :=
  Stage.readFirst_ranged (Stage.setTake_ranged _ _ x good)

theorem Stage.rewind_ranged (x : p.Ranged) : p.rewind.Ranged := (Stage.handPedals_ranged .zero x).edit rfl rfl rfl

theorem Stage.scanMissed_ranged (x : p.Ranged) : p.scanMissed.Ranged := by
  unfold Stage.scanMissed
  dsimp only
  have y := Stage.completePending_ranged .notFound (Stage.readFirst_ranged
    (Stage.onPlayer_ranged (f := fun q => { q with state := .paused, scan := none }) (fun _ => rfl) (Stage.rewind_ranged x)))
  split
  · exact y
  · split
    · exact Stage.report_ranged _ _ _ y
    · exact Stage.report_ranged _ _ _ y

theorem Stage.scanFound_ranged (x : p.Ranged) : p.scanFound.Ranged := by
  have y : ((p.handPedals p.player.pedals).onPlayer fun q => { q with scan := none }).Ranged :=
    Stage.onPlayer_ranged (fun _ => rfl) (Stage.handPedals_ranged _ x)
  unfold Stage.scanFound
  extract_lets p1 enter restart
  have entered (state : PlayerState) {u : Stage} (z : u.Ranged) : (enter state u).Ranged := Stage.onPlayer_ranged (fun _ => rfl) z
  have restarted (first : Bool) {u : Stage} (z : u.Ranged) : (restart first u).Ranged := Stage.restart_ranged _ _ _ z
  split
  · exact Stage.completePending_ranged _ (entered _ (restarted _ y))
  · have found := Stage.completePending_ranged .ok (restarted true (entered .playing y))
    split
    · exact found
    · exact Stage.report_ranged _ _ _ found

theorem Player.markAnchor_choice (marker : Nat) (q : Player) : (q.markAnchor marker).choice = q.choice := by
  unfold Player.markAnchor
  split
  · split <;> rfl
  · rfl

theorem Player.scanEvent_choice (e : ScoreEvent) (q : Player) : (q.scanEvent e).choice = q.choice := by
  unfold Player.scanEvent
  dsimp only
  split
  · split <;> rfl
  · split
    · rfl
    · split
      · rw [Player.markAnchor_choice]; rfl
      · rfl

theorem Stage.scanRun_ranged (n : Nat) (x : p.Ranged) : (p.scanRun n).Ranged := by
  induction n generalizing p with
  | zero => exact x
  | succ n ih =>
    unfold Stage.scanRun
    split
    · split
      · next event _ =>
        have passed : (p.onPlayer (Player.scanEvent event)).Ranged := x.edit rfl rfl (Player.scanEvent_choice _ _)
        split
        · exact Stage.fault_ranged _ x
        · dsimp only
          split
          · exact Stage.scanMissed_ranged passed
          · split
            · exact Stage.scanFound_ranged passed
            · exact ih passed
      · split
        · exact Stage.scanMissed_ranged x
        · split
          · exact ih (Stage.advanceBlock_ranged x)
          · exact x
    · exact x

theorem Stage.beginTake_ranged (block : ScoreBlock) (x : p.Ranged) : (p.beginTake block).Ranged := by
  unfold Stage.beginTake
  extract_lets p1 p2 p3
  have y : p1.Ranged := Stage.handPedals_ranged _ (Stage.onPlayer_ranged (fun _ => rfl) x)
  have started : p3.Ranged :=
    Stage.completePending_ranged _ (Stage.restart_ranged _ _ _ (Stage.onPlayer_ranged (fun _ => rfl) y))
  split
  · split
    · exact started
    · exact Stage.report_ranged _ _ _ started
  · exact Stage.scanRun_ranged _ (Stage.onPlayer_ranged (fun _ => rfl) y)

theorem Stage.beginNext_ranged {next : TakeRecord} (x : p.Ranged) (good : next.inRange) : (p.beginNext next).Ranged := by
  unfold Stage.beginNext
  dsimp only
  have set := Stage.setTake_ranged none true x good
  have y : (((p.setTake next none true).onPlayer fun q => { q with next := none }).report 7 0 0).Ranged :=
    ⟨set.levels, set.beats, set.choice.emptied⟩
  split
  · exact Stage.beginTake_ranged _ (Stage.enterBlock_ranged (y.edit rfl rfl rfl))
  · exact Stage.readFirst_ranged y

theorem Stage.naturalEnd_ranged (x : p.Ranged) : p.naturalEnd.Ranged := by
  unfold Stage.naturalEnd
  dsimp only
  have y : ((p.releaseAll.handPedals .zero).report 1 0 0).Ranged :=
    Stage.report_ranged _ _ _ (Stage.handPedals_ranged _ (Stage.releaseAll_ranged x))
  split
  · next n waits =>
    split
    · exact Stage.beginNext_ranged y (y.choice.waiting waits)
    · exact y.edit rfl rfl rfl
  · exact y.edit rfl rfl rfl

theorem Stage.beginSettled_ranged (x : p.Ranged) : p.beginSettled.Ranged := by
  unfold Stage.beginSettled
  split
  · next n waits =>
    split
    · exact Stage.beginNext_ranged x (x.choice.waiting waits)
    · exact x
  · exact x

theorem Stage.loopJump_ranged (marker : Nat) (anchor : LoopAnchor) (x : p.Ranged) : (p.loopJump marker anchor).Ranged := by
  have y := Stage.emptyBuffers_ranged (Stage.handPedals_ranged anchor.pedals (Stage.releaseAll_ranged x))
  unfold Stage.loopJump
  dsimp only
  generalize (p.releaseAll.handPedals anchor.pedals).emptyBuffers = u at y
  exact Stage.onPlayer_ranged (fun _ => rfl) (Stage.report_ranged _ _ _ (Stage.readBlock_ranged _ _ _ _
    (Stage.onPlayer_ranged (fun _ => rfl) y)))

theorem Stage.dispatchMark_ranged (marker : Nat) (x : p.Ranged) : (p.dispatchMark marker).Ranged := by
  unfold Stage.dispatchMark
  dsimp only
  have y : ((p.report 2 marker 0).onPlayer (Player.markAnchor marker)).Ranged := x.edit rfl rfl (Player.markAnchor_choice _ _)
  split
  · split
    · exact Stage.loopJump_ranged _ _ y
    · exact y
  · exact y

theorem Stage.dispatchNoteOn_ranged (key : Fin 88) (velocity part : Nat) (x : p.Ranged) :
    (p.dispatchNoteOn key velocity part).Ranged := by
  unfold Stage.dispatchNoteOn
  dsimp only
  have y := Stage.reportNote_ranged .playNoteOn key.val velocity part false x
  generalize p.reportNote .playNoteOn key.val velocity part false = u at y
  split
  · exact y.edit (Engine.noteOn_levels key .playback velocity (u.hub, u.voice)) rfl rfl
  · exact y

theorem Stage.dispatchNoteOff_ranged (key : Fin 88) (value part : Nat) (x : p.Ranged) : (p.dispatchNoteOff key value part).Ranged := by
  unfold Stage.dispatchNoteOff
  dsimp only
  have y := Stage.reportNote_ranged .playNoteOff key.val value part false x
  generalize p.reportNote .playNoteOff key.val value part false = u at y
  split
  · exact y.edit (VoiceEngine.noteOff_levels _ _ _) rfl rfl
  · exact y

theorem Stage.dispatchPedal_ranged (pedal level part : Nat) (x : p.Ranged) : (p.dispatchPedal pedal level part).Ranged := by
  unfold Stage.dispatchPedal
  dsimp only
  split
  · exact Stage.handPedals_ranged _ (x.edit rfl rfl rfl)
  · exact x.edit rfl rfl rfl

theorem Stage.dispatchEvent_ranged (time : Word32) (g : GroupEvent) (x : p.Ranged) : (p.dispatchEvent time g).Ranged := by
  unfold Stage.dispatchEvent
  extract_lets p0 p1 e
  have y0 : p0.Ranged := by
    unfold p0
    split
    · exact x
    · exact Stage.advanceBlock_ranged x
  have y : p1.Ranged := y0.edit rfl rfl rfl
  clear_value p1
  split
  · split
    · exact Stage.dispatchNoteOn_ranged _ _ _ y
    · exact y
  · split
    · exact Stage.dispatchNoteOff_ranged _ _ _ y
    · exact y
  · exact Stage.dispatchPedal_ranged _ _ _ y
  · exact Stage.restart_ranged _ _ _ (y.edit rfl rfl rfl)
  · exact Stage.dispatchMark_ranged _ y
  · exact Stage.naturalEnd_ranged y
  · exact y

theorem Stage.dispatchGroup_ranged (time : Word32) (l : List GroupEvent) (x : p.Ranged) : (p.dispatchGroup time l).Ranged := by
  induction l generalizing p with
  | nil => exact x
  | cons g l ih =>
    unfold Stage.dispatchGroup
    dsimp only
    split
    · exact Stage.dispatchEvent_ranged _ _ x
    · exact ih (Stage.dispatchEvent_ranged _ _ x)

theorem Stage.endWait_ranged (x : p.Ranged) : p.endWait.Ranged := by
  have ended : (p.onPlayer fun q => { q with state := .playing, expected := [], struck := [], held := none }).Ranged :=
    x.edit rfl rfl rfl
  unfold Stage.endWait
  dsimp only
  split
  · exact Stage.dispatchGroup_ranged _ _ ended
  · exact ended

theorem Stage.beginWait_ranged (g : Group) (x : p.Ranged) : (p.beginWait g).Ranged := by
  unfold Stage.beginWait
  extract_lets window p1
  have y : p1.Ranged := x.edit rfl rfl (Player.countStrikes_choice window _)
  clear_value p1
  split
  · exact Stage.endWait_ranged y
  · exact Stage.report_ranged _ _ _ y

theorem Stage.takeGroup_ranged (g : Group) (x : p.Ranged) : (p.takeGroup g).Ranged := by
  unfold Stage.takeGroup
  extract_lets follow
  split
  · exact Stage.fault_ranged _ x
  · split
    · exact Stage.beginWait_ranged _ x
    · exact Stage.dispatchGroup_ranged _ _ x

theorem Stage.playRun_ranged (n : Nat) (x : p.Ranged) : (p.playRun n).Ranged := by
  induction n generalizing p with
  | zero => exact x
  | succ n ih =>
    unfold Stage.playRun
    split
    · exact x
    · split
      · exact x.edit rfl rfl rfl
      · exact ih (Stage.naturalEnd_ranged x)
      · exact ih (Stage.advanceBlock_ranged x)
      · exact x.edit rfl rfl rfl
      · split
        · split
          · exact ih (Stage.takeGroup_ranged _ x)
          · exact x.edit rfl rfl rfl
        · exact x

theorem Stage.play_ranged (x : p.Ranged) : p.play.Ranged := Stage.playRun_ranged _ x

theorem Stage.blockValid_ranged (b : Fin 2) (block : ScoreBlock) (x : p.Ranged) : (p.blockValid b block).Ranged := by
  unfold Stage.blockValid
  extract_lets c p1 p2
  have y : p1.Ranged := by
    unfold p1
    split
    · exact Stage.enterBlock_ranged x
    · exact x
  split
  · split
    · exact Stage.play_ranged (Stage.scanRun_ranged _ y)
    · split
      · exact Stage.play_ranged (Stage.beginTake_ranged _ y)
      · exact y
  · exact Stage.play_ranged (Stage.scanRun_ranged _ y)
  · have z : p2.Ranged := by
      unfold p2
      split
      · exact Stage.restart_ranged _ _ _ y
      · exact y
    exact Stage.play_ranged (z.edit rfl rfl rfl)
  · split
    · exact y.edit rfl rfl rfl
    · exact y
  · exact Stage.play_ranged y
  · exact y

theorem Stage.blockRead_ranged (b : Fin 2) (n : Nat) (bytes : Option (List Byte)) (x : p.Ranged) : (p.blockRead b n bytes).Ranged := by
  unfold Stage.blockRead
  extract_lets buffer takeId reject
  have y : ∀ f, (reject f).Ranged := fun f => by
    unfold reject
    split
    · exact Stage.emptyBuffer_ranged _ x
    · split
      · exact Stage.fault_ranged _ x
      · exact x
  clear_value reject
  split
  · exact x
  · split
    · exact y _
    · extract_lets chunks
      split
      · exact x.edit rfl rfl rfl
      · extract_lets block p1
        split
        · split
          · exact x.edit rfl rfl rfl
          · exact Stage.blockValid_ranged _ _ (x.edit rfl rfl rfl)
        · exact y _

theorem Stage.liveStrike_ranged (key : Fin 88) (x : p.Ranged) : (p.liveStrike key).Ranged := by
  unfold Stage.liveStrike
  extract_lets waiting hit strike p1
  have y : p1.Ranged := x.edit rfl rfl rfl
  clear_value p1
  split
  · exact Stage.play_ranged (Stage.endWait_ranged (Stage.report_ranged _ _ _ y))
  · exact y

theorem Stage.skipWait_ranged (x : p.Ranged) : p.skipWait.Ranged := Stage.play_ranged (Stage.endWait_ranged (Stage.report_ranged _ _ _ x))

theorem Stage.pause_ranged (x : p.Ranged) : p.pause.Ranged := by
  exact (Stage.releaseAll_ranged x).edit rfl rfl rfl

theorem Stage.resume_ranged (x : p.Ranged) : p.resume.Ranged := by
  unfold Stage.resume
  split
  · exact Stage.play_ranged (Stage.beginWait_ranged _ x)
  · split
    · have y : (if p.player.restartOwed then p.restart p.player.lastTime p.player.followTempo false else p).Ranged := by
        split
        · exact Stage.restart_ranged _ _ _ x
        · exact x
      exact Stage.play_ranged (y.edit rfl rfl rfl)
    · exact x.edit rfl rfl rfl

theorem Stage.toggle_ranged (x : p.Ranged) : p.toggle.Ranged := by
  unfold Stage.toggle
  extract_lets p1
  have y : p1.Ranged := by
    unfold p1
    split
    · exact Stage.resume_ranged x
    · exact x.edit rfl rfl rfl
    · exact Stage.pause_ranged x
  exact y.edit rfl rfl rfl

theorem Stage.setParts_ranged (parts : Vector PartMode 4) (x : p.Ranged) : (p.setParts parts).Ranged := by
  unfold Stage.setParts
  extract_lets leaving p1 p2
  have y1 : p1.Ranged := (Stage.releaseOpen_ranged leaving x).edit rfl rfl rfl
  have y : p2.Ranged := by
    unfold p2
    split
    · exact Stage.handPedals_ranged _ y1
    · exact y1
  clear_value p2
  split
  · next g _ _ =>
    have z : (p2.onPlayer fun q => { q with expected := q.guideKeys q.struck g }).Ranged := y.edit rfl rfl rfl
    dsimp only
    split
    · exact Stage.play_ranged (Stage.endWait_ranged (Stage.report_ranged _ _ _ z))
    · exact z
  · exact y

theorem Stage.seek_ranged (slot : Fin 32) (marker : Nat) (x : p.Ranged) : (p.seek slot marker).Ranged := by
  have y := Stage.releaseAll_ranged x
  unfold Stage.seek
  dsimp only
  exact Stage.rewind_ranged (Stage.readFirst_ranged (y.edit rfl rfl rfl))

theorem Stage.answer_ranged (slot : Fin 32) (x : p.Ranged) : (p.answer slot).Ranged := x.edit rfl rfl rfl

end Stage

end Sys2Proof.Machine
end

section
/-! SUPPORT. The recorder's operations keep the arguments of an open take in range (Table 8-1, R156): one lemma per operation. -/

namespace Sys2Proof.Machine

/-- R156: the arguments of a take whose ranges RECORD_START checks: block count, header tempo and split key. -/
def Recorder.takeArgs (r : Recorder) : Nat × Nat × Nat := (r.blockCount, r.headerTempo, r.splitKey)

/-- R156: they are in range. -/
def TakeArgsFit : Nat × Nat × Nat → Prop
  | (blocks, tempo, split) => 1 ≤ blocks ∧ blocks ≤ 64 ∧ 300 ≤ tempo ∧ tempo ≤ 3000 ∧ split ≤ 88

/-- A take is open only with arguments in range. -/
def Desk.Ranged (d : Desk) : Prop := d.2.state ≠ .idle → TakeArgsFit d.2.takeArgs

section Desk
variable {d t : Desk}

theorem Desk.Ranged.of_idle (idle : d.2.state = .idle) : d.Ranged := fun taken => absurd idle taken

/-- The arguments stand, and no take is opened but from an open one. -/
theorem Desk.Ranged.carry (x : d.Ranged) (open_ : t.2.state ≠ .idle → d.2.state ≠ .idle) (args : t.2.takeArgs = d.2.takeArgs) :
    t.Ranged := fun taken => args ▸ x (open_ taken)

theorem Desk.readClock_ranged (x : d.Ranged) : d.readClock.Ranged := x.carry id rfl

theorem Desk.finish_ranged (full : Bool) (d : Desk) : (d.finish full).Ranged := .of_idle rfl

theorem Desk.turnBlock_ranged (x : d.Ranged) : d.turnBlock.Ranged := x.carry id rfl

theorem Desk.push_ranged (e : ScoreEvent) (x : d.Ranged) : (d.push e).Ranged := by
  have entered : Desk.Ranged (d.1, d.2.enter e) := x.carry id rfl
  unfold Desk.push
  dsimp only
  split
  · split
    · exact Desk.finish_ranged _ _
    · exact entered
  · split
    · exact Desk.turnBlock_ranged entered
    · exact entered

theorem Desk.pushSpacers_ranged (n : Nat) (x : d.Ranged) : (d.pushSpacers n).Ranged := by
  induction n generalizing d with
  | zero => exact x
  | succ n ih =>
    unfold Desk.pushSpacers
    split
    · exact ih (Desk.push_ranged _ x)
    · exact x

theorem Desk.appendAt_ranged (time : Nat) (e : ScoreEvent) (x : d.Ranged) : (d.appendAt time e).Ranged := by
  unfold Desk.appendAt
  dsimp only
  split
  · exact Desk.push_ranged _ (Desk.pushSpacers_ranged _ x)
  · exact Desk.pushSpacers_ranged _ x

theorem Desk.recordKeyDown_ranged (key : Fin 88) (velocity : Nat) (rep : Bool) (x : d.Ranged) :
    (d.recordKeyDown key velocity rep).Ranged := Desk.appendAt_ranged _ _ (x.carry id rfl)

/-- R157: a recording begins from an armed recorder. -/
theorem Desk.begin_ranged (emitted : Vector Nat 3) (first : Option (Fin 88 × Nat × Bool)) (x : d.Ranged)
    (armed : d.2.state ≠ .idle) : (d.begin_ emitted first).Ranged := by
  unfold Desk.begin_
  extract_lets source d0 d1 d2 d3
  have tempo : d1.Ranged := Desk.push_ranged _ (x.carry (fun _ => armed) rfl)
  have pedals : d2.Ranged := by
    unfold d2
    split
    · exact List.foldlRecOn (motive := Desk.Ranged) _ _ tempo fun _ y _ _ => Desk.push_ranged _ y
    · exact tempo
  have noted : d3.Ranged := by
    unfold d3
    split
    · exact Desk.recordKeyDown_ranged _ _ _ pedals
    · exact pedals
  exact noted.carry id rfl

theorem Desk.keyDown_ranged (key : Fin 88) (velocity : Nat) (rep : Bool) (emitted : Vector Nat 3) (x : d.Ranged) :
    (d.keyDown key velocity rep emitted).Ranged := by
  unfold Desk.keyDown
  split
  · exact Desk.recordKeyDown_ranged _ _ _ (Desk.readClock_ranged x)
  · next armed =>
    split
    · exact Desk.begin_ranged _ _ x (by rw [armed]; decide)
    · exact x
  · exact x

theorem Desk.keyUp_ranged (key : Fin 88) (velocity : Nat) (forced : Bool) (x : d.Ranged) : (d.keyUp key velocity forced).Ranged := by
  unfold Desk.keyUp
  split
  · dsimp only
    split
    · exact Desk.appendAt_ranged _ _ (x.carry id rfl)
    · exact Desk.readClock_ranged x
  · exact x

theorem Desk.pedal_ranged (p : Fin 3) (level : Nat) (forced : Bool) (x : d.Ranged) : (d.pedal p level forced).Ranged := by
  unfold Desk.pedal
  split
  · dsimp only
    split
    · exact Desk.appendAt_ranged _ _ (Desk.readClock_ranged x)
    · exact Desk.readClock_ranged x
  · exact x

theorem Desk.mark_ranged (number : Option Nat) (x : d.Ranged) : (d.mark number).Ranged := by
  unfold Desk.mark
  dsimp only
  refine Desk.appendAt_ranged _ _ ?_
  split
  · exact Desk.readClock_ranged x
  · exact x.carry id rfl

/-- R162: a take that is open is closed. -/
theorem Desk.close_ranged (x : d.Ranged) (open_ : d.2.state ≠ .idle) : d.close.Ranged := by
  unfold Desk.close
  extract_lets d0 source d1 stop keys d2 d3
  have released : d2.Ranged := by
    refine List.foldlRecOn (motive := Desk.Ranged) _ _ (x.carry (fun _ => open_) rfl) fun u y k _ => ?_
    split
    · exact Desk.appendAt_ranged _ _ y
    · exact y
  split
  · exact Desk.finish_ranged _ _
  · exact released

theorem Desk.disarm_ranged (d : Desk) : d.disarm.Ranged := .of_idle rfl

theorem Desk.closeForStandby_ranged (x : d.Ranged) : d.closeForStandby.Ranged := by
  unfold Desk.closeForStandby
  split
  · next recording => exact Desk.close_ranged (x.carry id rfl) (by rw [recording]; decide)
  · exact d.disarm_ranged
  · exact x

theorem Desk.detach_ranged (d : Desk) : d.detach.Ranged := .of_idle rfl

theorem Desk.listRead_ranged (emitted : Vector Nat 3) (bytes : Option (List Byte)) (x : d.Ranged) :
    (d.listRead emitted bytes).Ranged := by
  unfold Desk.listRead
  extract_lets source idle
  split
  · next awaits =>
    have armed : d.2.state ≠ .idle := by
      have state : d.2.state = .armed := by simpa using (Bool.and_eq_true_iff.mp awaits).1
      rw [state]
      decide
    split
    · exact .of_idle rfl
    · extract_lets list d1 d2
      split
      · exact .of_idle rfl
      · have listed : d1.Ranged := x.carry id rfl
        have begun : d2.Ranged := by
          unfold d2
          split
          · exact listed
          · exact Desk.begin_ranged _ _ listed armed
        exact begun.carry id rfl
  · exact x

/-- R156: the arguments of a take that is not refused. -/
theorem Desk.start_ranged (slot : Fin 32) {a : List Byte} {s : State} (taken : refuseRecordStart a s = none) (d : Desk) :
    (d.start slot a).Ranged := by
  intro _
  unfold refuseRecordStart at taken
  split at taken
  · cases taken
  · split at taken
    · cases taken
    · next fine =>
      simp only [Bool.or_eq_true, decide_eq_true_eq, not_or, Nat.not_lt] at fine
      obtain ⟨⟨⟨⟨⟨⟨_, some_⟩, few⟩, slow⟩, fast⟩, split⟩, _⟩ := fine
      exact ⟨some_, few, slow, fast, split⟩

end Desk

end Sys2Proof.Machine
end

section
/-! SUPPORT. The values that the part takes are in the ranges of the tables: what a frame, a table and the arguments of a request
that is not refused can bring (R8, R20, R40, R44, R89, R96, R100, R129, R194). -/

namespace Sys2Proof.Machine

/-! ### Frames and keys (R8, R39) -/

theorem u8At_le (bs : List Byte) (i : Nat) : u8At bs i ≤ 255 := Nat.le_of_lt_succ (bs.getD i 0).isLt

theorem u16At_le (bs : List Byte) (i : Nat) : u16At bs i ≤ 65535 := by
  have low := u8At_le bs i
  have high := u8At_le bs (i + 1)
  unfold u16At
  omega

theorem u64At_lt (bs : List Byte) (i : Nat) : u64At bs i < 2 ^ 64 := by
  have first := u16At_le bs i
  have second := u16At_le bs (i + 2)
  have third := u16At_le bs (i + 4)
  have fourth := u16At_le bs (i + 4 + 2)
  unfold u64At u32At
  omega

/-- R8: readings are of ten bits. -/
def ReadingsFit (readings : List Nat) : Prop := ∀ i, readings.getD i 0 ≤ 1023

theorem parseFrame_fit {n : Nat} {bytes : List Byte} {f : Frame} {good : Bool} (parsed : parseFrame n bytes = some (f, good)) :
    ReadingsFit f.readings := by
  unfold parseFrame at parsed
  split at parsed
  · cases parsed
  · obtain ⟨rfl, _⟩ := Prod.mk.inj (Option.some.inj parsed)
    intro i
    rw [List.getD_eq_getElem?_getD, List.getElem?_map]
    cases (List.range n)[i]? with
    | none => exact Nat.zero_le _
    | some j => exact Nat.le_of_lt_succ (Nat.mod_lt _ (by decide))

/-- Table 2-1: the greatest readings of a window are of ten bits. -/
def ExtremesFit (x : Option Extremes) : Prop := ∀ e, x = some e → e.keyHigh ≤ 1023 ∧ e.hammerHigh ≤ 1023

theorem ExtremesFit.none : ExtremesFit none := fun _ no => nomatch no

theorem extend_fit {rawKey rawHammer : Nat} {x : Option Extremes} (key : rawKey ≤ 1023) (hammer : rawHammer ≤ 1023)
    (fit : ExtremesFit x) : ExtremesFit (some (extend rawKey rawHammer x)) := by
  rintro e ⟨⟩
  cases x with
  | none => exact ⟨key, hammer⟩
  | some e =>
    obtain ⟨keys, hammers⟩ := fit e rfl
    exact ⟨Nat.max_le.mpr ⟨keys, key⟩, Nat.max_le.mpr ⟨hammers, hammer⟩⟩

section
variable {c : Calibration} {curve : Vector Nat 127} {r : Readings}

theorem Key.rearmLine_extremes (k : Key) : (k.rearmLine c r).extremes = k.extremes := by
  unfold Key.rearmLine
  split <;> rfl

theorem Key.damperLine_extremes (k : Key) : (k.damperLine c r).1.extremes = k.extremes := by
  unfold Key.damperLine
  split <;> rfl

theorem Key.pressLine_extremes (k : Key) : (k.pressLine c r).extremes = k.extremes := by
  have iff (p : Prop) [Decidable p] (state : KeyState) : (if p then { k with state := state } else k).extremes = k.extremes := by
    split <;> rfl
  unfold Key.pressLine
  split
  · exact iff _ _
  · exact iff _ _
  · exact iff _ _
  · exact iff _ _
  · exact iff _ _
  · rfl

theorem Key.keyStep_extremes (k : Key) : (k.keyStep c r).1.extremes = k.extremes := by
  unfold Key.keyStep
  split
  · exact (Key.rearmLine_extremes _).trans ((Key.damperLine_extremes _).trans (Key.pressLine_extremes k))
  · exact (Key.pressLine_extremes _).trans ((Key.damperLine_extremes _).trans (Key.rearmLine_extremes k))

theorem Key.missedStep_extremes (k : Key) : (k.missedStep c r).extremes = k.extremes := by
  unfold Key.missedStep
  split <;> rfl

theorem Key.beginStrike_extremes (k : Key) : (k.beginStrike c r).1.extremes = k.extremes := by
  unfold Key.beginStrike
  split
  · split <;> rfl
  · rfl

theorem Key.timeStrike_extremes (k : Key) : (k.timeStrike c curve r).1.extremes = k.extremes := by
  unfold Key.timeStrike
  dsimp only
  split
  · split
    · split <;> rfl
    · split
      · rfl
      · split <;> rfl
  · split
    · split <;> rfl
    · split <;> rfl
  · rfl

theorem Key.hammerStep_extremes (k : Key) : (k.hammerStep c curve r).1.extremes = k.extremes :=
  (Key.timeStrike_extremes _).trans ((Key.beginStrike_extremes _).trans (Key.missedStep_extremes k))

theorem Key.track_fit {stamp : Word32} {rawKey rawHammer : Nat} {k : Key} (key : rawKey ≤ 1023) (hammer : rawHammer ≤ 1023)
    (fit : ExtremesFit k.extremes) : ExtremesFit (k.track c curve stamp rawKey rawHammer).1.extremes := by
  by_cases disabled : k.state = .disabled
  · rw [Key.track_of_disabled disabled]
    exact fit
  · by_cases calibrating : k.state = .calibrating
    · rw [Key.track_of_calibrating calibrating]
      exact extend_fit key hammer fit
    · have same : (k.track c curve stamp rawKey rawHammer).1.extremes = k.extremes := by
        rw [Key.track_of_playing disabled calibrating]
        exact (Key.hammerStep_extremes _).trans (Key.keyStep_extremes k)
      rw [same]
      exact fit

end

/-! ### Tables (R20, R40, R44) -/

/-- R40: the rest and far values of a sensor that has travelled far enough. -/
theorem reorient_fit {rest far low high : Nat} (travel : 200 ≤ high - low) (top : high ≤ 1023) :
    (reorient rest far low high).1 ≤ 1023 ∧ (reorient rest far low high).2 ≤ 1023 ∧
      200 ≤ distance (reorient rest far low high).1 (reorient rest far low high).2 := by
  unfold reorient distance
  split
  · exact ⟨by omega, top, by dsimp only; omega⟩
  · exact ⟨top, by omega, by dsimp only; omega⟩

theorem Calibration.measured_valid {e : Extremes} {c new : Calibration} (fit : e.keyHigh ≤ 1023 ∧ e.hammerHigh ≤ 1023)
    (valid : c.valid = true) (measured : c.measured e = some new) : new.valid = true := by
  obtain ⟨keyTop, hammerTop⟩ := fit
  unfold Calibration.measured at measured
  split at measured
  · next travel =>
    simp only [Bool.and_eq_true, decide_eq_true_eq] at travel
    obtain ⟨keyTravel, hammerTravel⟩ := travel
    obtain rfl := Option.some.inj measured
    obtain ⟨key1, key2, key3⟩ := reorient_fit (rest := c.keyRest) (far := c.keyBottom) keyTravel keyTop
    obtain ⟨hammer1, hammer2, hammer3⟩ := reorient_fit (rest := c.hammerRest) (far := c.hammerTop) hammerTravel hammerTop
    simp only [Calibration.valid, Bool.and_eq_true, decide_eq_true_eq, and_assoc] at valid ⊢
    obtain ⟨_, _, _, _, press, damper, rearm, clear, gateLow, gateHigh, _⟩ := valid
    exact ⟨key1, key2, hammer1, hammer2, press, damper, rearm, clear, gateLow, gateHigh, key3, hammer3⟩
  · cases measured

/-- R44: a curve that does not increase, with entries of 16 bits. -/
def CurveFits (curve : Vector Nat 127) : Prop := ∀ i j : Fin 127, i.val ≤ j.val → curve[j] ≤ curve[i] ∧ curve[i] ≤ 65535

theorem curveEntry_antitone {table : List Byte} (good : curveFault table = none) {i j : Nat} (le : i ≤ j) (last : j ≤ 126) :
    curveEntry table j ≤ curveEntry table i := by
  have falls (n : Nat) (below : n < 126) : curveEntry table (n + 1) ≤ curveEntry table n := by
    have none_ := Option.map_eq_none_iff.mp good
    simpa using List.find?_eq_none.mp none_ n (List.mem_range.mpr below)
  induction j, le using Nat.le_induction with
  | base => exact Nat.le_refl _
  | succ n _ ih => exact (falls n (by omega)).trans (ih (by omega))

theorem curveFault_fits {table : List Byte} (good : curveFault table = none) :
    CurveFits (Vector.ofFn fun i : Fin 127 => curveEntry table i.val) := by
  intro i j le
  simp only [Fin.getElem_fin, Vector.getElem_ofFn]
  exact ⟨curveEntry_antitone good le (by omega), u16At_le _ _⟩

/-! ### Arguments -/

/-- R129: the arguments of PLAY_START and PLAY_NEXT. -/
theorem TakeRecord.parse_inRange {a : List Byte} {x : TakeRecord} (parsed : TakeRecord.parse a = some x) : x.inRange := by
  have byte (b : Bool) (i m : Nat) (is : (if b then some (u8At a i) else none) = some m) : m ≤ 255 := by
    split at is
    · exact Option.some.inj is ▸ u8At_le a i
    · cases is
  have same : (BitVec.ofNat 64 (u64At a 0)).toNat = u64At a 0 := by
    rw [BitVec.toNat_ofNat, Nat.mod_eq_of_lt (u64At_lt a 0)]
  cases parts : parseParts (u8At a 13) with
  | none => simp [TakeRecord.parse, parts] at parsed
  | some parts' =>
    simp only [TakeRecord.parse, parts, Option.ite_none_left_eq_some, Bool.or_eq_true, decide_eq_true_eq, not_or, Nat.not_lt,
      Bool.and_eq_true, not_and, ne_eq, not_not, beq_iff_eq, Option.some.injEq] at parsed
    obtain ⟨⟨⟨⟨⟨⟨⟨some_, aligned⟩, slow⟩, fast⟩, timeout⟩, early⟩, loops⟩, rfl⟩ := parsed
    refine ⟨fun zero => some_ ?_, (congrArg (· % 4096) same).trans aligned, slow, fast, timeout, early, u8At_le a 20, byte _ 17,
      fun m is => ⟨byte _ 18 m is, fun other => loops ?_ (Eq.trans is other.symm)⟩, byte _ 19⟩
    · exact same.symm.trans (congrArg BitVec.toNat zero)
    · exact Option.isSome_iff_exists.mpr ⟨m, is⟩

/-- R96: the arguments of METRONOME. -/
theorem MetronomeSettings.parse_inRange {a : List Byte} {m : MetronomeSettings} (parsed : MetronomeSettings.parse a = some m) :
    m.inRange := by
  unfold MetronomeSettings.parse at parsed
  split at parsed
  · cases parsed
  · dsimp only at parsed
    split at parsed
    · cases parsed
    · next fine =>
      obtain rfl := Option.some.inj parsed
      simp only [Bool.or_eq_true, decide_eq_true_eq, not_or, Nat.not_lt] at fine
      obtain ⟨⟨⟨⟨⟨⟨⟨⟨⟨⟨tempo, tempo'⟩, beats⟩, beats'⟩, pitch⟩, pitch'⟩, accent⟩, accent'⟩, click⟩, click'⟩, volume⟩ := fine
      exact ⟨tempo, tempo', beats, beats', pitch, pitch', accent, accent', click, click', volume⟩

/-- R100: the configuration of a RAIL_CONFIG that is not refused. -/
theorem refuseRailConfig_valid {a : List Byte} {s : State} (taken : refuseRailConfig a s = none) (old : RailConfig) :
    ((RailConfig.parse a).getD old).valid = true := by
  unfold refuseRailConfig at taken
  split at taken
  · cases taken
  · split at taken
    · cases taken
    · next c parsed =>
      split at taken
      · cases taken
      · next fine =>
        rw [parsed, Option.getD_some]
        by_contra invalid
        exact fine (by simp [Bool.not_eq_true _ ▸ invalid])

/-- R89: the volume settings are in range. -/
structure Output.Fits (o : Output) : Prop where
  setting : o.setting ≤ 127
  current : o.current ≤ 127
  gain : o.gain ≤ 960

theorem Output.period_fits {o : Output} (voices click : Int) (x : o.Fits) : (o.period voices click).Fits := by
  obtain ⟨setting, current, gain⟩ := x
  refine ⟨setting, ?_, ?_⟩
  · show o.stepVolume ≤ 127
    unfold Output.stepVolume
    split
    · omega
    · split <;> omega
  · show o.stepGain ≤ 960
    unfold Output.stepGain
    split
    · omega
    · exact Nat.min_le_left _ _

theorem Output.configure_fits {o : Output} {a : List Byte} (taken : refuseOutputConfig a = none) (x : o.Fits) :
    (o.configure a).Fits := by
  refine ⟨?_, x.current, x.gain⟩
  unfold refuseOutputConfig at taken
  split at taken
  · cases taken
  · next fine =>
    simp only [Bool.or_eq_true, Bool.and_eq_true, decide_eq_true_eq, not_or, not_and, Nat.not_lt] at fine
    obtain ⟨volume, _⟩ := fine
    show (if bitOf (u8At a 0) 0 then u8At a 1 else o.setting) ≤ 127
    split
    · next set => exact volume set
    · exact x.setting

/-- R194: the codes of the wake delay and the wake width are in range. -/
def Standby.Fits (b : Standby) : Prop := b.delay ≤ 50 ∧ 1 ≤ b.width ∧ b.width ≤ 20

theorem Standby.configure_fits {a : List Byte} {s : State} {b : Standby} (taken : refuseStandbyEnter a s = none) (x : b.Fits) :
    (b.configure a).Fits := by
  unfold Standby.configure
  split
  · next set =>
    unfold refuseStandbyEnter at taken
    split at taken
    · cases taken
    · next fine =>
      simp only [set, Bool.true_and, Bool.or_eq_true, decide_eq_true_eq, not_or, Nat.not_lt] at fine
      obtain ⟨⟨delay, narrow⟩, wide⟩ := fine
      exact ⟨delay, narrow, wide⟩
  · exact x

theorem Standby.wakeEvent_fits {now : Nat} {cause : WakeCause} {b : Standby} (x : b.Fits) : (b.wakeEvent now cause).Fits := x

theorem Standby.scanKeys_fits (now : Nat) (lane : Fin 8) (last readings : List Nat) {b : Standby} (x : b.Fits) :
    (b.scanKeys now lane last readings).Fits := by
  refine List.foldlRecOn (motive := Standby.Fits) _ _ x fun u y j _ => ?_
  split
  · split
    · exact y
    · exact y
  · exact y

/-- R34: the levels of a SENSE_CONFIG that is not refused. -/
theorem refuseSenseConfig_levels {a : List Byte} (taken : refuseSenseConfig a = none) (set : bitOf (u8At a 0) 1 = true) (i : Fin 9) :
    u8At a (12 + i.val) ≤ 15 := by
  unfold refuseSenseConfig at taken
  split at taken
  · cases taken
  · next fine =>
    rw [set, Bool.true_and, List.any_eq_true] at fine
    by_contra above
    exact fine ⟨i.val, List.mem_range.mpr i.isLt, decide_eq_true (Nat.not_le.mp above)⟩

/-- R57: the pedal group of a PEDAL_CONFIG that is not refused. -/
theorem refusePedalConfig_valid {a : List Byte} (taken : refusePedalConfig a = none) (set : bitOf (u8At a 0) 0 = true) :
    (PedalSettings.parse a).valid = true := by
  unfold refusePedalConfig at taken
  split at taken
  · cases taken
  · next fine =>
    by_contra invalid
    exact fine (by simp [set, Bool.not_eq_true _ ▸ invalid])

end Sys2Proof.Machine
end

section
/-! SUPPORT. The settings stay in the ranges that the tables give them: the operations on the whole state, up to the lanes
(Tables 1-1, 2-1, 3-1, 4-1, 5-1, 5-2, 6-2, 7-1, 8-1). -/

namespace Sys2Proof.Machine

/-- What `SettingsInRange` speaks of. -/
structure State.Settings where
  railConfig : RailConfig
  calibration : Vector Calibration 88
  keys : Vector Key 88
  pedals : PedalSettings
  levels : Nat × Nat
  volume : Nat × Nat × Nat
  beats : MetronomeSettings
  curve : Vector Nat 127
  lanes : Vector Lane 9
  choice : Player.Choice
  take : RecorderState × Nat × Nat × Nat
  wake : Nat × Nat

/-- What `SettingsInRange` speaks of. -/
def State.settings (s : State) : State.Settings :=
  { railConfig := s.railConfig, calibration := s.calibration, keys := s.keys, pedals := s.pedalSettings, levels := s.voice.levels
    volume := (s.output.setting, s.output.current, s.output.gain), beats := s.metronome.settings, curve := s.curve
    lanes := s.lanes, choice := s.player.choice, take := (s.recorder.state, s.recorder.takeArgs)
    wake := (s.standby.delay, s.standby.width) }

/-- The settings of a state are in range. -/
abbrev State.Ranged (s : State) : Prop := SettingsInRange s

variable {s t : State}

theorem State.Ranged.choice (x : s.Ranged) : s.player.choice.Fits := by
  refine ⟨x.tempo, x.take, fun take waits => ?_⟩
  obtain ⟨n, some_, rfl⟩ := Option.map_eq_some_iff.mp waits
  exact x.nextTake n some_

theorem State.Ranged.taken (x : s.Ranged) : Desk.Ranged (s.hub, s.recorder) := x.recorder

theorem State.Ranged.stage (x : s.Ranged) : s.stage.Ranged := ⟨x.voice, x.metronome, x.choice⟩

/-- What changes none of the settings. -/
theorem State.Ranged.edit (x : s.Ranged) (same : t.settings = s.settings) : t.Ranged := by
  obtain ⟨railConfig, calibration, keys, pedals, levels, volume, beats, curve, lanes, choice, take, wake⟩ :=
    State.Settings.mk.inj same
  obtain ⟨setting, current, gain⟩ : t.output.setting = s.output.setting ∧ t.output.current = s.output.current ∧
    t.output.gain = s.output.gain := by simpa using volume
  obtain ⟨state, args⟩ := Prod.mk.inj take
  obtain ⟨delay, width⟩ := Prod.mk.inj wake
  have choice' : t.player.choice.Fits := choice ▸ x.choice
  have taken : Desk.Ranged (t.hub, t.recorder) := x.taken.carry (fun open_ => state ▸ open_) args
  exact
    { rail := railConfig ▸ x.rail, calibration := calibration ▸ x.calibration, extremes := keys ▸ x.extremes
      pedals := pedals ▸ x.pedals, voice := (levels ▸ x.voice : VoiceLevelsFit t.voice.levels)
      output := by rw [setting, current, gain]; exact x.output
      metronome := beats ▸ x.metronome, curve := curve ▸ x.curve, leds := lanes ▸ x.leds
      tempo := choice'.tempo, take := choice'.take, nextTake := fun n some_ => choice'.waiting some_
      recorder := taken, wake := by rw [delay, width]; exact x.wake }

/-- The pieces that hold settings. -/
def settingPieces : List Piece :=
  [.railConfig, .calibration, .keys, .pedalSettings, .voice, .output, .metronome, .curve, .lanes, .player, .recorder, .standby]

/-- Work outside them. -/
theorem Work.ranged {l : List Piece} (x : Work l s t) (off : ∀ p ∈ settingPieces, p ∉ l) (y : s.Ranged) : t.Ranged := by
  have same (p : Piece) (mem : p ∈ settingPieces) : p.same s t := x.same p (off p mem)
  have railConfig : t.railConfig = s.railConfig := same .railConfig (by decide)
  have calibration : t.calibration = s.calibration := same .calibration (by decide)
  have keys : t.keys = s.keys := same .keys (by decide)
  have pedals : t.pedalSettings = s.pedalSettings := same .pedalSettings (by decide)
  have voice : t.voice = s.voice := same .voice (by decide)
  have output : t.output = s.output := same .output (by decide)
  have metronome : t.metronome = s.metronome := same .metronome (by decide)
  have curve : t.curve = s.curve := same .curve (by decide)
  have lanes : t.lanes = s.lanes := same .lanes (by decide)
  have player : t.player = s.player := same .player (by decide)
  have recorder : t.recorder = s.recorder := same .recorder (by decide)
  have standby : t.standby = s.standby := same .standby (by decide)
  refine y.edit ?_
  simp only [State.settings, railConfig, calibration, keys, pedals, voice, output, metronome, curve, lanes, player, recorder, standby]

theorem State.Ranged.foldl {α : Type} {f : State → α → State} (one : ∀ (u : State) b, u.Ranged → (f u b).Ranged)
    (l : List α) (x : s.Ranged) : (l.foldl f s).Ranged :=
  List.foldlRecOn (motive := State.Ranged) l f x fun u y b _ => one u b y

/-! ### The lifts -/

theorem State.mapHub_ranged {f : Hub → Hub} (x : s.Ranged) : (s.mapHub f).Ranged := x.edit rfl

theorem State.mapMetronome_ranged {f : Beater → Beater} (one : (f (s.hub, s.metronome)).2.settings.inRange) (x : s.Ranged) :
    (s.mapMetronome f).Ranged := { x with metronome := one }

/-- A metronome operation that leaves the settings. -/
theorem State.mapMetronome_ranged_of_same {f : Beater → Beater} (same : ∀ b : Beater, (f b).2.settings = b.2.settings)
    (x : s.Ranged) : (s.mapMetronome f).Ranged := State.mapMetronome_ranged (same (s.hub, s.metronome) ▸ x.metronome) x

/-- The rail controller's operations reach the voice engine's copy of AT_SILENT alone. -/
theorem State.mapDeck_ranged {f : Deck → Deck} (x : s.Ranged) : (s.mapDeck f).Ranged := x.edit rfl

theorem State.mapVoice_ranged {f : Engine → Engine} (one : VoiceLevelsFit (f (s.hub, s.voice)).levels) (x : s.Ranged) :
    (s.mapVoice f).Ranged := { x with voice := one }

/-- An engine operation that leaves the gain and DAMP_FULL. -/
theorem State.mapVoice_ranged_of_same {f : Engine → Engine} (same : ∀ e : Engine, (f e).levels = e.levels) (x : s.Ranged) :
    (s.mapVoice f).Ranged := State.mapVoice_ranged (same (s.hub, s.voice) ▸ x.voice) x

theorem State.updateVoice_ranged {f : VoiceEngine → VoiceEngine} (same : ∀ ve, (f ve).levels = ve.levels) (x : s.Ranged) :
    (s.updateVoice f).Ranged := { x with voice := (same s.voice ▸ x.voice : VoiceLevelsFit (f s.voice).levels) }

theorem State.mapRecorder_ranged {f : Desk → Desk} (one : ∀ d : Desk, d.Ranged → (f d).Ranged) (x : s.Ranged) :
    (s.mapRecorder f).Ranged := { x with recorder := one (s.hub, s.recorder) x.taken }

theorem State.mapStage_ranged {f : Stage → Stage} (one : ∀ p : Stage, p.Ranged → (f p).Ranged) (x : s.Ranged) :
    (s.mapStage f).Ranged := by
  have y : (f s.stage).Ranged := one s.stage x.stage
  exact { x with
    voice := y.levels, metronome := y.beats, tempo := y.choice.tempo, take := y.choice.take
    nextTake := fun n some_ => y.choice.waiting some_ }

theorem State.whenUp_ranged {f : State → State} (one : ∀ u : State, u.Ranged → (f u).Ranged) (x : s.Ranged) :
    (s.whenUp f).Ranged := by
  unfold State.whenUp
  split
  · exact one s x
  · exact x

theorem State.onArrival_ranged {rows : ReadTag → Bool} {id : Nat} {outcome : ReadOutcome}
    {handle : ReadTag → Option (List Byte) → State → State}
    (one : ∀ tag bytes (u : State), u.Ranged → (handle tag bytes u).Ranged) (x : s.Ranged) :
    (s.onArrival rows id outcome handle).Ranged := by
  unfold State.onArrival
  split
  · exact x
  · split
    · split
      · exact x.edit rfl
      · exact one _ _ _ (x.edit rfl)
    · exact x

/-- R184: the owner acts only on a request that it does not refuse. -/
theorem State.visitSlot_ranged {slot : Fin 32} {kind : RequestKind} {tag : Word16} {args : List Byte} {refuse : Option ResultCode}
    {act : State → State} (one : refuse = none → ∀ u : State, u.Ranged → (act u).Ranged) (x : s.Ranged) :
    (s.visitSlot slot kind tag args refuse act).Ranged := by
  unfold State.visitSlot
  split
  · exact x
  · split
    · exact x.edit rfl
    · split
      · exact State.mapHub_ranged x
      · exact one rfl _ (State.mapHub_ranged x)

/-! ### The key tracker (R29 to R45) -/

theorem State.setKey_ranged (k : Fin 88) {key : Key} (fit : ExtremesFit key.extremes) (x : s.Ranged) : (s.setKey k key).Ranged := by
  refine { x with extremes := fun j => ?_ }
  have kept : ExtremesFit (if j = k then key else s.keys[j]).extremes := by
    split
    · exact fit
    · exact x.extremes j
  rw [← keys_set_get] at kept
  exact kept

theorem State.reevalQuiet_ranged (x : s.Ranged) : s.reevalQuiet.Ranged := State.mapDeck_ranged x

theorem State.noteDown_ranged (k : Fin 88) (velocity : Nat) (rep : Bool) (x : s.Ranged) : (s.noteDown k velocity rep).Ranged := by
  unfold State.noteDown
  refine State.mapStage_ranged (fun _ => Stage.liveStrike_ranged k) ?_
  refine State.mapRecorder_ranged (fun _ => Desk.keyDown_ranged k velocity rep _) ?_
  exact State.mapHub_ranged (State.mapVoice_ranged_of_same (Engine.noteOn_levels k .live velocity) x)

theorem State.noteUp_ranged (k : Fin 88) (velocity strike : Nat) (forced : Bool) (x : s.Ranged) :
    (s.noteUp k velocity strike forced).Ranged := by
  unfold State.noteUp
  refine State.mapRecorder_ranged (fun _ => Desk.keyUp_ranged k velocity forced) (State.mapHub_ranged ?_)
  exact State.updateVoice_ranged (VoiceEngine.noteOff_levels k .live) x

theorem State.handEvent_ranged (k : Fin 88) (e : KeyEvent) (x : s.Ranged) : (s.handEvent k e).Ranged := by
  cases e with
  | down => exact State.noteDown_ranged _ _ _ x
  | up => exact State.noteUp_ranged _ _ _ _ x
  | launch => exact State.mapDeck_ranged x

theorem State.trackKey_ranged (k : Fin 88) {rawKey rawHammer : Nat} (key : rawKey ≤ 1023) (hammer : rawHammer ≤ 1023)
    (x : s.Ranged) : (s.trackKey k rawKey rawHammer).Ranged :=
  .foldl (fun _ e y => State.handEvent_ranged k e y) _ (State.setKey_ranged _ (Key.track_fit key hammer (x.extremes k)) x)

theorem State.keyFrame_ranged (lane : Fin 8) {readings : List Nat} (fit : ReadingsFit readings) (x : s.Ranged) :
    (s.keyFrame lane readings).Ranged :=
  State.reevalQuiet_ranged (.foldl (fun _ _ y => State.trackKey_ranged _ (fit _) (fit _) y) _ x)

theorem State.forceKey_ranged (k : Fin 88) {key : Key} (fit : ExtremesFit key.extremes) (x : s.Ranged) :
    (s.forceKey k key).Ranged := by
  unfold State.forceKey
  dsimp only
  split
  · exact State.noteUp_ranged _ _ _ _ (State.setKey_ranged _ fit x)
  · exact State.setKey_ranged _ fit x

theorem State.setCapture_ranged (keys : List (Fin 88)) (x : s.Ranged) : (s.setCapture keys).Ranged :=
  x.edit (by simp only [State.settings, State.setCapture, VoiceEngine.setCapture_levels])

theorem State.uncapture_ranged (k : Fin 88) (x : s.Ranged) : (s.uncapture k).Ranged := by
  unfold State.uncapture
  split
  · exact State.setCapture_ranged _ x
  · exact x

theorem State.loseKey_ranged (k : Fin 88) (x : s.Ranged) : (s.loseKey k).Ranged := by
  unfold State.loseKey
  dsimp only
  split
  · exact State.uncapture_ranged _ (State.forceKey_ranged _ .none x)
  · exact State.forceKey_ranged _ .none x

theorem State.keyLaneLost_ranged (lane : Fin 8) (x : s.Ranged) : (s.keyLaneLost lane).Ranged :=
  State.reevalQuiet_ranged (.foldl (fun _ _ y => State.loseKey_ranged _ y) _ x)

theorem State.keyLaneUp_ranged (lane : Fin 8) (x : s.Ranged) : (s.keyLaneUp lane).Ranged := by
  refine State.reevalQuiet_ranged (.foldl (fun u j y => ?_) _ x)
  dsimp only
  split
  · exact y
  · exact State.setKey_ranged _ (y.extremes _) y

theorem State.maskKey_ranged (k : Fin 88) (masked : Bool) (x : s.Ranged) : (s.maskKey k masked).Ranged := by
  unfold State.maskKey
  dsimp only
  split
  · exact x
  · split
    · exact State.forceKey_ranged _ .none x
    · exact State.setKey_ranged _ (x.extremes k) x

theorem State.openWindow_ranged (w : CalibWindow) (x : s.Ranged) : (s.openWindow w).Ranged := by
  have opened : ((keyRange w.first w.last).foldl (fun s k => s.openKey k) s).Ranged := by
    refine .foldl (fun u k y => ?_) _ x
    unfold State.openKey
    dsimp only
    split
    · exact y
    · exact State.forceKey_ranged _ .none y
  exact State.mapHub_ranged (opened.edit rfl)

theorem State.setKeys_ranged {keys : Vector Key 88} (fit : ∀ k : Fin 88, ExtremesFit keys[k].extremes) (x : s.Ranged) :
    State.Ranged { s with keys := keys } := { x with extremes := fit }

theorem State.Ranged.setCalibration {table : Vector Calibration 88} (x : s.Ranged) (valid : ∀ k : Fin 88, table[k].valid = true) :
    State.Ranged { s with calibration := table } := { x with calibration := valid }

theorem State.Ranged.setCurve {curve : Vector Nat 127} (x : s.Ranged) (fits : CurveFits curve) :
    State.Ranged { s with curve := curve } := { x with curve := fits }

theorem endCalibrating_fit {keys : Vector Key 88} (fit : ∀ k : Fin 88, ExtremesFit keys[k].extremes) (k : Fin 88) :
    ExtremesFit (endCalibrating keys)[k].extremes := by
  rw [endCalibrating_get]
  split
  · exact .none
  · exact fit k

/-- R40: the records after a window. -/
theorem State.measuredTable_valid (x : s.Ranged) (k : Fin 88) : s.measuredTable[k].valid = true := by
  have measured (new : Calibration) (is : s.measuredKey k = some new) : new.valid = true := by
    unfold State.measuredKey at is
    split at is
    · obtain ⟨e, extremes, made⟩ := Option.bind_eq_some_iff.mp is
      exact Calibration.measured_valid (x.extremes k e extremes) (x.calibration k) made
    · cases is
  have entry : s.measuredTable[k] = (s.measuredKey k).getD s.calibration[k] := by simp [State.measuredTable]
  rw [entry]
  cases is : s.measuredKey k with
  | none => exact x.calibration k
  | some new => exact measured new is

theorem State.finishWindow_ranged (w : CalibWindow) (x : s.Ranged) : (s.finishWindow w).Ranged := by
  have ended := (State.setKeys_ranged (endCalibrating_fit x.extremes) x).setCalibration (State.measuredTable_valid x)
  exact State.reevalQuiet_ranged (State.mapHub_ranged (ended.edit rfl))

theorem State.endTableLoad_ranged (slot : Fin 32) (code : ResultCode) (data : List Byte) (x : s.Ranged) :
    (s.endTableLoad slot code data).Ranged :=
  (State.endTableLoad_work slot code data (List.Subset.refl _) (.refl _ s)).ranged (by decide) x

theorem State.reloadKey_ranged (k : Fin 88) (x : s.Ranged) : (s.reloadKey k).Ranged := by
  unfold State.reloadKey
  dsimp only
  split
  · exact State.setKey_ranged _ (x.extremes k) x
  · exact State.forceKey_ranged _ .none x

theorem State.applyCalib_ranged (slot : Fin 32) (table : List Byte) (x : s.Ranged) : (s.applyCalib slot table).Ranged := by
  unfold State.applyCalib
  dsimp only
  split
  · exact State.endTableLoad_ranged _ _ _ x
  · next good =>
    refine State.endTableLoad_ranged _ _ _ (State.reevalQuiet_ranged (State.mapHub_ranged ?_))
    refine .foldl (fun _ k y => State.reloadKey_ranged k y) _ (x.setCalibration fun k => ?_)
    have valid := List.find?_eq_none.mp good k.val (List.mem_range.mpr k.isLt)
    simpa using valid

theorem State.applyCurve_ranged (slot : Fin 32) (table : List Byte) (x : s.Ranged) : (s.applyCurve slot table).Ranged := by
  unfold State.applyCurve
  split
  · exact State.endTableLoad_ranged _ _ _ x
  · next good => exact State.endTableLoad_ranged _ _ _ (x.setCurve (curveFault_fits good))

theorem State.tableRead_ranged (tag : ReadTag) (bytes : Option (List Byte)) (x : s.Ranged) : (s.tableRead tag bytes).Ranged := by
  unfold State.tableRead
  split
  · split
    · exact State.endTableLoad_ranged _ _ _ (State.mapHub_ranged x)
    · dsimp only
      split
      · exact x.edit rfl
      · split
        · exact State.applyCalib_ranged _ _ x
        · exact State.applyCurve_ranged _ _ x
  · exact x

/-! ### The pedal and input block (R46 to R58) -/

theorem State.pedalEvent_ranged (p : Fin 3) (level detail : Nat) (forced : Bool) (x : s.Ranged) :
    (s.pedalEvent p level detail forced).Ranged :=
  State.mapRecorder_ranged (fun _ => Desk.pedal_ranged p level forced) (State.mapHub_ranged x)

theorem State.emitPedal_ranged (p : Fin 3) (changed pressed : Bool) (x : s.Ranged) : (s.emitPedal p changed pressed).Ranged := by
  unfold State.emitPedal
  dsimp only
  split
  · exact State.pedalEvent_ranged _ _ _ _ (x.edit rfl)
  · exact x

theorem State.pedalFrame_ranged (readings : List Nat) (x : s.Ranged) : (s.pedalFrame readings).Ranged := by
  unfold State.pedalFrame
  extract_lets level sostenuto soft sostenutoChanged softChanged pedals s1 s2 s3
  have first : s1.Ranged := x.edit (by simp [s1, State.settings])
  have second : s2.Ranged := by
    unfold s2
    split
    · exact State.setCapture_ranged _ first
    · exact first
  have third : s3.Ranged := by
    unfold s3
    split
    · exact State.updateVoice_ranged (VoiceEngine.setSoft_levels _ _) second
    · exact second
  exact State.emitPedal_ranged _ _ _ (State.emitPedal_ranged _ _ _ (State.emitPedal_ranged _ _ _ third))

theorem State.pedalLaneLost_ranged (x : s.Ranged) : s.pedalLaneLost.Ranged := by
  unfold State.pedalLaneLost
  refine State.pedalEvent_ranged _ _ _ _ (State.pedalEvent_ranged _ _ _ _ (State.pedalEvent_ranged _ _ _ _ ?_))
  exact x.edit (by simp [State.settings])

/-- R97: only the switch of the settings changes. -/
theorem State.metronomeToggle_ranged (x : s.Ranged) : s.metronomeToggle.Ranged :=
  State.mapMetronome_ranged (Beater.toggle_settings _ _ (s.hub, s.metronome) ▸ x.metronome) x

theorem State.switchAction_ranged (action : SwitchAction) (x : s.Ranged) : (s.switchAction action).1.Ranged := by
  unfold State.switchAction
  split
  · exact x
  · split
    · exact x
    · split
      · split
        · exact State.mapStage_ranged (fun _ => Stage.toggle_ranged) x
        · exact x
      · exact State.metronomeToggle_ranged x
      · split
        · exact State.mapRecorder_ranged (fun _ => Desk.mark_ranged none) x
        · exact x
      · split
        · exact State.mapDeck_ranged x
        · exact x
      · exact x

theorem State.acceptHeld_ranged (i : Fin 2) (x : s.Ranged) : (s.acceptHeld i).Ranged := by
  have stage (g : Vector SwitchStage 2) : State.Ranged { s with switches := g } := x.edit rfl
  unfold State.acceptHeld
  split
  · unfold State.acceptSwitch
    dsimp only
    split
    · split
      · split
        · exact x.edit rfl
        · exact stage _
      · split
        · exact State.mapHub_ranged (State.switchAction_ranged _ (stage _))
        · exact stage _
    · exact stage _
  · exact x

theorem State.setSwitch_ranged (i : Fin 2) (n : Nat) (x : s.Ranged) : (s.setSwitch i n).Ranged := by
  unfold State.setSwitch
  split
  · exact x
  · exact x.edit rfl

theorem VoiceEngine.setDamperLimits_levels (free hold : Nat) (ve : VoiceEngine) :
    (ve.setDamperLimits free hold).levels = ve.levels := rfl

theorem State.setPedals_ranged {p : PedalSettings} (valid : p.valid = true) (x : s.Ranged) : (s.setPedals p).Ranged :=
  { x with pedals := valid }

theorem actPedalConfig_ranged (slot : Fin 32) {a : List Byte} (taken : refusePedalConfig a = none) (x : s.Ranged) :
    (actPedalConfig slot a s).Ranged := by
  unfold actPedalConfig
  extract_lets s1 s2
  have settings : s1.Ranged := by
    unfold s1
    split
    · next set => exact State.setPedals_ranged (refusePedalConfig_valid taken set) x
    · exact x
  have switches : s2.Ranged := by
    unfold s2
    split
    · exact State.acceptHeld_ranged _ (State.acceptHeld_ranged _ (State.setSwitch_ranged _ _ (State.setSwitch_ranged _ _ settings)))
    · exact settings
  exact State.mapHub_ranged switches

/-! ### The lane controller (R3 to R18) -/

theorem State.setLane_ranged (n : Fin 9) {l : Lane} (led : l.ledLevel ≤ 15) (x : s.Ranged) : (s.setLane n l).Ranged := by
  refine { x with leds := fun i => ?_ }
  rw [State.setLane_lanes]
  by_cases same : n = i
  · subst same
    simpa using led
  · have other : n.val ≠ i.val := fun e => same (Fin.ext e)
    simpa [other] using x.leds i

theorem State.laneLost_ranged (n : Fin 9) (x : s.Ranged) : (s.laneLost n).Ranged := by
  unfold State.laneLost
  split
  · exact State.keyLaneLost_ranged _ x
  · exact State.pedalLaneLost_ranged x

theorem State.laneUp_ranged (n : Fin 9) (x : s.Ranged) : (s.laneUp n).Ranged := by
  unfold State.laneUp
  split
  · exact State.keyLaneUp_ranged _ x
  · exact x.edit rfl

theorem State.laneReadings_ranged (n : Fin 9) {readings : List Nat} (fit : ReadingsFit readings) (x : s.Ranged) :
    (s.laneReadings n readings).Ranged := by
  unfold State.laneReadings
  split
  · exact State.keyFrame_ranged _ fit x
  · exact State.pedalFrame_ranged _ x

theorem State.changeLane_ranged (n : Fin 9) {l : Lane} (d : LaneDetail) (led : l.ledLevel ≤ 15) (x : s.Ranged) :
    (s.changeLane n l d).Ranged := by
  unfold State.changeLane
  dsimp only
  refine State.mapHub_ranged (State.reevalQuiet_ranged (State.setLane_ranged _ led ?_))
  split
  · exact State.laneLost_ranged _ x
  · exact x

theorem State.moveLane_ranged (n : Fin 9) {l : Lane} (d : LaneDetail) (led : l.ledLevel ≤ 15) (x : s.Ranged) :
    (s.moveLane n l d).Ranged := by
  unfold State.moveLane
  split
  · exact State.setLane_ranged _ led x
  · exact State.changeLane_ranged _ _ led x

theorem State.enterRecovering_ranged (n : Fin 9) (d : LaneDetail) (x : s.Ranged) : (s.enterRecovering n d).Ranged := by
  unfold State.enterRecovering
  dsimp only
  split
  · exact State.changeLane_ranged n _ (x.leds n) x
  · split
    · exact State.changeLane_ranged n _ (x.leds n) x
    · exact State.changeLane_ranged n _ (x.leds n) x

theorem State.stepFails_ranged (n : Fin 9) (x : s.Ranged) : (s.stepFails n).Ranged := by
  unfold State.stepFails
  dsimp only
  split
  · exact State.changeLane_ranged n _ (x.leds n) x
  · exact State.enterRecovering_ranged _ _ x
  · exact x

theorem State.exchangeSucceeds_ranged (n : Fin 9) (e : LaneExchange) (v : Word16) (x : s.Ranged) :
    (s.exchangeSucceeds n e v).Ranged := by
  unfold State.exchangeSucceeds
  dsimp only
  split
  · split
    · exact State.setLane_ranged n (x.leds n) x
    · exact State.changeLane_ranged n _ (x.leds n) x
    · exact State.stepFails_ranged _ (State.setLane_ranged n (x.leds n) x)
  · exact State.setLane_ranged n (x.leds n) x
  · split
    · exact State.setLane_ranged n (x.leds n) x
    · split
      · exact State.stepFails_ranged _ x
      · exact State.setLane_ranged n (x.leds n) x
  · exact State.setLane_ranged n (x.leds n) x
  · exact x

theorem State.retryExchange_ranged (n : Fin 9) (e : LaneExchange) (x : s.Ranged) : (s.retryExchange n e).Ranged := by
  unfold State.retryExchange
  dsimp only
  split
  · exact State.setLane_ranged n (x.leds n) x
  · unfold State.exchangeFails
    split
    · exact State.stepFails_ranged _ (State.setLane_ranged n (x.leds n) x)
    · exact State.stepFails_ranged _ x

theorem State.setScanner_ranged (n : Fin 9) (r : Option ScannerLane) (x : s.Ranged) : (s.setScanner n r).Ranged := by
  unfold State.setScanner
  split
  · exact x.edit rfl
  · exact x

theorem State.retryScanner_ranged (n : Fin 9) (r : ScannerLane) (e : LaneExchange) (x : s.Ranged) :
    (s.retryScanner n r e).Ranged := by
  unfold State.retryScanner
  dsimp only
  split
  · exact State.setScanner_ranged _ _ (State.setLane_ranged n (x.leds n) x)
  · exact State.setScanner_ranged _ _ x

theorem State.takeFrameError_ranged (n : Fin 9) (expected : BitVec 4) (x : s.Ranged) : (s.takeFrameError n expected).Ranged := by
  unfold State.takeFrameError
  dsimp only
  split
  · exact State.enterRecovering_ranged _ _ (State.setLane_ranged n (x.leds n) x)
  · exact State.setLane_ranged n (x.leds n) x

theorem State.activeFrame_ranged (n : Fin 9) {f : Frame} (good : Bool) (fit : ReadingsFit f.readings) (x : s.Ranged) :
    (s.activeFrame n f good).Ranged := by
  unfold State.activeFrame
  dsimp only
  split
  · exact State.takeFrameError_ranged _ _ x
  · split
    · exact State.takeFrameError_ranged _ _ x
    · exact State.laneReadings_ranged _ fit (State.setLane_ranged n (x.leds n) x)

theorem State.awaitedFrame_ranged (n : Fin 9) {f : Frame} (good : Bool) (fit : ReadingsFit f.readings) (x : s.Ranged) :
    (s.awaitedFrame n f good).Ranged := by
  unfold State.awaitedFrame
  dsimp only
  split
  · unfold State.firstFrame
    exact State.mapHub_ranged (State.reevalQuiet_ranged (State.laneReadings_ranged _ fit (State.laneUp_ranged _
      (State.setLane_ranged n (x.leds n) x))))
  · exact State.setLane_ranged n (x.leds n) x

theorem State.endPeriod_ranged (n : Fin 9) (x : s.Ranged) : (s.endPeriod n).Ranged := by
  unfold State.endPeriod
  dsimp only
  split
  · split
    · exact State.enterRecovering_ranged _ _ (State.setLane_ranged n (x.leds n) x)
    · exact State.setLane_ranged n (x.leds n) x
  · exact State.setLane_ranged n (x.leds n) x

theorem State.laneAction_ranged (n : Fin 9) (action : Nat) (x : s.Ranged) : (s.laneAction n action).Ranged := by
  unfold State.laneAction
  dsimp only
  split
  · split
    · exact State.moveLane_ranged n _ (x.leds n) x
    · exact State.setLane_ranged n (x.leds n) x
  · exact State.moveLane_ranged n _ (x.leds n) x
  · exact State.moveLane_ranged n _ (x.leds n) x
  · exact x

theorem State.laneToStandby_ranged (n : Fin 9) (x : s.Ranged) : (s.laneToStandby n).Ranged := by
  unfold State.laneToStandby
  dsimp only
  split
  · exact State.changeLane_ranged n _ (x.leds n) x
  · exact State.changeLane_ranged n _ (x.leds n) x
  · exact State.changeLane_ranged n _ (x.leds n) x
  · exact x

theorem State.laneFromStandby_ranged (n : Fin 9) (x : s.Ranged) : (s.laneFromStandby n).Ranged := by
  unfold State.laneFromStandby
  dsimp only
  split
  · exact State.changeLane_ranged n _ (x.leds n) x
  · exact x

end Sys2Proof.Machine
end

section
/-! SUPPORT. The settings stay in the ranges that the tables give them: the requests, whose owners check what they bring, and the
exchange controller (Table 12-3). -/

namespace Sys2Proof.Machine

variable {s t : State}

/-! ### The requests -/

/-- R151: what is due once the next slot has changed. -/
theorem Stage.slotChanged_ranged {p : Stage} (slot : Fin 32) (y : p.Ranged) : ((p.answer slot).readAhead.beginSettled).play.Ranged :=
  Stage.play_ranged (Stage.beginSettled_ranged (Stage.readAhead_ranged (Stage.answer_ranged slot y)))

theorem actPlayStart_ranged (slot : Fin 32) (a : List Byte) (x : s.Ranged) : (actPlayStart slot a s).Ranged := by
  unfold actPlayStart
  split
  · next take parsed => exact State.mapStage_ranged (fun _ y => Stage.startTake_ranged _ y (TakeRecord.parse_inRange parsed)) x
  · exact x

theorem actPlayNext_ranged (slot : Fin 32) (a : List Byte) (x : s.Ranged) : (actPlayNext slot a s).Ranged := by
  unfold actPlayNext
  split
  · next take parsed =>
    refine State.mapStage_ranged (fun p y => Stage.slotChanged_ranged slot ?_) x
    exact ⟨y.levels, y.beats, y.choice.tempo, y.choice.take, fun n is => Option.some.inj is ▸ TakeRecord.parse_inRange parsed⟩
  · exact x

theorem actPlaySettle_ranged (slot : Fin 32) (x : s.Ranged) : (actPlaySettle slot s).Ranged :=
  State.mapStage_ranged (fun _ y => Stage.slotChanged_ranged slot (Stage.onPlayer_ranged (Player.choice_settle true) y)) x

theorem actPlayUnsettle_ranged (slot : Fin 32) (x : s.Ranged) : (actPlayUnsettle slot s).Ranged :=
  State.mapStage_ranged (fun _ y => Stage.answer_ranged slot
    (Stage.onPlayer_ranged Player.unsettle_choice (Stage.dropReadAhead_ranged y))) x

/-- R136: the tempo of a PLAY_TEMPO that is not refused. -/
theorem actPlayTempo_ranged (slot : Fin 32) {a : List Byte} {u : State} (taken : refusePlayTempo a u = none) (x : s.Ranged) :
    (actPlayTempo slot a s).Ranged := by
  unfold refusePlayTempo at taken
  split at taken
  · cases taken
  · next fine =>
    simp only [Bool.or_eq_true, decide_eq_true_eq, not_or, Nat.not_lt] at fine
    exact State.mapStage_ranged (fun p y => Stage.answer_ranged slot ⟨y.levels, y.beats, fine, y.choice.take, y.choice.next⟩) x

theorem actPlayParts_ranged (slot : Fin 32) (a : List Byte) (x : s.Ranged) : (actPlayParts slot a s).Ranged := by
  unfold actPlayParts
  split
  · exact State.mapStage_ranged (fun _ y => Stage.answer_ranged slot (Stage.setParts_ranged _ y)) x
  · exact x

theorem actPlayPause_ranged (slot : Fin 32) (x : s.Ranged) : (actPlayPause slot s).Ranged := by
  refine State.mapStage_ranged (fun p y => Stage.answer_ranged slot ?_) x
  split
  · exact y
  · exact Stage.onPlayer_ranged (fun _ => rfl) y
  · exact Stage.pause_ranged y

theorem actPlayResume_ranged (slot : Fin 32) (x : s.Ranged) : (actPlayResume slot s).Ranged := by
  refine State.mapStage_ranged (fun p y => Stage.answer_ranged slot ?_) x
  split
  · exact Stage.resume_ranged y
  · exact Stage.onPlayer_ranged (fun _ => rfl) y
  · exact y

/-- R147: DISCARD_NEXT empties the slot. -/
theorem actPlayStop_ranged (slot : Fin 32) (a : List Byte) (x : s.Ranged) : (actPlayStop slot a s).Ranged := by
  refine State.mapStage_ranged (fun p y => Stage.answer_ranged slot ?_) x
  have z := Stage.stop_ranged y
  generalize p.stop = q at z
  refine ⟨z.levels, z.beats, z.choice.tempo, z.choice.take, fun n is => ?_⟩
  by_cases discard : bitOf (u8At a 0) 0 = true
  · simp [Stage.onPlayer, Player.choice, discard] at is
  · refine z.choice.next n ?_
    simpa [Stage.onPlayer, Player.choice, discard] using is

theorem actRailMove_ranged (slot : Fin 32) (a : List Byte) (x : s.Ranged) : (actRailMove slot a s).Ranged := by
  unfold actRailMove
  split
  · exact x
  · exact State.mapDeck_ranged x

theorem actLaneControl_ranged (slot : Fin 32) (a : List Byte) (x : s.Ranged) : (actLaneControl slot a s).Ranged := by
  unfold actLaneControl
  split
  · exact x
  · exact State.mapHub_ranged (State.laneAction_ranged _ _ x)

theorem State.setLeds_ranged {a : List Byte} (levels : ∀ i : Fin 9, u8At a (12 + i.val) ≤ 15) (x : s.Ranged) :
    (s.setLeds a).Ranged := by
  refine { x with leds := fun i => ?_ }
  simpa [State.setLeds] using levels i

theorem actSenseConfig_ranged (slot : Fin 32) {a : List Byte} (taken : refuseSenseConfig a = none) (x : s.Ranged) :
    (actSenseConfig slot a s).Ranged := by
  unfold actSenseConfig
  extract_lets s1 s2
  have masks : s1.Ranged := by
    unfold s1
    split
    · exact .foldl (fun _ k y => State.maskKey_ranged k _ y) _ x
    · exact x
  have leds : s2.Ranged := by
    unfold s2
    split
    · next set => exact State.setLeds_ranged (refuseSenseConfig_levels taken set) masks
    · exact masks
  exact State.mapHub_ranged leds

theorem actTableLoad_ranged (slot : Fin 32) (a : List Byte) (x : s.Ranged) : (actTableLoad slot a s).Ranged := by
  unfold actTableLoad
  split
  · exact State.mapVoice_ranged_of_same (fun e => Engine.levels_of rfl rfl) x
  · exact (State.startTableLoad_work _ _ _ (List.Subset.refl _) (.refl _ s)).ranged (by decide) x

theorem actCalibAbort_ranged (slot : Fin 32) (x : s.Ranged) : (actCalibAbort slot s).Ranged := by
  unfold actCalibAbort
  split
  · refine State.mapHub_ranged (State.mapHub_ranged ?_)
    exact State.Ranged.edit (State.setKeys_ranged (endCalibrating_fit x.extremes) x) rfl
  · exact x

theorem actRecordStop_ranged (slot : Fin 32) (x : s.Ranged) : (actRecordStop slot s).Ranged := by
  refine State.mapRecorder_ranged (fun d y => ?_) x
  split
  · next recording => exact Desk.close_ranged (y.carry id rfl) (by rw [recording]; decide)
  · exact .of_idle rfl

theorem actRecordMark_ranged (slot : Fin 32) (a : List Byte) (x : s.Ranged) : (actRecordMark slot a s).Ranged :=
  State.mapRecorder_ranged (f := fun d => (_, (d.mark _).2)) (fun _ y => Desk.mark_ranged _ y) x

theorem actVoiceConfig_ranged (slot : Fin 32) {a : List Byte} (taken : refuseVoiceConfig a = none) (x : s.Ranged) :
    (actVoiceConfig slot a s).Ranged :=
  State.mapVoice_ranged (Engine.configure_fit (e := (s.hub, s.voice)) taken x.voice) x

theorem actVoiceCut_ranged (slot : Fin 32) (a : List Byte) (x : s.Ranged) : (actVoiceCut slot a s).Ranged := by
  refine State.mapVoice_ranged_of_same (fun e => ?_) x
  have cut := Engine.cutSources_levels (u8At a 0) e
  dsimp only
  generalize e.cutSources (u8At a 0) = e1 at cut
  exact cut

theorem actOutputConfig_ranged (slot : Fin 32) {a : List Byte} (taken : refuseOutputConfig a = none) (x : s.Ranged) :
    (actOutputConfig slot a s).Ranged := by
  obtain ⟨setting, current, gain⟩ := x.output
  obtain ⟨setting', current', gain'⟩ := Output.configure_fits (o := s.output) taken ⟨setting, current, gain⟩
  exact { x with output := ⟨setting', current', gain'⟩ }

theorem actMetronome_ranged (slot : Fin 32) (a : List Byte) (x : s.Ranged) : (actMetronome slot a s).Ranged := by
  refine State.mapMetronome_ranged ?_ x
  dsimp only
  split
  · next new _ parsed =>
    rw [Beater.configure_settings]
    exact MetronomeSettings.parse_inRange parsed
  · exact x.metronome

theorem actRailConfig_ranged (slot : Fin 32) {a : List Byte} {u : State} (taken : refuseRailConfig a u = none) (x : s.Ranged) :
    (actRailConfig slot a s).Ranged :=
  State.mapDeck_ranged { x with rail := refuseRailConfig_valid taken s.railConfig }

theorem State.silence_ranged (x : s.Ranged) : s.silence.Ranged :=
  State.mapHub_ranged (State.mapVoice_ranged_of_same (Engine.cutSources_levels 3) x)

theorem State.beginEntry_ranged (slot : Fin 32) (x : s.Ranged) : (s.beginEntry slot).Ranged := by
  unfold State.beginEntry
  dsimp only
  have y : ((s.mapStage Stage.stop).mapRecorder Desk.closeForStandby).Ranged :=
    State.mapRecorder_ranged (fun _ => Desk.closeForStandby_ranged) (State.mapStage_ranged (fun _ => Stage.stop_ranged) x)
  generalize (s.mapStage Stage.stop).mapRecorder Desk.closeForStandby = u at y
  have z := State.silence_ranged y
  generalize u.silence = v at z
  split
  · exact y.edit rfl
  · exact z.edit rfl

theorem actStandbyEnter_ranged (slot : Fin 32) {a : List Byte} {u : State} (taken : refuseStandbyEnter a u = none)
    (x : s.Ranged) : (actStandbyEnter slot a s).Ranged :=
  State.beginEntry_ranged slot { x with wake := Standby.configure_fits (b := s.standby) taken x.wake }

/-- The owner takes a request that it does not refuse, in `u`, the state at the visit. -/
theorem actRequest_ranged (kind : RequestKind) (slot : Fin 32) (a : List Byte) (u : State) (taken : refuseRequest kind a u = none)
    (x : s.Ranged) : (actRequest kind slot a s).Ranged := by
  cases kind with
  | laneControl => exact actLaneControl_ranged slot a x
  | senseConfig => exact actSenseConfig_ranged slot taken x
  | calibrateKeys => exact State.openWindow_ranged _ x
  | calibAbort => exact actCalibAbort_ranged slot x
  | tableLoad => exact actTableLoad_ranged slot a x
  | pedalConfig => exact actPedalConfig_ranged slot taken x
  | voiceConfig => exact actVoiceConfig_ranged slot taken x
  | voiceCut => exact actVoiceCut_ranged slot a x
  | outputConfig => exact actOutputConfig_ranged slot taken x
  | metronome => exact actMetronome_ranged slot a x
  | railQuery | journalFlush | snapshotNow => exact x.edit rfl
  | railMove => exact actRailMove_ranged slot a x
  | railConfig => exact actRailConfig_ranged slot taken x
  | railStop | railHalt | railClear | railSettle | railUnsettle => exact x.edit rfl
  | playStart => exact actPlayStart_ranged slot a x
  | playNext => exact actPlayNext_ranged slot a x
  | playSettle => exact actPlaySettle_ranged slot x
  | playUnsettle => exact actPlayUnsettle_ranged slot x
  | playTempo => exact actPlayTempo_ranged slot taken x
  | playParts => exact actPlayParts_ranged slot a x
  | playSeek => exact State.mapStage_ranged (fun _ => Stage.seek_ranged _ _) x
  | playPause => exact actPlayPause_ranged slot x
  | playResume => exact actPlayResume_ranged slot x
  | playStop => exact actPlayStop_ranged slot a x
  | recordStart => exact State.mapRecorder_ranged (fun d _ => Desk.start_ranged slot taken d) x
  | recordStop => exact actRecordStop_ranged slot x
  | recordMark => exact actRecordMark_ranged slot a x
  | standbyEnter => exact actStandbyEnter_ranged slot taken x

theorem State.visitCode_ranged (slot : Fin 32) (code : Nat) (tag : Word16) (a : List Byte) (x : s.Ranged) :
    (s.visitCode slot code tag a).Ranged := by
  unfold State.visitCode
  split
  · exact State.visitSlot_ranged (fun taken u y => actRequest_ranged _ _ _ s taken y) x
  · exact State.visitSlot_ranged (fun _ _ y => y) x

theorem State.visitSlots_ranged (copy : List Byte) (slots : List (Fin 32)) (x : s.Ranged) :
    (s.visitSlots copy slots).Ranged := by
  induction slots generalizing s with
  | nil => exact x
  | cons slot rest ih =>
    unfold State.visitSlots
    dsimp only
    split
    · exact x
    · split
      · split
        · exact State.visitCode_ranged _ _ _ _ x
        · exact ih (State.visitCode_ranged _ _ _ _ x)
      · exact ih x

/-! ### The exchange controller and standby (R177 to R198) -/

theorem State.sweepDue_ranged (x : s.Ranged) : s.sweepDue.Ranged :=
  (State.sweepDue_work (.refl _ s)).ranged (by decide) x

theorem State.endSweep_ranged (x : s.Ranged) : s.endSweep.Ranged := by
  unfold State.endSweep
  dsimp only
  split
  · exact State.sweepDue_ranged (State.mapHub_ranged x)
  · exact State.mapHub_ranged x

theorem State.boardRead_ranged (tag : ReadTag) (bytes : Option (List Byte)) (x : s.Ranged) : (s.boardRead tag bytes).Ranged := by
  unfold State.boardRead
  split
  · split
    · exact State.endSweep_ranged (State.mapHub_ranged x)
    · dsimp only
      split
      · exact State.mapHub_ranged x
      · exact State.endSweep_ranged (State.visitSlots_ranged _ _ x)
  · exact x

theorem State.trackerDetach_ranged (x : s.Ranged) : s.trackerDetach.Ranged := by
  have keys (k : Fin 88) : ExtremesFit (if s.tracker.window.isSome then endCalibrating s.keys else s.keys)[k].extremes := by
    split
    · exact endCalibrating_fit x.extremes k
    · exact x.extremes k
  exact State.Ranged.edit (State.setKeys_ranged keys x) rfl

theorem State.detach_ranged (next : AttachState) (x : s.Ranged) : (s.detach next).Ranged := by
  have stopped : (((s.mapHub Hub.journalDetach).mapStage Stage.detach).mapRecorder Desk.detach).Ranged :=
    State.mapRecorder_ranged (fun d _ => d.detach_ranged)
      (State.mapStage_ranged (fun _ => Stage.detach_ranged) (State.mapHub_ranged x))
  unfold State.detach
  dsimp only
  generalize ((s.mapHub Hub.journalDetach).mapStage Stage.detach).mapRecorder Desk.detach = u at stopped
  have silent : (u.trackerDetach.mapVoice Engine.detach).Ranged :=
    State.mapVoice_ranged_of_same Engine.detach_levels (State.trackerDetach_ranged stopped)
  generalize u.trackerDetach.mapVoice Engine.detach = v at silent
  exact silent.edit rfl

theorem State.Ranged.setOutput {h : Hub} {ve : VoiceEngine} {o : Output} (x : s.Ranged) (levels : ve.levels = s.voice.levels)
    (volume : (o.setting, o.current, o.gain) = (s.output.setting, s.output.current, s.output.gain)) :
    State.Ranged { s with hub := h, voice := ve, output := o } :=
  x.edit (by simp only [State.settings, levels, volume])

theorem VoiceEngine.clearTotals_levels (ve : VoiceEngine) : ve.clearTotals.levels = ve.levels := by
  simp only [VoiceEngine.levels, VoiceEngine.clearTotals]

theorem State.enterAttached_ranged (r : RegionHeader) (x : s.Ranged) : (s.enterAttached r).Ranged := by
  unfold State.enterAttached
  exact x.setOutput (VoiceEngine.clearTotals_levels _) rfl

theorem State.headerRead_ranged (bytes : Option (List Byte)) (x : s.Ranged) : (s.headerRead bytes).Ranged := by
  unfold State.headerRead
  split
  · split
    · exact State.mapHub_ranged x
    · dsimp only
      split
      · exact State.enterAttached_ranged _ x
      · exact State.mapHub_ranged x
  · exact x

theorem State.holdRead_ranged (bytes : Option (List Byte)) (x : s.Ranged) : (s.holdRead bytes).Ranged := by
  unfold State.holdRead
  split <;> exact State.mapHub_ranged x

theorem State.enterStandby_ranged (x : s.Ranged) : s.enterStandby.Ranged := by
  unfold State.enterStandby
  dsimp only
  have y : ((List.finRange 9).foldl (fun s lane => s.laneToStandby lane) s).Ranged :=
    .foldl (fun _ n y => State.laneToStandby_ranged n y) _ x
  generalize (List.finRange 9).foldl (fun s lane => s.laneToStandby lane) s = u at y
  exact State.mapDeck_ranged { y with wake := x.wake }

theorem State.completeEntry_ranged (slot : Fin 32) (x : s.Ranged) : (s.completeEntry slot).Ranged :=
  State.enterStandby_ranged (State.detach_ranged .standby (State.mapHub_ranged x))

theorem State.shutdownStep_ranged (x : s.Ranged) : s.shutdownStep.Ranged := by
  unfold State.shutdownStep
  split
  · split
    · exact x
    · exact State.completeEntry_ranged _ (State.silence_ranged x)
  · exact State.completeEntry_ranged _ x
  · exact x

theorem State.leaveStandby_ranged (x : s.Ranged) : s.leaveStandby.Ranged := by
  unfold State.leaveStandby
  dsimp only
  generalize start : ({ s with hub := _, standby := _, output := _, rail := _ } : State) = u
  have y : u.Ranged := by subst start; exact x.edit rfl
  have z : (((List.finRange 9).foldl (fun s lane => s.laneFromStandby lane) u).mapDeck id).Ranged :=
    State.mapDeck_ranged (.foldl (fun _ n y => State.laneFromStandby_ranged n y) _ y)
  generalize ((List.finRange 9).foldl (fun s lane => s.laneFromStandby lane) u).mapDeck id = v at z
  split
  · exact State.mapMetronome_ranged_of_same (Beater.switchOn_settings _ _) z
  · exact z

theorem State.writeControl_ranged (value : Word32) (run : Bool) (x : s.Ranged) : (s.writeControl value run).Ranged := by
  have y : (s.mapHub (Hub.writeEnables value)).Ranged := State.mapHub_ranged x
  unfold State.writeControl
  dsimp only
  generalize s.mapHub (Hub.writeEnables value) = u at y
  split
  · unfold State.runOne
    split
    · exact State.mapHub_ranged y
    · exact State.mapHub_ranged y
    · exact State.mapHub_ranged (State.leaveStandby_ranged y)
    · exact State.mapHub_ranged (State.leaveStandby_ranged y)
    · exact y
    · exact y
  · unfold State.runZero
    split
    · exact State.mapHub_ranged y
    · exact State.detach_ranged _ y
    · exact y

theorem State.notify_ranged (board pages : Bool) (x : s.Ranged) : (s.notify board pages).Ranged := by
  have y : (if board then s.sweepDue else s).Ranged := by
    split
    · exact State.sweepDue_ranged x
    · exact x
  unfold State.notify
  dsimp only
  generalize (if board then s.sweepDue else s) = u at y
  split
  · unfold State.notifyPages
    split
    · exact State.mapHub_ranged y
    · exact y
  · exact y

theorem State.writeRegister_ranged (offset : Nat) (value : Word32) (x : s.Ranged) : (s.writeRegister offset value).Ranged := by
  unfold State.writeRegister
  split
  · exact State.mapHub_ranged x
  · split
    · exact State.mapHub_ranged x
    · split
      · exact State.writeControl_ranged _ _ x
      · split
        · exact State.notify_ranged _ _ x
        · split
          · exact State.mapHub_ranged x
          · exact x

theorem State.portLeave_ranged (x : s.Ranged) : s.portLeave.Ranged := by
  unfold State.portLeave
  split
  · exact State.detach_ranged _ x
  · exact State.leaveStandby_ranged x
  · exact State.leaveStandby_ranged x
  · exact State.mapHub_ranged x
  · exact State.mapHub_ranged x
  · exact State.mapHub_ranged x

theorem State.readFailed_ranged (tag : ReadTag) (x : s.Ranged) : (s.readFailed tag).Ranged := by
  cases tag with
  | voice => exact State.mapVoice_ranged_of_same (Engine.voiceRead_levels _ _) x
  | block => exact State.mapStage_ranged (fun _ => Stage.blockRead_ranged _ _ _) x
  | table => exact State.tableRead_ranged (.table _) none x
  | keymap => exact State.mapVoice_ranged_of_same (Engine.keymapRead_levels _ _) x
  | list => exact State.mapRecorder_ranged (fun _ => Desk.listRead_ranged _ _) x
  | board => exact State.boardRead_ranged (.board _) none x
  | pageHeader => exact State.mapHub_ranged x
  | hold => exact State.holdRead_ranged none x
  | regionHeader => exact State.headerRead_ranged none x


end Sys2Proof.Machine
end

section
/-! PROOFS. Every step keeps the settings in the ranges that the tables give them (O7). -/

namespace Sys2Proof.Machine

variable {s t : State}

/-! ### The resets (Table 11-2) -/

theorem State.reset_ranged : State.reset.Ranged where
  rail := by decide
  calibration := by decide
  extremes k e some_ := by
    rw [show State.reset.keys[k] = Key.reset from Vector.getElem_replicate ..] at some_
    cases some_
  pedals := by decide
  voice := by decide
  output := by decide
  metronome := by unfold MetronomeSettings.inRange; decide
  curve i j le := by
    simp only [State.reset, defaultCurve, Fin.getElem_fin, Vector.getElem_ofFn]
    omega
  leds := by decide
  tempo := by decide
  take _ some_ := nomatch some_
  nextTake _ some_ := nomatch some_
  recorder taken := absurd rfl taken
  wake := by decide

/-- Table 11-2: every main-domain setting at its initial value; RAIL_CONFIG and the wake codes are kept. -/
theorem State.mainDomainReset_ranged (kind : ResetKind) (x : s.Ranged) : (s.mainDomainReset kind).Ranged :=
  { State.reset_ranged with
    rail := x.rail, wake := x.wake
    leds := fun i => by simp [State.mainDomainReset, Lane.mainReset, Lane.reset] }

theorem State.powerOn_ranged (x : s.Ranged) : s.powerOn.Ranged :=
  { State.mainDomainReset_ranged .powerOn x with rail := State.reset_ranged.rail, wake := State.reset_ranged.wake }

theorem State.mainReset_ranged (x : s.Ranged) : s.mainReset.Ranged :=
  { State.mainDomainReset_ranged .main x with wake := x.wake }

theorem State.endReset_ranged (kind : ResetKind) (inputs : Pins) (x : s.Ranged) : (s.endReset kind inputs).Ranged := by
  unfold State.endReset
  extract_lets now output rail s1
  have probing : s1.Ranged := by
    refine { x with leds := fun i => ?_ }
    simpa [s1, Lane.beginProbe] using x.leds i
  exact State.mapDeck_ranged probing

/-! ### Every command -/

theorem State.samplePeriod_ranged (x : s.Ranged) : s.samplePeriod.Ranged := by
  have levels := Engine.period_levels (s.hub, s.voice)
  have beats : s.metronome.endClick.stepClick.settings = s.metronome.settings := s.metronome.endClick_settings
  unfold State.samplePeriod
  dsimp only
  generalize s.metronome.endClick = m at beats ⊢
  generalize Engine.period (s.hub, s.voice) = p at levels ⊢
  obtain ⟨setting, current, gain⟩ := x.output
  obtain ⟨setting', current', gain'⟩ := Output.period_fits (o := s.output) p.2 m.clickSample ⟨setting, current, gain⟩
  have voice : VoiceLevelsFit p.1.levels := levels ▸ x.voice
  exact { x with voice := voice, output := ⟨setting', current', gain'⟩, metronome := beats ▸ x.metronome }

theorem State.acceptJack_ranged (x : s.Ranged) : s.acceptJack.Ranged := by
  unfold State.acceptJack
  extract_lets inserted output s1
  have taken : s1.Ranged := x.edit rfl
  split
  · exact taken
  · exact State.mapHub_ranged taken

/-- R196: a frame of the wake scanner leaves the LED levels and the wake codes. -/
theorem State.scanFrame_ranged (lane : Fin 8) (r : ScannerLane) (f : Frame) (good : Bool) (x : s.Ranged) :
    (s.scanFrame lane r f good).Ranged := by
  have error (expected : Option (BitVec 4)) : (s.scanError lane r expected).Ranged := by
    unfold State.scanError
    extract_lets l standby s1
    have noted : s1.Ranged := x.edit rfl
    split
    · exact State.setLane_ranged _ (x.leds lane.castSucc) noted
    · exact noted
  unfold State.scanFrame
  split
  · exact error _
  · split
    · exact error _
    · extract_lets b record
      have wake : b.Fits := by
        unfold b
        split
        · exact Standby.scanKeys_fits _ _ _ _ x.wake
        · exact x.wake
      exact { x with wake := wake }

theorem execManagementReply_ranged {lane : Fin 9} {number : Nat} {content : ReplyContent} {body : List Byte} {crc : Byte}
    (e : execManagementReply lane number content body crc s = .next t) (x : s.Ranged) : t.Ranged := by
  obtain rfl := Host.Outcome.next.inj e
  split
  · split
    · exact State.whenUp_ranged (fun _ => State.exchangeSucceeds_ranged _ _ _) x
    · exact x
  · split
    · exact State.setScanner_ranged _ _ x
    · exact x
  · exact x

theorem execExchangeTimeout_ranged {lane : Fin 9} (e : execExchangeTimeout lane s = .next t) (x : s.Ranged) : t.Ranged := by
  obtain rfl := Host.Outcome.next.inj e
  split
  · split
    · exact State.whenUp_ranged (fun _ => State.retryExchange_ranged _ _) x
    · exact x
  · split
    · split
      · exact State.retryScanner_ranged _ _ _ x
      · exact x
    · exact x
  · exact x

theorem execLaneFrame_ranged {lane : Fin 9} {bytes : List Byte} (e : execLaneFrame lane bytes s = .next t) (x : s.Ranged) :
    t.Ranged := by
  obtain rfl := Host.Outcome.next.inj e
  refine State.whenUp_ranged (fun u y => ?_) x
  split
  · exact y
  · next f good parsed =>
    have fit := parseFrame_fit parsed
    dsimp only
    split
    · exact State.activeFrame_ranged _ _ fit y
    · split
      · exact State.awaitedFrame_ranged _ _ fit y
      · exact y
    · exact y

theorem execFootswitchInputChange_ranged {i : Fin 2} {high : Bool} (e : execFootswitchInputChange i high s = .next t)
    (x : s.Ranged) : t.Ranged := by
  unfold execFootswitchInputChange at e
  split at e
  · rwa [← Host.Outcome.next.inj e]
  · dsimp only at e
    split at e
    · obtain rfl := Host.Outcome.next.inj e
      exact x.edit rfl
    · obtain rfl := Host.Outcome.next.inj e
      exact State.acceptHeld_ranged i (x.edit rfl)

/-- A rail operation that is carried out when a condition holds. -/
theorem State.deckIf_ranged {c : Prop} [Decidable c] {f : Deck → Deck} (x : s.Ranged) :
    (if c then s.mapDeck f else s).Ranged := by
  split
  · exact State.mapDeck_ranged x
  · exact x

/-- The commands of the rail controller outside the requests (R101 to R117). -/
theorem railCommand_ranged {c : Instr} (rail : changes c = railPieces ∨ changes c = .pins :: railPieces) (plain : plainCommand c = true)
    (e : exec c s = .next t) (x : s.Ranged) : t.Ranged := by
  cases c with
  | drvEnSettle | quietHoldReached | gateTimeout | pauseTimeout | seatTimeout =>
    obtain rfl := Host.Outcome.next.inj e
    exact State.whenUp_ranged (fun _ => State.deckIf_ranged) x
  | indexPulse =>
    obtain rfl := Host.Outcome.next.inj e
    exact State.whenUp_ranged (fun _ => State.mapDeck_ranged) x
  | stepPulse =>
    obtain rfl := Host.Outcome.next.inj e
    exact State.whenUp_ranged (fun _ => State.deckIf_ranged) (x.edit rfl)
  | homeSensorChange | driverFault =>
    obtain rfl := Host.Outcome.next.inj e
    exact State.whenUp_ranged (fun _ => State.mapDeck_ranged) (x.edit rfl)
  | seatedFilterExpiry =>
    obtain rfl := Host.Outcome.next.inj e
    refine State.whenUp_ranged (fun u y => ?_) x
    split
    · exact State.deckIf_ranged y
    · exact y
  | _ =>
    first
      | exact absurd plain Bool.false_ne_true
      | exact absurd rail (by simp [changes, railPieces, playPieces, lanePieces, switchPieces])

theorem exec_ranged {c : Instr} (e : exec c s = .next t) (x : s.Ranged) : t.Ranged := by
  cases row : requestOf c with
  | some r =>
    rw [exec_request row] at e
    obtain rfl := Host.Outcome.next.inj e
    exact State.visitSlot_ranged (fun taken u y => actRequest_ranged _ _ _ s taken y) x
  | none =>
    cases c with
    | managementReply => exact execManagementReply_ranged e x
    | exchangeTimeout => exact execExchangeTimeout_ranged e x
    | laneFrame => exact execLaneFrame_ranged e x
    | footswitchInputChange => exact execFootswitchInputChange_ranged e x
    | firstFrameTimeout =>
      obtain rfl := Host.Outcome.next.inj e
      refine State.whenUp_ranged (fun u y => ?_) x
      split
      · split
        · exact State.stepFails_ranged _ y
        · exact y
      · exact y
    | framePeriodEnd =>
      obtain rfl := Host.Outcome.next.inj e
      refine State.whenUp_ranged (fun u y => ?_) x
      split
      · exact State.endPeriod_ranged _ y
      · exact y
    | calibWindowEnd =>
      obtain rfl := Host.Outcome.next.inj e
      refine State.whenUp_ranged (fun u y => ?_) x
      split
      · split
        · exact State.finishWindow_ranged _ y
        · exact y
      · exact y
    | footswitchDebounceExpiry =>
      obtain rfl := Host.Outcome.next.inj e
      split
      · exact x
      · exact State.acceptHeld_ranged _ x
    | outputSamplePeriod =>
      obtain rfl := Host.Outcome.next.inj e
      refine State.whenUp_ranged (fun u y => ?_) x
      split
      · exact State.samplePeriod_ranged y
      · exact y
    | cutFadeEnd =>
      obtain rfl := Host.Outcome.next.inj e
      exact State.whenUp_ranged (fun _ => State.mapVoice_ranged_of_same fun e => Engine.endFade_levels _ e) x
    | drvEnSettle | quietHoldReached | gateTimeout | pauseTimeout | seatedFilterExpiry | seatTimeout | indexPulse =>
      exact railCommand_ranged (.inl rfl) rfl e x
    | stepPulse | homeSensorChange | driverFault => exact railCommand_ranged (.inr rfl) rfl e x
    | mainResetEnd =>
      obtain rfl := Host.Outcome.next.inj e
      split
      · exact State.endReset_ranged _ _ x
      · exact x
    | scoreGroupDue =>
      obtain rfl := Host.Outcome.next.inj e
      exact State.whenUp_ranged (fun _ => State.mapStage_ranged fun _ => Stage.play_ranged) x
    | waitTimeout =>
      obtain rfl := Host.Outcome.next.inj e
      refine State.whenUp_ranged (fun _ => State.mapStage_ranged fun p y => ?_) x
      split
      · exact Stage.skipWait_ranged y
      · exact y
    | takeClockTick =>
      obtain rfl := Host.Outcome.next.inj e
      refine State.whenUp_ranged (fun _ => State.mapRecorder_ranged fun d y => ?_) x
      split
      · exact Desk.readClock_ranged y
      · exact y
    | powerOnReset =>
      obtain rfl := Host.Outcome.next.inj e
      exact State.powerOn_ranged x
    | mainReset =>
      obtain rfl := Host.Outcome.next.inj e
      split
      · exact x
      · exact State.mainReset_ranged x
    | portReset =>
      obtain rfl := Host.Outcome.next.inj e
      exact State.whenUp_ranged (fun _ y => State.mapHub_ranged (State.portLeave_ranged y)) x
    | registerWrite =>
      obtain rfl := Host.Outcome.next.inj e
      exact State.whenUp_ranged (fun _ => State.writeRegister_ranged _ _) x
    | runSet | runClear =>
      obtain rfl := Host.Outcome.next.inj e
      exact State.whenUp_ranged (fun _ => State.writeControl_ranged _ _) x
    | standbyShutdownStep =>
      obtain rfl := Host.Outcome.next.inj e
      exact State.whenUp_ranged (fun _ => State.shutdownStep_ranged) x
    | wakeDelayExpiry =>
      obtain rfl := Host.Outcome.next.inj e
      split
      · split
        · exact x.edit rfl
        · exact x
      · exact x
    | resetHoldEnd | statusPoll =>
      obtain rfl := Host.Outcome.next.inj e
      refine State.whenUp_ranged (fun u y => ?_) x
      split
      · split
        · exact State.setLane_ranged _ (y.leds _) y
        · exact y
      · exact y
    | retryWindowClose =>
      obtain rfl := Host.Outcome.next.inj e
      refine State.whenUp_ranged (fun u y => ?_) x
      split
      · split
        · exact State.setLane_ranged _ (y.leds _) y
        · exact y
      · exact y
    | freeBeatDue =>
      obtain rfl := Host.Outcome.next.inj e
      refine State.whenUp_ranged (fun u y => ?_) x
      split
      · exact State.mapMetronome_ranged_of_same Beater.freeBeat_settings y
      · exact y
    | followBeatDue =>
      obtain rfl := Host.Outcome.next.inj e
      refine State.whenUp_ranged (fun u y => ?_) x
      split
      · exact State.mapMetronome_ranged_of_same Beater.followBeat_settings y
      · exact y
    | clickEnd =>
      obtain rfl := Host.Outcome.next.inj e
      exact State.whenUp_ranged (fun u y => { y with metronome := u.metronome.endClick_settings ▸ y.metronome }) x
    | jackDebounceExpiry =>
      obtain rfl := Host.Outcome.next.inj e
      refine State.whenUp_ranged (fun u y => ?_) x
      split
      · split
        · exact State.acceptJack_ranged y
        · exact y
      · exact y
    | wakeScanFrame =>
      obtain rfl := Host.Outcome.next.inj e
      split
      · split
        · exact State.scanFrame_ranged _ _ _ _ x
        · exact x
      · exact x
    | wakePulseEnd =>
      obtain rfl := Host.Outcome.next.inj e
      split
      · split
        · exact x.edit rfl
        · exact x
      · exact x
    | controlEnableWrite | causeClear | sealPeriodExpiry | waitRereadExpiry =>
      obtain rfl := Host.Outcome.next.inj e
      exact State.whenUp_ranged (fun _ => State.mapHub_ranged) x
    | notifyPages =>
      obtain rfl := Host.Outcome.next.inj e
      exact State.whenUp_ranged (fun _ => State.notify_ranged _ _) x
    | boardReadArrival =>
      obtain rfl := Host.Outcome.next.inj e
      exact State.whenUp_ranged (fun _ => State.onArrival_ranged fun _ _ _ => State.boardRead_ranged _ _) x
    | tableReadArrival =>
      obtain rfl := Host.Outcome.next.inj e
      exact State.whenUp_ranged (fun _ => State.onArrival_ranged fun _ _ _ => State.tableRead_ranged _ _) x
    | keymapReadArrival =>
      obtain rfl := Host.Outcome.next.inj e
      exact State.whenUp_ranged (fun _ => State.onArrival_ranged fun _ _ _ =>
        State.mapVoice_ranged_of_same (Engine.keymapRead_levels _ _)) x
    | voiceReadArrival =>
      obtain rfl := Host.Outcome.next.inj e
      exact State.whenUp_ranged (fun _ => State.onArrival_ranged fun _ _ _ =>
        State.mapVoice_ranged_of_same (Engine.voiceRead_levels _ _)) x
    | blockReadArrival =>
      obtain rfl := Host.Outcome.next.inj e
      refine State.whenUp_ranged (fun _ => State.onArrival_ranged fun _ _ _ y => ?_) x
      split
      · exact State.mapStage_ranged (fun _ => Stage.blockRead_ranged _ _ _) y
      · exact y
    | listReadArrival =>
      obtain rfl := Host.Outcome.next.inj e
      exact State.whenUp_ranged (fun _ => State.onArrival_ranged fun _ _ _ =>
        State.mapRecorder_ranged fun _ => Desk.listRead_ranged _ _) x
    | pageHeaderReadArrival =>
      obtain rfl := Host.Outcome.next.inj e
      exact State.whenUp_ranged (fun _ => State.onArrival_ranged fun _ _ _ => State.mapHub_ranged) x
    | headerReadArrival =>
      obtain rfl := Host.Outcome.next.inj e
      exact State.whenUp_ranged (fun _ => State.onArrival_ranged fun _ _ _ => State.headerRead_ranged _) x
    | holdReadArrival =>
      obtain rfl := Host.Outcome.next.inj e
      exact State.whenUp_ranged (fun _ => State.onArrival_ranged fun _ _ _ => State.holdRead_ranged _) x
    | readTimeout =>
      obtain rfl := Host.Outcome.next.inj e
      refine State.whenUp_ranged (fun u y => ?_) x
      split
      · exact State.readFailed_ranged _ (y.edit rfl)
      · exact y.edit rfl
    | jackInputChange => exact (exec_work rfl e).ranged (l := [.pins, .jack]) (by decide) x
    | seatedInputChange => exact (exec_work rfl e).ranged (l := [.pins, .rail]) (by decide) x
    | _ =>
      first
        | exact (exec_work rfl e).ranged (by decide) x
        | cases row

/-! ### A step -/

theorem Player.tick_choice (q : Player) : q.tick.choice = q.choice := by
  unfold Player.tick
  split <;> rfl

/-- A microsecond moves clocks and no setting. -/
theorem State.tick_ranged (x : s.Ranged) : s.tick.Ranged := by
  unfold State.tick
  refine State.whenUp_ranged (fun u y => ?_) (x.edit rfl)
  exact y.edit (by simp only [State.settings, Player.tick_choice])

end Sys2Proof.Machine

open Sys2Proof Sys2Proof.Machine

/-- Settles O7: a request brings only what its owner's checks allow, a frame only readings of ten bits, a table only what its checks
allow; every other command leaves the settings or gives them their initial values. -/
theorem stepKeepsSettingsInRange : Obligations.StepKeepsSettingsInRange := by
  intro s t x e
  unfold step at e
  split at e
  · next c rest queue =>
    exact exec_ranged e (s := { s with pending := rest }) { x with }
  · obtain rfl := Host.Outcome.next.inj e
    exact State.tick_ranged x

end

section
/-! SUPPORT. The footswitch actions at their owners (R97, R124, R148, R161): which of them an owner carries out, and what that does. -/

namespace Sys2Proof.Machine

/-! ### The recorder (R161) -/

section
variable {d : Desk}

theorem Desk.push_nextMark (e : ScoreEvent) (d : Desk) : (d.push e).2.nextMark = d.2.nextMark := by
  unfold Desk.push
  dsimp only
  split
  · split <;> rfl
  · split <;> rfl

theorem Desk.pushSpacers_nextMark (n : Nat) (d : Desk) : (d.pushSpacers n).2.nextMark = d.2.nextMark := by
  induction n generalizing d with
  | zero => rfl
  | succ n ih =>
    unfold Desk.pushSpacers
    split
    · rw [ih, Desk.push_nextMark]
    · rfl

theorem Desk.appendAt_nextMark (time : Nat) (e : ScoreEvent) (d : Desk) : (d.appendAt time e).2.nextMark = d.2.nextMark := by
  unfold Desk.appendAt
  dsimp only
  split
  · rw [Desk.push_nextMark, Desk.pushSpacers_nextMark]
  · exact Desk.pushSpacers_nextMark _ d

/-- R161: a mark without a number of its own takes the next-mark number, which goes up. -/
theorem Desk.mark_nextMark (d : Desk) : (d.mark none).2.nextMark = (d.2.nextMark + 1) % 256 := Desk.appendAt_nextMark _ _ _

end

/-! ### The metronome (R96, R97) -/

section
variable {b : Beater} {clock : Nat} {position : Word32}

theorem Beater.toggle_of_on (on : b.2.settings.on = true) : (b.toggle clock position).2 =
    Metronome.switchOff { b.2 with settings := { b.2.settings with on := false } } := by
  simp [Beater.toggle, Beater.configure, on]

/-- R96: a FREE metronome switched on gives beat 1 of bar 1, and its grid starts there. -/
theorem Beater.toggle_of_off_free (off : b.2.settings.on = false) (free : b.2.settings.mode = .free) :
    (b.toggle clock position).2.beat = 1 ∧ (b.toggle clock position).2.bar = 1 ∧
      (b.toggle clock position).2.anchor = clock := by
  simp [Beater.toggle, Beater.configure, Beater.switchOn, Beater.beat, off, free]

theorem Beater.toggle_cause (attached : b.1.attach = .attached) :
    (b.toggle clock position).1.regs.cause.getLsbD 3 = true := by
  have reach : HubReach b.1 (b.configure { b.2.settings with on := !b.2.settings.on } clock position).1 :=
    Beater.configure_reach _ _ _ (.refl _)
  rw [Beater.toggle, Hub.raise_cause .practice (reach.attach.trans attached)]
  simp [CauseFlag.mask, CauseFlag.index]

end

/-! ### The player (R146, R148) -/

theorem PlayerState.togglable_iff (x : PlayerState) : x.togglable = true ↔ x ∈ [.playing, .waiting, .paused, .seeking] := by
  cases x <;> decide

section
variable {p : Stage}

theorem Stage.toggle_of_paused (paused : p.player.state = .paused) : p.toggle = p.resume.onHub (Hub.raise .practice) := by
  simp only [Stage.toggle, paused]

theorem Stage.toggle_of_seeking (seeking : p.player.state = .seeking) : p.toggle =
    (p.onPlayer fun q => { q with returnToPlaying := !q.returnToPlaying }).onHub (Hub.raise .practice) := by
  simp only [Stage.toggle, seeking]

theorem Stage.toggle_of_playing (plays : p.player.state = .playing ∨ p.player.state = .waiting) :
    p.toggle = p.pause.onHub (Hub.raise .practice) := by
  rcases plays with state | state <;> simp only [Stage.toggle, state]

/-- R135: a release of all open keys empties their set, and changes nothing else of the player and nothing of the metronome. -/
theorem Stage.releaseAll_player (p : Stage) :
    p.releaseAll.player = { p.player with openKeys := [] } ∧ p.releaseAll.metronome = p.metronome := by
  have kept : ({ p.releaseAll.player with openKeys := [] } : Player) = { p.player with openKeys := [] } ∧
      p.releaseAll.metronome = p.metronome :=
    Stage.releaseOpen_keeps (P := fun q => ({ q.player with openKeys := [] } : Player) = { p.player with openKeys := [] } ∧
        q.metronome = p.metronome) _ ⟨rfl, rfl⟩ (fun _ _ x => x)
      (fun q kind k v n f x => by rw [(Stage.reportNote_same kind k v n f q).2, Stage.reportNote_metronome]; exact x)
      (fun _ _ x => x)
  have empty : p.releaseAll.player.openKeys = [] := by
    unfold Stage.releaseAll Stage.releaseOpen Stage.onPlayer
    simp only [Bool.not_true, List.filter_false]
  refine ⟨?_, kept.2⟩
  rw [← kept.1, ← empty]

/-- R146: what a pause leaves of the player. -/
theorem Stage.pause_player (p : Stage) :
    p.pause.player = { p.player with openKeys := [], state := .paused, expected := [], struck := [] } ∧
      p.pause.metronome = p.metronome := by
  obtain ⟨player, metronome⟩ := p.releaseAll_player
  refine ⟨?_, metronome⟩
  simp only [Stage.pause, Stage.onPlayer, player]

end

/-! ### The rail (R124) -/

section
variable {d : Deck}

theorem Deck.toggleMove_of_ignored (ignored : d.rail.state ≠ .idle ∨ positionClass d.config d.rail = .crossing) :
    d.toggleMove = none := by
  unfold Deck.toggleMove
  rcases ignored with busy | crossing
  · rw [if_neg busy]
  · simp [crossing]

theorem Deck.toggleMove_of_far (idle : d.rail.state = .idle)
    (far : positionClass d.config d.rail = .silent ∨ positionClass d.config d.rail = .nearSilent) :
    d.toggleMove = some (internalMove .park) := by
  rw [Deck.toggleMove, if_pos idle]
  rcases far with place | place <;> simp only [place]

theorem Deck.toggleMove_of_clear (idle : d.rail.state = .idle) (clear : positionClass d.config d.rail = .clear) :
    d.toggleMove = some (internalMove .engage) := by
  rw [Deck.toggleMove, if_pos idle]
  simp only [clear]

theorem Deck.toggle_of_move {m : MoveRequest} (move : d.toggleMove = some m) : d.toggle = d.activate m := by
  simp only [Deck.toggle, move]

end

/-! ### The action of a passed edge (R54, R194) -/

section
variable {s : State}

theorem State.mapStage_congr {f g : Stage → Stage} (same : f s.stage = g s.stage) : s.mapStage f = s.mapStage g := by
  simp only [State.mapStage, same]

/-- A player operation that leaves the metronome. -/
theorem State.mapStage_of_metronome {f : Stage → Stage} (left : (f s.stage).metronome = s.metronome) :
    s.mapStage f = { s with hub := (s.mapStage f).hub, voice := (s.mapStage f).voice, player := (s.mapStage f).player } := by
  simp only [State.mapStage, left]

theorem State.mapDeck_congr {f g : Deck → Deck} (same : f s.deck = g s.deck) : s.mapDeck f = s.mapDeck g := by
  simp only [State.mapDeck, same]

/-- R194: during a standby entry every action but NONE is ignored. -/
theorem State.switchAction_of_entry {action : SwitchAction} (acts : action ≠ .none) (entry : s.entry.isSome = true) :
    s.switchAction action = (s, true) := by
  cases action with
  | none => exact absurd rfl acts
  | _ => exact if_pos entry

theorem State.switchAction_play (free : s.entry = none) : s.switchAction .playToggle =
    if s.player.state.togglable then (s.mapStage Stage.toggle, false) else (s, true) :=
  if_neg (by simp [free])

theorem State.switchAction_metronome (free : s.entry = none) :
    s.switchAction .metronomeToggle = (s.metronomeToggle, false) :=
  if_neg (by simp [free])

theorem State.switchAction_mark (free : s.entry = none) : s.switchAction .mark =
    if s.recorder.state = .recording then (s.mapRecorder (Desk.mark none), false) else (s, true) :=
  if_neg (by simp [free])

theorem State.switchAction_rail (free : s.entry = none) : s.switchAction .railToggle =
    if s.deck.toggleMove.isSome then (s.mapDeck Deck.toggle, false) else (s, true) :=
  if_neg (by simp [free])

/-- R124: RAIL_TOGGLE makes a move active where there is one to make. -/
theorem State.switchAction_rail_of_move {m : MoveRequest} (free : s.entry = none) (move : s.deck.toggleMove = some m) :
    s.switchAction .railToggle = (s.mapDeck (Deck.activate m), false) := by
  rw [State.switchAction_rail free, move, Option.isSome_some, if_pos rfl, State.mapDeck_congr (Deck.toggle_of_move move)]

/-- R148: PLAY_TOGGLE in a state that takes it. -/
theorem State.switchAction_play_of_state {f : Stage → Stage} (free : s.entry = none)
    (takes : s.player.state ∈ [.playing, .waiting, .paused, .seeking]) (does : s.stage.toggle = f s.stage) :
    s.switchAction .playToggle = (s.mapStage f, false) := by
  rw [State.switchAction_play free, if_pos ((PlayerState.togglable_iff _).mpr takes), State.mapStage_congr does]

end

end Sys2Proof.Machine
end

section
/-! PROOFS. Footswitch and jack changes held for their time, and the actions of passed edges (O27). -/

namespace Sys2Proof.Machine

variable {s : State} {i : Fin 2}

/-! ### The jack sense (R56) -/

/-- R56: an accepted jack change reaches the output block; the record is the hub's. -/
theorem State.acceptJack_eq (s : State) : s.acceptJack = { s with
    hub := s.acceptJack.hub, jack := { inserted := !s.jack.inserted, pendingSince := none }
    output := { s.output with jackInserted := !s.jack.inserted } } := by
  unfold State.acceptJack
  dsimp only
  split <;> rfl

theorem exec_jackInputChange_same {low : Bool} (same : low = s.pins.jackLow) : exec (.jackInputChange low) s = .next s :=
  if_pos same

theorem exec_jackInputChange {low : Bool} (up : s.mainUp = true) (change : low ≠ s.pins.jackLow) :
    exec (.jackInputChange low) s = .next { s with
      pins := { s.pins with jackLow := low }
      jack := { s.jack with pendingSince := if low = s.jack.inserted then none else some s.hub.now } } :=
  (if_neg change).trans (congrArg Host.Outcome.next (State.whenUp_of_up _ _ up))

theorem exec_jackDebounceExpiry {since : Nat} (up : s.mainUp = true) (pending : s.jack.pendingSince = some since)
    (late : since + 32000 ≤ s.hub.now) : exec .jackDebounceExpiry s = .next s.acceptJack := by
  refine congrArg Host.Outcome.next ((State.whenUp_of_up _ _ up).trans ?_)
  simp only [pending]
  exact if_pos late

/-! ### A footswitch change accepted (R53, R54) -/

/-- R53: the state with a footswitch's pending change accepted. -/
def State.accepted (i : Fin 2) (s : State) : State :=
  { s with switches := s.switches.set i { s.switches[i] with high := !s.switches[i].high, pendingSince := none } }

theorem State.acceptSwitch_of_barred (barred : s.switches[i].edges.passes (!s.switches[i].high) = false) :
    s.acceptSwitch i = s.accepted i := if_neg (by rw [barred]; decide)

theorem AttachState.asleep_iff (a : AttachState) : a.asleep = true ↔ a = .standby ∨ a = .woken := by
  cases a <;> simp [AttachState.asleep]

/-- R197: an edge passed in standby is a wake event where the switch wakes the part. -/
theorem State.acceptSwitch_of_wake (passed : s.switches[i].edges.passes (!s.switches[i].high) = true)
    (wakes : s.switches[i].wake = true) (asleep : s.hub.attach = .standby ∨ s.hub.attach = .woken) :
    s.acceptSwitch i = { s.accepted i with standby := s.standby.wakeEvent s.hub.now (.footswitch i) } := by
  unfold State.acceptSwitch
  dsimp only
  rw [if_pos passed, if_pos ((AttachState.asleep_iff _).mpr asleep), if_pos wakes]
  rfl

/-- R54: any other passed edge is handed on. -/
theorem State.acceptSwitch_of_awake (passed : s.switches[i].edges.passes (!s.switches[i].high) = true)
    (up : s.mainUp = true) (noStandby : s.hub.attach ≠ .standby) (notWoken : s.hub.attach ≠ .woken) :
    s.acceptSwitch i = (s.accepted i).switchEdge i (!s.switches[i].high) := by
  have awake : ¬ s.hub.attach.asleep = true := fun asleep =>
    ((AttachState.asleep_iff _).mp asleep).elim noStandby notWoken
  unfold State.acceptSwitch
  dsimp only
  rw [if_pos passed, if_neg awake, if_pos up]
  rfl

/-- R53: whatever an edge brings, the stage takes the level and nothing is pending. -/
theorem State.acceptSwitch_switches (i : Fin 2) (s : State) : (s.acceptSwitch i).switches = (s.accepted i).switches := by
  have edge (high : Bool) : ((s.accepted i).switchEdge i high).switches = (s.accepted i).switches :=
    (State.switchEdge_work i high (List.Subset.refl _) (.refl _ _)).same .switches (by decide)
  unfold State.acceptSwitch
  dsimp only
  split
  · split
    · split <;> rfl
    · split
      · exact edge _
      · rfl
  · rfl

theorem State.acceptHeld_of_held {since : Nat} (pending : s.switches[i].pendingSince = some since)
    (late : since + s.switches[i].debounce.micros ≤ s.hub.now) : s.acceptHeld i = s.acceptSwitch i :=
  if_pos (by simpa only [State.switchHeld, pending, decide_eq_true_eq] using late)

/-- R53: a change that began now has not been held for a debounce time that is not 0. -/
theorem State.acceptHeld_of_new (time : 0 < s.switches[i].debounce.micros)
    (new : s.switches[i].pendingSince = none ∨ s.switches[i].pendingSince = some s.hub.now) : s.acceptHeld i = s := by
  refine if_neg ?_
  rcases new with pending | pending
  · simp only [State.switchHeld, pending]
    decide
  · simp only [State.switchHeld, pending, decide_eq_true_eq]
    omega

theorem exec_footswitchDebounceExpiry {since : Nat} (running : s.resetHeld ≠ some .powerOn)
    (pending : s.switches[i].pendingSince = some since) (late : since + s.switches[i].debounce.micros ≤ s.hub.now) :
    exec (.footswitchDebounceExpiry i) s = .next (s.acceptSwitch i) :=
  congrArg Host.Outcome.next ((if_neg running).trans (State.acceptHeld_of_held pending late))

/-! ### A footswitch input that changes (R53) -/

/-- R53: the state in which a change of a footswitch input has begun. -/
def State.switchMoved (i : Fin 2) (high : Bool) (s : State) : State :=
  { s with
    pins := setSwitchLevel i high s.pins
    switches := s.switches.set i
      { s.switches[i] with pendingSince := if high = s.switches[i].high then none else some s.hub.now } }

theorem State.switchMoved_stage (i : Fin 2) (high : Bool) (s : State) : (s.switchMoved i high).switches[i] =
    { s.switches[i] with pendingSince := if high = s.switches[i].high then none else some s.hub.now } := by
  simp [State.switchMoved]

theorem exec_footswitchInputChange {high : Bool} (running : s.resetHeld ≠ some .powerOn) (change : high ≠ switchLevel i s.pins) :
    exec (.footswitchInputChange i high) s = .next ((s.switchMoved i high).acceptHeld i) :=
  (if_neg change).trans (if_neg running)

theorem exec_footswitchInputChange_same {high : Bool} (same : high = switchLevel i s.pins) :
    exec (.footswitchInputChange i high) s = .next s := if_pos same

theorem State.switchMoved_waits (high : Bool) (time : 0 < s.switches[i].debounce.micros) :
    (s.switchMoved i high).acceptHeld i = s.switchMoved i high := by
  refine State.acceptHeld_of_new ?_ ?_ <;> rw [State.switchMoved_stage]
  · exact time
  · dsimp only
    split
    · exact .inl rfl
    · exact .inr rfl

/-- R53: with no debounce time a change is accepted as it begins. -/
theorem State.switchMoved_accepted {high : Bool} (new : high ≠ s.switches[i].high) (noTime : s.switches[i].debounce.micros = 0) :
    ((s.switchMoved i high).acceptHeld i).switches = s.switches.set i { s.switches[i] with high := high, pendingSince := none } ∧
      ((s.switchMoved i high).acceptHeld i).pins = setSwitchLevel i high s.pins := by
  have flipped : (!s.switches[i].high) = high := (Bool.eq_not.mpr new).symm
  have stage := s.switchMoved_stage i high
  have held : (s.switchMoved i high).acceptHeld i = (s.switchMoved i high).acceptSwitch i := by
    refine State.acceptHeld_of_held (since := s.hub.now) ?_ ?_ <;> rw [stage]
    · exact if_neg new
    · exact Nat.le_of_eq (congrArg (s.hub.now + ·) noTime)
  refine ⟨?_, (State.acceptHeld_work i (List.Subset.refl _) (.refl _ (s.switchMoved i high))).same .pins (by decide)⟩
  rw [held, State.acceptSwitch_switches, State.accepted, stage]
  simp only [State.switchMoved, flipped, Vector.set_set]

/-! ### The action and its record (R54) -/

/-- R54: the record of a passed edge follows what the owner of its action has done. -/
theorem State.acceptSwitch_noted {u : State} {ignored : Bool}
    (passed : s.switches[i].edges.passes (!s.switches[i].high) = true) (up : s.mainUp = true)
    (noStandby : s.hub.attach ≠ .standby) (notWoken : s.hub.attach ≠ .woken)
    (acted : (s.accepted i).switchAction s.actions[i] = (u, ignored)) :
    s.acceptSwitch i = u.mapHub fun h =>
      h.note .footswitch (i.val + 1) (flagBit (!s.switches[i].high)) s.actions[i].code 0 { ignored := ignored } := by
  have acted' : (s.accepted i).switchAction (s.accepted i).actions[i] = (u, ignored) := acted
  rw [State.acceptSwitch_of_awake passed up noStandby notWoken, State.switchEdge]
  simp only [acted']
  rfl

end Sys2Proof.Machine

open Sys2Proof Sys2Proof.Machine

/-- Settles O27: the jack, the inputs, and the accepted edge by where it goes; a passed edge by its action and its owner's state. -/
theorem inputChangesAreDebounced : Obligations.InputChangesAreDebounced := by
  intro i s running g
  refine ⟨fun low up change => exec_jackInputChange up change, fun low same => exec_jackInputChange_same same,
    fun since up pending late => ⟨_, exec_jackDebounceExpiry up pending late, s.acceptJack_eq⟩,
    fun high change time => ?_, fun high change new noTime => ?_, fun high same => exec_footswitchInputChange_same same,
    fun since pending late => ?_⟩
  · rw [exec_footswitchInputChange running change, State.switchMoved_waits high time]
    rfl
  · exact ⟨_, exec_footswitchInputChange running change, State.switchMoved_accepted new noTime⟩
  have expires := exec_footswitchDebounceExpiry running pending late
  refine ⟨⟨_, expires, s.acceptSwitch_switches i⟩, fun barred => expires.trans (congrArg _ (State.acceptSwitch_of_barred barred)),
    fun passed wakes asleep => expires.trans (congrArg _ (State.acceptSwitch_of_wake passed wakes asleep)),
    fun passed up noStandby notWoken => ?_⟩
  intro action before noted
  have does {c : SwitchAction} {u : State} {ignored : Bool} (named : action = c)
      (acted : before.switchAction c = (u, ignored)) : noted u ignored :=
    expires.trans (congrArg _ (State.acceptSwitch_noted passed up noStandby notWoken (by
      rw [show s.actions[i] = c from named]
      exact acted)))
  refine ⟨fun named => does named rfl, fun acts entry => does rfl (State.switchAction_of_entry acts entry),
    fun named free => ⟨fun other => ?_, fun seeking => ?_, fun paused => ?_, fun plays => ?_⟩, fun named free => ?_,
    fun named free => ⟨fun other => ?_, fun recording => ?_⟩, fun named free => ⟨fun ignored => ?_, fun idle far => ?_,
    fun idle clear => ?_⟩⟩
  · exact does named ((State.switchAction_play (s := before) free).trans (if_neg (mt (PlayerState.togglable_iff _).mp other)))
  · exact does named (State.switchAction_play_of_state (s := before)
      (f := fun p => (p.onPlayer fun q => { q with returnToPlaying := !q.returnToPlaying }).onHub (Hub.raise .practice)) free
      (by show s.player.state ∈ _; simp [seeking]) (Stage.toggle_of_seeking (p := before.stage) seeking))
  · exact does named (State.switchAction_play_of_state (s := before)
      (f := fun p => p.resume.onHub (Hub.raise .practice)) free (by show s.player.state ∈ _; simp [paused])
      (Stage.toggle_of_paused (p := before.stage) paused))
  · obtain ⟨player, metronome⟩ := before.stage.pause_player
    have takes : s.player.state ∈ [.playing, .waiting, .paused, .seeking] := by rcases plays with x | x <;> simp [x]
    refine ⟨_, does named (State.switchAction_play_of_state (f := fun p => p.pause.onHub (Hub.raise .practice)) free takes
      (Stage.toggle_of_playing (p := before.stage) plays)), ?_, ?_⟩
    · exact State.mapStage_of_metronome metronome
    · show before.stage.pause.player.state = _ ∧ before.stage.pause.player.openKeys = _ ∧
        before.stage.pause.player.expected = _ ∧ before.stage.pause.player.held = _ ∧ before.stage.pause.player.position = _
      rw [player]
      exact ⟨rfl, rfl, rfl, rfl, rfl⟩
  · exact ⟨_, does named (State.switchAction_metronome free), rfl, Beater.toggle_settings _ _ (before.hub, before.metronome),
      fun on => by
        show (Beater.toggle _ _ (before.hub, before.metronome)).2.beat = 0 ∧
          (Beater.toggle _ _ (before.hub, before.metronome)).2.click = none
        rw [Beater.toggle_of_on on]
        exact ⟨rfl, rfl⟩,
      fun off mode => Beater.toggle_of_off_free (b := (before.hub, before.metronome)) off mode,
      fun attached => Beater.toggle_cause (b := (before.hub, before.metronome)) attached⟩
  · exact does named ((State.switchAction_mark (s := before) free).trans (if_neg other))
  · exact ⟨_, does named ((State.switchAction_mark (s := before) free).trans (if_pos recording)), rfl,
      Desk.mark_nextMark (before.hub, before.recorder)⟩
  · refine does named ((State.switchAction_rail (s := before) free).trans (if_neg ?_))
    rw [Deck.toggleMove_of_ignored (d := before.deck) ignored]
    decide
  · exact does named (State.switchAction_rail_of_move free (Deck.toggleMove_of_far (d := before.deck) idle far))
  · exact does named (State.switchAction_rail_of_move free (Deck.toggleMove_of_clear (d := before.deck) idle clear))

end

section
/-! SUPPORT. What the voice engine's and the metronome's operations leave alone: the table of requests in flight (R184), for neither
answers a request in the course of its work, and the damper limits (R67), which only PEDAL_CONFIG gives. -/

namespace Sys2Proof.Machine

/-! ### The hub -/

theorem Hub.snapshotDue_inFlight (h : Hub) : h.snapshotDue.inFlight = h.inFlight := by
  unfold Hub.snapshotDue
  split
  · rfl
  · split
    · rfl
    · exact Hub.requestRead_inFlight _ _ _ _ _

theorem Hub.requestFill_inFlight (k : Fin 96) (start : Word16) (target : FillTarget) (deadline : Nat) (address : Word64)
    (reads : List (Nat × Nat)) (h : Hub) : (h.requestFill k start target deadline address reads).inFlight = h.inFlight := by
  unfold Hub.requestFill
  split
  · exact Hub.requestRead_inFlight _ _ _ _ _
  · rw [Hub.requestRead_inFlight, Hub.requestRead_inFlight]
  · rfl

/-- R185: a completion for no slot, or for another slot, leaves a slot's entry. -/
theorem Hub.completeOptional_entry {slot : Fin 32} {k : Option (Fin 32)} (other : k ≠ some slot) (code : ResultCode)
    (data : List Byte) (h : Hub) : (h.completeOptional k code data).inFlightEntry slot = h.inFlightEntry slot := by
  cases k with
  | none => rfl
  | some k => exact Hub.completeRequest_entry_ne fun same => other (congrArg some same)

/-- A slot's entry depends on the table alone. -/
theorem Hub.inFlightEntry_congr {a b : Hub} (table : b.inFlight = a.inFlight) (slot : Fin 32) :
    b.inFlightEntry slot = a.inFlightEntry slot := by rw [Hub.inFlightEntry, table, Hub.inFlightEntry]

/-! ### The metronome (R90 to R97) -/

theorem Beater.beat_inFlight (one first : Bool) (b : Beater) : (b.beat one first).1.inFlight = b.1.inFlight := by
  unfold Beater.beat
  dsimp only
  split
  · rw [Hub.snapshotDue_inFlight]
    split
    · exact Hub.note_inFlight _ _ _ _ _ _ _
    · rfl
  · split
    · exact Hub.note_inFlight _ _ _ _ _ _ _
    · rfl

theorem Beater.restart_inFlight (position : Word32) (tempo : Nat) (first playing : Bool) (b : Beater) :
    (b.restart position tempo first playing).1.inFlight = b.1.inFlight := by
  unfold Beater.restart
  dsimp only
  split
  · exact Beater.beat_inFlight _ _ _
  · rfl

theorem Beater.configure_inFlight (new : MetronomeSettings) (clock : Nat) (position : Word32) (b : Beater) :
    (b.configure new clock position).1.inFlight = b.1.inFlight := by
  unfold Beater.configure
  dsimp only
  split
  · rfl
  · split
    · unfold Beater.switchOn
      dsimp only
      split
      · exact Beater.beat_inFlight _ _ _
      · rfl
    · rfl

theorem Beater.toggle_inFlight (clock : Nat) (position : Word32) (b : Beater) :
    (b.toggle clock position).1.inFlight = b.1.inFlight :=
  (Hub.raise_inFlight _ _).trans (Beater.configure_inFlight _ clock position b)

/-! ### The voice engine (R64 to R76) -/

/-- R67: DAMPER_FREE and DAMPER_HOLD. -/
def VoiceEngine.damperLimits (ve : VoiceEngine) : Nat × Nat := (ve.damperFree, ve.damperHold)

theorem VoiceEngine.damperLimits_of {a b : VoiceEngine} (free : a.damperFree = b.damperFree) (hold : a.damperHold = b.damperHold) :
    a.damperLimits = b.damperLimits := Prod.ext free hold

/-- The table of requests in flight and the damper limits, which no note touches. -/
def Engine.bystanders (e : Engine) : List InFlight × Nat × Nat := (e.1.inFlight, e.2.damperLimits)

theorem Engine.bystanders_of {a b : Engine} (table : a.1.inFlight = b.1.inFlight) (limits : a.2.damperLimits = b.2.damperLimits) :
    a.bystanders = b.bystanders := Prod.ext table limits

theorem Engine.freeVoice_bystanders (k : Fin 96) (e : Engine) : (e.freeVoice k).bystanders = e.bystanders := by
  unfold Engine.freeVoice
  dsimp only
  split <;> rfl

theorem Engine.cutVoice_bystanders (k : Fin 96) (e : Engine) : (e.cutVoice k).bystanders = e.bystanders := by
  unfold Engine.cutVoice
  dsimp only
  split
  · split
    · exact e.freeVoice_bystanders k
    · rfl
  · rfl

theorem Engine.cutAll_bystanders (p : Voice → Bool) (e : Engine) : (e.cutAll p).bystanders = e.bystanders := by
  refine List.foldlRecOn (motive := fun u : Engine => u.bystanders = e.bystanders) _ _ rfl fun y q k _ => ?_
  split
  · exact (y.cutVoice_bystanders k).trans q
  · exact q

theorem Engine.startIn_bystanders (k : Fin 96) (key : Fin 88) (source : Source) (velocity : Nat) (e : Engine) :
    (e.startIn k key source velocity).bystanders = e.bystanders :=
  Engine.bystanders_of (Hub.requestFill_inFlight _ _ _ _ _ _ _) rfl

theorem Engine.drop_bystanders (key : Fin 88) (source : Source) (velocity reason : Nat) (e : Engine) :
    (e.drop key source velocity reason).bystanders = e.bystanders :=
  Engine.bystanders_of (Hub.note_inFlight _ _ _ _ _ _ _) rfl

theorem Engine.serveOne_bystanders (e : Engine) : e.serveOne.bystanders = e.bystanders := by
  unfold Engine.serveOne
  split
  · dsimp only
    split
    · exact Engine.drop_bystanders _ _ _ _ _
    · split
      · exact Engine.drop_bystanders _ _ _ _ _
      · exact Engine.startIn_bystanders _ _ _ _ _
  · rfl

theorem Engine.settleFor_bystanders (joined : Bool) (n : Nat) (e : Engine) : (e.settleFor joined n).bystanders = e.bystanders := by
  induction n generalizing e with
  | zero => rfl
  | succ n ih =>
    unfold Engine.settleFor
    split
    · rfl
    · split
      · rw [ih, Engine.serveOne_bystanders]
      · split
        · rfl
        · split
          · split
            · rfl
            · rw [ih]
              exact Engine.cutVoice_bystanders _ e
          · rfl

theorem Engine.settle_bystanders (joined : Bool) (e : Engine) : (e.settle joined).bystanders = e.bystanders :=
  e.settleFor_bystanders joined 256

theorem Engine.release_bystanders (k : Fin 96) (e : Engine) : (e.release k).bystanders = e.bystanders := by
  rw [Engine.release, Engine.settle_bystanders, Engine.freeVoice_bystanders]

theorem Engine.supersede_bystanders (key : Fin 88) (source : Source) (e : Engine) :
    (e.supersede key source).bystanders = e.bystanders := by
  unfold Engine.supersede
  rw [Engine.settle_bystanders, Engine.cutAll_bystanders]
  exact List.foldlRecOn (motive := fun u : Engine => u.bystanders = e.bystanders) _ _ rfl fun u q k _ =>
    (u.release_bystanders k).trans q

/-- R71, R72: a note-on leaves them alone. -/
theorem Engine.noteOn_bystanders (key : Fin 88) (source : Source) (velocity : Nat) (e : Engine) :
    (e.noteOn key source velocity).bystanders = e.bystanders := by
  have joins (u : Engine) (q : List PendingStart) :
      (Engine.settle true (u.1, { u.2 with queue := q })).bystanders = u.bystanders := Engine.settle_bystanders true _
  unfold Engine.noteOn
  split
  · rfl
  · dsimp only
    rw [← e.supersede_bystanders key source]
    generalize e.supersede key source = u
    split
    · split
      · exact Engine.startIn_bystanders _ _ _ _ _
      · split
        · exact Engine.drop_bystanders _ _ _ _ _
        · exact joins u _
    · split
      · exact Engine.drop_bystanders _ _ _ _ _
      · exact joins u _

theorem VoiceEngine.noteOff_damperLimits (key : Fin 88) (source : Source) (ve : VoiceEngine) :
    (ve.noteOff key source).damperLimits = ve.damperLimits := by
  unfold VoiceEngine.noteOff VoiceEngine.eachVoice
  exact VoiceEngine.damperLimits_of rfl rfl

theorem VoiceEngine.setDamper_damperLimits (source : Source) (level : Nat) (ve : VoiceEngine) :
    (ve.setDamper source level).damperLimits = ve.damperLimits := by cases source <;> rfl

theorem VoiceEngine.setSoft_damperLimits (source : Source) (pressed : Bool) (ve : VoiceEngine) :
    (ve.setSoft source pressed).damperLimits = ve.damperLimits := by cases source <;> rfl

end Sys2Proof.Machine
end

section
/-! SUPPORT. The player at work answers no request but its own (R153, R185), and leaves the damper limits (R67): one lemma per
operation that PLAY_TOGGLE can lead to. -/

namespace Sys2Proof.Machine

/-- A slot has its entry in the table of requests, the player owes it no answer, and the damper limits are those given. -/
structure Stage.Spares (slot : Fin 32) (e : InFlight) (limits : Nat × Nat) (p : Stage) : Prop where
  entry : p.hub.inFlightEntry slot = some e
  pending : p.player.pendingSlot ≠ some slot
  limits : p.voice.damperLimits = limits

section
variable {slot : Fin 32} {e : InFlight} {limits : Nat × Nat} {p t : Stage}

/-- What leaves the table, the pending slot and the limits. -/
theorem Stage.Spares.edit (x : p.Spares slot e limits) (table : t.hub.inFlight = p.hub.inFlight)
    (pending : t.player.pendingSlot = p.player.pendingSlot) (same : t.voice.damperLimits = p.voice.damperLimits) :
    t.Spares slot e limits :=
  ⟨(Hub.inFlightEntry_congr table slot).trans x.entry, by rw [pending]; exact x.pending, same.trans x.limits⟩

/-! ### Records, requests and buffers (R131, R153) -/

theorem Stage.report_spares (d n i : Nat) (x : p.Spares slot e limits) : (p.report d n i).Spares slot e limits :=
  x.edit ((Hub.raise_inFlight _ _).trans (Hub.note_inFlight _ _ _ _ _ _ _)) rfl rfl

theorem Stage.reportNote_spares (kind : RecordKind) (k v n : Nat) (f : Bool) (x : p.Spares slot e limits) :
    (p.reportNote kind k v n f).Spares slot e limits := by
  obtain ⟨voice, player, table⟩ := p.reportNote_voice kind k v n f
  exact x.edit table (by rw [player]) (by rw [voice])

/-- R153, R185: the request that the player completes is its own. -/
theorem Stage.completePending_spares (c : ResultCode) (x : p.Spares slot e limits) :
    (p.completePending c).Spares slot e limits :=
  ⟨(Hub.completeOptional_entry x.pending _ _ _).trans x.entry, nofun, x.limits⟩

theorem Stage.emptyBuffer_spares (b : Fin 2) (x : p.Spares slot e limits) : (p.emptyBuffer b).Spares slot e limits :=
  x.edit rfl rfl rfl

theorem Stage.emptyBuffers_spares (x : p.Spares slot e limits) : p.emptyBuffers.Spares slot e limits :=
  Stage.emptyBuffer_spares 1 (Stage.emptyBuffer_spares 0 x)

theorem Stage.readBlock_spares (b : Fin 2) (address : Word64) (index : Nat) (next : Bool) (x : p.Spares slot e limits) :
    (p.readBlock b address index next).Spares slot e limits := by
  unfold Stage.readBlock
  dsimp only
  exact x.edit (Hub.requestParts_inFlight _ _ _ _) rfl rfl

theorem Stage.readAhead_spares (x : p.Spares slot e limits) : p.readAhead.Spares slot e limits := by
  unfold Stage.readAhead
  split
  · dsimp only
    split
    · exact Stage.readBlock_spares _ _ _ _ (Stage.emptyBuffer_spares _ x)
    · exact x
  · exact x

theorem Stage.enterBlock_spares (x : p.Spares slot e limits) : p.enterBlock.Spares slot e limits := by
  unfold Stage.enterBlock
  split
  · exact x
  · dsimp only
    split
    · split
      · exact x
      · exact Stage.readAhead_spares (Stage.emptyBuffer_spares _ x)
    · exact Stage.readBlock_spares _ _ _ _ (Stage.emptyBuffer_spares _ x)

theorem Stage.advanceBlock_spares (x : p.Spares slot e limits) : p.advanceBlock.Spares slot e limits :=
  Stage.enterBlock_spares (x.edit rfl rfl rfl)

/-! ### Notes and pedals (R134, R135) -/

theorem Stage.releaseAll_spares (x : p.Spares slot e limits) : p.releaseAll.Spares slot e limits :=
  Stage.releaseOpen_keeps _ x (fun _ _ y => y.edit rfl rfl (VoiceEngine.noteOff_damperLimits _ _ _))
    (fun _ _ _ _ _ _ y => Stage.reportNote_spares _ _ _ _ _ y) (fun _ _ y => y.edit rfl rfl rfl)

theorem Stage.handPedals_spares (pedals : PlaybackPedals) (x : p.Spares slot e limits) :
    (p.handPedals pedals).Spares slot e limits :=
  x.edit rfl rfl ((VoiceEngine.setSoft_damperLimits _ _ _).trans (VoiceEngine.setDamper_damperLimits _ _ _))

theorem Stage.restart_spares (position : Word32) (tempo : Nat) (first : Bool) (x : p.Spares slot e limits) :
    (p.restart position tempo first).Spares slot e limits :=
  x.edit (Beater.restart_inFlight _ _ _ _ (p.hub, p.metronome)) rfl rfl

/-! ### The end and the start of a take (R129, R149 to R152) -/

theorem Stage.ended_spares (x : p.Spares slot e limits) : p.ended.Spares slot e limits := by
  have emptied := Stage.emptyBuffers_spares (Stage.handPedals_spares .zero (Stage.releaseAll_spares x))
  exact emptied.edit rfl rfl rfl

theorem Stage.fault_spares (format : Bool) (x : p.Spares slot e limits) : (p.fault format).Spares slot e limits := by
  have ended := Stage.completePending_spares (if format then .invalid else .failed) (Stage.ended_spares x)
  exact (Stage.report_spares 9 (flagBit format) 0 ended).edit rfl rfl rfl

/-- R152: a take that begins by itself brings no request. -/
theorem Stage.setTake_spares (take : TakeRecord) (chained : Bool) (x : p.Spares slot e limits) :
    (p.setTake take none chained).Spares slot e limits := ⟨x.entry, nofun, x.limits⟩

theorem Stage.readFirst_spares (x : p.Spares slot e limits) : p.readFirst.Spares slot e limits := by
  unfold Stage.readFirst
  split
  · exact x
  · exact Stage.readBlock_spares _ _ _ _ ((Stage.emptyBuffers_spares x).edit rfl rfl rfl)

theorem Stage.rewind_spares (x : p.Spares slot e limits) : p.rewind.Spares slot e limits :=
  (Stage.handPedals_spares .zero x).edit rfl rfl rfl

theorem Stage.scanMissed_spares (x : p.Spares slot e limits) : p.scanMissed.Spares slot e limits := by
  have paused : (p.rewind.onPlayer fun q => { q with state := .paused, scan := none }).Spares slot e limits :=
    (Stage.rewind_spares x).edit rfl rfl rfl
  have y := Stage.completePending_spares .notFound (Stage.readFirst_spares paused)
  unfold Stage.scanMissed
  dsimp only
  split
  · exact y
  · split <;> exact Stage.report_spares _ _ _ y

theorem Stage.scanFound_spares (x : p.Spares slot e limits) : p.scanFound.Spares slot e limits := by
  have y : ((p.handPedals p.player.pedals).onPlayer fun q => { q with scan := none }).Spares slot e limits :=
    (Stage.handPedals_spares _ x).edit rfl rfl rfl
  unfold Stage.scanFound
  extract_lets p1 enter restart
  have entered (state : PlayerState) {u : Stage} (z : u.Spares slot e limits) : (enter state u).Spares slot e limits :=
    z.edit rfl rfl rfl
  have restarted (first : Bool) {u : Stage} (z : u.Spares slot e limits) : (restart first u).Spares slot e limits :=
    Stage.restart_spares _ _ _ z
  split
  · exact Stage.completePending_spares _ (entered _ (restarted _ y))
  · have found := Stage.completePending_spares .ok (restarted true (entered .playing y))
    split
    · exact found
    · exact Stage.report_spares _ _ _ found

theorem Player.markAnchor_pendingSlot (marker : Nat) (q : Player) : (q.markAnchor marker).pendingSlot = q.pendingSlot := by
  unfold Player.markAnchor
  split
  · split <;> rfl
  · rfl

theorem Player.scanEvent_pendingSlot (ev : ScoreEvent) (q : Player) : (q.scanEvent ev).pendingSlot = q.pendingSlot := by
  unfold Player.scanEvent
  dsimp only
  split
  · split <;> rfl
  · split
    · rfl
    · split
      · exact Player.markAnchor_pendingSlot _ _
      · rfl

theorem Stage.scanRun_spares (n : Nat) (x : p.Spares slot e limits) : (p.scanRun n).Spares slot e limits := by
  induction n generalizing p with
  | zero => exact x
  | succ n ih =>
    unfold Stage.scanRun
    split
    · split
      · next event _ =>
        have passed : (p.onPlayer (Player.scanEvent event)).Spares slot e limits :=
          x.edit rfl (Player.scanEvent_pendingSlot _ _) rfl
        split
        · exact Stage.fault_spares _ x
        · dsimp only
          split
          · exact Stage.scanMissed_spares passed
          · split
            · exact Stage.scanFound_spares passed
            · exact ih passed
      · split
        · exact Stage.scanMissed_spares x
        · split
          · exact ih (Stage.advanceBlock_spares x)
          · exact x
    · exact x

theorem Stage.beginTake_spares (block : ScoreBlock) (x : p.Spares slot e limits) : (p.beginTake block).Spares slot e limits := by
  unfold Stage.beginTake
  extract_lets p1 p2 p3
  have y : p1.Spares slot e limits := Stage.handPedals_spares _ (x.edit rfl rfl rfl)
  have begun : p2.Spares slot e limits := y.edit rfl rfl rfl
  have started : p3.Spares slot e limits := Stage.completePending_spares _ (Stage.restart_spares _ _ _ begun)
  split
  · split
    · exact started
    · exact Stage.report_spares _ _ _ started
  · exact Stage.scanRun_spares _ (y.edit rfl rfl rfl)

theorem Stage.beginNext_spares (next : TakeRecord) (x : p.Spares slot e limits) : (p.beginNext next).Spares slot e limits := by
  have set : ((p.setTake next none true).onPlayer fun q => { q with next := none }).Spares slot e limits :=
    (Stage.setTake_spares next true x).edit rfl rfl rfl
  have y := Stage.report_spares 7 0 0 set
  unfold Stage.beginNext
  dsimp only
  split
  · exact Stage.beginTake_spares _ (Stage.enterBlock_spares (y.edit rfl rfl rfl))
  · exact Stage.readFirst_spares y

theorem Stage.naturalEnd_spares (x : p.Spares slot e limits) : p.naturalEnd.Spares slot e limits := by
  have y := Stage.report_spares 1 0 0 (Stage.handPedals_spares .zero (Stage.releaseAll_spares x))
  unfold Stage.naturalEnd
  dsimp only
  split
  · split
    · exact Stage.beginNext_spares _ y
    · exact y.edit rfl rfl rfl
  · exact y.edit rfl rfl rfl

/-! ### Dispatch (R132 to R134, R143) -/

theorem Stage.loopJump_spares (marker : Nat) (anchor : LoopAnchor) (x : p.Spares slot e limits) :
    (p.loopJump marker anchor).Spares slot e limits := by
  have y := Stage.emptyBuffers_spares (Stage.handPedals_spares anchor.pedals (Stage.releaseAll_spares x))
  unfold Stage.loopJump
  extract_lets loops p1 p2 p3
  have anchored : p2.Spares slot e limits := Stage.Spares.edit (p := p1) y rfl rfl rfl
  have read : p3.Spares slot e limits := Stage.report_spares _ _ _ (Stage.readBlock_spares _ _ _ _ anchored)
  exact read.edit rfl rfl rfl

theorem Stage.dispatchMark_spares (marker : Nat) (x : p.Spares slot e limits) : (p.dispatchMark marker).Spares slot e limits := by
  have y : ((p.report 2 marker 0).onPlayer (Player.markAnchor marker)).Spares slot e limits :=
    (Stage.report_spares 2 marker 0 x).edit rfl (Player.markAnchor_pendingSlot _ _) rfl
  unfold Stage.dispatchMark
  dsimp only
  split
  · split
    · exact Stage.loopJump_spares _ _ y
    · exact y
  · exact y

theorem Stage.dispatchNoteOn_spares (key : Fin 88) (velocity part : Nat) (x : p.Spares slot e limits) :
    (p.dispatchNoteOn key velocity part).Spares slot e limits := by
  have y := Stage.reportNote_spares .playNoteOn key.val velocity part false x
  unfold Stage.dispatchNoteOn
  dsimp only
  generalize p.reportNote .playNoteOn key.val velocity part false = u at y
  have left := Engine.noteOn_bystanders key .playback velocity (u.hub, u.voice)
  split
  · exact y.edit (congrArg Prod.fst left) rfl (congrArg Prod.snd left)
  · exact y

theorem Stage.dispatchNoteOff_spares (key : Fin 88) (value part : Nat) (x : p.Spares slot e limits) :
    (p.dispatchNoteOff key value part).Spares slot e limits := by
  have y := Stage.reportNote_spares .playNoteOff key.val value part false x
  unfold Stage.dispatchNoteOff
  dsimp only
  split
  · exact y.edit rfl rfl (VoiceEngine.noteOff_damperLimits _ _ _)
  · exact y

theorem Stage.dispatchPedal_spares (pedal level part : Nat) (x : p.Spares slot e limits) :
    (p.dispatchPedal pedal level part).Spares slot e limits := by
  have y : (p.onHub fun h => h.note .pedal pedal level part 0 { playback := true }).Spares slot e limits :=
    x.edit (Hub.note_inFlight _ _ _ _ _ _ _) rfl rfl
  unfold Stage.dispatchPedal
  dsimp only
  split
  · exact Stage.handPedals_spares _ y
  · exact y

theorem Stage.dispatchEvent_spares (time : Word32) (g : GroupEvent) (x : p.Spares slot e limits) :
    (p.dispatchEvent time g).Spares slot e limits := by
  unfold Stage.dispatchEvent
  extract_lets p0 p1 ev
  have y0 : p0.Spares slot e limits := by
    unfold p0
    split
    · exact x
    · exact Stage.advanceBlock_spares x
  have y : p1.Spares slot e limits := y0.edit rfl rfl rfl
  clear_value p1
  split
  · split
    · exact Stage.dispatchNoteOn_spares _ _ _ y
    · exact y
  · split
    · exact Stage.dispatchNoteOff_spares _ _ _ y
    · exact y
  · exact Stage.dispatchPedal_spares _ _ _ y
  · exact Stage.restart_spares _ _ _ (y.edit rfl rfl rfl)
  · exact Stage.dispatchMark_spares _ y
  · exact Stage.naturalEnd_spares y
  · exact y

theorem Stage.dispatchGroup_spares (time : Word32) (l : List GroupEvent) (x : p.Spares slot e limits) :
    (p.dispatchGroup time l).Spares slot e limits := by
  induction l generalizing p with
  | nil => exact x
  | cons g l ih =>
    unfold Stage.dispatchGroup
    dsimp only
    split
    · exact Stage.dispatchEvent_spares _ _ x
    · exact ih (Stage.dispatchEvent_spares _ _ x)

/-! ### Waits, play, pause and the toggle (R133, R139 to R148) -/

theorem Stage.endWait_spares (x : p.Spares slot e limits) : p.endWait.Spares slot e limits := by
  have ended : (p.onPlayer fun q => { q with state := .playing, expected := [], struck := [], held := none }).Spares slot e limits :=
    x.edit rfl rfl rfl
  unfold Stage.endWait
  dsimp only
  split
  · exact Stage.dispatchGroup_spares _ _ ended
  · exact ended

theorem Player.countStrikes_pendingSlot (window : Nat) (q : Player) : (q.countStrikes window).pendingSlot = q.pendingSlot := by
  rw [Player.countStrikes_eq]
  refine List.foldlRecOn (motive := fun r : Player => r.pendingSlot = q.pendingSlot) _ _ rfl fun r same strike _ => ?_
  unfold Player.countStrike
  split <;> exact same

theorem Stage.beginWait_spares (g : Group) (x : p.Spares slot e limits) : (p.beginWait g).Spares slot e limits := by
  unfold Stage.beginWait
  extract_lets window p1
  have y : p1.Spares slot e limits := x.edit rfl (Player.countStrikes_pendingSlot window _) rfl
  clear_value p1
  split
  · exact Stage.endWait_spares y
  · exact Stage.report_spares _ _ _ y

theorem Stage.takeGroup_spares (g : Group) (x : p.Spares slot e limits) : (p.takeGroup g).Spares slot e limits := by
  unfold Stage.takeGroup
  extract_lets follow
  split
  · exact Stage.fault_spares _ x
  · split
    · exact Stage.beginWait_spares _ x
    · exact Stage.dispatchGroup_spares _ _ x

theorem Stage.playRun_spares (n : Nat) (x : p.Spares slot e limits) : (p.playRun n).Spares slot e limits := by
  induction n generalizing p with
  | zero => exact x
  | succ n ih =>
    unfold Stage.playRun
    split
    · exact x
    · split
      · exact x.edit rfl rfl rfl
      · exact ih (Stage.naturalEnd_spares x)
      · exact ih (Stage.advanceBlock_spares x)
      · exact x.edit rfl rfl rfl
      · split
        · split
          · exact ih (Stage.takeGroup_spares _ x)
          · exact x.edit rfl rfl rfl
        · exact x

theorem Stage.play_spares (x : p.Spares slot e limits) : p.play.Spares slot e limits := Stage.playRun_spares _ x

theorem Stage.pause_spares (x : p.Spares slot e limits) : p.pause.Spares slot e limits :=
  (Stage.releaseAll_spares x).edit rfl rfl rfl

theorem Stage.resume_spares (x : p.Spares slot e limits) : p.resume.Spares slot e limits := by
  unfold Stage.resume
  split
  · exact Stage.play_spares (Stage.beginWait_spares _ x)
  · split
    · have y : (if p.player.restartOwed then p.restart p.player.lastTime p.player.followTempo false else p).Spares slot e limits := by
        split
        · exact Stage.restart_spares _ _ _ x
        · exact x
      exact Stage.play_spares (y.edit rfl rfl rfl)
    · exact x.edit rfl rfl rfl

/-- R148: PLAY_TOGGLE answers no request of another owner. -/
theorem Stage.toggle_spares (x : p.Spares slot e limits) : p.toggle.Spares slot e limits := by
  unfold Stage.toggle
  extract_lets p1
  have y : p1.Spares slot e limits := by
    unfold p1
    split
    · exact Stage.resume_spares x
    · exact x.edit rfl rfl rfl
    · exact Stage.pause_spares x
  exact y.edit (Hub.raise_inFlight _ _) rfl rfl

end

end Sys2Proof.Machine
end

section
/-! SUPPORT. The rail at work answers no request but those of its active move and its next slot (R118, R123): one lemma per operation
that RAIL_TOGGLE can lead to. -/

namespace Sys2Proof.Machine

/-- A slot has its entry in the table of requests, and the rail owes it no answer. -/
structure Deck.Spares (slot : Fin 32) (e : InFlight) (d : Deck) : Prop where
  entry : d.hub.inFlightEntry slot = some e
  active : d.rail.active.bind ActiveMove.slot ≠ some slot
  next : (d.rail.next.bind fun n => n.move.slot) ≠ some slot

section
variable {slot : Fin 32} {e : InFlight} {d t : Deck}

/-- What leaves the table, the active move's slot and the next slot. -/
theorem Deck.Spares.edit (x : d.Spares slot e) (table : t.hub.inFlight = d.hub.inFlight)
    (active : t.rail.active.bind ActiveMove.slot = d.rail.active.bind ActiveMove.slot) (next : t.rail.next = d.rail.next) :
    t.Spares slot e :=
  ⟨(Hub.inFlightEntry_congr table slot).trans x.entry, by rw [active]; exact x.active, by rw [next]; exact x.next⟩

theorem Deck.note_spares (subject detail item : Nat) (x : d.Spares slot e) : (d.note subject detail item).Spares slot e :=
  x.edit (Hub.note_inFlight _ _ _ _ _ _ _) rfl rfl

theorem Deck.beginHoming_spares (profile : Profile) (x : d.Spares slot e) : (d.beginHoming profile).Spares slot e := by
  unfold Deck.beginHoming
  split <;> exact x.edit rfl rfl rfl

theorem Deck.leaveGate_spares (x : d.Spares slot e) : d.leaveGate.Spares slot e := by
  unfold Deck.leaveGate
  split
  · exact x
  · next m active =>
    split
    · exact Deck.beginHoming_spares _ (x.edit rfl (by rw [active]; rfl) rfl)
    · exact x.edit rfl rfl rfl

theorem Deck.enterGate_spares (x : d.Spares slot e) : d.enterGate.Spares slot e := by
  have gated : (d.onRail fun r => { r with state := .gated, gateSince := d.hub.now }).Spares slot e := x.edit rfl rfl rfl
  unfold Deck.enterGate
  dsimp only
  split
  · exact Deck.leaveGate_spares gated
  · exact gated

theorem Rail.enableDriver_next (now : Nat) (r : Rail) : (r.enableDriver now).next = r.next := by
  unfold Rail.enableDriver
  split <;> rfl

/-- R104: a move made active brings its own slot and no other. -/
theorem Deck.activateCore_spares {m : MoveRequest} (other : m.slot ≠ some slot) (x : d.Spares slot e) :
    (d.activateCore m).1.Spares slot e := by
  unfold Deck.activateCore
  extract_lets target move d1
  have y : d1.Spares slot e := ⟨x.entry, other, by
    show ((d.rail.enableDriver d.hub.now).next.bind _) ≠ _
    rw [Rail.enableDriver_next]
    exact x.next⟩
  clear_value d1
  split
  · split
    · exact y.edit rfl rfl rfl
    · exact y
  · split
    · exact Deck.enterGate_spares y
    · exact y.edit rfl rfl rfl

theorem Rail.afterEnd_next (cause : StopCause) (fast : Bool) (m : ActiveMove) (r : Rail) :
    (r.afterEnd cause fast m).next = r.next := by
  cases cause with
  | haltRequest => simp only [Rail.afterEnd]; split <;> rfl
  | _ => rfl

/-- R118: the end of a move answers that move's request. -/
theorem Deck.endBasic_spares (cause : StopCause) (x : d.Spares slot e) : (d.endBasic cause).Spares slot e := by
  unfold Deck.endBasic
  split
  · exact x
  · next m active =>
    extract_lets fast d1 d2
    have own : m.slot ≠ some slot := by
      have owed := x.active
      rwa [active] at owed
    have y : d1.Spares slot e := ⟨x.entry, nofun, by
      show ((d.rail.afterEnd cause fast m).next.bind _) ≠ _
      rw [Rail.afterEnd_next]
      exact x.next⟩
    have z : d2.Spares slot e := (Deck.note_spares _ _ _ y).edit (Hub.raise_inFlight _ _) rfl rfl
    exact ⟨(Hub.completeOptional_entry own _ _ _).trans z.entry, z.active, z.next⟩

theorem Deck.startNext_spares (notice : Bool) {m : MoveRequest} (other : m.slot ≠ some slot) (x : d.Spares slot e) :
    (d.startNext notice m).Spares slot e := by
  unfold Deck.startNext
  extract_lets d0 a d1
  have y : d0.Spares slot e := ⟨x.entry, x.active, nofun⟩
  split
  · exact ⟨(Hub.completeOptional_entry other _ _ _).trans y.entry, y.active, y.next⟩
  · have z : d1.Spares slot e := by
      unfold d1
      split
      · exact Deck.note_spares _ _ _ (Deck.activateCore_spares other y)
      · exact Deck.activateCore_spares other y
    split
    · exact Deck.endBasic_spares _ z
    · exact z

theorem Deck.endMove_spares (cause : StopCause) (x : d.Spares slot e) : (d.endMove cause).Spares slot e := by
  have y := Deck.endBasic_spares cause x
  unfold Deck.endMove
  dsimp only
  split
  · exact y
  · next n waits =>
    have other : n.move.slot ≠ some slot := by
      have owed := y.next
      rwa [waits] at owed
    split
    · split
      · exact Deck.startNext_spares _ other y
      · exact y
    · exact ⟨y.entry, y.active, other⟩

theorem Deck.activate_spares {m : MoveRequest} (other : m.slot ≠ some slot) (x : d.Spares slot e) :
    (d.activate m).Spares slot e := by
  unfold Deck.activate
  dsimp only
  split
  · exact Deck.endMove_spares _ (Deck.activateCore_spares other x)
  · exact Deck.activateCore_spares other x

/-- R124: a move of the footswitch has no slot. -/
theorem Deck.toggleMove_slot {m : MoveRequest} (move : d.toggleMove = some m) : m.slot = none := by
  unfold Deck.toggleMove at move
  split at move
  · split at move <;> cases move <;> rfl
  · cases move

theorem Deck.toggle_spares (x : d.Spares slot e) : d.toggle.Spares slot e := by
  unfold Deck.toggle
  split
  · next m move => exact Deck.activate_spares (by rw [Deck.toggleMove_slot move]; nofun) x
  · exact x

end

end Sys2Proof.Machine
end

section
/-! PROOFS. PEDAL_CONFIG (O28): the groups applied, the footswitch changes that its new debounce times accept, and the answer. -/

namespace Sys2Proof.Machine

variable {s : State} {slot : Fin 32} {e : InFlight} {limits : Nat × Nat}

/-! ### A request that no owner of an action answers (R185) -/

/-- A slot has its entry in the table of requests, neither the recorder nor the player nor the rail owes it an answer, and the
damper limits at the voice engine are those given. -/
structure State.SparedByActions (slot : Fin 32) (e : InFlight) (limits : Nat × Nat) (s : State) : Prop where
  recorder : Desk.Spares slot e (s.hub, s.recorder)
  player : s.stage.Spares slot e limits
  rail : s.deck.Spares slot e

/-- What leaves the hub's table, the owners and the limits. -/
theorem State.SparedByActions.edit {t : State} (x : s.SparedByActions slot e limits) (table : t.hub.inFlight = s.hub.inFlight)
    (recorder : t.recorder = s.recorder) (player : t.player = s.player) (rail : t.rail = s.rail)
    (same : t.voice.damperLimits = s.voice.damperLimits) : t.SparedByActions slot e limits :=
  ⟨x.recorder.congr table (congrArg Recorder.pendingSlot recorder),
    x.player.edit table (congrArg Player.pendingSlot player) same,
    x.rail.edit table (congrArg (fun r : Rail => r.active.bind ActiveMove.slot) rail) (congrArg Rail.next rail)⟩

/-- R184: a request just taken, of a slot that no block owes. -/
theorem State.handed_sparedByActions {kind : RequestKind} {tag : Word16} {args : List Byte} (owed : RequestsOwed s)
    (fresh : s.hub.holdsSlot slot = false) : (s.handed slot kind tag args).SparedByActions slot
      { slot, kind, tag, owner := kind.ownerFor args } s.voice.damperLimits := by
  have free := owed.not_owed fresh
  have entry := State.handed_entry (kind := kind) (tag := tag) (args := args) fresh
  refine ⟨State.handed_spares owed fresh, ⟨entry, fun pending => free ?_, rfl⟩,
    ⟨entry, fun active => free ?_, fun next => free ?_⟩⟩
  · have pending' : s.player.pendingSlot = some slot := pending
    simp [State.owedSlots, pending']
  · have active' : s.rail.active.bind ActiveMove.slot = some slot := active
    simp [State.owedSlots, active']
  · have next' : (s.rail.next.bind fun n => n.move.slot) = some slot := next
    simp [State.owedSlots, next']

theorem Desk.mark_spares {d : Desk} (number : Option Nat) (x : d.Spares slot e) : (d.mark number).Spares slot e := by
  have numbered : Desk.Spares slot e (if number.isSome then d.readClock
      else (d.readClock.1, { d.readClock.2 with nextMark := (d.readClock.2.nextMark + 1) % 256 })) := by
    split
    · exact Desk.readClock_spares x
    · exact (Desk.readClock_spares x).congr rfl rfl
  exact Desk.appendAt_spares _ _ numbered

/-- R97, R124, R148, R161: an action may answer requests of its owner, and no other. -/
theorem State.switchAction_sparedByActions (action : SwitchAction) (x : s.SparedByActions slot e limits) :
    (s.switchAction action).1.SparedByActions slot e limits := by
  unfold State.switchAction
  split
  · exact x
  · split
    · exact x
    · split
      · split
        · have y := Stage.toggle_spares x.player
          exact ⟨⟨y.entry, x.recorder.2⟩, y, ⟨y.entry, x.rail.active, x.rail.next⟩⟩
        · exact x
      · exact x.edit (Beater.toggle_inFlight _ _ (s.hub, s.metronome)) rfl rfl rfl rfl
      · split
        · have y := Desk.mark_spares none x.recorder
          exact ⟨y, ⟨y.1, x.player.pending, x.player.limits⟩, ⟨y.1, x.rail.active, x.rail.next⟩⟩
        · exact x
      · split
        · have y := Deck.toggle_spares x.rail
          exact ⟨⟨y.entry, x.recorder.2⟩, ⟨y.entry, x.player.pending, x.player.limits⟩, y.edit rfl rfl rfl⟩
        · exact x
      · exact x

theorem State.acceptHeld_sparedByActions (i : Fin 2) (x : s.SparedByActions slot e limits) :
    (s.acceptHeld i).SparedByActions slot e limits := by
  have accepted (sw : Vector SwitchStage 2) : State.SparedByActions slot e limits { s with switches := sw } :=
    x.edit rfl rfl rfl rfl rfl
  unfold State.acceptHeld State.acceptSwitch
  dsimp only
  split
  · split
    · split
      · split
        · exact x.edit rfl rfl rfl rfl rfl
        · exact accepted _
      · split
        · exact (State.switchAction_sparedByActions _ (accepted _)).edit (Hub.note_inFlight _ _ _ _ _ _ _) rfl rfl rfl rfl
        · exact accepted _
    · exact accepted _
  · exact x

theorem State.setSwitch_sparedByActions (i : Fin 2) (n : Nat) (x : s.SparedByActions slot e limits) :
    (s.setSwitch i n).SparedByActions slot e limits := by
  unfold State.setSwitch
  split
  · exact x
  · exact x.edit rfl rfl rfl rfl rfl

/-! ### The settings of a footswitch (R53, R54, R57) -/

/-- What the byte of a footswitch sets: its debounce time, its edges, its action and its wake flag. -/
def State.switchSetting (i : Fin 2) (s : State) : Debounce × EdgeSelection × SwitchAction × Bool :=
  (s.switches[i].debounce, s.switches[i].edges, s.actions[i], s.switches[i].wake)

/-- R57: a switch takes the setting of its byte, and the other keeps its own. -/
theorem State.setSwitch_switchSetting {i : Fin 2} {n : Nat} {setting : Debounce × EdgeSelection × SwitchAction × Bool}
    (parsed : parseSwitch n = some setting) (j : Fin 2) (s : State) :
    (s.setSwitch i n).switchSetting j = if j = i then setting else s.switchSetting j := by
  obtain ⟨debounce, edges, action, wake⟩ := setting
  simp only [State.setSwitch, parsed, State.switchSetting]
  split
  · next same =>
    subst same
    simp
  · next other =>
    have apart : i.val ≠ j.val := fun same => other (Fin.ext same.symm)
    simp [apart]

/-- R53: a change accepted leaves the settings of both switches. -/
theorem State.acceptHeld_switchSetting (i j : Fin 2) (s : State) : (s.acceptHeld i).switchSetting j = s.switchSetting j := by
  have actions : (s.acceptHeld i).actions = s.actions :=
    (State.acceptHeld_work i (List.Subset.refl _) (.refl _ s)).same .actions (by decide)
  have stage : (s.accepted i).switchSetting j = s.switchSetting j := by
    by_cases same : j = i
    · subst same
      simp [State.accepted, State.switchSetting]
    · have apart : i.val ≠ j.val := fun x => same (Fin.ext x.symm)
      simp [State.accepted, State.switchSetting, apart]
  have switches : (s.acceptHeld i).switches = (s.accepted i).switches ∨ s.acceptHeld i = s := by
    unfold State.acceptHeld
    split
    · exact .inl (State.acceptSwitch_switches i s)
    · exact .inr rfl
  rcases switches with taken | none
  · rw [← stage]
    simp only [State.switchSetting, taken, actions]
    rfl
  · rw [none]

/-! ### The groups (R57) -/

/-- R57: the pedal group, where its flag is set. -/
def State.withPedalGroup (a : List Byte) (s : State) : State :=
  if bitOf (u8At a 0) 0 then s.setPedals (PedalSettings.parse a) else s

/-- R57: both switches, with the changes that their new debounce times accept. -/
def State.withSwitches (a : List Byte) (s : State) : State :=
  (((s.setSwitch 0 (u8At a 4)).setSwitch 1 (u8At a 5)).acceptHeld 0).acceptHeld 1

/-- R57: both groups, where their flags are set. -/
def State.withPedalConfig (a : List Byte) (s : State) : State :=
  if bitOf (u8At a 0) 1 then (s.withPedalGroup a).withSwitches a else s.withPedalGroup a

theorem actPedalConfig_eq (slot : Fin 32) (a : List Byte) (s : State) : actPedalConfig slot a s =
    (s.withPedalConfig a).mapHub fun h => h.completeRequest slot .ok (s.withPedalConfig a).pedalResult := rfl

theorem State.withSwitches_work (a : List Byte) (s : State) : Work (.actions :: switchPieces) s (s.withSwitches a) :=
  State.acceptHeld_work 1 (by decide) (State.acceptHeld_work 0 (by decide) (State.setSwitch_work 1 _ (by decide)
    (State.setSwitch_work 0 _ (by decide) (.refl _ s))))

theorem State.withPedalGroup_hub (a : List Byte) (s : State) : (s.withPedalGroup a).hub = s.hub := by
  unfold State.withPedalGroup
  split <;> rfl

/-- R57: the work between taking the request and its answer. -/
theorem State.withPedalConfig_reach (a : List Byte) (s : State) : HubReach s.hub (s.withPedalConfig a).hub := by
  rw [← State.withPedalGroup_hub a s]
  unfold State.withPedalConfig
  split
  · exact (State.withSwitches_work a _).reach
  · exact .refl _

theorem State.withPedalConfig_pedalSettings (a : List Byte) (s : State) :
    (s.withPedalConfig a).pedalSettings = (s.withPedalGroup a).pedalSettings := by
  unfold State.withPedalConfig
  split
  · exact (State.withSwitches_work a _).same .pedalSettings (by decide)
  · rfl

theorem State.withPedalConfig_sparedByActions (a : List Byte) (x : s.SparedByActions slot e s.voice.damperLimits) :
    (s.withPedalConfig a).SparedByActions slot e (s.withPedalGroup a).voice.damperLimits := by
  have group : (s.withPedalGroup a).SparedByActions slot e (s.withPedalGroup a).voice.damperLimits := by
    unfold State.withPedalGroup
    split
    · exact ⟨x.recorder, ⟨x.player.entry, x.player.pending, rfl⟩, x.rail.edit rfl rfl rfl⟩
    · exact x
  unfold State.withPedalConfig
  split
  · exact State.acceptHeld_sparedByActions _ (State.acceptHeld_sparedByActions _ (State.setSwitch_sparedByActions _ _
      (State.setSwitch_sparedByActions _ _ group)))
  · exact group

/-- R57: with its flag set each switch has the setting of its byte. -/
theorem State.withPedalConfig_switchSetting {a : List Byte} (flag : bitOf (u8At a 0) 1 = true)
    (taken : refusePedalConfig a = none) (i : Fin 2) (s : State) :
    parseSwitch (u8At a (4 + i.val)) = some ((s.withPedalConfig a).switchSetting i) := by
  have fine : ¬ ((parseSwitch (u8At a 4)).isNone = true ∨ (parseSwitch (u8At a 5)).isNone = true) := fun bad => by
    unfold refusePedalConfig at taken
    rw [if_pos (by simpa [flag] using Or.inr bad)] at taken
    cases taken
  obtain ⟨first, parsed⟩ : ∃ x, parseSwitch (u8At a 4) = some x :=
    Option.ne_none_iff_exists'.mp fun no => fine (.inl (by rw [no]; rfl))
  obtain ⟨second, parsed'⟩ : ∃ x, parseSwitch (u8At a 5) = some x :=
    Option.ne_none_iff_exists'.mp fun no => fine (.inr (by rw [no]; rfl))
  rw [State.withPedalConfig, if_pos flag, State.withSwitches, State.acceptHeld_switchSetting, State.acceptHeld_switchSetting,
    State.setSwitch_switchSetting parsed', State.setSwitch_switchSetting parsed]
  match i with
  | 0 => exact parsed
  | 1 => exact parsed'

theorem State.withPedalConfig_of_clear {a : List Byte} (clear : bitOf (u8At a 0) 1 = false) (s : State) :
    (s.withPedalConfig a).switches = s.switches ∧ (s.withPedalConfig a).actions = s.actions := by
  rw [State.withPedalConfig, if_neg (by rw [clear]; decide)]
  unfold State.withPedalGroup
  split <;> exact ⟨rfl, rfl⟩

end Sys2Proof.Machine

open Sys2Proof Sys2Proof.Machine

/-- Settles O28: the groups are applied to the state that has taken the request; what the accepted changes of the footswitches do
leaves the request, the settings and the limits, and the completion follows. -/
theorem pedalConfigReplacesItsGroups : Obligations.PedalConfigReplacesItsGroups := by
  intro slot tag a s hands owed allowed
  obtain ⟨-, attached, -, fresh, -⟩ := State.hands_iff.mp hands
  have taken := exec_handed (c := .pedalConfig slot tag a) rfl hands allowed
  have spared := State.withPedalConfig_sparedByActions (s := s.handed slot .pedalConfig tag a) a
    (State.handed_sparedByActions (kind := .pedalConfig) (tag := tag) (args := a) owed fresh)
  have reach := State.withPedalConfig_reach a (s.handed slot .pedalConfig tag a)
  have settings := State.withPedalConfig_pedalSettings a (s.handed slot .pedalConfig tag a)
  have limits := spared.player.limits
  refine ⟨_, taken.trans (congrArg Host.Outcome.next (actPedalConfig_eq slot a _)),
    answered_of_completed (kind := .pedalConfig) (args := a) attached reach spared.player.entry rfl rfl,
    fun set => ?_, fun clear => ?_, fun i set => State.withPedalConfig_switchSetting set allowed i _,
    fun clear => State.withPedalConfig_of_clear clear _⟩
  · rw [State.withPedalGroup, if_pos set] at settings limits
    exact ⟨settings, congrArg Prod.fst limits, congrArg Prod.snd limits⟩
  · rw [State.withPedalGroup, if_neg (by rw [clear]; decide)] at settings limits
    exact ⟨settings, congrArg Prod.fst limits, congrArg Prod.snd limits⟩

end

section
/-! SUPPORT. The voice table (R63, R64, R76): the counts of its records, and what freeing, cutting and starting a voice do to it,
each said once. -/

namespace Sys2Proof.Machine

/-! ### Records -/

theorem VoiceEngine.get_eq (k : Fin 96) (ve : VoiceEngine) : ve.get k = ve.voices[k] := rfl

theorem VoiceEngine.get_put_same (k : Fin 96) (v : Voice) (ve : VoiceEngine) : (ve.put k v).get k = v := by
  rw [VoiceEngine.get_put, if_pos rfl]

theorem VoiceEngine.get_put_of_ne {j k : Fin 96} (other : j ≠ k) (v : Voice) (ve : VoiceEngine) :
    (ve.put k v).get j = ve.get j := by rw [VoiceEngine.get_put, if_neg other]

/-- A record that takes two values one after the other holds the second. -/
theorem VoiceEngine.put_put (k : Fin 96) (v w : Voice) (ve : VoiceEngine) : (ve.put k v).put k w = ve.put k w := by
  unfold VoiceEngine.put
  congr 1
  simp

theorem VoiceEngine.eachVoice_get (f : Voice → Voice) (k : Fin 96) (ve : VoiceEngine) :
    (ve.eachVoice f).get k = f (ve.get k) := by
  unfold VoiceEngine.eachVoice
  simp [VoiceEngine.get_eq]

theorem Voice.inUse_iff {v : Voice} : v.inUse = true ↔ v.phase ≠ .free := by simp [Voice.inUse]

theorem Voice.not_inUse_iff {v : Voice} : v.inUse = false ↔ v.phase = .free := by simp [Voice.inUse]

theorem Voice.inUse_of_alive {v : Voice} (alive : v.alive = true) : v.inUse = true := by
  rw [Voice.inUse_iff]
  rcases (Voice.alive_iff v).mp alive with sounds | damps
  · simp [sounds]
  · simp [damps]

theorem Voice.ofPair_iff {key : Fin 88} {source : Source} {v : Voice} :
    v.ofPair key source = true ↔ v.key = key ∧ v.source = source := by simp [Voice.ofPair]

/-! ### Counts -/

theorem VoiceEngine.count_eq (p : Voice → Bool) (ve : VoiceEngine) :
    ve.count p = (List.finRange 96).countP fun k => p (ve.get k) := by
  have table : ve.voices.toList = (List.finRange 96).map ve.get := by
    refine List.ext_getElem (by simp) fun i _ _ => ?_
    simp [VoiceEngine.get_eq]
  rw [VoiceEngine.count, table, List.countP_map]
  rfl

/-- Of two tables, the one whose records with a property stand among the other's has no more of them. -/
theorem VoiceEngine.count_le {p q : Voice → Bool} {a b : VoiceEngine} (sub : ∀ k, p (a.get k) = true → q (b.get k) = true) :
    a.count p ≤ b.count q := by
  rw [VoiceEngine.count_eq, VoiceEngine.count_eq]
  exact List.countP_mono_left fun k _ => sub k

theorem VoiceEngine.count_congr {p q : Voice → Bool} {a b : VoiceEngine} (same : ∀ k, p (a.get k) = q (b.get k)) :
    a.count p = b.count q :=
  Nat.le_antisymm (VoiceEngine.count_le fun k h => same k ▸ h) (VoiceEngine.count_le fun k h => (same k).symm ▸ h)

theorem VoiceEngine.count_le_size (p : Voice → Bool) (ve : VoiceEngine) : ve.count p ≤ 96 := by
  rw [VoiceEngine.count_eq]
  exact List.countP_le_length.trans (by simp)

theorem VoiceEngine.count_eq_zero {p : Voice → Bool} {ve : VoiceEngine} : ve.count p = 0 ↔ ∀ k, p (ve.get k) = false := by
  simp [VoiceEngine.count_eq]

/-- The count of a property when one record takes a value. -/
theorem VoiceEngine.count_put (p : Voice → Bool) (k : Fin 96) (v : Voice) (ve : VoiceEngine) :
    (ve.put k v).count p + (p (ve.get k)).toNat = ve.count p + (p v).toNat := by
  have there : k.val < ve.voices.toList.length := by simp
  have old : ve.voices.toList[k.val] = ve.get k := by simp [VoiceEngine.get_eq]
  have among : p (ve.get k) = true → 0 < ve.voices.toList.countP p := fun h =>
    List.countP_pos_iff.mpr ⟨_, List.getElem_mem there, old ▸ h⟩
  have table : (ve.put k v).voices.toList = ve.voices.toList.set k.val v := Vector.toList_set k.isLt
  rw [VoiceEngine.count, table, List.countP_set there, old, VoiceEngine.count]
  by_cases was : p (ve.get k) = true
  · have := among was
    by_cases is : p v = true
    · simp only [was, is, if_true, Bool.toNat_true]; omega
    · simp only [was, is, if_true, Bool.toNat_true, Bool.toNat_false, Bool.false_eq_true, if_false]; omega
  · by_cases is : p v = true
    · simp [was, is]
    · simp [was, is]

theorem VoiceEngine.count_put_of_eq {p : Voice → Bool} {k : Fin 96} {v : Voice} {ve : VoiceEngine} (same : p v = p (ve.get k)) :
    (ve.put k v).count p = ve.count p := by
  have counted := ve.count_put p k v
  rw [same] at counted
  omega

end Sys2Proof.Machine
end

section
/-! SUPPORT. The voice engine's operations on one record, one equation per case (R64, R65, R74, R75). -/

namespace Sys2Proof.Machine

variable {e : Engine} {k : Fin 96}

/-- R192: the reads of one voice record. -/
def ReadTag.ofVoice (k : Fin 96) : ReadTag → Bool
  | .voice rec _ _ _ => rec == k
  | _ => false

/-- R65, R76: the table after a voice has gone FREE: its record keeps its start number alone, and the limit in force falls while it
is above the target. -/
def VoiceEngine.freed (k : Fin 96) (ve : VoiceEngine) : VoiceEngine :=
  { ve.put k { Voice.reset with startNumber := (ve.get k).startNumber } with
    limit := if ve.target < ve.limit then ve.limit - 1 else ve.limit }

/-- R64: the table after a voice past its first fill has been cut. -/
def VoiceEngine.faded (k : Fin 96) (ve : VoiceEngine) : VoiceEngine :=
  { ve.put k { ve.get k with
      phase := .cutting, keyDown := false, sostenutoHeld := false, cutTime := ve.sampleClock.toNat, cutLevel := (ve.get k).level
      cutNumber := ve.cuts } with cuts := ve.cuts + 1 }

/-- R65: the record of a note that starts in record `k`. -/
def VoiceEngine.startedVoice (k : Fin 96) (key : Fin 88) (source : Source) (velocity : Nat) (ve : VoiceEngine) : Voice :=
  let zone := chooseZone (ve.zoneSet key source) velocity
  let reads := zone.fillReads 0 512
  { phase := .sounding, key, source, velocity, zone, keyDown := true
    sostenutoHeld := source == .live && ve.capture.contains key
    level := startLevel velocity, startTime := ve.sampleClock.toNat
    halfA := .fillingBy reads.length, halfB := .fillingBy reads.length
    firstFill := true, cursor := 0, fetch := zone.fetchAfter 0 512, cutTime := 0, cutLevel := 0, cutNumber := 0
    startNumber := (ve.get k).startNumber + 1, playB := false, playPos := 0, leftBehind := false }

theorem VoiceEngine.freed_get (j k : Fin 96) (ve : VoiceEngine) : (ve.freed k).get j =
    if j = k then { Voice.reset with startNumber := (ve.get k).startNumber } else ve.get j := VoiceEngine.get_put j k _ ve

theorem VoiceEngine.freed_get_phase (k : Fin 96) (ve : VoiceEngine) : ((ve.freed k).get k).phase = .free := by
  rw [VoiceEngine.freed_get, if_pos rfl]
  rfl

theorem VoiceEngine.freed_get_of_ne {j k : Fin 96} (other : j ≠ k) (ve : VoiceEngine) : (ve.freed k).get j = ve.get j :=
  VoiceEngine.get_put_of_ne other _ ve

theorem VoiceEngine.faded_get_of_ne {j k : Fin 96} (other : j ≠ k) (ve : VoiceEngine) : (ve.faded k).get j = ve.get j :=
  VoiceEngine.get_put_of_ne other _ ve

theorem VoiceEngine.faded_get (k : Fin 96) (ve : VoiceEngine) : (ve.faded k).get k = { ve.get k with
    phase := .cutting, keyDown := false, sostenutoHeld := false, cutTime := ve.sampleClock.toNat, cutLevel := (ve.get k).level
    cutNumber := ve.cuts } := VoiceEngine.get_put_same k _ ve

theorem Engine.freeVoice_of_used (used : (e.2.get k).inUse = true) :
    e.freeVoice k = (e.1.dropReads (ReadTag.ofVoice k), e.2.freed k) := by
  rw [Engine.freeVoice, if_pos used]
  rfl

theorem Engine.freeVoice_of_free (free : (e.2.get k).inUse = false) : e.freeVoice k = e := by
  rw [Engine.freeVoice, if_neg (by rw [free]; decide)]

theorem Engine.cutVoice_of_filled (alive : (e.2.get k).alive = true) (filled : (e.2.get k).firstFill = false) :
    e.cutVoice k = (e.1, e.2.faded k) := by
  rw [Engine.cutVoice, if_pos alive, if_neg (by rw [filled]; decide)]
  rfl

theorem Engine.cutVoice_of_awaiting (alive : (e.2.get k).alive = true) (awaits : (e.2.get k).firstFill = true) :
    e.cutVoice k = (e.1.dropReads (ReadTag.ofVoice k), e.2.freed k) := by
  rw [Engine.cutVoice, if_pos alive, if_pos awaits, Engine.freeVoice_of_used (Voice.inUse_of_alive alive)]

theorem Engine.cutVoice_of_not_alive (not : (e.2.get k).alive = false) : e.cutVoice k = e := by
  rw [Engine.cutVoice, if_neg (by rw [not]; decide)]

theorem Engine.startIn_voice (k : Fin 96) (key : Fin 88) (source : Source) (velocity : Nat) (e : Engine) :
    (e.startIn k key source velocity).2 = e.2.put k (e.2.startedVoice k key source velocity) := rfl

/-! ### Room and the first FREE record (R65, R74) -/

/-- R65: the record that a note starts in is FREE, and every lower one is in use. -/
theorem VoiceEngine.firstFree_eq_some {ve : VoiceEngine} : ve.firstFree = some k ↔
    (ve.get k).phase = .free ∧ ∀ j < k, (ve.get j).phase ≠ .free := by
  rw [VoiceEngine.firstFree, List.find?_eq_some_iff_getElem]
  simp only [beq_iff_eq, Bool.not_eq_true', beq_eq_false_iff_ne, List.getElem_finRange]
  constructor
  · rintro ⟨free, i, small, rfl, below⟩
    exact ⟨free, fun j lower => below j.val lower⟩
  · rintro ⟨free, below⟩
    exact ⟨free, k.val, by simp, rfl, fun j lower => below ⟨j, by omega⟩ lower⟩

theorem VoiceEngine.firstFree_eq_none {ve : VoiceEngine} : ve.firstFree = none ↔ ∀ j, (ve.get j).phase ≠ .free := by
  simp [VoiceEngine.firstFree]

/-- R74: there is room while a record is FREE and the count is below the limit in force. -/
theorem VoiceEngine.room_iff {ve : VoiceEngine} :
    ve.room = true ↔ (∃ k, (ve.get k).phase = .free) ∧ ve.inUse < ve.limit := by
  rw [VoiceEngine.room, Bool.and_eq_true, Option.isSome_iff_ne_none, Ne, VoiceEngine.firstFree_eq_none, decide_eq_true_iff]
  simp

theorem VoiceEngine.room_of_firstFree {ve : VoiceEngine} (first : ve.firstFree = some k) (below : ve.inUse < ve.limit) :
    ve.room = true := by simp [VoiceEngine.room, first, below]

/-! ### The queue is served (R74) -/

section
variable {p : PendingStart} {rest : List PendingStart}

theorem Engine.serveOne_of_gated (head : e.2.queue = p :: rest) (first : e.2.firstFree = some k)
    (gated : e.2.gateAllows p.source = false) :
    e.serveOne = Engine.drop p.key p.source p.velocity 1 (e.1, { e.2 with queue := rest }) := by
  rw [Engine.serveOne, head, first]
  simp only [gated, Bool.not_false, if_true]

theorem Engine.serveOne_of_noZone (head : e.2.queue = p :: rest) (first : e.2.firstFree = some k)
    (allowed : e.2.gateAllows p.source = true) (none_ : e.2.zoneSet p.key p.source = []) :
    e.serveOne = Engine.drop p.key p.source p.velocity 2 (e.1, { e.2 with queue := rest }) := by
  rw [Engine.serveOne, head, first]
  simp only [allowed, none_, Bool.not_true, Bool.false_eq_true, if_false, List.isEmpty_nil, if_true]

theorem Engine.serveOne_of_zone (head : e.2.queue = p :: rest) (first : e.2.firstFree = some k)
    (allowed : e.2.gateAllows p.source = true) (some_ : e.2.zoneSet p.key p.source ≠ []) :
    e.serveOne = Engine.startIn k p.key p.source p.velocity (e.1, { e.2 with queue := rest }) := by
  have zones : (e.2.zoneSet p.key p.source).isEmpty = false := by simpa using some_
  rw [Engine.serveOne, head, first]
  simp only [allowed, zones, Bool.not_true, Bool.false_eq_true, if_false]

end

/-! ### One turn of the serving (R74, R75) -/

section
variable {joined : Bool} {n : Nat}

theorem Engine.settleFor_empty (none_ : e.2.queue = []) : e.settleFor joined n = e := by
  cases n with
  | zero => rfl
  | succ n => rw [Engine.settleFor, if_pos (by rw [none_]; rfl)]

theorem Engine.settleFor_of_room (some_ : e.2.queue ≠ []) (room : e.2.room = true) :
    e.settleFor joined (n + 1) = e.serveOne.settleFor joined n := by
  rw [Engine.settleFor, if_neg (by simpa using some_), if_pos room]

/-- R75, R76: without room nothing happens where the limit in force is above its target and no entry has joined, where as many
voices are CUTTING as entries wait, or where no voice can be stolen. -/
theorem Engine.settleFor_of_still (full : e.2.room = false)
    (still : joined = false ∧ e.2.target < e.2.limit ∨ e.2.queue.length ≤ e.2.inPhase .cutting ∨ e.2.victim = none) :
    e.settleFor joined (n + 1) = e := by
  rw [Engine.settleFor, if_neg (show ¬ e.2.room = true by rw [full]; decide)]
  split
  · rfl
  · rcases still with ⟨fell, above⟩ | enough | nobody
    · rw [if_pos (by simp [fell, above])]
    · split
      · rfl
      · rw [if_neg (Nat.not_lt.mpr enough)]
    · rw [nobody]
      dsimp only
      split
      · rfl
      · split <;> rfl

theorem Engine.settleFor_of_steal (full : e.2.room = false) (may : joined = true ∨ e.2.limit ≤ e.2.target)
    (few : e.2.inPhase .cutting < e.2.queue.length) (victim : e.2.victim = some k) :
    e.settleFor joined (n + 1) = (e.steal k).settleFor joined n := by
  have waits : e.2.queue.isEmpty = false := by
    cases queue : e.2.queue with
    | nil => rw [queue] at few; exact absurd few (Nat.not_lt_zero _)
    | cons => rfl
  have above : (!joined && decide (e.2.target < e.2.limit)) = false := by
    rcases may with may | may
    · simp [may]
    · simp [Nat.not_lt.mpr may]
  rw [Engine.settleFor, waits, full, above, if_pos few, victim]
  simp

end

end Sys2Proof.Machine
end

section
/-! SUPPORT. The moves from which the voice engine's operations are made: a change that leaves every voice its pair and its start, a
voice that goes FREE, and a pending entry that starts a voice where there is room (R64 to R76). -/

namespace Sys2Proof.Machine

/-! ### The moves -/

/-- A record that changes neither its use nor its pair nor its start: it may be cut, damped, or have its key let go. -/
structure Voice.EditedTo (v w : Voice) : Prop where
  inUse : w.inUse = v.inUse
  alive : w.alive = true → v.alive = true
  key : w.key = v.key
  source : w.source = v.source
  startNumber : w.startNumber = v.startNumber
  keyDown : w.keyDown = true → v.keyDown = true

/-- A change of the voice engine that starts no voice and ends none. -/
structure VoiceEngine.EditedTo (a b : VoiceEngine) : Prop where
  voice : ∀ k, (a.get k).EditedTo (b.get k)
  queue : b.queue.Sublist a.queue
  limit : b.limit = a.limit
  target : b.target = a.target
  policy : b.policy = a.policy
  atSilent : b.atSilent = a.atSilent
  clock : b.sampleClock = a.sampleClock

/-- One move of the voice engine. Where `live` is false no LIVE voice starts. -/
inductive EngineMove (live : Bool) : VoiceEngine → VoiceEngine → Prop
  | edit {a b : VoiceEngine} (x : a.EditedTo b) : EngineMove live a b
  | free {a : VoiceEngine} (k : Fin 96) (used : (a.get k).inUse = true) : EngineMove live a (a.freed k)
  | serve {a : VoiceEngine} {p : PendingStart} {rest : List PendingStart} {k : Fin 96} {v : Voice} (head : a.queue = p :: rest)
      (vacant : (a.get k).phase = .free) (room : a.inUse < a.limit) (gate : p.source = .live → live = true)
      (sounds : v.phase = .sounding) (key : v.key = p.key) (source : v.source = p.source) :
      EngineMove live a ({ a with queue := rest }.put k v)

/-- The voice engines that moves lead to. -/
def EngineReach (live : Bool) : VoiceEngine → VoiceEngine → Prop := Relation.ReflTransGen (EngineMove live)

/-- R70: LIVE voices may start, or the gate is closed to LIVE notes. -/
def VoiceEngine.Ruled (live : Bool) (ve : VoiceEngine) : Prop := live = true ∨ ve.gateAllows .live = false

theorem VoiceEngine.Ruled.always (ve : VoiceEngine) : ve.Ruled true := .inl rfl

theorem VoiceEngine.Ruled.of_gate {live : Bool} {a b : VoiceEngine} (policy : b.policy = a.policy) (silent : b.atSilent = a.atSilent)
    (x : a.Ruled live) : b.Ruled live := by
  refine x.imp_right fun closed => ?_
  rw [← closed]
  unfold VoiceEngine.gateAllows
  rw [policy, silent]

/-- R70: under a closed gate an entry that is allowed is not LIVE. -/
theorem VoiceEngine.Ruled.allowed {live : Bool} {ve : VoiceEngine} (x : ve.Ruled live) {source : Source}
    (allowed : ve.gateAllows source = true) (heard : source = .live) : live = true := by
  subst heard
  exact x.resolve_right fun closed => Bool.false_ne_true (closed.symm.trans allowed)

section
variable {live : Bool} {a b : VoiceEngine}

theorem Voice.EditedTo.refl (v : Voice) : v.EditedTo v := ⟨rfl, id, rfl, rfl, rfl, id⟩

/-- One record changes, and the queue and the limits stand. -/
theorem VoiceEngine.EditedTo.put (k : Fin 96) {v : Voice} (x : (a.get k).EditedTo v) : a.EditedTo (a.put k v) := by
  refine ⟨fun j => ?_, .refl _, rfl, rfl, rfl, rfl, rfl⟩
  rw [VoiceEngine.get_put]
  split
  · next same => rw [same]; exact x
  · exact .refl _

/-- Entries leave the queue. -/
theorem VoiceEngine.EditedTo.withQueue (x : a.EditedTo b) {queue : List PendingStart} (sub : queue.Sublist a.queue) :
    a.EditedTo { b with queue := queue } :=
  ⟨x.voice, sub, x.limit, x.target, x.policy, x.atSilent, x.clock⟩

theorem VoiceEngine.EditedTo.withCapture (x : a.EditedTo b) (keys : List (Fin 88)) : a.EditedTo { b with capture := keys } :=
  ⟨x.voice, x.queue, x.limit, x.target, x.policy, x.atSilent, x.clock⟩

theorem VoiceEngine.EditedTo.withKeyMap (x : a.EditedTo b) (map : Vector KeyZones 88) (load : Option KeymapLoad) :
    a.EditedTo { b with keyMap := map, load := load } :=
  ⟨x.voice, x.queue, x.limit, x.target, x.policy, x.atSilent, x.clock⟩

theorem VoiceEngine.EditedTo.refl (a : VoiceEngine) : a.EditedTo a := ⟨fun _ => .refl _, .refl _, rfl, rfl, rfl, rfl, rfl⟩

theorem EngineMove.gate (m : EngineMove live a b) :
    b.policy = a.policy ∧ b.atSilent = a.atSilent ∧ b.sampleClock = a.sampleClock := by
  cases m with
  | edit x => exact ⟨x.policy, x.atSilent, x.clock⟩
  | free => exact ⟨rfl, rfl, rfl⟩
  | serve => exact ⟨rfl, rfl, rfl⟩

theorem EngineReach.refl (a : VoiceEngine) : EngineReach live a a := Relation.ReflTransGen.refl

theorem EngineReach.one (m : EngineMove live a b) : EngineReach live a b := Relation.ReflTransGen.single m

theorem EngineReach.trans {c : VoiceEngine} (x : EngineReach live a b) (y : EngineReach live b c) : EngineReach live a c :=
  Relation.ReflTransGen.trans x y

/-- What every move keeps, every reach keeps. -/
theorem EngineReach.induct {P : VoiceEngine → Prop} (keep : ∀ a b, EngineMove live a b → P a → P b) (x : EngineReach live a b)
    (p : P a) : P b := by
  induction x with
  | refl => exact p
  | tail _ m ih => exact keep _ _ m ih

/-- No move changes what the gate rests on (R70), or the sample clock. -/
theorem EngineReach.gate (x : EngineReach live a b) :
    b.policy = a.policy ∧ b.atSilent = a.atSilent ∧ b.sampleClock = a.sampleClock := by
  refine x.induct (P := fun c => c.policy = a.policy ∧ c.atSilent = a.atSilent ∧ c.sampleClock = a.sampleClock)
    (fun _ _ m same => ?_) ⟨rfl, rfl, rfl⟩
  obtain ⟨policy, silent, clock⟩ := m.gate
  exact ⟨policy.trans same.1, silent.trans same.2.1, clock.trans same.2.2⟩

theorem EngineReach.sampleClock (x : EngineReach live a b) : b.sampleClock = a.sampleClock := x.gate.2.2

theorem EngineReach.ruled (x : EngineReach live a b) (r : a.Ruled live) : b.Ruled live := r.of_gate x.gate.1 x.gate.2.1

theorem EngineReach.edit (x : a.EditedTo b) : EngineReach live a b := .one (.edit x)

/-- A change outside the voices, the queue, the limits and the gate. -/
theorem EngineReach.aside (voices : b.voices = a.voices) (queue : b.queue = a.queue) (limit : b.limit = a.limit)
    (target : b.target = a.target) (policy : b.policy = a.policy) (silent : b.atSilent = a.atSilent)
    (clock : b.sampleClock = a.sampleClock) : EngineReach live a b :=
  .edit ⟨fun k => by rw [VoiceEngine.get_eq, VoiceEngine.get_eq, voices]; exact .refl _, queue ▸ .refl _, limit, target, policy, silent,
    clock⟩

end

/-! ### The operations (R64 to R76) -/

section
variable {live : Bool} {e : Engine}

theorem VoiceEngine.faded_edited {k : Fin 96} {ve : VoiceEngine} (alive : (ve.get k).alive = true) : ve.EditedTo (ve.faded k) := by
  have used := Voice.inUse_of_alive alive
  have cut : (ve.get k).EditedTo ((ve.faded k).get k) := by
    rw [VoiceEngine.faded_get]
    exact ⟨used.symm, fun _ => alive, rfl, rfl, rfl, fun down => absurd down Bool.false_ne_true⟩
  refine ⟨fun j => ?_, .refl _, rfl, rfl, rfl, rfl, rfl⟩
  by_cases same : j = k
  · rw [same]; exact cut
  · rw [VoiceEngine.faded_get_of_ne same]; exact .refl _

theorem Engine.freeVoice_moves (k : Fin 96) : EngineReach live e.2 (e.freeVoice k).2 := by
  by_cases used : (e.2.get k).inUse = true
  · rw [Engine.freeVoice_of_used used]; exact .one (.free k used)
  · rw [Engine.freeVoice_of_free (Bool.eq_false_of_not_eq_true used)]; exact .refl _

theorem Engine.cutVoice_moves (k : Fin 96) : EngineReach live e.2 (e.cutVoice k).2 := by
  by_cases alive : (e.2.get k).alive = true
  · by_cases awaits : (e.2.get k).firstFill = true
    · rw [Engine.cutVoice_of_awaiting alive awaits]
      exact .one (.free k (Voice.inUse_of_alive alive))
    · rw [Engine.cutVoice_of_filled alive (Bool.eq_false_of_not_eq_true awaits)]
      exact .edit (VoiceEngine.faded_edited alive)
  · rw [Engine.cutVoice_of_not_alive (Bool.eq_false_of_not_eq_true alive)]; exact .refl _

/-- A chain of engine operations along a list. -/
theorem EngineReach.foldl {α : Type} {f : Engine → α → Engine} (one : ∀ (u : Engine) x, EngineReach live u.2 (f u x).2)
    (l : List α) : EngineReach live e.2 (l.foldl f e).2 :=
  List.foldlRecOn (motive := fun u : Engine => EngineReach live e.2 u.2) l f (.refl _) fun u y x _ => y.trans (one u x)

theorem Engine.cutAll_moves (p : Voice → Bool) : EngineReach live e.2 (e.cutAll p).2 := by
  refine EngineReach.foldl (fun u k => ?_) _
  split
  · exact Engine.cutVoice_moves k
  · exact .refl _

/-- R72, R74: an entry or a note is dropped. -/
theorem Engine.drop_moves (key : Fin 88) (source : Source) (velocity reason : Nat) :
    EngineReach live e.2 (e.drop key source velocity reason).2 := .aside rfl rfl rfl rfl rfl rfl rfl

/-- R74: where there is room, the oldest entry is dropped or starts. -/
theorem Engine.serveOne_moves (room : e.2.room = true) (ruled : e.2.Ruled live) : EngineReach live e.2 e.serveOne.2 := by
  obtain ⟨-, below⟩ := VoiceEngine.room_iff.mp room
  cases queue : e.2.queue with
  | nil => rw [Engine.serveOne, queue]; exact .refl _
  | cons p rest =>
    have dropped (reason : Nat) :
        EngineReach live e.2 (Engine.drop p.key p.source p.velocity reason (e.1, { e.2 with queue := rest })).2 :=
      .edit ⟨fun k => .refl _, by rw [queue]; exact List.sublist_cons_self p rest, rfl, rfl, rfl, rfl, rfl⟩
    cases first : e.2.firstFree with
    | none => rw [VoiceEngine.room, first] at room; cases room
    | some k =>
      by_cases allowed : e.2.gateAllows p.source = true
      · by_cases zones : e.2.zoneSet p.key p.source = []
        · rw [Engine.serveOne_of_noZone queue first allowed zones]; exact dropped 2
        · rw [Engine.serveOne_of_zone queue first allowed zones, Engine.startIn_voice]
          exact .one (.serve queue (VoiceEngine.firstFree_eq_some.mp first).1 below (ruled.allowed allowed) rfl rfl rfl)
      · rw [Engine.serveOne_of_gated queue first (Bool.eq_false_of_not_eq_true allowed)]; exact dropped 1

/-- R75: a theft cuts one voice. -/
theorem Engine.steal_moves (k : Fin 96) : EngineReach live e.2 (e.steal k).2 :=
  (Engine.cutVoice_moves k).trans (.aside rfl rfl rfl rfl rfl rfl rfl)

theorem Engine.settleFor_moves (joined : Bool) (n : Nat) (ruled : e.2.Ruled live) :
    EngineReach live e.2 (e.settleFor joined n).2 := by
  induction n generalizing e with
  | zero => exact .refl _
  | succ n ih =>
    have go {u : Engine} (x : EngineReach live e.2 u.2) : EngineReach live e.2 (u.settleFor joined n).2 :=
      x.trans (ih (x.ruled ruled))
    unfold Engine.settleFor
    split
    · exact .refl _
    · split
      · next room => exact go (Engine.serveOne_moves room ruled)
      · split
        · exact .refl _
        · split
          · split
            · exact .refl _
            · exact go (Engine.steal_moves _)
          · exact .refl _

theorem Engine.settle_moves (joined : Bool) (ruled : e.2.Ruled live) : EngineReach live e.2 (e.settle joined).2 :=
  Engine.settleFor_moves joined 256 ruled

theorem Engine.release_moves (k : Fin 96) (ruled : e.2.Ruled live) : EngineReach live e.2 (e.release k).2 := by
  have freed : EngineReach live e.2 (e.freeVoice k).2 := Engine.freeVoice_moves k
  exact freed.trans (Engine.settle_moves false (freed.ruled ruled))

theorem Engine.cutExcess_moves (n : Nat) : EngineReach live e.2 (e.cutExcess n).2 := by
  induction n generalizing e with
  | zero => exact .refl _
  | succ n ih =>
    unfold Engine.cutExcess
    split
    · exact .refl _
    · exact (Engine.cutVoice_moves _).trans ih

theorem Engine.cutSources_moves (mask : Nat) (ruled : e.2.Ruled live) : EngineReach live e.2 (e.cutSources mask).2 := by
  have removed : EngineReach live e.2 { e.2 with queue := e.2.queue.filter fun p => !p.source.inMask mask } :=
    .edit ⟨fun _ => .refl _, List.filter_sublist, rfl, rfl, rfl, rfl, rfl⟩
  have cut := removed.trans (Engine.cutAll_moves (e := (e.1, _)) fun v => v.source.inMask mask && v.alive)
  exact cut.trans (Engine.settle_moves false (cut.ruled ruled))

theorem VoiceEngine.eachVoice_edited {f : Voice → Voice} {ve : VoiceEngine} (one : ∀ v : Voice, v.EditedTo (f v)) :
    ve.EditedTo (ve.eachVoice f) := by
  have voice (k : Fin 96) : (ve.get k).EditedTo ((ve.eachVoice f).get k) := by
    rw [VoiceEngine.eachVoice_get]; exact one _
  unfold VoiceEngine.eachVoice at voice ⊢
  exact ⟨voice, .refl _, rfl, rfl, rfl, rfl, rfl⟩

/-- R84: a detach empties the queue and cuts every voice. -/
theorem Engine.detach_moves : EngineReach live e.2 e.detach.2 := by
  have emptied : EngineReach live e.2 { e.2 with queue := [], keyMap := emptyKeyMap, load := none } :=
    .edit ((VoiceEngine.EditedTo.refl _).withKeyMap emptyKeyMap none |>.withQueue (List.nil_sublist _))
  unfold Engine.detach
  dsimp only
  have cut := emptied.trans (Engine.cutAll_moves (e := (e.1, { e.2 with queue := [], keyMap := emptyKeyMap, load := none })) Voice.alive)
  refine cut.trans (.edit ?_)
  refine VoiceEngine.eachVoice_edited fun v => ?_
  split
  · exact ⟨rfl, id, rfl, rfl, rfl, id⟩
  · exact .refl v

/-! ### One output sample period (R66, R80, R81) -/

theorem Engine.underrun_moves (k : Fin 96) (ruled : e.2.Ruled live) : EngineReach live e.2 (e.underrun k).2 := by
  unfold Engine.underrun
  dsimp only
  split
  · exact Engine.release_moves k ruled
  · have counted : EngineReach live e.2 { e.2 with underruns := e.2.underruns + 1 } := .aside rfl rfl rfl rfl rfl rfl rfl
    exact counted.trans (Engine.release_moves (e := (_, _)) k (counted.ruled ruled))

theorem Voice.setHalf_edited (left : Bool) (h : WindowHalf) {v w : Voice} (x : v.EditedTo w) : v.EditedTo (w.setHalf left h) := by
  cases left <;> exact ⟨x.inUse, x.alive, x.key, x.source, x.startNumber, x.keyDown⟩

theorem Engine.refill_moves (k : Fin 96) : EngineReach live e.2 (e.refill k).2 := by
  have turned : (e.2.get k).EditedTo { e.2.get k with playB := !(e.2.get k).playB, playPos := 0 } := ⟨rfl, id, rfl, rfl, rfl, id⟩
  unfold Engine.refill
  dsimp only
  split
  · exact .edit (.put k (Voice.setHalf_edited _ _ turned))
  · have filled := Voice.setHalf_edited (e.2.get k).playB (.fillingBy ((e.2.get k).zone.fillReads (e.2.get k).fetch 256).length) turned
    exact .edit (.put k ⟨filled.inUse, filled.alive, filled.key, filled.source, filled.startNumber, filled.keyDown⟩)

theorem Engine.advance_moves (k : Fin 96) (ruled : e.2.Ruled live) : EngineReach live e.2 (e.advance k).2 := by
  unfold Engine.advance
  extract_lets v level cursor e1
  have moved : EngineReach live e.2 e1.2 := .edit (.put k ⟨rfl, id, rfl, rfl, rfl, id⟩)
  have ended := moved.trans (Engine.release_moves k (moved.ruled ruled))
  split
  · split
    · exact moved
    · exact ended
  · split
    · exact ended
    · split
      · exact moved
      · split
        · exact moved.trans (Engine.refill_moves k)
        · exact moved.trans (Engine.underrun_moves k (moved.ruled ruled))

theorem Engine.endFade_moves (k : Fin 96) (ruled : e.2.Ruled live) : EngineReach live e.2 (e.endFade k).2 := by
  unfold Engine.endFade
  split
  · exact Engine.release_moves k ruled
  · exact .refl _

theorem Engine.endFades_moves (n : Nat) (ruled : e.2.Ruled live) : EngineReach live e.2 (e.endFades n).2 := by
  induction n generalizing e with
  | zero => exact .refl _
  | succ n ih =>
    unfold Engine.endFades
    split
    · exact .refl _
    · next k _ =>
      have ended := Engine.release_moves (e := e) k ruled
      exact ended.trans (ih (ended.ruled ruled))

theorem Engine.playVoice_moves (k : Fin 96) (p : Engine × Int) (ruled : p.1.2.Ruled live) :
    EngineReach live p.1.2 (Engine.playVoice k p).1.2 := by
  unfold Engine.playVoice
  dsimp only
  split
  · exact Engine.advance_moves k ruled
  · exact .refl _

/-- R66: the voices hand over their samples in record order. -/
theorem Engine.playVoices_moves (records : List (Fin 96)) (p : Engine × Int) (ruled : p.1.2.Ruled live) :
    EngineReach live p.1.2 (records.foldl (fun p k => Engine.playVoice k p) p).1.2 :=
  List.foldlRecOn (motive := fun q : Engine × Int => EngineReach live p.1.2 q.1.2) _ _ (.refl _) fun q y k _ =>
    y.trans (Engine.playVoice_moves k q (y.ruled ruled))

/-! ### Voice reads and the key map (R61, R79, R82) -/

theorem Engine.voiceRead_moves (tag : ReadTag) (bytes : Option (List Byte)) (ruled : e.2.Ruled live) :
    EngineReach live e.2 (e.voiceRead tag bytes).2 := by
  unfold Engine.voiceRead
  split
  · dsimp only
    split
    · split
      · exact Engine.release_moves (e := e.onHub _) _ ruled
      · exact .edit (.put _ ⟨rfl, id, rfl, rfl, rfl, id⟩)
      · exact .edit (.put _ ⟨rfl, id, rfl, rfl, rfl, id⟩)
      · exact .edit (.put _ ⟨rfl, id, rfl, rfl, rfl, id⟩)
    · exact .refl _
  · exact .refl _

theorem Engine.keymapRead_moves (tag : ReadTag) (bytes : Option (List Byte)) : EngineReach live e.2 (e.keymapRead tag bytes).2 := by
  unfold Engine.keymapRead
  split
  · split
    · exact .aside rfl rfl rfl rfl rfl rfl rfl
    · dsimp only
      split
      · exact .aside rfl rfl rfl rfl rfl rfl rfl
      · unfold Engine.applyKeymap
        split
        · exact .aside rfl rfl rfl rfl rfl rfl rfl
        · exact .edit ((VoiceEngine.EditedTo.refl _).withKeyMap _ none)
  · exact .refl _

end

/-! ### Note-offs, pedals and the capture set (R67 to R69) -/

theorem Voice.noteOff_edited (v : Voice) : v.EditedTo v.noteOff := by
  have phases : v.noteOff.inUse = v.inUse ∧ v.noteOff.alive = v.alive := by
    unfold Voice.noteOff Voice.inUse Voice.alive
    cases v.phase <;> cases v.sostenutoHeld <;> exact ⟨rfl, rfl⟩
  exact ⟨phases.1, fun alive => phases.2 ▸ alive, rfl, rfl, rfl, fun down => absurd down Bool.false_ne_true⟩

theorem VoiceEngine.noteOff_edited (key : Fin 88) (source : Source) (ve : VoiceEngine) : ve.EditedTo (ve.noteOff key source) := by
  have x : ve.EditedTo (ve.eachVoice fun v => if v.inUse && v.ofPair key source then v.noteOff else v) :=
    VoiceEngine.eachVoice_edited fun v => by
      split
      · exact Voice.noteOff_edited v
      · exact .refl v
  exact x.withQueue List.filter_sublist

theorem VoiceEngine.setDamper_edited (source : Source) (level : Nat) (ve : VoiceEngine) :
    ve.EditedTo (ve.setDamper source level) := by
  cases source <;> exact ⟨fun _ => .refl _, .refl _, rfl, rfl, rfl, rfl, rfl⟩

theorem VoiceEngine.setSoft_edited (source : Source) (pressed : Bool) (ve : VoiceEngine) :
    ve.EditedTo (ve.setSoft source pressed) := by
  cases source <;> exact ⟨fun _ => .refl _, .refl _, rfl, rfl, rfl, rfl, rfl⟩

theorem Voice.capture_edited (captured : Bool) (v : Voice) : v.EditedTo (v.capture captured) := by
  unfold Voice.capture
  split
  · next heard =>
    obtain ⟨-, alive⟩ := Bool.and_eq_true_iff.mp heard
    have used := Voice.inUse_of_alive alive
    split
    · exact ⟨used.symm, fun _ => alive, rfl, rfl, rfl, id⟩
    · split
      · refine ⟨?_, fun _ => alive, rfl, rfl, rfl, id⟩
        rw [used, Voice.inUse_iff]
        dsimp only
        split
        · decide
        · exact Voice.inUse_iff.mp used
      · exact .refl v
  · exact .refl v

theorem VoiceEngine.setCapture_edited (keys : List (Fin 88)) (ve : VoiceEngine) : ve.EditedTo (ve.setCapture keys) := by
  have x : ve.EditedTo (ve.eachVoice fun v => v.capture (keys.contains v.key)) :=
    VoiceEngine.eachVoice_edited fun v => Voice.capture_edited _ v
  exact x.withCapture keys

end Sys2Proof.Machine
end

section
/-! SUPPORT. What every move of the voice engine keeps: the polyphony limit (R76), the laws of voices and open notes (R68, R71, R73),
and, while the gate is closed, the LIVE voices that have already started (R70). -/

namespace Sys2Proof.Machine

variable {live : Bool} {a b : VoiceEngine}

/-! ### The polyphony limit (R76) -/

theorem VoiceEngine.EditedTo.inUse_eq (x : a.EditedTo b) : b.inUse = a.inUse :=
  VoiceEngine.count_congr fun k => (x.voice k).inUse

theorem VoiceEngine.freed_inUse {k : Fin 96} (used : (a.get k).inUse = true) : (a.freed k).inUse + 1 = a.inUse := by
  have counted := a.count_put Voice.inUse k { Voice.reset with startNumber := (a.get k).startNumber }
  rw [used] at counted
  exact counted

theorem VoiceEngine.put_inUse {k : Fin 96} {v : Voice} (vacant : (a.get k).phase = .free) (sounds : v.phase = .sounding) :
    (a.put k v).inUse = a.inUse + 1 := by
  have counted := a.count_put Voice.inUse k v
  rw [Voice.not_inUse_iff.mpr vacant, Voice.inUse_iff.mpr (by simp [sounds])] at counted
  exact counted

/-- R76: a voice that starts below the limit in force stays within it. -/
theorem WithinPolyphony.put {k : Fin 96} {v : Voice} (x : WithinPolyphony a) (vacant : (a.get k).phase = .free)
    (room : a.inUse < a.limit) (sounds : v.phase = .sounding) : WithinPolyphony (a.put k v) :=
  ⟨by rw [VoiceEngine.put_inUse vacant sounds]; exact room, x.target, x.most, x.least⟩

theorem EngineMove.polyphony (m : EngineMove live a b) (x : WithinPolyphony a) : WithinPolyphony b := by
  cases m with
  | edit m => exact ⟨by rw [m.inUse_eq, m.limit]; exact x.used, m.limit ▸ m.target ▸ x.target, m.limit ▸ x.most, m.target ▸ x.least⟩
  | free k used =>
    have one := VoiceEngine.freed_inUse used
    have before := x.used
    have target := x.target
    have most := x.most
    refine ⟨?_, ?_, ?_, x.least⟩
    · show (a.freed k).inUse ≤ if a.target < a.limit then a.limit - 1 else a.limit
      split <;> omega
    · show a.target ≤ if a.target < a.limit then a.limit - 1 else a.limit
      split <;> omega
    · show (if a.target < a.limit then a.limit - 1 else a.limit) ≤ 96
      split <;> omega
  | serve head vacant room gate sounds key source =>
    exact WithinPolyphony.put (a := { a with queue := _ }) ⟨x.used, x.target, x.most, x.least⟩ vacant room sounds

/-! ### The LIVE voices under a closed gate (R70) -/

/-- R70: every LIVE voice of `b` is one of `a`, from the same start. -/
def VoiceEngine.LiveFrom (a b : VoiceEngine) : Prop :=
  ∀ k, (b.get k).inUse = true → (b.get k).source = .live →
    (a.get k).inUse = true ∧ (a.get k).source = .live ∧ (a.get k).startNumber = (b.get k).startNumber

theorem VoiceEngine.LiveFrom.refl (a : VoiceEngine) : a.LiveFrom a := fun _ used heard => ⟨used, heard, rfl⟩

theorem VoiceEngine.LiveFrom.trans {c : VoiceEngine} (x : a.LiveFrom b) (y : b.LiveFrom c) : a.LiveFrom c := fun k used heard => by
  obtain ⟨used', heard', same⟩ := y k used heard
  obtain ⟨used'', heard'', same'⟩ := x k used' heard'
  exact ⟨used'', heard'', same'.trans same⟩

/-- R70: a voice that starts in a FREE record is not LIVE under a closed gate. -/
theorem VoiceEngine.LiveFrom.put {k : Fin 96} {v : Voice} (played : v.source ≠ .live) : a.LiveFrom (a.put k v) := fun j used heard => by
  by_cases same : j = k
  · rw [same, VoiceEngine.get_put_same] at heard
    exact absurd heard played
  · rw [VoiceEngine.get_put_of_ne same] at used heard ⊢
    exact ⟨used, heard, rfl⟩

theorem VoiceEngine.EditedTo.liveFrom (x : a.EditedTo b) : a.LiveFrom b := fun k used heard =>
  ⟨(x.voice k).inUse ▸ used, (x.voice k).source ▸ heard, (x.voice k).startNumber.symm⟩

theorem EngineMove.liveFrom (m : EngineMove false a b) : a.LiveFrom b := by
  cases m with
  | edit m => exact m.liveFrom
  | free k used =>
    intro j used' heard
    by_cases same : j = k
    · rw [same, Voice.inUse_iff] at used'
      exact absurd (VoiceEngine.freed_get_phase k a) used'
    · rw [VoiceEngine.freed_get_of_ne same] at used' heard ⊢
      exact ⟨used', heard, rfl⟩
  | serve head vacant room gate sounds key source =>
    exact VoiceEngine.LiveFrom.put (a := { a with queue := _ }) fun heard => Bool.false_ne_true (gate (source ▸ heard))

theorem EngineReach.liveFrom (x : EngineReach false a b) : a.LiveFrom b :=
  x.induct (P := a.LiveFrom) (fun _ _ m y => y.trans m.liveFrom) (.refl a)

/-! ### Voices, entries and open notes (R68, R71, R73) -/

/-- The laws of `VoiceLaws`, for the keys that hold an open note. -/
structure VoiceEngine.Lawful (isOpen : Fin 88 → Bool) (ve : VoiceEngine) : Prop where
  openNote : ∀ k, (ve.get k).inUse = true → (ve.get k).source = .live → (ve.get k).keyDown = true → isOpen (ve.get k).key = true
  openEntry : ∀ p ∈ ve.queue, p.source = .live → isOpen p.key = true
  pairs : ∀ key source, ve.pairInUse key source ≤ 2 ∧ ve.pairAlive key source ≤ 1
  entries : (ve.queue.map fun p => (p.key, p.source)).Nodup
  waiting : ∀ p ∈ ve.queue, ve.pairInUse p.key p.source ≤ 1 ∧ ve.pairAlive p.key p.source = 0

variable {isOpen : Fin 88 → Bool}

/-- Fewer voices of every pair, fewer keys down, fewer entries: the laws still hold. -/
theorem VoiceEngine.Lawful.fewer (x : a.Lawful isOpen)
    (openNote : ∀ k, (b.get k).inUse = true → (b.get k).source = .live → (b.get k).keyDown = true → isOpen (b.get k).key = true)
    (used : ∀ key source, b.pairInUse key source ≤ a.pairInUse key source)
    (alive : ∀ key source, b.pairAlive key source ≤ a.pairAlive key source) (queue : b.queue.Sublist a.queue) : b.Lawful isOpen where
  openNote := openNote
  openEntry p mem := x.openEntry p (queue.subset mem)
  pairs key source := ⟨(used key source).trans (x.pairs key source).1, (alive key source).trans (x.pairs key source).2⟩
  entries := x.entries.sublist (queue.map _)
  waiting p mem := by
    obtain ⟨few, none_⟩ := x.waiting p (queue.subset mem)
    exact ⟨(used p.key p.source).trans few, Nat.le_zero.mp (none_ ▸ alive p.key p.source)⟩

theorem VoiceEngine.EditedTo.pairInUse_le (x : a.EditedTo b) (key : Fin 88) (source : Source) :
    b.pairInUse key source ≤ a.pairInUse key source :=
  VoiceEngine.count_le fun k h => by simpa only [Voice.ofPair, (x.voice k).inUse, (x.voice k).key, (x.voice k).source] using h

theorem VoiceEngine.EditedTo.pairAlive_le (x : a.EditedTo b) (key : Fin 88) (source : Source) :
    b.pairAlive key source ≤ a.pairAlive key source :=
  VoiceEngine.count_le fun k h => by
    obtain ⟨alive, pair⟩ := Bool.and_eq_true_iff.mp h
    rw [Bool.and_eq_true_iff]
    exact ⟨(x.voice k).alive alive, by simpa only [Voice.ofPair, (x.voice k).key, (x.voice k).source] using pair⟩

theorem VoiceEngine.EditedTo.lawful (m : a.EditedTo b) (x : a.Lawful isOpen) : b.Lawful isOpen := by
  refine x.fewer (fun k used heard down => ?_) m.pairInUse_le m.pairAlive_le m.queue
  have y := m.voice k
  rw [y.key]
  exact x.openNote k (y.inUse ▸ used) (y.source ▸ heard) (y.keyDown down)

theorem VoiceEngine.freed_lawful (k : Fin 96) (x : a.Lawful isOpen) : (a.freed k).Lawful isOpen := by
  have still {j : Fin 96} (used : ((a.freed k).get j).inUse = true) : (a.freed k).get j = a.get j :=
    VoiceEngine.freed_get_of_ne (fun same => Voice.inUse_iff.mp used (by rw [same, VoiceEngine.freed_get_phase])) a
  refine x.fewer (fun j used heard down => ?_) (fun key source => VoiceEngine.count_le fun j h => ?_)
    (fun key source => VoiceEngine.count_le fun j h => ?_) (.refl _)
  · have same := still used
    rw [same] at used heard down ⊢
    exact x.openNote j used heard down
  · rw [← still (Bool.and_eq_true_iff.mp h).1]; exact h
  · rw [← still (Voice.inUse_of_alive (Bool.and_eq_true_iff.mp h).1)]; exact h

/-- A voice that starts in a FREE record counts for its own pair and for no other. -/
theorem VoiceEngine.put_pairs {k : Fin 96} {v : Voice} (vacant : (a.get k).phase = .free) (sounds : v.phase = .sounding) (key : Fin 88)
    (source : Source) :
    (a.put k v).pairInUse key source = a.pairInUse key source + (v.ofPair key source).toNat ∧
    (a.put k v).pairAlive key source = a.pairAlive key source + (v.ofPair key source).toNat := by
  have used : v.inUse = true := by rw [Voice.inUse_iff, sounds]; decide
  have alive : v.alive = true := (Voice.alive_iff v).mpr (.inl sounds)
  have unused : (a.get k).inUse = false := Voice.not_inUse_iff.mpr vacant
  have silent : (a.get k).alive = false := by unfold Voice.alive; rw [vacant]; rfl
  have inUse := a.count_put (fun v => v.inUse && v.ofPair key source) k v
  have sounding := a.count_put (fun v => v.alive && v.ofPair key source) k v
  simp only [unused, used, Bool.false_and, Bool.true_and, Bool.toNat_false, Nat.add_zero] at inUse
  simp only [silent, alive, Bool.false_and, Bool.true_and, Bool.toNat_false, Nat.add_zero] at sounding
  exact ⟨inUse, sounding⟩

/-- R71: a voice may start while its pair has no alive voice, at most one fading one, and no entry. -/
theorem VoiceEngine.Lawful.put {k : Fin 96} {v : Voice} (x : a.Lawful isOpen) (vacant : (a.get k).phase = .free)
    (sounds : v.phase = .sounding) (open_ : v.source = .live → isOpen v.key = true) (few : a.pairInUse v.key v.source ≤ 1)
    (none_ : a.pairAlive v.key v.source = 0) (alone : ∀ p ∈ a.queue, ¬ (p.key = v.key ∧ p.source = v.source)) :
    (a.put k v).Lawful isOpen where
  openNote j used heard down := by
    by_cases same : j = k
    · rw [same, VoiceEngine.get_put_same] at heard ⊢
      exact open_ heard
    · rw [VoiceEngine.get_put_of_ne same] at used heard down ⊢
      exact x.openNote j used heard down
  openEntry := x.openEntry
  pairs key source := by
    obtain ⟨inUse, alive⟩ := VoiceEngine.put_pairs vacant sounds key source
    by_cases own : v.ofPair key source = true
    · obtain ⟨rfl, rfl⟩ := Voice.ofPair_iff.mp own
      rw [inUse, alive, own, none_]
      exact ⟨Nat.succ_le_succ few, Nat.le_refl 1⟩
    · rw [inUse, alive, Bool.eq_false_of_not_eq_true own]
      exact x.pairs key source
  entries := x.entries
  waiting p mem := by
    obtain ⟨inUse, alive⟩ := VoiceEngine.put_pairs vacant sounds p.key p.source
    have other : v.ofPair p.key p.source = false := by
      rw [← Bool.not_eq_true, Voice.ofPair_iff]
      exact fun same => alone p mem ⟨same.1.symm, same.2.symm⟩
    rw [inUse, alive, other]
    exact x.waiting p mem

theorem EngineMove.lawful (m : EngineMove live a b) (x : a.Lawful isOpen) : b.Lawful isOpen := by
  cases m with
  | edit m => exact m.lawful x
  | free k used => exact VoiceEngine.freed_lawful k x
  | @serve p rest k v head vacant room gate sounds key source =>
    have mem : p ∈ a.queue := head ▸ List.mem_cons_self
    have taken : VoiceEngine.Lawful isOpen { a with queue := rest } :=
      x.fewer x.openNote (fun _ _ => Nat.le_refl _) (fun _ _ => Nat.le_refl _) (head ▸ List.sublist_cons_self p rest)
    obtain ⟨few, none_⟩ := x.waiting p mem
    have once := x.entries
    rw [head, List.map_cons, List.nodup_cons] at once
    refine taken.put vacant sounds ?_ ?_ ?_ fun q among same => once.1 ?_
    · rw [key, source]; exact x.openEntry p mem
    · rw [key, source]; exact few
    · rw [key, source]; exact none_
    · exact List.mem_map.mpr ⟨q, among, by rw [same.1, same.2, key, source]⟩

theorem EngineReach.polyphony (x : EngineReach live a b) (y : WithinPolyphony a) : WithinPolyphony b :=
  x.induct (P := WithinPolyphony) (fun _ _ m => m.polyphony) y

theorem EngineReach.lawful (x : EngineReach live a b) (y : a.Lawful isOpen) : b.Lawful isOpen :=
  x.induct (P := VoiceEngine.Lawful isOpen) (fun _ _ m => m.lawful) y

end Sys2Proof.Machine
end

section
/-! SUPPORT. A note-on (R71, R72): what it does to the voices and the entry of its own pair, and that it keeps the polyphony limit, the
laws of voices and open notes, and the gate. -/

namespace Sys2Proof.Machine

variable {live : Bool} {a b : VoiceEngine} {e : Engine} {key : Fin 88} {source : Source}

/-! ### The voices of one pair -/

/-- A record in use by a voice of a pair. -/
def VoiceEngine.PairUses (key : Fin 88) (source : Source) (ve : VoiceEngine) (k : Fin 96) : Prop :=
  ((ve.get k).inUse && (ve.get k).ofPair key source) = true

/-- A record whose voice, of a pair, sounds or is being damped. -/
def VoiceEngine.PairSounds (key : Fin 88) (source : Source) (ve : VoiceEngine) (k : Fin 96) : Prop :=
  ((ve.get k).alive && (ve.get k).ofPair key source) = true

/-- No entry of the queue is of a pair. -/
def VoiceEngine.NoEntry (key : Fin 88) (source : Source) (ve : VoiceEngine) : Prop :=
  ∀ p ∈ ve.queue, ¬ (p.key = key ∧ p.source = source)

/-- Between `a` and `b` no voice of a pair has started, nor has an entry joined. -/
structure VoiceEngine.PairFades (key : Fin 88) (source : Source) (a b : VoiceEngine) : Prop where
  entry : a.NoEntry key source → b.NoEntry key source
  used : a.NoEntry key source → ∀ k, b.PairUses key source k → a.PairUses key source k
  sounds : a.NoEntry key source → ∀ k, b.PairSounds key source k → a.PairSounds key source k

theorem VoiceEngine.pairInUse_le_pairAlive (used : ∀ k, b.PairUses key source k → a.PairSounds key source k) :
    b.pairInUse key source ≤ a.pairAlive key source := VoiceEngine.count_le used

theorem VoiceEngine.pairAlive_eq_zero (silent : ∀ k, ¬ a.PairSounds key source k) : a.pairAlive key source = 0 :=
  VoiceEngine.count_eq_zero.mpr fun k => Bool.eq_false_of_not_eq_true (silent k)

theorem VoiceEngine.PairFades.refl (a : VoiceEngine) : a.PairFades key source a := ⟨id, fun _ _ => id, fun _ _ => id⟩

theorem VoiceEngine.PairFades.trans {c : VoiceEngine} (x : a.PairFades key source b) (y : b.PairFades key source c) :
    a.PairFades key source c :=
  ⟨fun h => y.entry (x.entry h), fun h k u => x.used h k (y.used (x.entry h) k u), fun h k u => x.sounds h k (y.sounds (x.entry h) k u)⟩

theorem EngineMove.pairFades (m : EngineMove live a b) : a.PairFades key source b := by
  cases m with
  | edit m =>
    have pair (k : Fin 96) : (b.get k).ofPair key source = (a.get k).ofPair key source := by
      unfold Voice.ofPair; rw [(m.voice k).key, (m.voice k).source]
    refine ⟨fun h p mem => h p (m.queue.subset mem), fun _ k u => ?_, fun _ k u => ?_⟩
    · rw [VoiceEngine.PairUses, (m.voice k).inUse, pair] at u
      exact u
    · rw [VoiceEngine.PairSounds, pair, Bool.and_eq_true_iff] at u
      exact Bool.and_eq_true_iff.mpr ⟨(m.voice k).alive u.1, u.2⟩
  | free k used =>
    have still (j : Fin 96) (used : ((a.freed k).get j).inUse = true) : (a.freed k).get j = a.get j :=
      VoiceEngine.freed_get_of_ne (fun same => Voice.inUse_iff.mp used (by rw [same, VoiceEngine.freed_get_phase])) a
    refine ⟨id, fun _ j u => ?_, fun _ j u => ?_⟩
    · rw [VoiceEngine.PairUses, ← still j (Bool.and_eq_true_iff.mp u).1]; exact u
    · rw [VoiceEngine.PairSounds, ← still j (Voice.inUse_of_alive (Bool.and_eq_true_iff.mp u).1)]; exact u
  | @serve p rest k v head vacant room gate sounds ownKey ownSource =>
    have other (h : a.NoEntry key source) : v.ofPair key source ≠ true := by
      rw [Ne, Voice.ofPair_iff, ownKey, ownSource]
      exact h p (head ▸ List.mem_cons_self)
    refine ⟨fun h q mem => h q (head ▸ List.mem_cons_of_mem p mem), fun h j u => ?_, fun h j u => ?_⟩
    · by_cases same : j = k
      · rw [VoiceEngine.PairUses, same, VoiceEngine.get_put_same, Bool.and_eq_true_iff] at u
        exact absurd u.2 (other h)
      · rw [VoiceEngine.PairUses, VoiceEngine.get_put_of_ne same] at u
        exact u
    · by_cases same : j = k
      · rw [VoiceEngine.PairSounds, same, VoiceEngine.get_put_same, Bool.and_eq_true_iff] at u
        exact absurd u.2 (other h)
      · rw [VoiceEngine.PairSounds, VoiceEngine.get_put_of_ne same] at u
        exact u

theorem EngineReach.pairFades (x : EngineReach live a b) : a.PairFades key source b :=
  x.induct (P := VoiceEngine.PairFades key source a) (fun _ _ m y => y.trans m.pairFades) (.refl a)

/-! ### What a note-on finds of its pair (R71) -/

/-- R71 step 1: the entry of a pair has left the queue. -/
def Engine.unqueued (key : Fin 88) (source : Source) (e : Engine) : Engine :=
  (e.1, { e.2 with queue := e.2.queue.filter fun p => !(p.key == key && p.source == source) })

/-- R71: the fading voices of a pair. -/
def VoiceEngine.fading (key : Fin 88) (source : Source) (ve : VoiceEngine) : List (Fin 96) :=
  (List.finRange 96).filter fun k => (ve.get k).ofPair key source && (ve.get k).phase == .cutting

/-- R71: the fading voices of a pair have ended, and their slots are handed on. -/
def Engine.unfaded (key : Fin 88) (source : Source) (e : Engine) : Engine :=
  (e.2.fading key source).foldl (fun e k => e.release k) (e.unqueued key source)

/-- R71: the alive voice of a pair is cut too. -/
def Engine.pairCut (key : Fin 88) (source : Source) (e : Engine) : Engine :=
  (e.unfaded key source).cutAll fun v => v.ofPair key source && v.alive

theorem Engine.supersede_eq (key : Fin 88) (source : Source) (e : Engine) :
    e.supersede key source = (e.pairCut key source).settle false := rfl

theorem Engine.unqueued_noEntry (key : Fin 88) (source : Source) (e : Engine) : (e.unqueued key source).2.NoEntry key source := by
  intro p mem same
  simpa [same.1, same.2] using (List.mem_filter.mp mem).2

theorem Engine.unqueued_moves : EngineReach live e.2 (e.unqueued key source).2 :=
  .edit ((VoiceEngine.EditedTo.refl _).withQueue List.filter_sublist)

theorem Engine.releases_moves (l : List (Fin 96)) (ruled : e.2.Ruled live) :
    EngineReach live e.2 (l.foldl (fun e k => e.release k) e).2 :=
  List.foldlRecOn (motive := fun u : Engine => EngineReach live e.2 u.2) l _ (.refl _) fun _ y k _ =>
    y.trans (Engine.release_moves k (y.ruled ruled))

theorem Engine.unfaded_moves (ruled : e.2.Ruled live) : EngineReach live (e.unqueued key source).2 (e.unfaded key source).2 :=
  Engine.releases_moves _ (Engine.unqueued_moves.ruled ruled)

theorem Engine.pairCut_moves (ruled : e.2.Ruled live) : EngineReach live (e.unqueued key source).2 (e.pairCut key source).2 :=
  (Engine.unfaded_moves ruled).trans (Engine.cutAll_moves _)

theorem Engine.supersede_moves' (ruled : e.2.Ruled live) :
    EngineReach live (e.unqueued key source).2 (e.supersede key source).2 := by
  have cut := Engine.pairCut_moves (key := key) (source := source) ruled
  exact cut.trans (Engine.settle_moves false (cut.ruled (Engine.unqueued_moves.ruled ruled)))

theorem Engine.supersede_moves (ruled : e.2.Ruled live) : EngineReach live e.2 (e.supersede key source).2 :=
  Engine.unqueued_moves.trans (Engine.supersede_moves' ruled)

/-- A released record is not one of a pair without entries. -/
theorem Engine.release_not_pair (k : Fin 96) (none_ : e.2.NoEntry key source) : ¬ (e.release k).2.PairUses key source k := by
  intro used
  have freed : EngineReach true e.2 (e.freeVoice k).2 := Engine.freeVoice_moves k
  have settled : EngineReach true (e.freeVoice k).2 (e.release k).2 := Engine.settle_moves false (.always _)
  have still := (settled.pairFades (key := key) (source := source)).used (freed.pairFades.entry none_) k used
  rw [VoiceEngine.PairUses] at still
  obtain ⟨inUse, -⟩ := Bool.and_eq_true_iff.mp still
  by_cases was : (e.2.get k).inUse = true
  · rw [Engine.freeVoice_of_used was, Voice.inUse_iff] at inUse
    exact inUse (VoiceEngine.freed_get_phase k e.2)
  · rw [Engine.freeVoice_of_free (Bool.eq_false_of_not_eq_true was)] at inUse
    exact was inUse

theorem Engine.releases_not_pair (l : List (Fin 96)) (none_ : e.2.NoEntry key source) :
    ∀ k ∈ l, ¬ (l.foldl (fun e k => e.release k) e).2.PairUses key source k := by
  induction l generalizing e with
  | nil => exact fun k mem => absurd mem List.not_mem_nil
  | cons j l ih =>
    have one : EngineReach true e.2 (e.release j).2 := Engine.release_moves j (.always _)
    have entry := (one.pairFades (key := key) (source := source)).entry none_
    intro k mem used
    rcases List.mem_cons.mp mem with rfl | among
    · have rest : EngineReach true (e.release k).2 (l.foldl (fun e k => e.release k) (e.release k)).2 :=
        Engine.releases_moves l (.always _)
      exact Engine.release_not_pair k none_ (rest.pairFades.used entry k used)
    · exact ih entry k among used

/-- R71: of the pair of a note-on nothing waits, nothing sounds, and only what sounded before is still in use. -/
theorem Engine.supersede_pair (key : Fin 88) (source : Source) (e : Engine) :
    (e.supersede key source).2.NoEntry key source ∧ (∀ k, ¬ (e.supersede key source).2.PairSounds key source k) ∧
    ∀ k, (e.supersede key source).2.PairUses key source k → e.2.PairSounds key source k := by
  have none_ := e.unqueued_noEntry key source
  have unfaded : EngineReach true (e.unqueued key source).2 (e.unfaded key source).2 := Engine.unfaded_moves (.always _)
  have cut : EngineReach true (e.unfaded key source).2 (e.pairCut key source).2 := Engine.cutAll_moves _
  have settled : EngineReach true (e.pairCut key source).2 (e.supersede key source).2 := Engine.settle_moves false (.always _)
  have entry := unfaded.pairFades.entry none_
  have entry' := cut.pairFades.entry entry
  refine ⟨settled.pairFades.entry entry', fun k sounds => ?_, fun k used => ?_⟩
  · have still := settled.pairFades.sounds entry' k sounds
    obtain ⟨keep, made, -⟩ := Engine.cutFold_get (fun v => v.ofPair key source && v.alive)
      (fun v h => (Bool.and_eq_true_iff.mp h).2) (List.finRange 96) (List.nodup_finRange 96) (e.unfaded key source)
    by_cases chosen : (((e.unfaded key source).2.get k).ofPair key source && ((e.unfaded key source).2.get k).alive) = true
    · obtain ⟨n, -, same⟩ := made k (List.mem_finRange k) chosen
      have sounding := (Bool.and_eq_true_iff.mp still).1
      rw [Engine.pairCut, Engine.cutAll, same, Voice.cutAt_not_alive] at sounding
      exact Bool.false_ne_true sounding
    · have same := keep k (.inr (Bool.eq_false_of_not_eq_true chosen))
      rw [VoiceEngine.PairSounds, Engine.pairCut, Engine.cutAll, same, Bool.and_comm] at still
      exact chosen still
  · have before := cut.pairFades.used entry k (settled.pairFades.used entry' k used)
    have was : (e.unqueued key source).2.PairUses key source k := unfaded.pairFades.used none_ k before
    have pair := Bool.and_eq_true_iff.mp was
    have steady : (e.2.get k).phase ≠ .cutting := fun fades =>
      Engine.releases_not_pair _ none_ k
        (List.mem_filter.mpr ⟨List.mem_finRange k, by rw [Bool.and_eq_true_iff]; exact ⟨pair.2, by simp [fades]⟩⟩) before
    refine Bool.and_eq_true_iff.mpr ⟨?_, pair.2⟩
    have inUse : (e.2.get k).phase ≠ .free := Voice.inUse_iff.mp pair.1
    rw [Voice.alive_iff]
    revert inUse steady
    cases (e.2.get k).phase <;> simp

/-! ### The note itself (R72) -/

/-- R72: an entry joins the queue. -/
def Engine.withEntry (key : Fin 88) (source : Source) (velocity : Nat) (e : Engine) : Engine :=
  (e.1, { e.2 with queue := e.2.queue ++ [{ key, source, velocity }] })

/-- R72: what becomes of a note-on once its pair is superseded: it starts, is dropped, or joins the queue. -/
inductive Engine.Noted (key : Fin 88) (source : Source) (velocity : Nat) (u : Engine) : Engine → Prop
  | starts (k : Fin 96) (first : u.2.firstFree = some k) (room : u.2.inUse < u.2.limit) (none_ : u.2.queue = []) :
      Noted key source velocity u (u.startIn k key source velocity)
  | dropped (full : 8 ≤ u.2.queue.length) : Noted key source velocity u (u.drop key source velocity 0)
  | joins (few : u.2.queue.length < 8) :
      Noted key source velocity u ((u.withEntry key source velocity).settle true)

/-- R70, R71, R72: a note-on that the gate turns away or that finds no zone does nothing; any other supersedes its pair first. -/
theorem Engine.noteOn_cases (key : Fin 88) (source : Source) (velocity : Nat) (e : Engine) :
    e.noteOn key source velocity = e ∨ e.2.gateAllows source = true ∧
      Engine.Noted key source (e.2.scaleVelocity source velocity) (e.supersede key source) (e.noteOn key source velocity) := by
  unfold Engine.noteOn
  split
  · exact .inl rfl
  · next taken =>
    simp only [Bool.or_eq_true, Bool.not_eq_true', List.isEmpty_iff, not_or, Bool.not_eq_false] at taken
    refine .inr ⟨taken.1, ?_⟩
    dsimp only
    generalize e.supersede key source = u
    split
    · next k first =>
      split
      · next room =>
        rw [Bool.and_eq_true, decide_eq_true_iff, List.isEmpty_iff] at room
        exact .starts k first room.1 room.2
      · split
        · next full => exact .dropped full
        · next few => exact .joins (Nat.not_le.mp few)
    · split
      · next full => exact .dropped full
      · next few => exact .joins (Nat.not_le.mp few)

section
variable {velocity : Nat} {u t : Engine} {isOpen : Fin 88 → Bool}

theorem Engine.Noted.polyphony (x : Engine.Noted key source velocity u t) (before : WithinPolyphony u.2) : WithinPolyphony t.2 := by
  cases x with
  | starts k first room none_ => exact before.put (VoiceEngine.firstFree_eq_some.mp first).1 room rfl
  | dropped => exact ⟨before.used, before.target, before.most, before.least⟩
  | joins =>
    exact EngineReach.polyphony (live := true) (Engine.settle_moves true (.always _))
      ⟨before.used, before.target, before.most, before.least⟩

theorem Engine.Noted.lawful (x : Engine.Noted key source velocity u t) (open_ : source = .live → isOpen key = true)
    (before : u.2.Lawful isOpen) (few : u.2.pairInUse key source ≤ 1) (silent : u.2.pairAlive key source = 0)
    (alone : u.2.NoEntry key source) : t.2.Lawful isOpen := by
  cases x with
  | starts k first room none_ => exact before.put (VoiceEngine.firstFree_eq_some.mp first).1 rfl open_ few silent alone
  | dropped => exact (Engine.drop_moves (live := true) _ _ _ _).lawful before
  | joins =>
    refine EngineReach.lawful (live := true) (Engine.settle_moves true (.always _)) ⟨before.openNote, ?_, before.pairs, ?_, ?_⟩
    · intro p mem
      rcases List.mem_append.mp mem with mem | mem
      · exact before.openEntry p mem
      · rw [List.mem_singleton.mp mem]; exact open_
    · rw [Engine.withEntry, List.map_append, List.nodup_append]
      refine ⟨before.entries, List.nodup_singleton _, fun p mem q own same => ?_⟩
      obtain ⟨r, among, rfl⟩ := List.mem_map.mp mem
      rw [List.map_singleton, List.mem_singleton] at own
      rw [own, Prod.mk.injEq] at same
      exact alone r among same
    · intro p mem
      rcases List.mem_append.mp mem with mem | mem
      · exact before.waiting p mem
      · rw [List.mem_singleton.mp mem]; exact ⟨few, silent⟩

theorem Engine.Noted.liveFrom (x : Engine.Noted key source velocity u t) (played : source ≠ .live) (ruled : u.2.Ruled false) :
    u.2.LiveFrom t.2 := by
  cases x with
  | starts k => exact .put played
  | dropped => exact (Engine.drop_moves _ _ _ _).liveFrom
  | joins => exact EngineReach.liveFrom (a := (u.withEntry key source velocity).2) (Engine.settle_moves true (ruled.of_gate rfl rfl))

theorem Engine.Noted.gate (x : Engine.Noted key source velocity u t) : t.2.policy = u.2.policy ∧ t.2.atSilent = u.2.atSilent := by
  cases x with
  | starts k => exact ⟨rfl, rfl⟩
  | dropped => exact ⟨rfl, rfl⟩
  | joins =>
    obtain ⟨policy, silent, -⟩ := EngineReach.gate (live := true)
      (Engine.settle_moves (e := u.withEntry key source velocity) true (.always _))
    exact ⟨policy, silent⟩

end

/-! ### The note-on (R71, R72) -/

theorem Engine.noteOn_polyphony (key : Fin 88) (source : Source) (velocity : Nat) (x : WithinPolyphony e.2) :
    WithinPolyphony (e.noteOn key source velocity).2 := by
  obtain same | ⟨-, noted⟩ := e.noteOn_cases key source velocity
  · rw [same]; exact x
  · exact noted.polyphony ((Engine.supersede_moves (live := true) (.always _)).polyphony x)

theorem Engine.noteOn_lawful {isOpen : Fin 88 → Bool} (velocity : Nat) (open_ : source = .live → isOpen key = true)
    (x : e.2.Lawful isOpen) : (e.noteOn key source velocity).2.Lawful isOpen := by
  obtain same | ⟨-, noted⟩ := e.noteOn_cases key source velocity
  · rw [same]; exact x
  · obtain ⟨alone, silent, used⟩ := e.supersede_pair key source
    exact noted.lawful open_ ((Engine.supersede_moves (live := true) (.always _)).lawful x)
      ((VoiceEngine.pairInUse_le_pairAlive used).trans (x.pairs key source).2) (VoiceEngine.pairAlive_eq_zero silent) alone

/-- R70: while the gate is closed to LIVE notes, a note-on starts no LIVE voice. -/
theorem Engine.noteOn_liveFrom (key : Fin 88) (source : Source) (velocity : Nat) (ruled : e.2.Ruled false) :
    e.2.LiveFrom (e.noteOn key source velocity).2 := by
  obtain same | ⟨allowed, noted⟩ := e.noteOn_cases key source velocity
  · rw [same]; exact .refl _
  · have superseded : EngineReach false e.2 (e.supersede key source).2 := Engine.supersede_moves ruled
    exact superseded.liveFrom.trans
      (noted.liveFrom (fun heard => Bool.false_ne_true (ruled.allowed allowed heard)) (superseded.ruled ruled))

theorem Engine.noteOn_gate (key : Fin 88) (source : Source) (velocity : Nat) (e : Engine) :
    (e.noteOn key source velocity).2.policy = e.2.policy ∧ (e.noteOn key source velocity).2.atSilent = e.2.atSilent := by
  obtain same | ⟨-, noted⟩ := e.noteOn_cases key source velocity
  · rw [same]; exact ⟨rfl, rfl⟩
  · obtain ⟨policy, silent, -⟩ := (Engine.supersede_moves (live := true) (key := key) (source := source) (.always e.2)).gate
    exact ⟨noted.gate.1.trans policy, noted.gate.2.trans silent⟩

end Sys2Proof.Machine
end

section
/-! SUPPORT. The voice engine together with the keys that hold an open note: the moves that commands make on both, and what each of
them keeps (R68, R70, R71, R76). -/

namespace Sys2Proof.Machine

/-! ### The moves -/

/-- R68: the voice engine and the keys that hold an open note. -/
structure Voicing where
  isOpen : Fin 88 → Bool
  engine : VoiceEngine

/-- A change of the voice engine outside its voices, its queue and its limits. -/
structure VoiceEngine.TunedTo (a b : VoiceEngine) : Prop where
  voices : b.voices = a.voices
  queue : b.queue = a.queue
  limit : b.limit = a.limit
  target : b.target = a.target

/-- R76: the target takes a value, and the limit in force is the target or the count in use, whichever is higher. -/
def VoiceEngine.limited (target : Nat) (ve : VoiceEngine) : VoiceEngine :=
  { ve with target := target, limit := max target ve.inUse }

/-- One move of the voice engine and the open notes. Where `live` is false no LIVE voice starts. -/
inductive VoiceMove (live : Bool) : Voicing → Voicing → Prop
  | engine {o : Fin 88 → Bool} {a b : VoiceEngine} (m : EngineReach live a b) : VoiceMove live ⟨o, a⟩ ⟨o, b⟩
  | tune {o : Fin 88 → Bool} {a b : VoiceEngine} (x : a.TunedTo b) : VoiceMove live ⟨o, a⟩ ⟨o, b⟩
  | limit {o : Fin 88 → Bool} {a : VoiceEngine} (target : Nat) (least : 16 ≤ target) (most : target ≤ 96) :
      VoiceMove live ⟨o, a⟩ ⟨o, a.limited target⟩
  | note {o : Fin 88 → Bool} {e : Engine} (key : Fin 88) (source : Source) (velocity : Nat)
      (isOpen : source = .live → o key = true) (ruled : e.2.Ruled live) :
      VoiceMove live ⟨o, e.2⟩ ⟨o, (e.noteOn key source velocity).2⟩
  | more {o p : Fin 88 → Bool} {a : VoiceEngine} (more : ∀ k, o k = true → p k = true) : VoiceMove live ⟨o, a⟩ ⟨p, a⟩
  | close {o p : Fin 88 → Bool} {a : VoiceEngine} (key : Fin 88) (others : ∀ k, k ≠ key → o k = true → p k = true) :
      VoiceMove live ⟨o, a⟩ ⟨p, a.noteOff key .live⟩
  | reset {o p : Fin 88 → Bool} {a : VoiceEngine} : VoiceMove live ⟨o, a⟩ ⟨p, .reset⟩

/-- What moves of the voice engine and the open notes lead to. -/
def VoiceReach (live : Bool) : Voicing → Voicing → Prop := Relation.ReflTransGen (VoiceMove live)

section
variable {live : Bool} {x y z : Voicing}

theorem VoiceReach.refl (x : Voicing) : VoiceReach live x x := Relation.ReflTransGen.refl

theorem VoiceReach.step (r : VoiceReach live x y) (m : VoiceMove live y z) : VoiceReach live x z := Relation.ReflTransGen.tail r m

theorem VoiceReach.trans (r : VoiceReach live x y) (m : VoiceReach live y z) : VoiceReach live x z := Relation.ReflTransGen.trans r m

theorem VoiceReach.engine {o : Fin 88 → Bool} {a b : VoiceEngine} (r : VoiceReach live x ⟨o, a⟩) (m : EngineReach live a b) :
    VoiceReach live x ⟨o, b⟩ := r.step (.engine m)

theorem VoiceReach.edit {o : Fin 88 → Bool} {a b : VoiceEngine} (r : VoiceReach live x ⟨o, a⟩) (m : a.EditedTo b) :
    VoiceReach live x ⟨o, b⟩ := r.engine (.edit m)

/-- What every move keeps, every reach keeps. -/
theorem VoiceReach.induct {P : Voicing → Prop} (keep : ∀ x y, VoiceMove live x y → P x → P y) (r : VoiceReach live x y) (p : P x) :
    P y := by
  induction r with
  | refl => exact p
  | tail _ m ih => exact keep _ _ m ih

/-! ### The polyphony limit (R76) -/

theorem VoiceEngine.reset_get (k : Fin 96) : VoiceEngine.reset.get k = Voice.reset := by
  simp [VoiceEngine.get_eq, VoiceEngine.reset]

theorem VoiceEngine.reset_count {p : Voice → Bool} (none_ : p .reset = false) : VoiceEngine.reset.count p = 0 :=
  VoiceEngine.count_eq_zero.mpr fun k => by rw [VoiceEngine.reset_get, none_]

theorem VoiceEngine.inUse_congr {a b : VoiceEngine} (voices : b.voices = a.voices) : b.inUse = a.inUse :=
  congrArg (fun v => v.toList.countP Voice.inUse) voices

theorem VoiceEngine.reset_polyphony : WithinPolyphony VoiceEngine.reset :=
  ⟨by rw [VoiceEngine.inUse, VoiceEngine.reset_count rfl]; exact Nat.zero_le _, by decide, by decide, by decide⟩

theorem VoiceMove.polyphony (m : VoiceMove live x y) (p : WithinPolyphony x.engine) : WithinPolyphony y.engine := by
  cases m with
  | engine m => exact m.polyphony p
  | tune t =>
    exact ⟨by rw [VoiceEngine.inUse_congr t.voices, t.limit]; exact p.used, by rw [t.limit, t.target]; exact p.target,
      by rw [t.limit]; exact p.most, by rw [t.target]; exact p.least⟩
  | limit target least most =>
    exact ⟨Nat.le_max_right _ _, Nat.le_max_left _ _, Nat.max_le.mpr ⟨most, VoiceEngine.count_le_size _ _⟩, least⟩
  | note key source velocity => exact Engine.noteOn_polyphony key source velocity p
  | more => exact p
  | close key => exact (EngineReach.edit (live := true) (VoiceEngine.noteOff_edited key .live _)).polyphony p
  | reset => exact VoiceEngine.reset_polyphony

/-! ### Voices and open notes (R68, R71) -/

/-- The laws of `VoiceLaws`. -/
def Voicing.Lawful (x : Voicing) : Prop := x.engine.Lawful x.isOpen

/-- More open notes, and no more voices or entries. -/
theorem VoiceEngine.Lawful.mono {o p : Fin 88 → Bool} {a : VoiceEngine} (more : ∀ k, o k = true → p k = true) (l : a.Lawful o) :
    a.Lawful p :=
  ⟨fun k used heard down => more _ (l.openNote k used heard down), fun q mem heard => more _ (l.openEntry q mem heard), l.pairs,
    l.entries, l.waiting⟩

/-- R68: a note-off lets the key of its pair's voices go and takes its entry, so the key may close. -/
theorem VoiceEngine.Lawful.noteOff {o p : Fin 88 → Bool} {a : VoiceEngine} (key : Fin 88)
    (others : ∀ k, k ≠ key → o k = true → p k = true) (l : a.Lawful o) : (a.noteOff key .live).Lawful p := by
  have m := VoiceEngine.noteOff_edited key .live a
  have after := m.lawful l
  refine ⟨fun k used heard down => others _ ?_ (after.openNote k used heard down), fun q mem heard => others _ ?_
    (after.openEntry q mem heard), after.pairs, after.entries, after.waiting⟩
  · intro own
    rw [VoiceEngine.noteOff_get] at used heard own down
    split at down
    · exact Bool.false_ne_true down
    · next other =>
      rw [if_neg other] at used heard own
      exact other (Bool.and_eq_true_iff.mpr ⟨used, Voice.ofPair_iff.mpr ⟨own, heard⟩⟩)
  · intro own
    have kept := (List.mem_filter.mp mem).2
    simp [own, heard] at kept

theorem VoiceEngine.reset_lawful (o : Fin 88 → Bool) : VoiceEngine.reset.Lawful o where
  openNote k used := by rw [VoiceEngine.reset_get] at used; cases used
  openEntry q mem := absurd mem List.not_mem_nil
  pairs key source := by
    rw [VoiceEngine.pairInUse, VoiceEngine.pairAlive, VoiceEngine.reset_count rfl, VoiceEngine.reset_count rfl]
    exact ⟨Nat.zero_le _, Nat.zero_le _⟩
  entries := List.nodup_nil
  waiting q mem := absurd mem List.not_mem_nil

theorem VoiceEngine.TunedTo.get {a b : VoiceEngine} (t : a.TunedTo b) (k : Fin 96) : b.get k = a.get k := by
  rw [VoiceEngine.get_eq, VoiceEngine.get_eq, t.voices]

theorem VoiceEngine.TunedTo.lawful {o : Fin 88 → Bool} {a b : VoiceEngine} (t : a.TunedTo b) (l : a.Lawful o) : b.Lawful o :=
  l.fewer (fun k => by rw [t.get]; exact l.openNote k) (fun _ _ => VoiceEngine.count_le fun k h => t.get k ▸ h)
    (fun _ _ => VoiceEngine.count_le fun k h => t.get k ▸ h) (t.queue ▸ .refl _)

theorem VoiceMove.lawful (m : VoiceMove live x y) (l : x.Lawful) : y.Lawful := by
  cases m with
  | engine m => exact m.lawful l
  | tune t => exact t.lawful l
  | limit target => exact ⟨l.openNote, l.openEntry, l.pairs, l.entries, l.waiting⟩
  | note key source velocity isOpen => exact Engine.noteOn_lawful velocity isOpen l
  | more more => exact l.mono more
  | close key others => exact l.noteOff key others
  | reset => exact VoiceEngine.reset_lawful _

/-! ### The gate (R70) -/

theorem VoiceMove.liveFrom (m : VoiceMove false x y) : x.engine.LiveFrom y.engine := by
  cases m with
  | engine m => exact m.liveFrom
  | tune t => exact fun k used heard => by rw [t.get] at used heard ⊢; exact ⟨used, heard, rfl⟩
  | limit => exact .refl _
  | note key source velocity isOpen ruled => exact Engine.noteOn_liveFrom key source velocity ruled
  | more => exact .refl _
  | close key => exact (VoiceEngine.noteOff_edited key .live _).liveFrom
  | reset => exact fun k used => by rw [VoiceEngine.reset_get] at used; cases used

theorem VoiceReach.polyphony (r : VoiceReach live x y) (p : WithinPolyphony x.engine) : WithinPolyphony y.engine :=
  r.induct (P := fun z => WithinPolyphony z.engine) (fun _ _ m => m.polyphony) p

theorem VoiceReach.lawful (r : VoiceReach live x y) (l : x.Lawful) : y.Lawful :=
  r.induct (P := Voicing.Lawful) (fun _ _ m => m.lawful) l

theorem VoiceReach.liveFrom (r : VoiceReach false x y) : x.engine.LiveFrom y.engine :=
  r.induct (P := fun z => x.engine.LiveFrom z.engine) (fun _ _ m k => k.trans m.liveFrom) (.refl _)

end

end Sys2Proof.Machine
end

section
/-! SUPPORT. The player changes the voice engine by its note-ons and by edits of the voices alone: what both keep, each operation of the
player keeps (R138 to R154). -/

namespace Sys2Proof.Machine

/-- What the edits of the voices keep. -/
def EditKeeps (P : VoiceEngine → Prop) : Prop := ∀ a b, a.EditedTo b → P a → P b

/-- What the edits of the voices and the player's note-ons keep. -/
structure PlayerKeeps (P : VoiceEngine → Prop) : Prop where
  edit : EditKeeps P
  note : ∀ (e : Engine) key velocity, P e.2 → P (e.noteOn key .playback velocity).2

/-- R70: a reach of moves, and the rule of the gate with it. -/
theorem PlayerKeeps.reach (live : Bool) (x : Voicing) :
    PlayerKeeps fun a => VoiceReach live x ⟨x.isOpen, a⟩ ∧ a.Ruled live where
  edit _ _ m y := ⟨y.1.edit m, y.2.of_gate m.policy m.atSilent⟩
  note e key velocity y := by
    obtain ⟨policy, silent⟩ := e.noteOn_gate key .playback velocity
    exact ⟨y.1.step (.note key .playback velocity nofun y.2), y.2.of_gate policy silent⟩

/-- The gate rests on what neither an edit nor a note-on changes (R70). -/
theorem PlayerKeeps.gate (v : VoiceEngine) : PlayerKeeps fun a => a.policy = v.policy ∧ a.atSilent = v.atSilent where
  edit _ _ m y := ⟨m.policy.trans y.1, m.atSilent.trans y.2⟩
  note e key velocity y := by
    obtain ⟨policy, silent⟩ := e.noteOn_gate key .playback velocity
    exact ⟨policy.trans y.1, silent.trans y.2⟩

/-! ### Operations outside the voice engine -/

section
variable (p : Stage)

@[simp] theorem Stage.onPlayer_voice (f : Player → Player) : (p.onPlayer f).voice = p.voice := rfl

@[simp] theorem Stage.report_voice (d n i : Nat) : (p.report d n i).voice = p.voice := rfl

@[simp] theorem Stage.completePending_voice (c : ResultCode) : (p.completePending c).voice = p.voice := rfl

@[simp] theorem Stage.emptyBuffers_voice : p.emptyBuffers.voice = p.voice := rfl

@[simp] theorem Stage.restart_voice (position : Word32) (tempo : Nat) (first : Bool) :
    (p.restart position tempo first).voice = p.voice := rfl

@[simp] theorem Stage.dropGrid_voice : p.dropGrid.voice = p.voice := rfl

@[simp] theorem Stage.clearTake_voice : p.clearTake.voice = p.voice := rfl

@[simp] theorem Stage.setTake_voice (take : TakeRecord) (slot : Option (Fin 32)) (chained : Bool) :
    (p.setTake take slot chained).voice = p.voice := rfl

end

/-! ### Operations that edit the voices -/

section
variable {P : VoiceEngine → Prop} {p : Stage} (h : EditKeeps P)

theorem Stage.reportNote_keeps (kind : RecordKind) (k v n : Nat) (f : Bool) (x : P p.voice) : P (p.reportNote kind k v n f).voice := by
  rw [(p.reportNote_same kind k v n f).1]; exact x

theorem Stage.readBlock_keeps (b : Fin 2) (address : Word64) (index : Nat) (next : Bool) (x : P p.voice) :
    P (p.readBlock b address index next).voice := by
  unfold Stage.readBlock; exact x

theorem Stage.readAhead_keeps (x : P p.voice) : P p.readAhead.voice := by
  unfold Stage.readAhead
  split
  · dsimp only
    split
    · exact Stage.readBlock_keeps (p := p.emptyBuffer _) _ _ _ _ x
    · exact x
  · exact x

theorem Stage.enterBlock_keeps (x : P p.voice) : P p.enterBlock.voice := by
  unfold Stage.enterBlock
  split
  · exact x
  · dsimp only
    split
    · split
      · exact x
      · exact Stage.readAhead_keeps (p := p.emptyBuffer _) x
    · exact Stage.readBlock_keeps (p := p.emptyBuffer _) _ _ _ _ x

theorem Stage.advanceBlock_keeps (x : P p.voice) : P p.advanceBlock.voice := by
  unfold Stage.advanceBlock; exact Stage.enterBlock_keeps x

theorem Stage.readFirst_keeps (x : P p.voice) : P p.readFirst.voice := by
  unfold Stage.readFirst
  split
  · exact x
  · exact Stage.readBlock_keeps (p := p.emptyBuffers.onPlayer _) _ _ _ _ x

include h

theorem Stage.releaseOpen_edits (which : Nat → Bool) (x : P p.voice) : P (p.releaseOpen which).voice :=
  Stage.releaseOpen_keeps (P := fun q => P q.voice) which x (fun q k => h _ _ (VoiceEngine.noteOff_edited k .playback q.voice))
    (fun _ _ _ _ _ _ => Stage.reportNote_keeps _ _ _ _ _) fun _ _ => id

theorem Stage.releaseAll_keeps (x : P p.voice) : P p.releaseAll.voice := Stage.releaseOpen_edits h _ x

theorem Stage.handPedals_keeps (pedals : PlaybackPedals) (x : P p.voice) : P (p.handPedals pedals).voice :=
  h _ _ (VoiceEngine.setSoft_edited .playback _ _) (h _ _ (VoiceEngine.setDamper_edited .playback _ _) x)

/-- R147, R149, R154: the take ends. -/
theorem Stage.endTake_keeps (x : P p.voice) : P (p.releaseAll.handPedals .zero).clearTake.voice := by
  rw [Stage.clearTake_voice]
  exact Stage.handPedals_keeps h .zero (Stage.releaseAll_keeps h x)

theorem Stage.fault_keeps (format : Bool) (x : P p.voice) : P (p.fault format).voice := by
  have y := Stage.endTake_keeps h x
  unfold Stage.fault
  dsimp only
  generalize (p.releaseAll.handPedals .zero).clearTake = u at y
  exact y

theorem Stage.stop_keeps (x : P p.voice) : P p.stop.voice := by
  have y := Stage.endTake_keeps h x
  unfold Stage.stop
  generalize (p.releaseAll.handPedals .zero).clearTake = u at y
  split
  · exact y
  · exact x

theorem Stage.detach_keeps (x : P p.voice) : P p.detach.voice := by
  have y := Stage.endTake_keeps h x
  unfold Stage.detach
  generalize (p.releaseAll.handPedals .zero).clearTake = u at y
  exact y

theorem Stage.rewind_keeps (x : P p.voice) : P p.rewind.voice := Stage.handPedals_keeps h .zero x

theorem Stage.scanMissed_keeps (x : P p.voice) : P p.scanMissed.voice := by
  unfold Stage.scanMissed
  dsimp only
  have y := Stage.readFirst_keeps (p := p.rewind.onPlayer fun q => { q with state := .paused, scan := none })
    (Stage.rewind_keeps h x)
  split
  · exact y
  · split
    · exact y
    · exact y

theorem Stage.scanFound_keeps (x : P p.voice) : P p.scanFound.voice := by
  unfold Stage.scanFound
  dsimp only
  have y := Stage.handPedals_keeps h p.player.pedals x
  split
  · exact y
  · split
    · exact y
    · exact y

theorem Stage.scanRun_keeps (n : Nat) (x : P p.voice) : P (p.scanRun n).voice := by
  induction n generalizing p with
  | zero => exact x
  | succ n ih =>
    unfold Stage.scanRun
    split
    · split
      · next event _ =>
        have passed : P (p.onPlayer (Player.scanEvent event)).voice := x
        split
        · exact Stage.fault_keeps h _ x
        · dsimp only
          split
          · exact Stage.scanMissed_keeps h passed
          · split
            · exact Stage.scanFound_keeps h passed
            · exact ih passed
      · split
        · exact Stage.scanMissed_keeps h x
        · split
          · exact ih (Stage.advanceBlock_keeps x)
          · exact x
    · exact x

theorem Stage.beginTake_keeps (block : ScoreBlock) (x : P p.voice) : P (p.beginTake block).voice := by
  unfold Stage.beginTake
  dsimp only
  have y := Stage.handPedals_keeps h .zero (p := p.onPlayer fun q =>
    { q with headerTempo := block.tempo, followTempo := clampTempo block.tempo }) x
  split
  · split
    · exact y
    · exact y
  · exact Stage.scanRun_keeps h _ y

theorem Stage.beginNext_keeps (next : TakeRecord) (x : P p.voice) : P (p.beginNext next).voice := by
  unfold Stage.beginNext
  dsimp only
  have y : P (((p.setTake next none true).onPlayer fun q => { q with next := none }).report 7 0 0).voice := x
  split
  · exact Stage.beginTake_keeps h _ (Stage.enterBlock_keeps (p := Stage.onPlayer _ _) y)
  · exact Stage.readFirst_keeps y

theorem Stage.naturalEnd_keeps (x : P p.voice) : P p.naturalEnd.voice := by
  unfold Stage.naturalEnd
  dsimp only
  have y : P ((p.releaseAll.handPedals .zero).report 1 0 0).voice := Stage.handPedals_keeps h _ (Stage.releaseAll_keeps h x)
  split
  · split
    · exact Stage.beginNext_keeps h _ y
    · exact y
  · exact y

theorem Stage.beginSettled_keeps (x : P p.voice) : P p.beginSettled.voice := by
  unfold Stage.beginSettled
  split
  · split
    · exact Stage.beginNext_keeps h _ x
    · exact x
  · exact x

theorem Stage.loopJump_keeps (marker : Nat) (anchor : LoopAnchor) (x : P p.voice) : P (p.loopJump marker anchor).voice := by
  have y : P (p.releaseAll.handPedals anchor.pedals).emptyBuffers.voice :=
    Stage.handPedals_keeps h anchor.pedals (Stage.releaseAll_keeps h x)
  unfold Stage.loopJump
  dsimp only
  generalize (p.releaseAll.handPedals anchor.pedals).emptyBuffers = u at y
  rw [Stage.onPlayer_voice, Stage.report_voice]
  exact Stage.readBlock_keeps (p := u.onPlayer _) _ _ _ _ y

theorem Stage.dispatchMark_keeps (marker : Nat) (x : P p.voice) : P (p.dispatchMark marker).voice := by
  unfold Stage.dispatchMark
  dsimp only
  have y : P ((p.report 2 marker 0).onPlayer (Player.markAnchor marker)).voice := x
  split
  · split
    · exact Stage.loopJump_keeps h _ _ y
    · exact y
  · exact y

theorem Stage.dispatchNoteOff_keeps (key : Fin 88) (value part : Nat) (x : P p.voice) :
    P (p.dispatchNoteOff key value part).voice := by
  unfold Stage.dispatchNoteOff
  dsimp only
  have y := Stage.reportNote_keeps .playNoteOff key.val value part false x
  generalize p.reportNote .playNoteOff key.val value part false = u at y
  split
  · exact h _ _ (VoiceEngine.noteOff_edited key .playback u.voice) y
  · exact y

theorem Stage.dispatchPedal_keeps (pedal level part : Nat) (x : P p.voice) : P (p.dispatchPedal pedal level part).voice := by
  unfold Stage.dispatchPedal
  dsimp only
  split
  · exact Stage.handPedals_keeps h _ x
  · exact x

end

/-! ### Operations that hand notes on -/

section
variable {P : VoiceEngine → Prop} {p : Stage} (h : PlayerKeeps P)
include h

theorem Stage.dispatchNoteOn_keeps (key : Fin 88) (velocity part : Nat) (x : P p.voice) :
    P (p.dispatchNoteOn key velocity part).voice := by
  unfold Stage.dispatchNoteOn
  dsimp only
  have y := Stage.reportNote_keeps .playNoteOn key.val velocity part false x
  generalize p.reportNote .playNoteOn key.val velocity part false = u at y
  split
  · exact h.note (u.hub, u.voice) key velocity y
  · exact y

theorem Stage.dispatchEvent_keeps (time : Word32) (g : GroupEvent) (x : P p.voice) : P (p.dispatchEvent time g).voice := by
  unfold Stage.dispatchEvent
  extract_lets p0 p1 e
  have y0 : P p0.voice := by
    unfold p0
    split
    · exact x
    · exact Stage.advanceBlock_keeps x
  have y : P p1.voice := y0
  clear_value p1
  split
  · split
    · exact Stage.dispatchNoteOn_keeps h _ _ _ y
    · exact y
  · split
    · exact Stage.dispatchNoteOff_keeps h.edit _ _ _ y
    · exact y
  · exact Stage.dispatchPedal_keeps h.edit _ _ _ y
  · exact y
  · exact Stage.dispatchMark_keeps h.edit _ y
  · exact Stage.naturalEnd_keeps h.edit y
  · exact y

theorem Stage.dispatchGroup_keeps (time : Word32) (l : List GroupEvent) (x : P p.voice) : P (p.dispatchGroup time l).voice := by
  induction l generalizing p with
  | nil => exact x
  | cons g l ih =>
    unfold Stage.dispatchGroup
    dsimp only
    split
    · exact Stage.dispatchEvent_keeps h _ _ x
    · exact ih (Stage.dispatchEvent_keeps h _ _ x)

theorem Stage.endWait_keeps (x : P p.voice) : P p.endWait.voice := by
  unfold Stage.endWait
  dsimp only
  split
  · exact Stage.dispatchGroup_keeps h (p := p.onPlayer _) _ _ x
  · exact x

theorem Stage.beginWait_keeps (g : Group) (x : P p.voice) : P (p.beginWait g).voice := by
  unfold Stage.beginWait
  extract_lets window p1
  have y : P p1.voice := x
  clear_value p1
  split
  · exact Stage.endWait_keeps h y
  · exact y

theorem Stage.takeGroup_keeps (g : Group) (x : P p.voice) : P (p.takeGroup g).voice := by
  unfold Stage.takeGroup
  extract_lets follow
  split
  · exact Stage.fault_keeps h.edit _ x
  · split
    · exact Stage.beginWait_keeps h _ x
    · exact Stage.dispatchGroup_keeps h _ _ x

theorem Stage.playRun_keeps (n : Nat) (x : P p.voice) : P (p.playRun n).voice := by
  induction n generalizing p with
  | zero => exact x
  | succ n ih =>
    unfold Stage.playRun
    split
    · exact x
    · split
      · exact x
      · exact ih (Stage.naturalEnd_keeps h.edit x)
      · exact ih (Stage.advanceBlock_keeps x)
      · exact x
      · split
        · split
          · exact ih (Stage.takeGroup_keeps h _ x)
          · exact x
        · exact x

theorem Stage.play_keeps (x : P p.voice) : P p.play.voice := Stage.playRun_keeps h _ x

theorem Stage.blockValid_keeps (b : Fin 2) (block : ScoreBlock) (x : P p.voice) : P (p.blockValid b block).voice := by
  unfold Stage.blockValid
  extract_lets c p1 p2
  have y : P p1.voice := by
    unfold p1
    split
    · exact Stage.enterBlock_keeps x
    · exact x
  split
  · split
    · exact Stage.play_keeps h (Stage.scanRun_keeps h.edit _ y)
    · split
      · exact Stage.play_keeps h (Stage.beginTake_keeps h.edit _ y)
      · exact y
  · exact Stage.play_keeps h (Stage.scanRun_keeps h.edit _ y)
  · have z : P p2.voice := by
      unfold p2
      split
      · exact y
      · exact y
    exact Stage.play_keeps h (p := p2.onPlayer _) z
  · split
    · exact y
    · exact y
  · exact Stage.play_keeps h y
  · exact y

theorem Stage.blockRead_keeps (b : Fin 2) (n : Nat) (bytes : Option (List Byte)) (x : P p.voice) :
    P (p.blockRead b n bytes).voice := by
  unfold Stage.blockRead
  extract_lets buffer takeId reject
  have y : ∀ f, P (reject f).voice := fun f => by
    unfold reject
    split
    · exact x
    · split
      · exact Stage.fault_keeps h.edit _ x
      · exact x
  clear_value reject
  split
  · exact x
  · split
    · exact y _
    · extract_lets chunks
      split
      · exact x
      · extract_lets block p1
        split
        · split
          · exact x
          · exact Stage.blockValid_keeps h (p := p.onPlayer _) _ _ x
        · exact y _

theorem Stage.liveStrike_keeps (key : Fin 88) (x : P p.voice) : P (p.liveStrike key).voice := by
  unfold Stage.liveStrike
  extract_lets waiting hit strike p1
  have y : P p1.voice := x
  clear_value p1
  split
  · exact Stage.play_keeps h (Stage.endWait_keeps h (p := p1.report _ _ _) y)
  · exact y

theorem Stage.skipWait_keeps (x : P p.voice) : P p.skipWait.voice :=
  Stage.play_keeps h (Stage.endWait_keeps h (p := p.report _ _ _) x)

theorem Stage.pause_keeps (x : P p.voice) : P p.pause.voice := Stage.releaseAll_keeps h.edit x

theorem Stage.resume_keeps (x : P p.voice) : P p.resume.voice := by
  unfold Stage.resume
  split
  · exact Stage.play_keeps h (Stage.beginWait_keeps h _ x)
  · split
    · have y : P (if p.player.restartOwed then p.restart p.player.lastTime p.player.followTempo false else p).voice := by
        split
        · exact x
        · exact x
      exact Stage.play_keeps h (p := Stage.onPlayer _ _) y
    · exact x

theorem Stage.toggle_keeps (x : P p.voice) : P p.toggle.voice := by
  unfold Stage.toggle
  extract_lets p1
  have y : P p1.voice := by
    unfold p1
    split
    · exact Stage.resume_keeps h x
    · exact x
    · exact Stage.pause_keeps h x
  exact y

theorem Stage.setParts_keeps (parts : Vector PartMode 4) (x : P p.voice) : P (p.setParts parts).voice := by
  unfold Stage.setParts
  extract_lets leaving p1 p2
  have y1 : P p1.voice := Stage.releaseOpen_edits h.edit leaving x
  have y : P p2.voice := by
    unfold p2
    split
    · exact Stage.handPedals_keeps h.edit _ y1
    · exact y1
  clear_value p2
  split
  · dsimp only
    split
    · exact Stage.play_keeps h (Stage.endWait_keeps h (p := Stage.report _ _ _ _) y)
    · exact y
  · exact y

theorem Stage.seek_keeps (slot : Fin 32) (marker : Nat) (x : P p.voice) : P (p.seek slot marker).voice := by
  have y := Stage.releaseAll_keeps h.edit x
  unfold Stage.seek
  dsimp only
  exact Stage.rewind_keeps h.edit (Stage.readFirst_keeps (p := Stage.onPlayer _ _) y)

end

end Sys2Proof.Machine
end

section
/-! SUPPORT. The operations on the whole state follow the moves of the voice engine and the open notes: one lemma per operation that
starts no voice, and for those that hand notes on, the frames of the lanes, with the gate that they meet (R68, R70, R71, R76). -/

namespace Sys2Proof.Machine

/-- The keys that hold an open note. -/
def State.opens (s : State) (k : Fin 88) : Bool := s.keys[k].openNote

/-- The voice engine and the keys that hold an open note, in a state. -/
def State.voicing (s : State) : Voicing := ⟨s.opens, s.voice⟩

/-- The voices and open notes of a state are reached from `x` by moves. -/
def State.Follows (live : Bool) (x : Voicing) (s : State) : Prop := VoiceReach live x s.voicing

variable {live : Bool} {x : Voicing} {s t : State}

theorem State.Follows.refl (s : State) : s.Follows live s.voicing := VoiceReach.refl _

/-- A change outside the voices and the open notes. -/
theorem State.Follows.aside (y : s.Follows live x) (opens : t.opens = s.opens) (voice : t.voice = s.voice) : t.Follows live x := by
  unfold State.Follows State.voicing at y ⊢
  rw [opens, voice]
  exact y

theorem State.Follows.keep (y : s.Follows live x) (keys : t.keys = s.keys) (voice : t.voice = s.voice) : t.Follows live x :=
  y.aside (by unfold State.opens; rw [keys]) voice

/-- A change outside the voices and the open notes, after a reach of the engine. -/
theorem State.Follows.of_engine {ve : VoiceEngine} (r : VoiceReach live x ⟨s.opens, ve⟩) (keys : t.keys = s.keys)
    (voice : t.voice = ve) : t.Follows live x := by
  have opens : t.opens = s.opens := by unfold State.opens; rw [keys]
  unfold State.Follows State.voicing
  rw [opens, voice]
  exact r

theorem Work.follows {l : List Piece} (w : Work l s t) (off : .voice ∉ l ∧ .keys ∉ l) (y : s.Follows live x) : t.Follows live x := by
  have voice : t.voice = s.voice := w.same .voice off.1
  have keys : t.keys = s.keys := w.same .keys off.2
  exact y.keep keys voice

theorem State.Follows.foldl {α : Type} {f : State → α → State} (one : ∀ (u : State) b, u.Follows live x → (f u b).Follows live x)
    (l : List α) (y : s.Follows live x) : (l.foldl f s).Follows live x :=
  List.foldlRecOn (motive := State.Follows live x) l f y fun u z b _ => one u b z

/-! ### The lifts -/

theorem State.mapHub_follows {f : Hub → Hub} (y : s.Follows live x) : (s.mapHub f).Follows live x := y

theorem State.mapRecorder_follows {f : Desk → Desk} (y : s.Follows live x) : (s.mapRecorder f).Follows live x := y

theorem State.mapMetronome_follows {f : Beater → Beater} (y : s.Follows live x) : (s.mapMetronome f).Follows live x := y

/-- A change of the voice engine outside its voices, its queue and its limits. -/
theorem State.Follows.tune (y : s.Follows live x) (keys : t.keys = s.keys) (tuned : s.voice.TunedTo t.voice) :
    t.Follows live x := State.Follows.of_engine (VoiceReach.step y (.tune tuned)) keys rfl

/-- R101: the rail controller's operations reach the voice engine's copy of AT_SILENT alone. -/
theorem State.mapDeck_follows {f : Deck → Deck} (y : s.Follows live x) : (s.mapDeck f).Follows live x :=
  y.tune (t := s.mapDeck f) rfl ⟨rfl, rfl, rfl, rfl⟩

theorem State.mapVoice_follows {f : Engine → Engine} (one : ∀ e : Engine, e.2 = s.voice → EngineReach live e.2 (f e).2)
    (y : s.Follows live x) : (s.mapVoice f).Follows live x := VoiceReach.engine y (one (s.hub, s.voice) rfl)

theorem State.updateVoice_follows {f : VoiceEngine → VoiceEngine} (one : ∀ ve : VoiceEngine, ve.EditedTo (f ve))
    (y : s.Follows live x) : (s.updateVoice f).Follows live x := VoiceReach.edit y (one s.voice)

/-- A player operation that hands on no note-on. -/
theorem State.mapStage_edits {f : Stage → Stage} (one : ∀ P : VoiceEngine → Prop, EditKeeps P → ∀ p : Stage, P p.voice → P (f p).voice)
    (y : s.Follows live x) : (s.mapStage f).Follows live x :=
  one (fun a => VoiceReach live x ⟨s.opens, a⟩) (fun _ _ m z => z.edit m) s.stage y

/-- What a player operation leaves of the gate (R70). -/
theorem State.mapStage_gate {f : Stage → Stage}
    (one : ∀ P : VoiceEngine → Prop, PlayerKeeps P → ∀ p : Stage, P p.voice → P (f p).voice) (s : State) :
    (s.mapStage f).voice.policy = s.voice.policy ∧ (s.mapStage f).voice.atSilent = s.voice.atSilent :=
  one _ (.gate s.voice) s.stage ⟨rfl, rfl⟩

theorem State.mapStage_follows {f : Stage → Stage}
    (one : ∀ P : VoiceEngine → Prop, PlayerKeeps P → ∀ p : Stage, P p.voice → P (f p).voice) (ruled : s.voice.Ruled live)
    (y : s.Follows live x) : (s.mapStage f).Follows live x :=
  (one _ (.reach live s.voicing) s.stage ⟨.refl _, ruled⟩).1 |> VoiceReach.trans y

theorem State.whenUp_cases (f : State → State) (s : State) : s.whenUp f = f s ∨ s.whenUp f = s := by
  unfold State.whenUp
  split
  · exact .inl rfl
  · exact .inr rfl

/-- An effect of the main domain, with what it needs of the state after it. -/
theorem State.whenUp_follows {f : State → State} (y : s.Follows live x) (after : (s.whenUp f).voice.Ruled live)
    (one : (f s).voice.Ruled live → (f s).Follows live x) : (s.whenUp f).Follows live x := by
  obtain same | same := s.whenUp_cases f
  · rw [same] at after ⊢; exact one after
  · rw [same]; exact y

theorem State.onArrival_follows {rows : ReadTag → Bool} {id : Nat} {outcome : ReadOutcome}
    {handle : ReadTag → Option (List Byte) → State → State}
    (one : ∀ tag bytes (h : Hub), (handle tag bytes { s with hub := h }).Follows live x) (y : s.Follows live x) :
    (s.onArrival rows id outcome handle).Follows live x := by
  unfold State.onArrival
  split
  · exact y
  · split
    · split
      · exact y
      · exact one _ _ _
    · exact y

/-! ### The keys (R29 to R45) -/

/-- The open notes when one key takes a value. -/
theorem State.setKey_opens (k : Fin 88) (key : Key) (s : State) : (s.setKey k key).opens = Function.update s.opens k key.openNote := by
  funext j
  by_cases same : j = k
  · simp [State.opens, State.setKey, same]
  · have other : k.val ≠ j.val := fun eq => same (Fin.ext eq.symm)
    simp [State.opens, State.setKey, same, Vector.getElem_set_ne _ _ other]

/-- A key that keeps its open note. -/
theorem State.setKey_follows (k : Fin 88) {key : Key} (same : key.openNote = s.keys[k].openNote) (y : s.Follows live x) :
    (s.setKey k key).Follows live x := by
  refine y.aside (t := s.setKey k key) ?_ rfl
  rw [State.setKey_opens, same]
  exact Function.update_eq_self k s.opens

theorem State.reevalQuiet_follows (y : s.Follows live x) : s.reevalQuiet.Follows live x := State.mapDeck_follows y

/-- R29: the voices and open notes when a note closes. -/
theorem State.noteUp_voice (k : Fin 88) (velocity strike : Nat) (forced : Bool) (s : State) :
    (s.noteUp k velocity strike forced).voice = s.voice.noteOff k .live := rfl

/-- R32, R35, R38: a key whose note is closed by force. -/
theorem State.forceKey_follows (k : Fin 88) {key : Key} (closed : key.openNote = false) (y : s.Follows live x) :
    (s.forceKey k key).Follows live x := by
  unfold State.forceKey
  dsimp only
  split
  · have opens : ((s.setKey k key).noteUp k 64 s.keys[k].lastVelocity true).opens = Function.update s.opens k key.openNote :=
      State.setKey_opens k key s
    unfold State.Follows State.voicing
    rw [opens, State.noteUp_voice]
    refine VoiceReach.step (y := s.voicing) y (.close k fun j other open_ => ?_)
    rw [Function.update_of_ne other]
    exact open_
  · next shut => exact State.setKey_follows k (closed.trans (Bool.eq_false_of_not_eq_true shut).symm) y

theorem State.setCapture_follows (keys : List (Fin 88)) (y : s.Follows live x) : (s.setCapture keys).Follows live x :=
  VoiceReach.edit y (VoiceEngine.setCapture_edited keys s.voice)

theorem State.uncapture_follows (k : Fin 88) (y : s.Follows live x) : (s.uncapture k).Follows live x := by
  unfold State.uncapture
  split
  · exact State.setCapture_follows _ y
  · exact y

theorem State.loseKey_follows (k : Fin 88) (y : s.Follows live x) : (s.loseKey k).Follows live x := by
  unfold State.loseKey
  dsimp only
  split
  · exact State.uncapture_follows _ (State.forceKey_follows _ rfl y)
  · exact State.forceKey_follows _ rfl y

theorem State.keyLaneLost_follows (lane : Fin 8) (y : s.Follows live x) : (s.keyLaneLost lane).Follows live x :=
  State.reevalQuiet_follows (.foldl (fun _ _ z => State.loseKey_follows _ z) _ y)

theorem State.wakeKeys_follows (lane : Fin 8) (y : s.Follows live x) :
    ((List.finRange 11).foldl (fun s j =>
      let k := laneKey lane j
      if s.keys[k].masked then s else s.setKey k { s.keys[k] with state := .waitRest }) s).Follows live x := by
  refine .foldl (fun u j z => ?_) _ y
  dsimp only
  split
  · exact z
  · exact State.setKey_follows _ rfl z

theorem State.keyLaneUp_follows (lane : Fin 8) (y : s.Follows live x) : (s.keyLaneUp lane).Follows live x :=
  State.reevalQuiet_follows (State.wakeKeys_follows lane y)

theorem State.maskKey_follows (k : Fin 88) (masked : Bool) (y : s.Follows live x) : (s.maskKey k masked).Follows live x := by
  unfold State.maskKey
  dsimp only
  split
  · exact y
  · split
    · exact State.forceKey_follows _ rfl y
    · exact State.setKey_follows _ rfl y

theorem State.openWindow_follows (w : CalibWindow) (y : s.Follows live x) : (s.openWindow w).Follows live x := by
  have opened : ((keyRange w.first w.last).foldl (fun s k => s.openKey k) s).Follows live x := by
    refine .foldl (fun u k z => ?_) _ y
    unfold State.openKey
    dsimp only
    split
    · exact z
    · exact State.forceKey_follows _ rfl z
  exact opened

/-- R40 to R42: the end of a calibration window opens and closes no note. -/
theorem endCalibrating_openNote (keys : Vector Key 88) (k : Fin 88) : (endCalibrating keys)[k].openNote = keys[k].openNote := by
  unfold endCalibrating
  simp only [Fin.getElem_fin, Vector.getElem_ofFn]
  split <;> rfl

theorem State.Follows.endCalibrating (y : s.Follows live x) (keys : t.keys = Machine.endCalibrating s.keys) (voice : t.voice = s.voice) :
    t.Follows live x :=
  y.aside (by funext k; rw [State.opens, keys, endCalibrating_openNote]; rfl) voice

theorem State.finishWindow_follows (w : CalibWindow) (y : s.Follows live x) : (s.finishWindow w).Follows live x := by
  unfold State.finishWindow
  exact State.reevalQuiet_follows (State.mapHub_follows (y.endCalibrating rfl rfl))

theorem State.abortWindow_follows (w : CalibWindow) (y : s.Follows live x) : (s.abortWindow w).Follows live x :=
  y.endCalibrating (t := s.abortWindow w) rfl rfl

theorem State.reloadKey_follows (k : Fin 88) (y : s.Follows live x) : (s.reloadKey k).Follows live x := by
  unfold State.reloadKey
  dsimp only
  split
  · exact State.setKey_follows _ rfl y
  · exact State.forceKey_follows _ rfl y

theorem State.endTableLoad_follows (slot : Fin 32) (code : ResultCode) (data : List Byte) (y : s.Follows live x) :
    (s.endTableLoad slot code data).Follows live x := y

theorem State.applyCalib_follows (slot : Fin 32) (table : List Byte) (y : s.Follows live x) :
    (s.applyCalib slot table).Follows live x := by
  unfold State.applyCalib
  dsimp only
  split
  · exact State.endTableLoad_follows _ _ _ y
  · refine State.endTableLoad_follows _ _ _ (State.reevalQuiet_follows (State.mapHub_follows ?_))
    exact .foldl (fun _ k z => State.reloadKey_follows k z) _ (y.keep rfl rfl)

theorem State.applyCurve_follows (slot : Fin 32) (table : List Byte) (y : s.Follows live x) :
    (s.applyCurve slot table).Follows live x := by
  unfold State.applyCurve
  split
  · exact State.endTableLoad_follows _ _ _ y
  · exact State.endTableLoad_follows _ _ _ (y.keep rfl rfl)

theorem State.tableRead_follows (tag : ReadTag) (bytes : Option (List Byte)) (y : s.Follows live x) :
    (s.tableRead tag bytes).Follows live x := by
  unfold State.tableRead
  split
  · split
    · exact State.endTableLoad_follows _ _ _ (State.mapHub_follows y)
    · dsimp only
      split
      · exact y
      · split
        · exact State.applyCalib_follows _ _ y
        · exact State.applyCurve_follows _ _ y
  · exact y

/-! ### The pedal and input block (R46 to R58) -/

theorem State.pedalEvent_follows (p : Fin 3) (level detail : Nat) (forced : Bool) (y : s.Follows live x) :
    (s.pedalEvent p level detail forced).Follows live x := y

theorem State.emitPedal_follows (p : Fin 3) (changed pressed : Bool) (y : s.Follows live x) :
    (s.emitPedal p changed pressed).Follows live x := by
  unfold State.emitPedal
  dsimp only
  split
  · exact State.pedalEvent_follows _ _ _ _ y
  · exact y

theorem State.pedalFrame_follows (readings : List Nat) (y : s.Follows live x) : (s.pedalFrame readings).Follows live x := by
  unfold State.pedalFrame
  extract_lets level sostenuto soft sostenutoChanged softChanged pedals s1 s2 s3
  have first : s1.Follows live x := VoiceReach.edit y (VoiceEngine.setDamper_edited .live _ s.voice)
  have second : s2.Follows live x := by
    unfold s2
    split
    · exact State.setCapture_follows _ first
    · exact first
  have third : s3.Follows live x := by
    unfold s3
    split
    · exact State.updateVoice_follows (VoiceEngine.setSoft_edited .live _) second
    · exact second
  exact State.emitPedal_follows _ _ _ (State.emitPedal_follows _ _ _ (State.emitPedal_follows _ _ _ third))

theorem State.setSwitch_voicing (i : Fin 2) (n : Nat) (s : State) : (s.setSwitch i n).voicing = s.voicing := by
  unfold State.setSwitch
  split <;> rfl

/-! ### The lane controller (R3 to R18) -/

theorem State.setLane_follows (n : Fin 9) (l : Lane) (y : s.Follows live x) : (s.setLane n l).Follows live x := y

end Sys2Proof.Machine
end

section
/-! SUPPORT. The frames of the lanes, which hand notes on after the rail may have moved AT_SILENT, and the operations of the lanes and
the footswitches, followed by the moves of the voice engine and the open notes (R21, R29, R54, R70). -/

namespace Sys2Proof.Machine

variable {live : Bool} {x : Voicing} {r s t : State} {o p : Fin 88 → Bool}

/-! ### The gate during a command (R70, R101) -/

/-- The AT_SILENT that the rail gives when it is asked (R101). -/
def State.railSilent (s : State) : Bool := railAtSilent s.railConfig s.rail

theorem State.updateVoice_railSilent (f : VoiceEngine → VoiceEngine) (s : State) : (s.updateVoice f).railSilent = s.railSilent := rfl

/-- R70: the gate as it stands once the rail has been asked. -/
def State.SyncRuled (live : Bool) (s : State) : Prop := VoiceEngine.Ruled live { s.voice with atSilent := s.railSilent }

/-- R70: a gate that is closed is closed under a lower AT_SILENT. -/
theorem VoiceEngine.Ruled.lower {a b : VoiceEngine} (policy : b.policy = a.policy) (lower : a.atSilent = true → b.atSilent = true)
    (ruled : b.Ruled live) : a.Ruled live := by
  refine ruled.imp_right fun closed => ?_
  unfold VoiceEngine.gateAllows at closed ⊢
  rw [policy] at closed
  revert closed
  cases a.policy with
  | always => exact id
  | never => exact id
  | silentOnly => exact fun closed => Bool.eq_false_of_not_eq_true fun open_ => Bool.false_ne_true (closed.symm.trans (lower open_))

/-- Under two gates that are closed, one whose AT_SILENT is set only where one of theirs is. -/
theorem VoiceEngine.Ruled.either {a b c : VoiceEngine} (policy : a.policy = b.policy) (policy' : a.policy = c.policy)
    (silent : a.atSilent = true → b.atSilent = true ∨ c.atSilent = true) (first : b.Ruled live) (second : c.Ruled live) :
    a.Ruled live := by
  by_cases higher : a.atSilent = true
  · obtain set | set := silent higher
    · exact first.lower policy.symm fun _ => set
    · exact second.lower policy'.symm fun _ => set
  · exact first.lower policy.symm fun set => absurd set higher

/-- Part of a frame: from `r` to `s` the rail leaves AT_SILENT nowhere, and the notes met a gate that is closed if it is closed before
and would be after. -/
structure State.Framed (live : Bool) (r : State) (o : Fin 88 → Bool) (s : State) : Prop where
  policy : s.voice.policy = r.voice.policy
  silent : s.voice.atSilent = true → r.voice.atSilent = true ∨ s.railSilent = true
  reach : r.voice.Ruled live → s.SyncRuled live → VoiceReach live r.voicing ⟨o, s.voice⟩

theorem State.Framed.refl (s : State) : s.Framed live s.opens s := ⟨rfl, .inl, fun _ _ => .refl _⟩

theorem State.Framed.ruled (f : r.Framed live o s) (before : r.voice.Ruled live) (after : s.SyncRuled live) : s.voice.Ruled live :=
  .either (b := r.voice) (c := { s.voice with atSilent := s.railSilent }) f.policy rfl f.silent before after

theorem State.Framed.step (f : r.Framed live o s) (policy : t.voice.policy = s.voice.policy)
    (rail : s.railSilent = true → t.railSilent = true)
    (silent : t.voice.atSilent = true → s.voice.atSilent = true ∨ t.railSilent = true)
    (moves : s.voice.Ruled live → VoiceReach live ⟨o, s.voice⟩ ⟨p, t.voice⟩) : r.Framed live p t where
  policy := policy.trans f.policy
  silent set := (silent set).elim (fun was => (f.silent was).imp_right rail) .inr
  reach before after := by
    have synced : s.SyncRuled live :=
      VoiceEngine.Ruled.lower (b := { t.voice with atSilent := t.railSilent }) policy rail after
    exact (f.reach before synced).trans (moves (f.ruled before synced))

/-- An operation on the voice engine that leaves the gate. -/
theorem State.Framed.voice (f : r.Framed live o s) (gate : t.voice.policy = s.voice.policy ∧ t.voice.atSilent = s.voice.atSilent)
    (rail : t.railSilent = s.railSilent) (moves : s.voice.Ruled live → VoiceReach live ⟨o, s.voice⟩ ⟨p, t.voice⟩) :
    r.Framed live p t :=
  f.step gate.1 (fun set => rail.trans set) (fun set => .inl (gate.2 ▸ set)) moves

/-- R101: an operation of the rail that does not leave AT_SILENT. -/
theorem State.Framed.deck {g : Deck → Deck} (f : r.Framed live o s) (config : (g s.deck).config = s.railConfig)
    (rail : s.railSilent = true → (s.mapDeck g).railSilent = true) : r.Framed live o (s.mapDeck g) := by
  have synced : (s.mapDeck g).voice.atSilent = (s.mapDeck g).railSilent :=
    congrArg (fun c => railAtSilent c (g s.deck).rail) config
  exact f.step rfl rail (fun set => .inr (synced ▸ set)) fun _ => .step (.refl _) (.tune ⟨rfl, rfl, rfl, rfl⟩)

/-! ### The notices to the rail (R36, R109) -/

theorem Deck.launchNotice_config (d : Deck) : d.launchNotice.config = d.config := (Deck.launchNotice_reach (.refl d)).config

theorem Deck.setQuiet_config (quiet : Bool) (d : Deck) : (d.setQuiet quiet).config = d.config := (Deck.setQuiet_reach quiet (.refl d)).config

/-- R109: a launch does not move a rail that is AT_SILENT. -/
theorem State.launchNotice_silent (silent : s.railSilent = true) : (s.mapDeck Deck.launchNotice).railSilent = true := by
  have idle : s.rail.state = .idle := by
    unfold State.railSilent railAtSilent at silent
    exact eq_of_beq (Bool.and_eq_true_iff.mp silent).1
  have stays : s.deck.launchNotice = s.deck := Deck.launchNotice_of_not _ fun ⟨_, moves⟩ => by
    obtain ⟨moving, -⟩ | homing := moves
    · exact RailState.noConfusion (idle.symm.trans moving)
    · exact RailState.noConfusion (idle.symm.trans homing)
  show railAtSilent s.railConfig s.deck.launchNotice.rail = true
  rw [stays]
  exact silent

/-- R107: the quiet condition is not part of AT_SILENT. -/
theorem State.reevalQuiet_railSilent (s : State) : s.reevalQuiet.railSilent = s.railSilent := by
  show railAtSilent s.railConfig (s.deck.setQuiet s.quietCondition).rail = _
  unfold Deck.setQuiet
  split <;> rfl

theorem State.reevalQuiet_voice (s : State) : s.reevalQuiet.voice = { s.voice with atSilent := s.reevalQuiet.railSilent } :=
  congrArg (fun c => { s.voice with atSilent := railAtSilent c (s.deck.setQuiet s.quietCondition).rail })
    (Deck.setQuiet_config s.quietCondition s.deck)

theorem State.Framed.reevalQuiet (f : r.Framed live o s) : r.Framed live o s.reevalQuiet :=
  f.deck (Deck.setQuiet_config _ _) fun set => (State.reevalQuiet_railSilent s).trans set

/-! ### The keys of a frame (R21 to R30) -/

/-- What an event of a key makes of its open note (R23, R27). -/
def KeyEvent.opens : KeyEvent → Bool → Bool
  | .down .., _ => true
  | .up .., _ => false
  | .launch, o => o

/-- R23, R27: a key opens its note with KEY_DOWN and closes it with KEY_UP, and in no other way. -/
def Key.Tells (before : Key) (a : Key × List KeyEvent) : Prop := a.1.openNote = a.2.foldl (fun o e => e.opens o) before.openNote

theorem Key.Tells.append {k : Key} {a b : Key × List KeyEvent} (first : k.Tells a) (second : a.1.Tells b) :
    k.Tells (b.1, a.2 ++ b.2) := by
  unfold Key.Tells at first second ⊢
  rw [List.foldl_append, ← first]
  exact second

section
variable {c : Calibration} {curve : Vector Nat 127} {g : Readings} {k : Key}

theorem Key.pressLine_openNote : (k.pressLine c g).openNote = k.openNote := by
  unfold Key.pressLine
  split <;> first | rfl | (split <;> rfl)

theorem Key.rearmLine_openNote : (k.rearmLine c g).openNote = k.openNote := by
  unfold Key.rearmLine
  split <;> rfl

theorem Key.damperLine_tells : k.Tells (k.damperLine c g) := by
  unfold Key.damperLine
  split <;> rfl

theorem Key.keyStep_tells : k.Tells (k.keyStep c g) := by
  unfold Key.keyStep Key.Tells
  split
  · unfold Key.downLines
    dsimp only
    rw [Key.rearmLine_openNote, Key.damperLine_tells, Key.pressLine_openNote]
  · unfold Key.upLines
    dsimp only
    rw [Key.pressLine_openNote, Key.damperLine_tells, Key.rearmLine_openNote]

theorem Key.missedStep_openNote : (k.missedStep c g).openNote = k.openNote := by
  unfold Key.missedStep
  split <;> rfl

theorem Key.beginStrike_tells : k.Tells (k.beginStrike c g) := by
  unfold Key.beginStrike
  split
  · split <;> rfl
  · rfl

theorem Key.timeStrike_tells : k.Tells (k.timeStrike c curve g) := by
  unfold Key.timeStrike
  dsimp only
  split
  · split
    · split <;> rfl
    · split
      · rfl
      · split <;> rfl
  · split
    · split <;> rfl
    · split <;> rfl
  · rfl

theorem Key.hammerStep_tells : k.Tells (k.hammerStep c curve g) := by
  have begun : k.Tells ((k.missedStep c g).beginStrike c g) := by
    have y := Key.beginStrike_tells (k := k.missedStep c g) (c := c) (g := g)
    unfold Key.Tells at y ⊢
    rwa [Key.missedStep_openNote] at y
  exact begun.append Key.timeStrike_tells

theorem Key.track_tells (stamp : Word32) (rawKey rawHammer : Nat) : k.Tells (k.track c curve stamp rawKey rawHammer) := by
  by_cases disabled : k.state = .disabled
  · rw [Key.track_of_disabled disabled]; rfl
  · by_cases calibrating : k.state = .calibrating
    · rw [Key.track_of_calibrating calibrating]; rfl
    · rw [Key.track_of_playing disabled calibrating]
      exact Key.keyStep_tells.append Key.hammerStep_tells

end

/-- R29: a key's event is handed out. -/
theorem State.Framed.handEvent (k : Fin 88) (e : KeyEvent) (f : r.Framed live o s) :
    r.Framed live (Function.update o k (e.opens (o k))) (s.handEvent k e) := by
  cases e with
  | down velocity rep =>
    have opened : ∀ j, o j = true → Function.update o k true j = true := fun j open_ => by
      by_cases same : j = k
      · rw [same, Function.update_self]
      · rw [Function.update_of_ne same]; exact open_
    have noted : r.Framed live (Function.update o k true) (s.mapVoice (Engine.noteOn k .live velocity)) :=
      f.voice (Engine.noteOn_gate k .live velocity (s.hub, s.voice)) rfl fun ruled =>
        (VoiceReach.refl _ |>.step (.more opened)).step
          (.note (e := (s.hub, s.voice)) k .live velocity (fun _ => Function.update_self k true o) ruled)
    show r.Framed live _ (s.noteDown k velocity rep)
    unfold State.noteDown
    dsimp only
    generalize s.mapVoice (Engine.noteOn k .live velocity) = u at noted
    refine noted.voice (State.mapStage_gate (fun _ h _ => Stage.liveStrike_keeps h k) _) rfl fun ruled => ?_
    exact ((PlayerKeeps.reach live ⟨Function.update o k true, u.voice⟩) |> fun h =>
      Stage.liveStrike_keeps h k (p := State.stage _) ⟨.refl _, ruled⟩).1
  | up velocity strike forced =>
    have edited := VoiceEngine.noteOff_edited k .live s.voice
    have off : r.Framed live (Function.update o k false) (s.updateVoice (VoiceEngine.noteOff k .live)) := by
      refine f.voice ⟨edited.policy, edited.atSilent⟩ (State.updateVoice_railSilent _ s) fun _ => ?_
      exact .step (.refl _) (.close k fun j other open_ => by rw [Function.update_of_ne other]; exact open_)
    show r.Framed live _ (s.noteUp k velocity strike forced)
    unfold State.noteUp
    dsimp only
    generalize s.updateVoice (VoiceEngine.noteOff k .live) = u at off
    exact off.voice ⟨rfl, rfl⟩ rfl fun _ => .refl _
  | launch =>
    rw [KeyEvent.opens, Function.update_eq_self]
    exact f.deck (Deck.launchNotice_config _) State.launchNotice_silent

theorem State.Framed.handEvents (k : Fin 88) (l : List KeyEvent) (f : r.Framed live o s) :
    r.Framed live (Function.update o k (l.foldl (fun b e => e.opens b) (o k))) (l.foldl (fun s e => s.handEvent k e) s) := by
  induction l generalizing o s with
  | nil => rw [List.foldl_nil, Function.update_eq_self]; exact f
  | cons e l ih =>
    have rest := ih (f.handEvent k e)
    rw [Function.update_self, Function.update_idem] at rest
    exact rest

/-- R21: one key of a frame. -/
theorem State.Framed.trackKey (k : Fin 88) (rawKey rawHammer : Nat) (f : r.Framed live s.opens s) :
    r.Framed live (s.trackKey k rawKey rawHammer).opens (s.trackKey k rawKey rawHammer) := by
  have tells := Key.track_tells (k := s.keys[k]) (c := s.calibration[k]) (curve := s.curve) s.hub.tracking rawKey rawHammer
  have set : r.Framed live s.opens (s.setKey k (s.keys[k].track s.calibration[k] s.curve s.hub.tracking rawKey rawHammer).1) :=
    f.voice ⟨rfl, rfl⟩ rfl fun _ => .refl _
  have handed := set.handEvents k (s.keys[k].track s.calibration[k] s.curve s.hub.tracking rawKey rawHammer).2
  have opens : (s.trackKey k rawKey rawHammer).opens = Function.update s.opens k
      (s.keys[k].track s.calibration[k] s.curve s.hub.tracking rawKey rawHammer).1.openNote := by
    rw [← State.setKey_opens]
    unfold State.opens
    rw [State.trackKey_keys]
    rfl
  rw [opens, tells]
  exact handed

theorem State.Framed.keyFrame (lane : Fin 8) (readings : List Nat) (f : r.Framed live s.opens s) :
    r.Framed live (s.keyFrame lane readings).opens (s.keyFrame lane readings) := by
  have tracked := List.foldlRecOn (motive := fun u => r.Framed live u.opens u) (List.finRange 11)
    (fun s j => s.trackKey (laneKey lane j) (readings.getD j.val 0) (readings.getD (11 + j.val) 0)) f
    fun v z j _ => z.trackKey _ _ _
  unfold State.keyFrame
  generalize (List.finRange 11).foldl _ s = u at tracked ⊢
  exact tracked.reevalQuiet

/-- R70: after a rail operation the gate is the one that the rail gives. -/
theorem State.reevalQuiet_syncRuled (after : s.reevalQuiet.voice.Ruled live) : s.reevalQuiet.SyncRuled live := by
  rw [State.reevalQuiet_voice] at after
  exact after

/-- A frame of a key lane, under a gate that is closed before and after. -/
theorem State.keyFrame_follows (lane : Fin 8) (readings : List Nat) (before : s.voice.Ruled live)
    (after : (s.keyFrame lane readings).voice.Ruled live) (y : s.Follows live x) : (s.keyFrame lane readings).Follows live x :=
  VoiceReach.trans y
    (((State.Framed.refl s).keyFrame lane readings).reach before (State.reevalQuiet_syncRuled after))

theorem State.Framed.setKey (k : Fin 88) {key : Key} (same : key.openNote = s.keys[k].openNote) (f : r.Framed live s.opens s) :
    r.Framed live (s.setKey k key).opens (s.setKey k key) := by
  have opens : (s.setKey k key).opens = s.opens := by
    rw [State.setKey_opens, same]; exact Function.update_eq_self k s.opens
  rw [opens]
  exact f.voice ⟨rfl, rfl⟩ rfl fun _ => .refl _

/-- R33: a lane comes up between two frames. -/
theorem State.Framed.keyLaneUp (lane : Fin 8) (f : r.Framed live s.opens s) :
    r.Framed live (s.keyLaneUp lane).opens (s.keyLaneUp lane) := by
  unfold State.keyLaneUp
  have woken := List.foldlRecOn (motive := fun u => r.Framed live u.opens u) (List.finRange 11)
    (fun s j =>
      let k := laneKey lane j
      if s.keys[k].masked then s else s.setKey k { s.keys[k] with state := .waitRest }) f fun u y j _ => by
      dsimp only
      split
      · exact y
      · exact y.setKey _ rfl
  generalize (List.finRange 11).foldl _ s = u at woken ⊢
  exact woken.reevalQuiet

/-! ### The lane controller (R3 to R18) -/

theorem State.pedalLaneLost_follows (y : s.Follows live x) : s.pedalLaneLost.Follows live x := by
  unfold State.pedalLaneLost
  refine State.pedalEvent_follows _ _ _ _ (State.pedalEvent_follows _ _ _ _ (State.pedalEvent_follows _ _ _ _ ?_))
  have damped := VoiceReach.edit y (VoiceEngine.setDamper_edited .live 0 s.voice)
  have captured := damped.edit (VoiceEngine.setCapture_edited [] (s.voice.setDamper .live 0))
  exact captured.edit (VoiceEngine.setSoft_edited .live false ((s.voice.setDamper .live 0).setCapture []))

theorem State.laneLost_follows (n : Fin 9) (y : s.Follows live x) : (s.laneLost n).Follows live x := by
  unfold State.laneLost
  split
  · exact State.keyLaneLost_follows _ y
  · exact State.pedalLaneLost_follows y

theorem State.changeLane_follows (n : Fin 9) (l : Lane) (d : LaneDetail) (y : s.Follows live x) :
    (s.changeLane n l d).Follows live x := by
  unfold State.changeLane
  dsimp only
  refine State.mapHub_follows (State.reevalQuiet_follows (State.setLane_follows _ _ ?_))
  split
  · exact State.laneLost_follows _ y
  · exact y

theorem State.moveLane_follows (n : Fin 9) (l : Lane) (d : LaneDetail) (y : s.Follows live x) :
    (s.moveLane n l d).Follows live x := by
  unfold State.moveLane
  split
  · exact State.setLane_follows _ _ y
  · exact State.changeLane_follows _ _ _ y

theorem State.enterRecovering_follows (n : Fin 9) (d : LaneDetail) (y : s.Follows live x) :
    (s.enterRecovering n d).Follows live x := by
  unfold State.enterRecovering
  dsimp only
  split
  · exact State.changeLane_follows _ _ _ y
  · split
    · exact State.changeLane_follows _ _ _ y
    · exact State.changeLane_follows _ _ _ y

theorem State.stepFails_follows (n : Fin 9) (y : s.Follows live x) : (s.stepFails n).Follows live x := by
  unfold State.stepFails
  dsimp only
  split
  · exact State.changeLane_follows _ _ _ y
  · exact State.enterRecovering_follows _ _ y
  · exact y

theorem State.exchangeSucceeds_follows (n : Fin 9) (e : LaneExchange) (v : Word16) (y : s.Follows live x) :
    (s.exchangeSucceeds n e v).Follows live x := by
  unfold State.exchangeSucceeds
  dsimp only
  split
  · split
    · exact State.setLane_follows _ _ y
    · exact State.changeLane_follows _ _ _ y
    · exact State.stepFails_follows _ (State.setLane_follows _ _ y)
  · exact State.setLane_follows _ _ y
  · split
    · exact State.setLane_follows _ _ y
    · split
      · exact State.stepFails_follows _ y
      · exact State.setLane_follows _ _ y
  · exact State.setLane_follows _ _ y
  · exact y

theorem State.retryExchange_follows (n : Fin 9) (e : LaneExchange) (y : s.Follows live x) :
    (s.retryExchange n e).Follows live x := by
  unfold State.retryExchange
  dsimp only
  split
  · exact State.setLane_follows _ _ y
  · unfold State.exchangeFails
    split
    · exact State.stepFails_follows _ (State.setLane_follows _ _ y)
    · exact State.stepFails_follows _ y

theorem State.setScanner_follows (n : Fin 9) (g : Option ScannerLane) (y : s.Follows live x) :
    (s.setScanner n g).Follows live x := by
  unfold State.setScanner
  split
  · exact y.keep rfl rfl
  · exact y

theorem State.retryScanner_follows (n : Fin 9) (g : ScannerLane) (e : LaneExchange) (y : s.Follows live x) :
    (s.retryScanner n g e).Follows live x := by
  unfold State.retryScanner
  dsimp only
  split
  · exact State.setScanner_follows _ _ (State.setLane_follows _ _ y)
  · exact State.setScanner_follows _ _ y

theorem State.takeFrameError_follows (n : Fin 9) (expected : BitVec 4) (y : s.Follows live x) :
    (s.takeFrameError n expected).Follows live x := by
  unfold State.takeFrameError
  dsimp only
  split
  · exact State.enterRecovering_follows _ _ (State.setLane_follows _ _ y)
  · exact State.setLane_follows _ _ y

theorem State.endPeriod_follows (n : Fin 9) (y : s.Follows live x) : (s.endPeriod n).Follows live x := by
  unfold State.endPeriod
  dsimp only
  split
  · split
    · exact State.enterRecovering_follows _ _ (State.setLane_follows _ _ y)
    · exact State.setLane_follows _ _ y
  · exact State.setLane_follows _ _ y

theorem State.laneAction_follows (n : Fin 9) (action : Nat) (y : s.Follows live x) : (s.laneAction n action).Follows live x := by
  unfold State.laneAction
  dsimp only
  split
  · split
    · exact State.moveLane_follows _ _ _ y
    · exact State.setLane_follows _ _ y
  · exact State.moveLane_follows _ _ _ y
  · exact State.moveLane_follows _ _ _ y
  · exact y

theorem State.laneToStandby_follows (n : Fin 9) (y : s.Follows live x) : (s.laneToStandby n).Follows live x := by
  unfold State.laneToStandby
  dsimp only
  split
  · exact State.changeLane_follows _ _ _ y
  · exact State.changeLane_follows _ _ _ y
  · exact State.changeLane_follows _ _ _ y
  · exact y

theorem State.laneFromStandby_follows (n : Fin 9) (y : s.Follows live x) : (s.laneFromStandby n).Follows live x := by
  unfold State.laneFromStandby
  dsimp only
  split
  · exact State.changeLane_follows _ _ _ y
  · exact y

/-! ### The frames of a lane (R7, R9) -/

theorem State.laneReadings_follows (n : Fin 9) (readings : List Nat) (before : s.voice.Ruled live)
    (after : (s.laneReadings n readings).voice.Ruled live) (y : s.Follows live x) : (s.laneReadings n readings).Follows live x := by
  unfold State.laneReadings at after ⊢
  split at after
  · next key => rw [dif_pos key]; exact State.keyFrame_follows _ _ before after y
  · next pedal => rw [dif_neg pedal]; exact State.pedalFrame_follows _ y

/-- R9: a frame on an ACTIVE lane is an error, or its readings are taken. -/
theorem State.activeFrame_cases (n : Fin 9) (f : Frame) (good : Bool) (s : State) :
    (∃ expected, s.activeFrame n f good = s.takeFrameError n expected) ∨
    ∃ l, s.activeFrame n f good = (s.setLane n l).laneReadings n f.readings := by
  unfold State.activeFrame
  dsimp only
  split
  · exact .inl ⟨_, rfl⟩
  · split
    · exact .inl ⟨_, rfl⟩
    · exact .inr ⟨_, rfl⟩

theorem State.activeFrame_follows (n : Fin 9) (f : Frame) (good : Bool) (before : s.voice.Ruled live)
    (after : (s.activeFrame n f good).voice.Ruled live) (y : s.Follows live x) : (s.activeFrame n f good).Follows live x := by
  obtain ⟨expected, same⟩ | ⟨l, same⟩ := s.activeFrame_cases n f good
  · rw [same]; exact State.takeFrameError_follows _ _ y
  · rw [same] at after ⊢
    exact State.laneReadings_follows (s := s.setLane n l) _ _ before after y

theorem State.noteLane_voice (n : Fin 9) (d : LaneDetail) (s : State) : (s.noteLane n d).voice = s.voice := rfl

/-- R7: the first frame brings its lane up, and its readings are taken. -/
theorem State.firstFrame_follows (n : Fin 9) (f : Frame) (before : s.voice.Ruled live)
    (after : (s.firstFrame n f).voice.Ruled live) (y : s.Follows live x) : (s.firstFrame n f).Follows live x := by
  unfold State.firstFrame at after ⊢
  dsimp only at after ⊢
  generalize start : s.setLane n _ = u at after ⊢
  have z : u.Follows live x := by subst start; exact y
  have ruled : u.voice.Ruled live := by subst start; exact before
  refine State.mapHub_follows ?_
  unfold State.laneUp State.laneReadings at after ⊢
  by_cases key : n.val < 8
  · rw [State.noteLane_voice] at after
    rw [dif_pos key, dif_pos key] at after ⊢
    have framed := ((State.Framed.refl (live := live) u).keyLaneUp ⟨n.val, key⟩).keyFrame ⟨n.val, key⟩ f.readings
    generalize (u.keyLaneUp ⟨n.val, key⟩).keyFrame ⟨n.val, key⟩ f.readings = w at after framed ⊢
    exact VoiceReach.trans z (framed.reevalQuiet.reach ruled (State.reevalQuiet_syncRuled after))
  · rw [dif_neg key, dif_neg key]
    exact State.reevalQuiet_follows (State.pedalFrame_follows _ (z.keep rfl rfl))

theorem State.awaitedFrame_follows (n : Fin 9) (f : Frame) (good : Bool) (before : s.voice.Ruled live)
    (after : (s.awaitedFrame n f good).voice.Ruled live) (y : s.Follows live x) : (s.awaitedFrame n f good).Follows live x := by
  unfold State.awaitedFrame at after ⊢
  dsimp only at after ⊢
  split at after
  · next valid => rw [if_pos valid]; exact State.firstFrame_follows _ _ before after y
  · next bad => rw [if_neg bad]; exact State.setLane_follows _ _ y

/-! ### The footswitches (R53, R54) -/

/-- R54: PLAY_TOGGLE is the one action that hands notes on, and it leaves the gate. -/
theorem State.switchAction_follows (action : SwitchAction)
    (ruled : s.voice.Ruled live ∨ (s.switchAction action).1.voice.Ruled live) (y : s.Follows live x) :
    (s.switchAction action).1.Follows live x := by
  have toggled (either : s.voice.Ruled live ∨ (s.mapStage Stage.toggle).voice.Ruled live) :
      (s.mapStage Stage.toggle).Follows live x := by
    have gate := State.mapStage_gate (fun _ h p => Stage.toggle_keeps h (p := p)) s
    exact State.mapStage_follows (fun _ h p => Stage.toggle_keeps h (p := p))
      (either.elim id fun after => after.of_gate gate.1.symm gate.2.symm) y
  cases action with
  | none => exact y
  | playToggle =>
    unfold State.switchAction at ruled ⊢
    dsimp only at ruled ⊢
    split at ruled
    · next busy => rw [if_pos busy]; exact y
    · next free =>
      rw [if_neg free]
      split at ruled
      · next togglable => rw [if_pos togglable]; exact toggled ruled
      · next still => rw [if_neg still]; exact y
  | metronomeToggle =>
    unfold State.switchAction
    dsimp only
    split
    · exact y
    · exact State.mapMetronome_follows y
  | mark =>
    unfold State.switchAction
    dsimp only
    split
    · exact y
    · split
      · exact State.mapRecorder_follows y
      · exact y
  | railToggle =>
    unfold State.switchAction
    dsimp only
    split
    · exact y
    · split
      · exact State.mapDeck_follows y
      · exact y

theorem State.acceptHeld_follows (i : Fin 2) (ruled : s.voice.Ruled live ∨ (s.acceptHeld i).voice.Ruled live)
    (y : s.Follows live x) : (s.acceptHeld i).Follows live x := by
  unfold State.acceptHeld at ruled ⊢
  split at ruled
  · next held =>
    rw [if_pos held]
    unfold State.acceptSwitch at ruled ⊢
    dsimp only at ruled ⊢
    generalize taken : ({ s with switches := _ } : State) = u at ruled ⊢
    have z : u.Follows live x := by subst taken; exact y.keep rfl rfl
    have voice : u.voice = s.voice := by subst taken; rfl
    rw [← voice] at ruled
    split at ruled
    · next passes =>
      rw [if_pos passes]
      split at ruled
      · next asleep =>
        rw [if_pos asleep]
        split
        · exact y.keep rfl rfl
        · exact z
      · next awake =>
        rw [if_neg awake]
        split at ruled
        · next up => rw [if_pos up]; exact State.mapHub_follows (State.switchAction_follows _ ruled z)
        · next down => rw [if_neg down]; exact z
    · next stays => rw [if_neg stays]; exact z
  · next loose => rw [if_neg loose]; exact y

end Sys2Proof.Machine
end

section
/-! SUPPORT. The requests and every other command follow the moves of the voice engine and the open notes (R68, R70, R71, R76). -/

namespace Sys2Proof.Machine

variable {live : Bool} {x : Voicing} {s t : State}

/-! ### The voice engine's requests and the output sample period (R63, R76, R77) -/

/-- R76: a target takes a value, voices over it are cut, and entries that find room start. -/
theorem Engine.setTarget_moves {e : Engine} (target : Nat) (ruled : e.2.Ruled live) :
    EngineReach live (e.2.limited target) (e.setTarget target).2 := by
  unfold Engine.setTarget
  dsimp only
  split
  · next room =>
    have limit : e.2.limited target = { e.2 with target := target, limit := target } := by
      unfold VoiceEngine.limited
      rw [Nat.max_eq_left room]
    rw [limit]
    exact Engine.settle_moves (e := (e.1, { e.2 with target := target, limit := target })) false (ruled.of_gate rfl rfl)
  · next excess =>
    have limit : e.2.limited target = { e.2 with target := target, limit := e.2.inUse } := by
      unfold VoiceEngine.limited
      rw [Nat.max_eq_right (Nat.le_of_not_le excess)]
    rw [limit]
    have cut : EngineReach live _ (Engine.cutExcess (e.2.inUse - target) (e.1, { e.2 with target := target, limit := e.2.inUse })).2 :=
      Engine.cutExcess_moves (e := (e.1, { e.2 with target := target, limit := e.2.inUse })) _
    exact cut.trans (Engine.settle_moves false (cut.ruled (ruled.of_gate rfl rfl)))

theorem Engine.setTarget_gate (target : Nat) (e : Engine) :
    (e.setTarget target).2.policy = e.2.policy ∧ (e.setTarget target).2.atSilent = e.2.atSilent := by
  obtain ⟨policy, silent, -⟩ := (Engine.setTarget_moves (live := true) target (.always e.2)).gate
  exact ⟨policy, silent⟩

/-- R77: the settings of VOICE_CONFIG, the target among them, in range. -/
theorem refuseVoiceConfig_target {a : List Byte} (taken : refuseVoiceConfig a = none) (apply : bitOf (u8At a 0) 0 = true) :
    16 ≤ u8At a 2 ∧ u8At a 2 ≤ 96 := by
  unfold refuseVoiceConfig at taken
  rw [apply] at taken
  simp only [Bool.true_and, Bool.or_eq_true, decide_eq_true_eq, ite_eq_right_iff, reduceCtorEq, imp_false, not_or, not_lt] at taken
  obtain ⟨⟨⟨⟨⟨⟨least, most⟩, -⟩, -⟩, -⟩, -⟩, -⟩ := taken
  exact ⟨least, most⟩

theorem Engine.configure_voices {e : Engine} {o : Fin 88 → Bool} (a : List Byte) (taken : refuseVoiceConfig a = none)
    (after : (e.configure a).2.Ruled live) : VoiceReach live ⟨o, e.2⟩ ⟨o, (e.configure a).2⟩ := by
  unfold Engine.configure at after ⊢
  split at after
  · next apply =>
    rw [if_pos apply]
    obtain ⟨least, most⟩ := refuseVoiceConfig_target taken apply
    generalize set : ({ e.2 with policy := _, gain := _, dampFull := _ } : VoiceEngine) = ve at after ⊢
    have tuned : e.2.TunedTo ve := by subst set; exact ⟨rfl, rfl, rfl, rfl⟩
    have gate := Engine.setTarget_gate (u8At a 2) (e.1, ve)
    have limited := (VoiceReach.refl (live := live) ⟨o, e.2⟩ |>.step (.tune tuned)).step (.limit (u8At a 2) least most)
    exact limited.engine (Engine.setTarget_moves (e := (e.1, ve)) _ (after.of_gate gate.1.symm gate.2.symm))
  · next keep => rw [if_neg keep]; exact .refl _

theorem actVoiceConfig_voice (slot : Fin 32) (a : List Byte) (s : State) :
    (actVoiceConfig slot a s).voice = (Engine.configure a (s.hub, s.voice)).2 := rfl

theorem actVoiceConfig_opens (slot : Fin 32) (a : List Byte) (s : State) : (actVoiceConfig slot a s).opens = s.opens := rfl

theorem actVoiceConfig_follows (slot : Fin 32) (a : List Byte) (taken : refuseVoiceConfig a = none)
    (after : (actVoiceConfig slot a s).voice.Ruled live) (y : s.Follows live x) : (actVoiceConfig slot a s).Follows live x := by
  unfold State.Follows State.voicing
  rw [actVoiceConfig_voice] at after ⊢
  rw [actVoiceConfig_opens]
  exact VoiceReach.trans y (Engine.configure_voices (e := (s.hub, s.voice)) a taken after)

theorem actVoiceCut_follows (slot : Fin 32) (a : List Byte) (before : s.voice.Ruled live) (y : s.Follows live x) :
    (actVoiceCut slot a s).Follows live x := by
  unfold actVoiceCut
  refine State.mapVoice_follows (fun e same => ?_) y
  have z := Engine.cutSources_moves (e := e) (u8At a 0) (same ▸ before)
  dsimp only
  generalize e.cutSources (u8At a 0) = e1 at z
  exact z

/-- R63: one output sample period. -/
theorem Engine.period_voices {e : Engine} {o : Fin 88 → Bool} (ruled : e.2.Ruled live) :
    VoiceReach live ⟨o, e.2⟩ ⟨o, e.period.1.2⟩ := by
  have ended : EngineReach live e.2 (e.endFades 96).2 := Engine.endFades_moves 96 ruled
  unfold Engine.period
  dsimp only
  generalize e.endFades 96 = e1 at ended ⊢
  generalize counted : ((e1.1, { e1.2 with sampleClock := e1.2.sampleClock + 1 }) : Engine) = u
  have tuned : e1.2.TunedTo u.2 := by subst counted; exact ⟨rfl, rfl, rfl, rfl⟩
  have ruled' : u.2.Ruled live := by subst counted; exact (ended.ruled ruled).of_gate rfl rfl
  have played := Engine.playVoices_moves (List.finRange 96) (u, 0) ruled'
  generalize (List.finRange 96).foldl _ _ = q at played ⊢
  exact ((VoiceReach.refl ⟨o, e.2⟩ |>.engine ended).step (.tune tuned)).engine played

theorem State.samplePeriod_follows (before : s.voice.Ruled live) (y : s.Follows live x) : s.samplePeriod.Follows live x := by
  have z := Engine.period_voices (e := (s.hub, s.voice)) (o := s.opens) before
  unfold State.samplePeriod
  dsimp only
  generalize Engine.period (s.hub, s.voice) = p at z
  exact State.Follows.of_engine (VoiceReach.trans y z) rfl rfl

/-! ### The other requests -/

/-- The requests of the player (R129 to R147). -/
theorem actPlay_follows (kind : RequestKind) (play : kind ∈ [.playStart, .playNext, .playSettle, .playUnsettle, .playTempo, .playParts,
    .playSeek, .playPause, .playResume, .playStop]) (slot : Fin 32) (a : List Byte) (before : s.voice.Ruled live)
    (y : s.Follows live x) : (actRequest kind slot a s).Follows live x := by
  have begun {P : VoiceEngine → Prop} (h : PlayerKeeps P) {p : Stage} (z : P p.voice) :
      P ((p.answer slot).readAhead.beginSettled).play.voice :=
    Stage.play_keeps h (Stage.beginSettled_keeps h.edit (Stage.readAhead_keeps (p := p.answer slot) z))
  simp only [List.mem_cons, List.not_mem_nil, or_false] at play
  rcases play with rfl | rfl | rfl | rfl | rfl | rfl | rfl | rfl | rfl | rfl
  · show (actPlayStart slot a s).Follows live x
    unfold actPlayStart
    split
    · refine State.mapStage_edits (fun P _ p z => ?_) y
      exact Stage.readFirst_keeps (p := p.setTake _ _ _) z
    · exact y
  · show (actPlayNext slot a s).Follows live x
    unfold actPlayNext
    split
    · refine State.mapStage_follows (fun P h p z => ?_) before y
      exact begun h (p := p.onPlayer _) z
    · exact y
  · show (actPlaySettle slot s).Follows live x
    unfold actPlaySettle
    refine State.mapStage_follows (fun P h p z => ?_) before y
    exact begun h (p := p.onPlayer _) z
  · show (actPlayUnsettle slot s).Follows live x
    unfold actPlayUnsettle
    refine State.mapStage_edits (fun P _ p z => ?_) y
    unfold Stage.dropReadAhead
    dsimp only
    split
    · exact z
    · exact z
  · show (actPlayTempo slot a s).Follows live x
    unfold actPlayTempo
    exact State.mapStage_edits (fun P _ p z => z) y
  · show (actPlayParts slot a s).Follows live x
    unfold actPlayParts
    split
    · refine State.mapStage_follows (fun P h p z => ?_) before y
      exact Stage.setParts_keeps h _ z
    · exact y
  · show (actPlaySeek slot a s).Follows live x
    exact State.mapStage_follows (fun P h p z => Stage.seek_keeps h _ _ z) before y
  · show (actPlayPause slot s).Follows live x
    unfold actPlayPause
    refine State.mapStage_follows (fun P h p z => ?_) before y
    dsimp only
    split
    · exact z
    · exact z
    · exact Stage.pause_keeps h z
  · show (actPlayResume slot s).Follows live x
    unfold actPlayResume
    refine State.mapStage_follows (fun P h p z => ?_) before y
    dsimp only
    split
    · exact Stage.resume_keeps h z
    · exact z
    · exact z
  · show (actPlayStop slot a s).Follows live x
    unfold actPlayStop
    refine State.mapStage_edits (fun P h p z => ?_) y
    exact Stage.stop_keeps h z

theorem actRailMove_follows (slot : Fin 32) (a : List Byte) (y : s.Follows live x) : (actRailMove slot a s).Follows live x := by
  unfold actRailMove
  split
  · exact y
  · exact State.mapDeck_follows y

theorem actRailConfig_follows (slot : Fin 32) (a : List Byte) (y : s.Follows live x) : (actRailConfig slot a s).Follows live x :=
  State.mapDeck_follows (s := { s with railConfig := _ }) y

theorem actLaneControl_follows (slot : Fin 32) (a : List Byte) (y : s.Follows live x) : (actLaneControl slot a s).Follows live x := by
  unfold actLaneControl
  split
  · exact y
  · exact State.mapHub_follows (State.laneAction_follows _ _ y)

theorem actSenseConfig_follows (slot : Fin 32) (a : List Byte) (y : s.Follows live x) : (actSenseConfig slot a s).Follows live x := by
  unfold actSenseConfig
  extract_lets s1 s2
  have masks : s1.Follows live x := by
    unfold s1
    split
    · exact .foldl (fun _ k z => State.maskKey_follows k _ z) _ y
    · exact y
  have leds : s2.Follows live x := by
    unfold s2
    split
    · exact masks.keep rfl rfl
    · exact masks
  exact State.mapHub_follows leds

theorem actTableLoad_follows (slot : Fin 32) (a : List Byte) (y : s.Follows live x) : (actTableLoad slot a s).Follows live x := by
  unfold actTableLoad
  split
  · refine State.mapVoice_follows (fun e _ => ?_) y
    unfold Engine.startKeymapLoad
    exact .aside rfl rfl rfl rfl rfl rfl rfl
  · unfold State.startTableLoad
    exact State.mapHub_follows (y.keep rfl rfl)

theorem actCalibAbort_follows (slot : Fin 32) (y : s.Follows live x) : (actCalibAbort slot s).Follows live x := by
  unfold actCalibAbort
  split
  · exact State.mapHub_follows (State.abortWindow_follows _ y)
  · exact y

/-- R57: of the two switches that PEDAL_CONFIG may find held, the first meets the gate from before, the second the gate from after. -/
theorem actPedalConfig_follows (slot : Fin 32) (a : List Byte) (before : s.voice.Ruled live)
    (after : (actPedalConfig slot a s).voice.Ruled live) (y : s.Follows live x) : (actPedalConfig slot a s).Follows live x := by
  unfold actPedalConfig
  extract_lets s1 s2
  have settings : s1.Follows live x ∧ s1.voice.Ruled live := by
    unfold s1
    split
    · exact ⟨y.tune (t := s.setPedals _) rfl ⟨rfl, rfl, rfl, rfl⟩, before.of_gate rfl rfl⟩
    · exact ⟨y, before⟩
  refine State.mapHub_follows ?_
  have last : s2.voice.Ruled live := after
  clear after
  unfold s2 at last ⊢
  clear_value s1
  obtain ⟨follows, ruled⟩ := settings
  split at last
  · next apply =>
    rw [if_pos apply]
    generalize taken : (s1.setSwitch 0 (u8At a 4)).setSwitch 1 (u8At a 5) = u at last ⊢
    have same : u.voicing = s1.voicing := by
      rw [← taken, State.setSwitch_voicing, State.setSwitch_voicing]
    have reached : u.Follows live x := follows.aside (congrArg Voicing.isOpen same) (congrArg Voicing.engine same)
    have held : u.voice.Ruled live := by
      have voice : u.voice = s1.voice := congrArg Voicing.engine same
      rw [voice]; exact ruled
    exact State.acceptHeld_follows 1 (.inr last) (State.acceptHeld_follows 0 (.inl held) reached)
  · next keep => rw [if_neg keep]; exact follows

/-! ### Standby and the detach (R181, R195, R198) -/

theorem State.silence_follows (before : s.voice.Ruled live) (y : s.Follows live x) : s.silence.Follows live x :=
  State.mapHub_follows (State.mapVoice_follows (fun _ same => Engine.cutSources_moves 3 (same ▸ before)) y)

theorem State.beginEntry_follows (slot : Fin 32) (before : s.voice.Ruled live) (y : s.Follows live x) :
    (s.beginEntry slot).Follows live x := by
  have stopped : (s.mapStage Stage.stop).Follows live x := State.mapStage_edits (fun P h p z => Stage.stop_keeps h z) y
  have ruled : (s.mapStage Stage.stop).voice.Ruled live := by
    obtain ⟨policy, silent⟩ := State.mapStage_gate (f := Stage.stop) (fun P h p z => Stage.stop_keeps h.edit z) s
    exact before.of_gate policy silent
  unfold State.beginEntry
  dsimp only
  generalize s.mapStage Stage.stop = v at stopped ruled ⊢
  have closed : (v.mapRecorder Desk.closeForStandby).Follows live x := stopped
  have ruled' : (v.mapRecorder Desk.closeForStandby).voice.Ruled live := ruled
  generalize v.mapRecorder Desk.closeForStandby = u at closed ruled' ⊢
  have z := State.silence_follows ruled' closed
  generalize u.silence = w at z
  split
  · exact closed
  · exact z

theorem State.detach_follows (next : AttachState) (y : s.Follows live x) : (s.detach next).Follows live x := by
  have stopped : ((s.mapHub Hub.journalDetach).mapStage Stage.detach).Follows live x :=
    State.mapStage_edits (fun P h p z => Stage.detach_keeps h z) (State.mapHub_follows y)
  unfold State.detach
  dsimp only
  generalize (s.mapHub Hub.journalDetach).mapStage Stage.detach = v at stopped
  have closed : (v.mapRecorder Desk.detach).Follows live x := stopped
  generalize v.mapRecorder Desk.detach = u at closed
  have tracked : u.trackerDetach.Follows live x := by
    by_cases window : u.tracker.window.isSome = true
    · exact closed.endCalibrating (if_pos window) rfl
    · exact closed.keep (if_neg window) rfl
  have silent := State.mapVoice_follows (fun _ _ => Engine.detach_moves) tracked
  generalize u.trackerDetach.mapVoice Engine.detach = w at silent
  exact silent.keep rfl rfl

theorem State.enterStandby_follows (y : s.Follows live x) : s.enterStandby.Follows live x := by
  unfold State.enterStandby
  dsimp only
  have z : ((List.finRange 9).foldl (fun s lane => s.laneToStandby lane) s).Follows live x :=
    .foldl (fun _ n z => State.laneToStandby_follows n z) _ y
  generalize (List.finRange 9).foldl (fun s lane => s.laneToStandby lane) s = u at z
  exact State.mapDeck_follows (z.keep rfl rfl)

theorem State.completeEntry_follows (slot : Fin 32) (y : s.Follows live x) : (s.completeEntry slot).Follows live x :=
  State.enterStandby_follows (State.detach_follows .standby (State.mapHub_follows y))

theorem State.shutdownStep_follows (before : s.voice.Ruled live) (y : s.Follows live x) : s.shutdownStep.Follows live x := by
  unfold State.shutdownStep
  split
  · split
    · exact y
    · exact State.completeEntry_follows _ (State.silence_follows before y)
  · exact State.completeEntry_follows _ y
  · exact y

theorem State.leaveStandby_follows (y : s.Follows live x) : s.leaveStandby.Follows live x := by
  unfold State.leaveStandby
  dsimp only
  generalize start : ({ s with hub := _, standby := _, output := _, rail := _ } : State) = u
  have z : u.Follows live x := by subst start; exact y.keep rfl rfl
  have awake : (((List.finRange 9).foldl (fun s lane => s.laneFromStandby lane) u).mapDeck id).Follows live x :=
    State.mapDeck_follows (.foldl (fun _ n z => State.laneFromStandby_follows n z) _ z)
  generalize ((List.finRange 9).foldl (fun s lane => s.laneFromStandby lane) u).mapDeck id = v at awake
  split
  · exact State.mapMetronome_follows awake
  · exact awake

/-! ### The owners of the requests (Table 12-3) -/

/-- The owner takes a request that it does not refuse, in `u`, the state at the visit. -/
theorem actRequest_follows (kind : RequestKind) (slot : Fin 32) (a : List Byte) (u : State) (taken : refuseRequest kind a u = none)
    (before : s.voice.Ruled live) (after : (actRequest kind slot a s).voice.Ruled live) (y : s.Follows live x) :
    (actRequest kind slot a s).Follows live x := by
  cases kind with
  | laneControl => exact actLaneControl_follows slot a y
  | senseConfig => exact actSenseConfig_follows slot a y
  | calibrateKeys => exact State.openWindow_follows _ y
  | calibAbort => exact actCalibAbort_follows slot y
  | tableLoad => exact actTableLoad_follows slot a y
  | pedalConfig => exact actPedalConfig_follows slot a before after y
  | voiceConfig => exact actVoiceConfig_follows slot a taken after y
  | voiceCut => exact actVoiceCut_follows slot a before y
  | outputConfig | metronome | railQuery | journalFlush | snapshotNow => exact y.keep rfl rfl
  | railMove => exact actRailMove_follows slot a y
  | railConfig => exact actRailConfig_follows slot a y
  | railStop | railHalt | railClear | railSettle | railUnsettle => exact State.mapDeck_follows y
  | playStart | playNext | playSettle | playUnsettle | playTempo | playParts | playSeek | playPause | playResume | playStop =>
    exact actPlay_follows _ (by decide) slot a before y
  | recordStart | recordStop | recordMark => exact State.mapRecorder_follows y
  | standbyEnter => exact State.beginEntry_follows (s := { s with standby := _ }) slot before y

end Sys2Proof.Machine
end

section
/-! SUPPORT. The operations of the exchange controller, the resets and the lanes' commands follow the moves of the voice engine and the
open notes (R68, R70, R71, R76). -/

namespace Sys2Proof.Machine

variable {live : Bool} {x : Voicing} {s t : State}

/-! ### The exchange controller (R177 to R192) -/

/-- A visit to a slot, under a gate that is closed before and after. -/
theorem State.visitSlot_follows {slot : Fin 32} {kind : RequestKind} {tag : Word16} {args : List Byte} (u : State)
    (before : s.voice.Ruled live)
    (after : (s.visitSlot slot kind tag args (refuseRequest kind args u) (actRequest kind slot args)).voice.Ruled live)
    (y : s.Follows live x) :
    (s.visitSlot slot kind tag args (refuseRequest kind args u) (actRequest kind slot args)).Follows live x := by
  unfold State.visitSlot at after ⊢
  split at after
  · next shut => rw [if_pos shut]; exact y
  · next open_ =>
    rw [if_neg open_]
    split at after
    · next full => rw [if_pos full]; exact y
    · next room =>
      rw [if_neg room]
      split at after
      · exact State.mapHub_follows y
      · next taken => exact actRequest_follows kind slot args u taken before after y

theorem State.visitCode_follows (slot : Fin 32) (code : Nat) (tag : Word16) (a : List Byte) (y : s.Follows true x) :
    (s.visitCode slot code tag a).Follows true x := by
  unfold State.visitCode
  split
  · exact State.visitSlot_follows s (.always _) (.always _) y
  · unfold State.visitSlot
    split
    · exact y
    · split
      · exact y
      · exact State.mapHub_follows y

theorem State.visitSlots_follows (copy : List Byte) (slots : List (Fin 32)) (y : s.Follows true x) :
    (s.visitSlots copy slots).Follows true x := by
  induction slots generalizing s with
  | nil => exact y
  | cons slot rest ih =>
    unfold State.visitSlots
    dsimp only
    split
    · exact y
    · split
      · split
        · exact State.visitCode_follows _ _ _ _ y
        · exact ih (State.visitCode_follows _ _ _ _ y)
      · exact ih y

theorem State.sweepDue_follows (y : s.Follows live x) : s.sweepDue.Follows live x := by
  unfold State.sweepDue
  split
  · exact y
  · exact State.mapHub_follows y

theorem State.endSweep_follows (y : s.Follows live x) : s.endSweep.Follows live x := by
  unfold State.endSweep
  dsimp only
  split
  · exact State.sweepDue_follows (State.mapHub_follows y)
  · exact State.mapHub_follows y

theorem State.boardRead_follows (tag : ReadTag) (bytes : Option (List Byte)) (y : s.Follows true x) :
    (s.boardRead tag bytes).Follows true x := by
  unfold State.boardRead
  split
  · split
    · exact State.endSweep_follows (State.mapHub_follows y)
    · dsimp only
      split
      · exact State.mapHub_follows y
      · exact State.endSweep_follows (State.visitSlots_follows _ _ y)
  · exact y

/-- R183: a board read that fails visits no slot. -/
theorem State.boardRead_failed_follows (tag : ReadTag) (y : s.Follows live x) : (s.boardRead tag none).Follows live x := by
  unfold State.boardRead
  split
  · exact State.endSweep_follows (State.mapHub_follows y)
  · exact y

theorem State.enterAttached_follows (r : RegionHeader) (y : s.Follows live x) : (s.enterAttached r).Follows live x := by
  unfold State.enterAttached
  exact y.tune rfl ⟨rfl, rfl, rfl, rfl⟩

theorem State.headerRead_follows (bytes : Option (List Byte)) (y : s.Follows live x) : (s.headerRead bytes).Follows live x := by
  unfold State.headerRead
  split
  · split
    · exact State.mapHub_follows y
    · dsimp only
      split
      · exact State.enterAttached_follows _ y
      · exact State.mapHub_follows y
  · exact y

theorem State.holdRead_follows (bytes : Option (List Byte)) (y : s.Follows live x) : (s.holdRead bytes).Follows live x := by
  unfold State.holdRead
  split
  · exact State.mapHub_follows y
  · exact State.mapHub_follows y

theorem State.writeControl_follows (value : Word32) (run : Bool) (y : s.Follows live x) : (s.writeControl value run).Follows live x := by
  have z : (s.mapHub (Hub.writeEnables value)).Follows live x := y
  unfold State.writeControl
  dsimp only
  generalize s.mapHub (Hub.writeEnables value) = u at z
  split
  · unfold State.runOne
    split
    · exact State.mapHub_follows z
    · exact State.mapHub_follows z
    · exact State.mapHub_follows (State.leaveStandby_follows z)
    · exact State.mapHub_follows (State.leaveStandby_follows z)
    · exact z
    · exact z
  · unfold State.runZero
    split
    · exact State.mapHub_follows z
    · exact State.detach_follows _ z
    · exact z

theorem State.notify_follows (board pages : Bool) (y : s.Follows live x) : (s.notify board pages).Follows live x := by
  have z : (if board then s.sweepDue else s).Follows live x := by
    split
    · exact State.sweepDue_follows y
    · exact y
  unfold State.notify
  dsimp only
  generalize (if board then s.sweepDue else s) = u at z
  split
  · unfold State.notifyPages
    split
    · exact State.mapHub_follows z
    · exact z
  · exact z

theorem State.writeRegister_follows (offset : Nat) (value : Word32) (y : s.Follows live x) :
    (s.writeRegister offset value).Follows live x := by
  unfold State.writeRegister
  split
  · exact State.mapHub_follows y
  · split
    · exact State.mapHub_follows y
    · split
      · exact State.writeControl_follows _ _ y
      · split
        · exact State.notify_follows _ _ y
        · split
          · exact State.mapHub_follows y
          · exact y

theorem State.portLeave_follows (y : s.Follows live x) : s.portLeave.Follows live x := by
  unfold State.portLeave
  split
  · exact State.detach_follows _ y
  · exact State.leaveStandby_follows y
  · exact State.leaveStandby_follows y
  · exact State.mapHub_follows y
  · exact State.mapHub_follows y
  · exact State.mapHub_follows y

theorem State.readFailed_follows (tag : ReadTag) (before : s.voice.Ruled live) (y : s.Follows live x) :
    (s.readFailed tag).Follows live x := by
  cases tag with
  | voice => exact State.mapVoice_follows (fun _ same => Engine.voiceRead_moves _ _ (same ▸ before)) y
  | block => exact State.mapStage_follows (fun _ h _ => Stage.blockRead_keeps h _ _ _) before y
  | table => exact State.tableRead_follows (.table _) none y
  | keymap => exact State.mapVoice_follows (fun _ _ => Engine.keymapRead_moves _ _) y
  | list => exact State.mapRecorder_follows y
  | board => exact State.boardRead_failed_follows (.board _) y
  | pageHeader => exact State.mapHub_follows y
  | hold => exact State.holdRead_follows none y
  | regionHeader => exact State.headerRead_follows none y

/-! ### The resets (Table 11-2) -/

/-- Table 11-2: a POWER-ON or MAIN reset ends every voice. -/
theorem State.reset_follows (voice : t.voice = .reset) (y : s.Follows live x) : t.Follows live x := by
  unfold State.Follows State.voicing
  rw [voice]
  exact VoiceReach.step y .reset

theorem State.endReset_follows (kind : ResetKind) (inputs : Pins) (y : s.Follows live x) : (s.endReset kind inputs).Follows live x := by
  unfold State.endReset
  dsimp only
  exact State.mapDeck_follows (y.keep rfl rfl)

/-! ### The commands of the lanes, the switches and the rail -/

theorem execManagementReply_follows {lane : Fin 9} {number : Nat} {content : ReplyContent} {body : List Byte} {crc : Byte}
    (e : execManagementReply lane number content body crc s = .next t) (y : s.Follows live x) : t.Follows live x := by
  obtain rfl := Host.Outcome.next.inj e
  split
  · split
    · obtain same | same := s.whenUp_cases (fun s => s.exchangeSucceeds lane _ _)
      · rw [same]; exact State.exchangeSucceeds_follows _ _ _ y
      · rw [same]; exact y
    · exact y
  · split
    · exact State.setScanner_follows _ _ y
    · exact y
  · exact y

theorem execExchangeTimeout_follows {lane : Fin 9} (e : execExchangeTimeout lane s = .next t) (y : s.Follows live x) :
    t.Follows live x := by
  obtain rfl := Host.Outcome.next.inj e
  split
  · split
    · obtain same | same := s.whenUp_cases (fun s => s.retryExchange lane _)
      · rw [same]; exact State.retryExchange_follows _ _ y
      · rw [same]; exact y
    · exact y
  · split
    · split
      · exact State.retryScanner_follows _ _ _ y
      · exact y
    · exact y
  · exact y

theorem execLaneFrame_follows {lane : Fin 9} {bytes : List Byte} (e : execLaneFrame lane bytes s = .next t)
    (before : s.voice.Ruled live) (after : t.voice.Ruled live) (y : s.Follows live x) : t.Follows live x := by
  obtain rfl := Host.Outcome.next.inj e
  refine State.whenUp_follows y after fun after => ?_
  revert after
  split
  · exact fun _ => y
  · dsimp only
    split
    · exact fun after => State.activeFrame_follows _ _ _ before after y
    · split
      · exact fun after => State.awaitedFrame_follows _ _ _ before after y
      · exact fun _ => y
    · exact fun _ => y

end Sys2Proof.Machine
end

section
/-! SUPPORT. Every command follows the moves of the voice engine and the open notes, and the statement that the polyphony limit and the
laws of voices and open notes rest on (R68, R70, R71, R76). -/

namespace Sys2Proof.Machine

variable {live : Bool} {x : Voicing} {s t : State}

/-! ### Every command -/

theorem State.whenUp_follows_of (f : State → State) (one : (f s).Follows live x) (y : s.Follows live x) :
    (s.whenUp f).Follows live x := by
  obtain same | same := s.whenUp_cases f
  · rw [same]; exact one
  · rw [same]; exact y

/-- A rail operation that is carried out when a condition holds. -/
theorem State.deckIf_follows {c : Prop} [Decidable c] {f : Deck → Deck} (y : s.Follows live x) :
    (if c then s.mapDeck f else s).Follows live x := by
  split
  · exact State.mapDeck_follows y
  · exact y

/-- The commands of the rail controller outside the requests (R101 to R117). -/
theorem railCommand_follows {c : Instr} (rail : changes c = railPieces ∨ changes c = .pins :: railPieces) (plain : plainCommand c = true)
    (e : exec c s = .next t) (y : s.Follows live x) : t.Follows live x := by
  cases c with
  | drvEnSettle | quietHoldReached | gateTimeout | pauseTimeout | seatTimeout =>
    obtain rfl := Host.Outcome.next.inj e
    exact State.whenUp_follows_of _ (State.deckIf_follows y) y
  | indexPulse =>
    obtain rfl := Host.Outcome.next.inj e
    exact State.whenUp_follows_of _ (State.mapDeck_follows y) y
  | stepPulse =>
    obtain rfl := Host.Outcome.next.inj e
    exact State.whenUp_follows_of _ (State.deckIf_follows (y.keep rfl rfl)) (y.keep rfl rfl)
  | homeSensorChange | driverFault =>
    obtain rfl := Host.Outcome.next.inj e
    exact State.whenUp_follows_of _ (State.mapDeck_follows (y.keep rfl rfl)) (y.keep rfl rfl)
  | seatedFilterExpiry =>
    obtain rfl := Host.Outcome.next.inj e
    refine State.whenUp_follows_of _ ?_ y
    split
    · exact State.deckIf_follows y
    · exact y
  | _ =>
    first
      | exact absurd plain Bool.false_ne_true
      | exact absurd rail (by simp [changes, railPieces, playPieces, lanePieces, switchPieces])

theorem execFootswitchInputChange_follows {i : Fin 2} {high : Bool} (e : execFootswitchInputChange i high s = .next t)
    (before : s.voice.Ruled live) (y : s.Follows live x) : t.Follows live x := by
  unfold execFootswitchInputChange at e
  split at e
  · rwa [← Host.Outcome.next.inj e]
  · dsimp only at e
    split at e
    · obtain rfl := Host.Outcome.next.inj e
      exact y.keep rfl rfl
    · obtain rfl := Host.Outcome.next.inj e
      exact State.acceptHeld_follows i (.inl before) (y.keep rfl rfl)

/-- Under a gate that is closed before and after, or where LIVE voices may start, every command follows the moves. A board sweep
carries out several requests, between which the gate may open. -/
theorem exec_follows {c : Instr} (e : exec c s = .next t) (before : s.voice.Ruled live) (after : t.voice.Ruled live)
    (alone : live = true ∨ ∀ read outcome, c ≠ .boardReadArrival read outcome) (y : s.Follows live x) : t.Follows live x := by
  cases row : requestOf c with
  | some r =>
    rw [exec_request row] at e
    obtain rfl := Host.Outcome.next.inj e
    exact State.visitSlot_follows s before after y
  | none =>
    cases c with
    | managementReply => exact execManagementReply_follows e y
    | exchangeTimeout => exact execExchangeTimeout_follows e y
    | laneFrame => exact execLaneFrame_follows e before after y
    | footswitchInputChange => exact execFootswitchInputChange_follows e before y
    | firstFrameTimeout =>
      obtain rfl := Host.Outcome.next.inj e
      refine State.whenUp_follows_of _ ?_ y
      split
      · split
        · exact State.stepFails_follows _ y
        · exact y
      · exact y
    | framePeriodEnd =>
      obtain rfl := Host.Outcome.next.inj e
      refine State.whenUp_follows_of _ ?_ y
      split
      · exact State.endPeriod_follows _ y
      · exact y
    | calibWindowEnd =>
      obtain rfl := Host.Outcome.next.inj e
      refine State.whenUp_follows_of _ ?_ y
      split
      · split
        · exact State.finishWindow_follows _ y
        · exact y
      · exact y
    | footswitchDebounceExpiry =>
      obtain rfl := Host.Outcome.next.inj e
      split
      · exact y
      · exact State.acceptHeld_follows _ (.inl before) y
    | outputSamplePeriod =>
      obtain rfl := Host.Outcome.next.inj e
      refine State.whenUp_follows_of _ ?_ y
      split
      · exact State.samplePeriod_follows before y
      · exact y
    | cutFadeEnd k =>
      obtain rfl := Host.Outcome.next.inj e
      exact State.whenUp_follows_of _ (State.mapVoice_follows (fun _ same => Engine.endFade_moves k (same ▸ before)) y) y
    | drvEnSettle | quietHoldReached | gateTimeout | pauseTimeout | seatedFilterExpiry | seatTimeout | indexPulse =>
      exact railCommand_follows (.inl rfl) rfl e y
    | stepPulse | homeSensorChange | driverFault => exact railCommand_follows (.inr rfl) rfl e y
    | mainResetEnd =>
      obtain rfl := Host.Outcome.next.inj e
      split
      · exact State.endReset_follows _ _ y
      · exact y
    | scoreGroupDue =>
      obtain rfl := Host.Outcome.next.inj e
      exact State.whenUp_follows_of _ (State.mapStage_follows (fun _ h _ => Stage.play_keeps h) before y) y
    | waitTimeout =>
      obtain rfl := Host.Outcome.next.inj e
      refine State.whenUp_follows_of _ (State.mapStage_follows (fun _ h p z => ?_) before y) y
      split
      · exact Stage.skipWait_keeps h z
      · exact z
    | takeClockTick =>
      obtain rfl := Host.Outcome.next.inj e
      exact State.whenUp_follows_of _ (State.mapRecorder_follows y) y
    | powerOnReset =>
      obtain rfl := Host.Outcome.next.inj e
      exact State.reset_follows rfl y
    | mainReset =>
      obtain rfl := Host.Outcome.next.inj e
      split
      · exact y
      · exact State.reset_follows rfl y
    | portReset =>
      obtain rfl := Host.Outcome.next.inj e
      exact State.whenUp_follows_of _ (State.mapHub_follows (State.portLeave_follows y)) y
    | registerWrite =>
      obtain rfl := Host.Outcome.next.inj e
      exact State.whenUp_follows_of _ (State.writeRegister_follows _ _ y) y
    | runSet | runClear =>
      obtain rfl := Host.Outcome.next.inj e
      exact State.whenUp_follows_of _ (State.writeControl_follows _ _ y) y
    | standbyShutdownStep =>
      obtain rfl := Host.Outcome.next.inj e
      exact State.whenUp_follows_of _ (State.shutdownStep_follows before y) y
    | wakeDelayExpiry =>
      obtain rfl := Host.Outcome.next.inj e
      split
      · split
        · exact y.keep rfl rfl
        · exact y
      · exact y
    | controlEnableWrite | causeClear | sealPeriodExpiry | waitRereadExpiry =>
      obtain rfl := Host.Outcome.next.inj e
      exact State.whenUp_follows_of _ (State.mapHub_follows y) y
    | notifyPages =>
      obtain rfl := Host.Outcome.next.inj e
      exact State.whenUp_follows_of _ (State.notify_follows _ _ y) y
    | boardReadArrival read outcome =>
      obtain rfl := alone.resolve_right fun other => other read outcome rfl
      obtain rfl := Host.Outcome.next.inj e
      exact State.whenUp_follows_of _ (State.onArrival_follows (fun _ _ _ => State.boardRead_follows _ _ y) y) y
    | tableReadArrival =>
      obtain rfl := Host.Outcome.next.inj e
      exact State.whenUp_follows_of _ (State.onArrival_follows (fun _ _ _ => State.tableRead_follows _ _ y) y) y
    | keymapReadArrival =>
      obtain rfl := Host.Outcome.next.inj e
      refine State.whenUp_follows_of _ (State.onArrival_follows (fun _ _ _ => ?_) y) y
      exact State.mapVoice_follows (fun _ _ => Engine.keymapRead_moves _ _) y
    | voiceReadArrival =>
      obtain rfl := Host.Outcome.next.inj e
      refine State.whenUp_follows_of _ (State.onArrival_follows (fun _ _ _ => ?_) y) y
      exact State.mapVoice_follows (fun _ same => Engine.voiceRead_moves _ _ (same ▸ before)) y
    | blockReadArrival =>
      obtain rfl := Host.Outcome.next.inj e
      refine State.whenUp_follows_of _ (State.onArrival_follows (fun _ _ _ => ?_) y) y
      split
      · exact State.mapStage_follows (fun _ h _ => Stage.blockRead_keeps h _ _ _) before y
      · exact y
    | listReadArrival =>
      obtain rfl := Host.Outcome.next.inj e
      exact State.whenUp_follows_of _ (State.onArrival_follows (fun _ _ _ => State.mapRecorder_follows y) y) y
    | pageHeaderReadArrival =>
      obtain rfl := Host.Outcome.next.inj e
      exact State.whenUp_follows_of _ (State.onArrival_follows (fun _ _ _ => State.mapHub_follows y) y) y
    | headerReadArrival =>
      obtain rfl := Host.Outcome.next.inj e
      exact State.whenUp_follows_of _ (State.onArrival_follows (fun _ _ _ => State.headerRead_follows _ y) y) y
    | holdReadArrival =>
      obtain rfl := Host.Outcome.next.inj e
      exact State.whenUp_follows_of _ (State.onArrival_follows (fun _ _ _ => State.holdRead_follows _ y) y) y
    | readTimeout =>
      obtain rfl := Host.Outcome.next.inj e
      refine State.whenUp_follows_of _ ?_ y
      split
      · exact State.readFailed_follows (s := { s with hub := _ }) _ before y
      · exact y
    | _ =>
      first
        | exact (exec_work rfl e).follows (by simp [changes]) y
        | cases row

/-! ### The laws -/

/-- `VoiceLaws` in the words of the voice engine and the open notes. -/
theorem voiceLaws_iff : VoiceLaws s ↔ s.voicing.Lawful :=
  ⟨fun l => ⟨l.openNote, l.openEntry, l.pairs, l.entries, l.waiting⟩,
    fun l => ⟨l.openNote, l.openEntry, l.pairs, l.entries, l.waiting⟩⟩

/-- R70: the gate is closed to LIVE notes. -/
theorem VoiceEngine.ruled_of_closed {ve : VoiceEngine} (closed : ve.policy = .never ∨ (ve.policy = .silentOnly ∧ ve.atSilent = false)) :
    ve.Ruled live := by
  right
  unfold VoiceEngine.gateAllows
  obtain never | ⟨silentOnly, loud⟩ := closed
  · rw [never]
  · rw [silentOnly]; exact loud

/-- One step follows the moves, LIVE voices among them. -/
theorem step_follows (e : step s = .next t) : VoiceReach true s.voicing t.voicing := by
  unfold step at e
  split at e
  · next c rest _ =>
    exact exec_follows (s := { s with pending := rest }) e (.always _) (.always _) (.inl rfl) (.refl s)
  · obtain rfl := Host.Outcome.next.inj e
    unfold State.tick
    exact State.whenUp_follows_of _ (State.Follows.keep (.refl s) rfl rfl) (State.Follows.keep (.refl s) rfl rfl)

end Sys2Proof.Machine

open Sys2Proof Sys2Proof.Machine

/-- Settles O10: every step is made of moves that keep the polyphony limit and the laws of voices and open notes, and a command before
and after which the gate is closed to LIVE notes is made of moves that start no LIVE voice. -/
theorem stepKeepsThePolyphonyLimit : Obligations.StepKeepsThePolyphonyLimit := by
  unfold Obligations.StepKeepsThePolyphonyLimit
  refine ⟨fun s t limit e => (step_follows e).polyphony limit, fun s t laws e => ?_, fun c s t e alone before after k => ?_⟩
  · exact voiceLaws_iff.mpr ((step_follows e).lawful (voiceLaws_iff.mp laws))
  · have reach := exec_follows (live := false) e (VoiceEngine.ruled_of_closed before) (VoiceEngine.ruled_of_closed after) (.inr alone) (.refl s)
    exact VoiceReach.liveFrom reach k
end

section
/-! SUPPORT. The choice of a record by rank (R66, R75; log 52): the record that no other beats, and of equal ones the lowest-numbered. -/

namespace Sys2Proof.Machine

/-- An order of rank between voices: of two that are not of equal rank one beats the other, and equal rank is transitive. -/
structure RanksVoices (beats : Voice → Voice → Bool) : Prop where
  asymm : ∀ a b, beats a b = true → beats b a = false
  between : ∀ a b c, beats a c = true → beats a b = true ∨ beats b c = true

/-- The choice of `VoiceEngine.best` among some records. -/
def VoiceEngine.bestOf (p : Voice → Bool) (beats : Voice → Voice → Bool) (ve : VoiceEngine) (l : List (Fin 96)) : Option (Fin 96) :=
  l.foldl (fun found k =>
    if p (ve.get k) then
      match found with
      | none => some k
      | some b => if beats (ve.get k) (ve.get b) then some k else some b
    else found) none

variable {p : Voice → Bool} {beats : Voice → Voice → Bool} {ve : VoiceEngine} {k : Fin 96} {l : List (Fin 96)}

theorem VoiceEngine.best_eq (p : Voice → Bool) (beats : Voice → Voice → Bool) (ve : VoiceEngine) :
    ve.best p beats = ve.bestOf p beats (List.finRange 96) := rfl

section
variable (l) (k)

theorem VoiceEngine.bestOf_snoc_of_not (other : p (ve.get k) = false) : ve.bestOf p beats (l ++ [k]) = ve.bestOf p beats l := by
  rw [VoiceEngine.bestOf, List.foldl_append, List.foldl_cons, List.foldl_nil, if_neg (by rw [other]; decide)]
  rfl

theorem VoiceEngine.bestOf_snoc_of_none (own : p (ve.get k) = true) (none_ : ve.bestOf p beats l = none) :
    ve.bestOf p beats (l ++ [k]) = some k := by
  unfold VoiceEngine.bestOf at none_ ⊢
  rw [List.foldl_append, none_, List.foldl_cons, List.foldl_nil, if_pos own]

theorem VoiceEngine.bestOf_snoc_of_some {b : Fin 96} (own : p (ve.get k) = true) (some_ : ve.bestOf p beats l = some b) :
    ve.bestOf p beats (l ++ [k]) = if beats (ve.get k) (ve.get b) then some k else some b := by
  unfold VoiceEngine.bestOf at some_ ⊢
  rw [List.foldl_append, some_, List.foldl_cons, List.foldl_nil, if_pos own]

end

/-- Record `k` has the property, no record of the list with the property beats it, and it stands before those of equal rank. -/
structure VoiceEngine.Best (p : Voice → Bool) (beats : Voice → Voice → Bool) (ve : VoiceEngine) (l : List (Fin 96)) (k : Fin 96) :
    Prop where
  mem : k ∈ l
  own : p (ve.get k) = true
  unbeaten : ∀ j ∈ l, p (ve.get j) = true → beats (ve.get j) (ve.get k) = false
  first : ∀ j ∈ l, p (ve.get j) = true → beats (ve.get k) (ve.get j) = false → k ≤ j

theorem VoiceEngine.bestOf_cases (ranks : RanksVoices beats) (sorted : l.Pairwise (· < ·)) :
    (ve.bestOf p beats l = none ∧ ∀ j ∈ l, p (ve.get j) = false) ∨ ∃ k, ve.bestOf p beats l = some k ∧ ve.Best p beats l k := by
  induction l using List.reverseRecOn with
  | nil => exact .inl ⟨rfl, fun j mem => absurd mem List.not_mem_nil⟩
  | append_singleton l k ih =>
    obtain ⟨before, -, below⟩ := List.pairwise_append.mp sorted
    have lower : ∀ j ∈ l, j < k := fun j mem => below j mem k List.mem_cons_self
    by_cases own : p (ve.get k) = true
    · obtain ⟨none_, others⟩ | ⟨b, some_, best⟩ := ih before
      · refine .inr ⟨k, VoiceEngine.bestOf_snoc_of_none k l own none_, by simp, own, fun j mem has => ?_, fun j mem has _ => ?_⟩
        · obtain among | rfl := List.mem_append.mp mem |>.imp_right List.mem_singleton.mp
          · exact absurd (others j among ▸ has) Bool.false_ne_true
          · exact Bool.eq_false_of_not_eq_true fun wins => Bool.false_ne_true (ranks.asymm _ _ wins ▸ wins)
        · obtain among | rfl := List.mem_append.mp mem |>.imp_right List.mem_singleton.mp
          · exact absurd (others j among ▸ has) Bool.false_ne_true
          · exact Fin.le_refl _
      · rw [VoiceEngine.bestOf_snoc_of_some k l own some_]
        by_cases wins : beats (ve.get k) (ve.get b) = true
        · refine .inr ⟨k, if_pos wins, by simp, own, fun j mem has => ?_, fun j mem has even => ?_⟩
          · obtain among | rfl := List.mem_append.mp mem |>.imp_right List.mem_singleton.mp
            · refine Bool.eq_false_of_not_eq_true fun ahead => ?_
              obtain back | beaten := ranks.between _ (ve.get j) _ wins
              · exact Bool.false_ne_true (ranks.asymm _ _ ahead ▸ back)
              · exact Bool.false_ne_true (best.unbeaten j among has ▸ beaten)
            · exact Bool.eq_false_of_not_eq_true fun ahead => Bool.false_ne_true (ranks.asymm _ _ ahead ▸ ahead)
          · obtain among | rfl := List.mem_append.mp mem |>.imp_right List.mem_singleton.mp
            · obtain ahead | beaten := ranks.between _ (ve.get j) _ wins
              · exact absurd (even ▸ ahead) Bool.false_ne_true
              · exact absurd (best.unbeaten j among has ▸ beaten) Bool.false_ne_true
            · exact Fin.le_refl _
        · refine .inr ⟨b, if_neg wins, List.mem_append_left _ best.mem, best.own, fun j mem has => ?_, fun j mem has even => ?_⟩
          · obtain among | rfl := List.mem_append.mp mem |>.imp_right List.mem_singleton.mp
            · exact best.unbeaten j among has
            · exact Bool.eq_false_of_not_eq_true wins
          · obtain among | rfl := List.mem_append.mp mem |>.imp_right List.mem_singleton.mp
            · exact best.first j among has even
            · exact Fin.le_of_lt (lower b best.mem)
    · have other := Bool.eq_false_of_not_eq_true own
      rw [VoiceEngine.bestOf_snoc_of_not k l other]
      refine (ih before).imp (fun ⟨none_, others⟩ => ⟨none_, fun j mem => ?_⟩)
        fun ⟨b, some_, best⟩ => ⟨b, some_, List.mem_append_left _ best.mem, best.own, fun j mem has => ?_, fun j mem has even => ?_⟩
      · obtain among | rfl := List.mem_append.mp mem |>.imp_right List.mem_singleton.mp
        · exact others j among
        · exact other
      · obtain among | rfl := List.mem_append.mp mem |>.imp_right List.mem_singleton.mp
        · exact best.unbeaten j among has
        · exact absurd has own
      · obtain among | rfl := List.mem_append.mp mem |>.imp_right List.mem_singleton.mp
        · exact best.first j among has even
        · exact absurd has own

theorem VoiceEngine.best_eq_none (ranks : RanksVoices beats) : ve.best p beats = none ↔ ∀ j, p (ve.get j) = false := by
  rw [VoiceEngine.best_eq]
  obtain ⟨none_, others⟩ | ⟨k, some_, best⟩ := VoiceEngine.bestOf_cases (ve := ve) (p := p) ranks (List.pairwise_lt_finRange 96)
  · exact ⟨fun _ j => others j (List.mem_finRange j), fun _ => none_⟩
  · rw [some_]
    exact ⟨nofun, fun none_ => absurd (none_ k ▸ best.own) Bool.false_ne_true⟩

theorem VoiceEngine.best_of_eq_some (ranks : RanksVoices beats) (chosen : ve.best p beats = some k) :
    ve.Best p beats (List.finRange 96) k := by
  rw [VoiceEngine.best_eq] at chosen
  obtain ⟨none_, -⟩ | ⟨j, some_, best⟩ := VoiceEngine.bestOf_cases (ve := ve) (p := p) ranks (List.pairwise_lt_finRange 96)
  · rw [none_] at chosen; cases chosen
  · rw [some_] at chosen
    exact Option.some.inj chosen ▸ best

/-- The record that beats all others with the property is chosen. -/
theorem VoiceEngine.best_eq_some (ranks : RanksVoices beats) (own : p (ve.get k) = true)
    (wins : ∀ j, p (ve.get j) = true → j ≠ k → beats (ve.get k) (ve.get j) = true) : ve.best p beats = some k := by
  rw [VoiceEngine.best_eq]
  obtain ⟨-, others⟩ | ⟨j, some_, best⟩ := VoiceEngine.bestOf_cases (ve := ve) (p := p) ranks (List.pairwise_lt_finRange 96)
  · exact absurd (others k (List.mem_finRange k) ▸ own) Bool.false_ne_true
  · rw [some_]
    by_cases same : j = k
    · rw [same]
    · have beaten := best.unbeaten k (List.mem_finRange k) own
      exact absurd (beaten ▸ wins j best.own same) Bool.false_ne_true

/-! ### The orders of R66 and R75 -/

theorem ranksVoices_cutNumber : RanksVoices fun a b => a.cutNumber < b.cutNumber where
  asymm a b wins := by simp only [decide_eq_true_eq, decide_eq_false_iff_not] at wins ⊢; omega
  between a b c wins := by simp only [decide_eq_true_eq] at wins ⊢; omega

theorem ranksVoices_startTime : RanksVoices fun a b => a.startTime < b.startTime where
  asymm a b wins := by simp only [decide_eq_true_eq, decide_eq_false_iff_not] at wins ⊢; omega
  between a b c wins := by simp only [decide_eq_true_eq] at wins ⊢; omega

theorem Voice.quieter_iff {a b : Voice} :
    a.quieter b = true ↔ b.level < a.level ∨ a.level = b.level ∧ a.startTime < b.startTime := by
  simp [Voice.quieter]

theorem ranksVoices_quieter : RanksVoices Voice.quieter where
  asymm a b wins := by
    rw [← Bool.not_eq_true, Voice.quieter_iff]
    rw [Voice.quieter_iff] at wins
    omega
  between a b c wins := by
    rw [Voice.quieter_iff] at wins ⊢
    rw [Voice.quieter_iff]
    omega

/-! ### The voice to steal (R75) -/

/-- A voice that is being damped. -/
def Voice.damps (v : Voice) : Bool := v.phase == .damping

/-- A voice that sounds with its key up. -/
def Voice.rings (v : Voice) : Bool := v.phase == .sounding && !v.keyDown

/-- R75: the voice to steal is the quietest that is being damped, else the quietest that sounds with its key up, else the oldest. -/
theorem VoiceEngine.victim_cases (ve : VoiceEngine) :
    (∃ k, ve.victim = some k ∧ ve.Best Voice.damps Voice.quieter (List.finRange 96) k) ∨
    (∃ k, ve.victim = some k ∧ (∀ j, (ve.get j).damps = false) ∧ ve.Best Voice.rings Voice.quieter (List.finRange 96) k) ∨
    (∃ k, ve.victim = some k ∧ (∀ j, (ve.get j).damps = false) ∧ (∀ j, (ve.get j).rings = false) ∧
      ve.Best (fun v => v.phase == .sounding) (fun a b => a.startTime < b.startTime) (List.finRange 96) k) ∨
    (ve.victim = none ∧ ∀ j, (ve.get j).alive = false) := by
  unfold VoiceEngine.victim
  split
  · next k damps => exact .inl ⟨k, rfl, VoiceEngine.best_of_eq_some ranksVoices_quieter damps⟩
  · next still =>
    have noDamping := (VoiceEngine.best_eq_none ranksVoices_quieter).mp still
    split
    · next k rings => exact .inr (.inl ⟨k, rfl, noDamping, VoiceEngine.best_of_eq_some ranksVoices_quieter rings⟩)
    · next held =>
      have noRinging := (VoiceEngine.best_eq_none ranksVoices_quieter).mp held
      cases oldest : ve.best (fun v => v.phase == .sounding) (fun a b => a.startTime < b.startTime) with
      | some k =>
        exact .inr (.inr (.inl ⟨k, rfl, noDamping, noRinging, VoiceEngine.best_of_eq_some ranksVoices_startTime oldest⟩))
      | none =>
        refine .inr (.inr (.inr ⟨rfl, fun j => ?_⟩))
        have silent := (VoiceEngine.best_eq_none ranksVoices_startTime).mp oldest j
        unfold Voice.alive
        rw [silent, noDamping j]
        rfl

theorem VoiceEngine.victim_alive (stolen : ve.victim = some k) : (ve.get k).alive = true := by
  obtain ⟨j, some_, best⟩ | ⟨j, some_, -, best⟩ | ⟨j, some_, -, -, best⟩ | ⟨none_, -⟩ := ve.victim_cases
  · rw [Option.some.inj (stolen.symm.trans some_), Voice.alive_iff]
    exact .inr (eq_of_beq best.own)
  · rw [Option.some.inj (stolen.symm.trans some_), Voice.alive_iff]
    exact .inl (eq_of_beq (Bool.and_eq_true_iff.mp best.own).1)
  · rw [Option.some.inj (stolen.symm.trans some_), Voice.alive_iff]
    exact .inl (eq_of_beq best.own)
  · rw [none_] at stolen; cases stolen

end Sys2Proof.Machine
end

section
/-! SUPPORT. The data that voice reads bring (R79, R80, R82, R192), and the theft of one voice (R75). -/

namespace Sys2Proof.Machine

variable {s : State} {e : Engine} {k : Fin 96}

/-! ### The theft of one voice (R75) -/

theorem Engine.steal_of_filled (alive : (e.2.get k).alive = true) (filled : (e.2.get k).firstFill = false) :
    e.steal k = (e.1, { e.2.faded k with steals := e.2.steals + 1 }) := by
  rw [Engine.steal, Engine.cutVoice_of_filled alive filled]
  rfl

theorem Engine.steal_of_awaiting (alive : (e.2.get k).alive = true) (awaits : (e.2.get k).firstFill = true) :
    e.steal k = (e.1.dropReads (ReadTag.ofVoice k), { e.2.freed k with steals := e.2.steals + 1 }) := by
  rw [Engine.steal, Engine.cutVoice_of_awaiting alive awaits]
  rfl

/-- R83: the record of a dropped entry, with the flag of its source. -/
theorem Engine.drop_eq (key : Fin 88) (source : Source) (velocity reason : Nat) (e : Engine) :
    e.drop key source velocity reason =
      (e.1.note .voice key.val velocity 0 reason { playback := decide (source = .playback) }, { e.2 with drops := e.2.drops + 1 }) := rfl

/-! ### What a voice read brings (R79, R80, R82) -/

section
variable {start : Word16} {part : Fin 2} (target : FillTarget)

theorem Engine.voiceRead_of_other (bytes : Option (List Byte)) (other : (e.2.get k).inUse = false ∨ (e.2.get k).startNumber ≠ start) :
    e.voiceRead (.voice k start target part) bytes = e := by
  have not : ((e.2.get k).inUse && (e.2.get k).startNumber == start) = false := by
    obtain free | restarted := other
    · rw [free, Bool.false_and]
    · rw [beq_eq_false_iff_ne.mpr restarted, Bool.and_false]
  unfold Engine.voiceRead
  dsimp only
  rw [if_neg (by rw [not]; decide)]

theorem Engine.voiceRead_of_failed (used : (e.2.get k).inUse = true) (own : (e.2.get k).startNumber = start) :
    e.voiceRead (.voice k start target part) none = Engine.release k
      (e.onHub fun h => h.noteVoice (e.2.get k).key (e.2.get k).velocity (e.2.get k).source 2 0) := by
  rw [Engine.voiceRead]
  rw [if_pos (by rw [used, own, beq_self_eq_true]; rfl)]

/-- R79, R80: what the bytes of a read make of the voice that asked for them. -/
def Voice.fed (part : Fin 2) (bytes : List Byte) (v : Voice) : FillTarget → Voice
  | .first => v.firstFilled bytes
  | .half false => { v with halfA := v.halfA.receive part.val bytes }
  | .half true => { v with halfB := v.halfB.receive part.val bytes }

theorem Engine.voiceRead_of_data (bytes : List Byte) (used : (e.2.get k).inUse = true) (own : (e.2.get k).startNumber = start) :
    e.voiceRead (.voice k start target part) (some bytes) = (e.1, e.2.put k ((e.2.get k).fed part bytes target)) := by
  unfold Engine.voiceRead
  dsimp only
  rw [if_pos (by rw [used, own, beq_self_eq_true]; rfl)]
  cases target with
  | first => rfl
  | half b => cases b <;> rfl

/-- R82: a voice that goes FREE, and the serving of the queue that follows. -/
theorem Engine.release_of_used (used : (e.2.get k).inUse = true) :
    e.release k = (Engine.settleFor false 256 (e.1.dropReads (ReadTag.ofVoice k), e.2.freed k)) := by
  rw [Engine.release, Engine.freeVoice_of_used used, Engine.settle]

/-- R81, R74: with nothing waiting a freed slot goes to no entry. -/
theorem Engine.release_of_empty (used : (e.2.get k).inUse = true) (none_ : e.2.queue = []) :
    e.release k = (e.1.dropReads (ReadTag.ofVoice k), e.2.freed k) := by
  rw [Engine.release_of_used used]
  exact Engine.settleFor_empty (e := (_, e.2.freed k)) none_

end

/-! ### The row of a voice read (R192) -/

section
variable {id : Nat} {r : Read}

theorem Hub.arrive_error {h : Hub} (out : h.outstandingRead id = some r) (timely : h.now ≤ r.issuedAt + 2000)
    (wanted : r.discarded = false) : h.arrive id .error = ((h.retireRead id).raise .fetch, some (r.tag, none)) := by
  simp only [Hub.arrive, out, if_neg (Nat.not_lt.mpr timely), wanted, Bool.false_eq_true, if_false]

theorem State.onArrival_error {rows : ReadTag → Bool} {handle : ReadTag → Option (List Byte) → State → State}
    (out : s.hub.outstandingRead id = some r) (timely : s.hub.now ≤ r.issuedAt + 2000) (wanted : r.discarded = false)
    (row : rows r.tag = true) :
    s.onArrival rows id .error handle = handle r.tag none { s with hub := (s.hub.retireRead id).raise .fetch } := by
  simp only [State.onArrival, out, row, if_true, Hub.arrive_error out timely wanted]

variable {start : Word16} {target : FillTarget} {part : Fin 2}

theorem exec_voiceRead_data (bytes : List Byte) (up : s.mainUp = true) (out : s.hub.outstandingRead id = some r)
    (timely : s.hub.now ≤ r.issuedAt + 2000) (wanted : r.discarded = false) (tag : r.tag = .voice k start target part) :
    exec (.voiceReadArrival id (.data bytes)) s = .next (State.mapVoice
      (Engine.voiceRead (.voice k start target part) (some (padded r.length bytes))) { s with hub := s.hub.retireRead id }) := by
  have arrived := State.onArrival_data (rows := ReadTag.isVoice) (bytes := bytes)
    (handle := fun tag bytes s => s.mapVoice (Engine.voiceRead tag bytes)) out timely wanted (by rw [tag]; rfl)
  rw [tag] at arrived
  show Host.Outcome.next (s.whenUp _) = _
  rw [State.whenUp_of_up _ _ up, arrived]

theorem exec_voiceRead_error (up : s.mainUp = true) (out : s.hub.outstandingRead id = some r)
    (timely : s.hub.now ≤ r.issuedAt + 2000) (wanted : r.discarded = false) (tag : r.tag = .voice k start target part) :
    exec (.voiceReadArrival id .error) s = .next (State.mapVoice
      (Engine.voiceRead (.voice k start target part) none) { s with hub := (s.hub.retireRead id).raise .fetch }) := by
  have arrived := State.onArrival_error (rows := ReadTag.isVoice)
    (handle := fun tag bytes s => s.mapVoice (Engine.voiceRead tag bytes)) out timely wanted (by rw [tag]; rfl)
  rw [tag] at arrived
  show Host.Outcome.next (s.whenUp _) = _
  rw [State.whenUp_of_up _ _ up, arrived]

theorem State.mapVoice_eq {f : Engine → Engine} {q : Engine} (made : f (s.hub, s.voice) = q) :
    s.mapVoice f = { s with hub := q.1, voice := q.2 } := by
  subst made
  rfl

/-- R79, R80: what a read brings feeds its voice. -/
theorem exec_voiceRead_fed (bytes : List Byte) (up : s.mainUp = true) (out : s.hub.outstandingRead id = some r)
    (timely : s.hub.now ≤ r.issuedAt + 2000) (wanted : r.discarded = false) (tag : r.tag = .voice k start target part)
    (used : (s.voice.get k).inUse = true) (own : (s.voice.get k).startNumber = start) :
    exec (.voiceReadArrival id (.data bytes)) s = .next { s with
      hub := s.hub.retireRead id, voice := s.voice.put k ((s.voice.get k).fed part (padded r.length bytes) target) } := by
  have filled (h : Hub) := Engine.voiceRead_of_data (e := (h, s.voice)) (part := part) target (padded r.length bytes) used own
  rw [exec_voiceRead_data bytes up out timely wanted tag]
  generalize s.hub.retireRead id = h
  exact congrArg Host.Outcome.next (State.mapVoice_eq (s := { s with hub := h }) (filled h))

/-- R82: a read that fails tells of its voice, which goes FREE. -/
theorem State.mapVoice_failed (h : Hub) (used : (s.voice.get k).inUse = true) (own : (s.voice.get k).startNumber = start) :
    State.mapVoice (Engine.voiceRead (.voice k start target part) none) { s with hub := h } =
      let served := Engine.settleFor false 256
        ((h.noteVoice (s.voice.get k).key (s.voice.get k).velocity (s.voice.get k).source 2 0).dropReads (ReadTag.ofVoice k),
          s.voice.freed k)
      { s with hub := served.1, voice := served.2 } :=
  State.mapVoice_eq (s := { s with hub := h }) <|
    (Engine.voiceRead_of_failed (e := (h, s.voice)) (part := part) target used own).trans
      (Engine.release_of_used (e := (_, s.voice)) used)

/-- An engine operation that changes neither the hub nor the engine leaves the state. -/
theorem State.mapVoice_of_same {f : Engine → Engine} (same : f (s.hub, s.voice) = (s.hub, s.voice)) : s.mapVoice f = s := by
  unfold State.mapVoice
  rw [same]

end

end Sys2Proof.Machine

open Sys2Proof Sys2Proof.Machine

/-- Settles O31: one equation for each turn of the serving of the queue, and one for what each outcome of a voice read brings. -/
theorem voiceReadsFillTheirVoice : Obligations.VoiceReadsFillTheirVoice := by
  refine ⟨fun joined n e => ⟨Engine.settleFor_empty, fun p rest k head vacant lower below => ?_, fun full => ?_⟩,
    fun id r bytes s k start target part up out timely wanted tag => ⟨fun used own => ?_, fun other => ?_⟩⟩
  · have first : e.2.firstFree = some k := VoiceEngine.firstFree_eq_some.mpr ⟨vacant, lower⟩
    have served : e.settleFor joined (n + 1) = e.serveOne.settleFor joined n :=
      Engine.settleFor_of_room (by rw [head]; exact List.cons_ne_nil p rest) (VoiceEngine.room_of_firstFree first below)
    refine ⟨fun gated => ?_, fun allowed none_ => ?_, fun allowed some_ => ?_⟩
    · exact served.trans (congrArg (Engine.settleFor joined n) (Engine.serveOne_of_gated head first gated))
    · exact served.trans (congrArg (Engine.settleFor joined n) (Engine.serveOne_of_noZone head first allowed none_))
    · exact served.trans (congrArg (Engine.settleFor joined n) (Engine.serveOne_of_zone head first allowed some_))
  · have full : e.2.room = false := Bool.eq_false_of_not_eq_true fun room => full (VoiceEngine.room_iff.mp room)
    refine ⟨Engine.settleFor_of_still full, fun k may few victim => ⟨fun filled => ?_, fun awaits => ?_⟩⟩
    · exact (Engine.settleFor_of_steal full may few victim).trans
        (congrArg (Engine.settleFor joined n) (Engine.steal_of_filled (VoiceEngine.victim_alive victim) filled))
    · exact (Engine.settleFor_of_steal full may few victim).trans
        (congrArg (Engine.settleFor joined n) (Engine.steal_of_awaiting (VoiceEngine.victim_alive victim) awaits))
  · have data := exec_voiceRead_fed bytes up out timely wanted tag used own
    generalize padded r.length bytes = filling at data ⊢
    refine ⟨fun first => ?_, fun left => ?_, fun right => ?_, ?_⟩
    · subst first
      exact ⟨_, data, by dsimp only; rfl⟩
    · subst left
      exact ⟨_, data, by dsimp only; rfl⟩
    · subst right
      exact ⟨_, data, by dsimp only; rfl⟩
    · rw [exec_voiceRead_error up out timely wanted tag]
      generalize (s.hub.retireRead id).raise .fetch = h
      exact ⟨congrArg Host.Outcome.next (State.mapVoice_failed h used own), fun none_ =>
        Engine.settleFor_empty (e := (Hub.dropReads (ReadTag.ofVoice k) _, s.voice.freed k)) none_⟩
  · have stays (bytes : Option (List Byte)) (h : Hub) :
        State.mapVoice (Engine.voiceRead (.voice k start target part) bytes) { s with hub := h } = { s with hub := h } :=
      State.mapVoice_of_same (s := { s with hub := h }) (Engine.voiceRead_of_other target bytes other)
    rw [exec_voiceRead_data bytes up out timely wanted tag, exec_voiceRead_error up out timely wanted tag, stays, stays]
    exact ⟨⟨_, rfl, rfl⟩, rfl⟩
end

section
/-! SUPPORT. What the cuts and the serving of the queue leave of each record (R64, R74, R75): a CUTTING voice stands, a voice past its
first fill stands or is cut, and a record that is FREE or awaits its first fill never goes to CUTTING. -/

namespace Sys2Proof.Machine

/-- A record that is FREE, or whose voice awaits its first fill. -/
def Voice.Fresh (v : Voice) : Prop := v.phase = .free ∨ v.alive = true ∧ v.firstFill = true

theorem Voice.Fresh.not_cutting {v : Voice} (x : v.Fresh) : v.phase ≠ .cutting := by
  obtain free | ⟨alive, -⟩ := x
  · rw [free]; decide
  · intro cutting
    rw [Voice.alive, cutting] at alive
    exact Bool.false_ne_true alive

/-- What cuts and serving make of a record at sample clock `clock`, the cuts being numbered from `cuts`. -/
structure Voice.ServedTo (clock cuts : Nat) (v w : Voice) : Prop where
  fading : v.phase = .cutting → w = v
  filled : v.alive = true → v.firstFill = false → w = v ∨ ∃ n, cuts ≤ n ∧ w = v.cutAt clock n
  fresh : v.Fresh → w.Fresh

/-- From `a` to `b` voices were cut and entries served, and nothing else. -/
structure VoiceEngine.ServesTo (a b : VoiceEngine) : Prop where
  clock : b.sampleClock = a.sampleClock
  cuts : a.cuts ≤ b.cuts
  queue : b.queue <:+ a.queue
  voice : ∀ k, (a.get k).ServedTo a.sampleClock.toNat a.cuts (b.get k)

theorem Voice.ServedTo.refl (clock cuts : Nat) (v : Voice) : v.ServedTo clock cuts v := ⟨fun _ => rfl, fun _ _ => .inl rfl, id⟩

theorem Voice.cutAt_cutting {v : Voice} (filled : v.firstFill = false) (clock n : Nat) : (v.cutAt clock n).phase = .cutting := by
  rw [Voice.cutAt_of_filled filled]

theorem Voice.ServedTo.trans {clock cuts more : Nat} {u v w : Voice} (x : u.ServedTo clock cuts v) (y : v.ServedTo clock more w)
    (le : cuts ≤ more) : u.ServedTo clock cuts w where
  fading fades := by
    have same := x.fading fades
    exact (y.fading (same ▸ fades)).trans same
  filled alive filled := by
    obtain same | ⟨n, least, cut⟩ := x.filled alive filled
    · subst same
      obtain same | ⟨n, least, cut⟩ := y.filled alive filled
      · exact .inl same
      · exact .inr ⟨n, le.trans least, cut⟩
    · exact .inr ⟨n, least, (y.fading (cut ▸ Voice.cutAt_cutting filled clock n)).trans cut⟩
  fresh new := y.fresh (x.fresh new)

section
variable {a b c : VoiceEngine} {e : Engine} {k : Fin 96}

theorem VoiceEngine.ServesTo.refl (a : VoiceEngine) : a.ServesTo a := ⟨rfl, Nat.le_refl _, List.suffix_refl _, fun _ => .refl _ _ _⟩

theorem VoiceEngine.ServesTo.trans (x : a.ServesTo b) (y : b.ServesTo c) : a.ServesTo c where
  clock := y.clock.trans x.clock
  cuts := x.cuts.trans y.cuts
  queue := y.queue.trans x.queue
  voice k := by
    have later := y.voice k
    rw [x.clock] at later
    exact (x.voice k).trans later x.cuts

/-- A change outside the records, the queue, the clock and the cuts. -/
theorem VoiceEngine.ServesTo.aside (voices : b.voices = a.voices) (queue : b.queue = a.queue) (clock : b.sampleClock = a.sampleClock)
    (cuts : b.cuts = a.cuts) : a.ServesTo b :=
  ⟨clock, cuts.ge, queue ▸ List.suffix_refl _, fun k => by
    rw [VoiceEngine.get_eq, VoiceEngine.get_eq, voices]; exact .refl _ _ _⟩

theorem Engine.cutVoice_serves (k : Fin 96) : e.2.ServesTo (e.cutVoice k).2 := by
  obtain ⟨-, clock, queue, cuts⟩ := e.cutVoice_get k k
  refine ⟨clock, cuts, queue ▸ List.suffix_refl _, fun j => ?_⟩
  rw [(e.cutVoice_get k j).1]
  split
  · next chosen =>
    obtain ⟨rfl, alive⟩ := chosen
    refine ⟨fun fades => ?_, fun _ _ => .inr ⟨_, Nat.le_refl _, rfl⟩, fun new => ?_⟩
    · rw [Voice.alive, fades] at alive; exact absurd alive Bool.false_ne_true
    · obtain free | ⟨-, awaits⟩ := new
      · rw [Voice.alive, free] at alive; exact absurd alive Bool.false_ne_true
      · exact .inl (Voice.cutAt_phase_of_awaiting awaits _ _)
  · exact .refl _ _ _

theorem Engine.cutAll_serves (p : Voice → Bool) : e.2.ServesTo (e.cutAll p).2 := by
  refine List.foldlRecOn (motive := fun u : Engine => e.2.ServesTo u.2) (List.finRange 96) _ (.refl _) fun u y k _ => ?_
  split
  · exact y.trans (Engine.cutVoice_serves k)
  · exact y

/-- R65: a note that starts in a FREE record. -/
theorem Engine.startIn_serves (key : Fin 88) (source : Source) (velocity : Nat) (vacant : (e.2.get k).phase = .free) :
    e.2.ServesTo (e.startIn k key source velocity).2 := by
  refine ⟨rfl, Nat.le_refl _, List.suffix_refl _, fun j => ?_⟩
  rw [Engine.startIn_voice, VoiceEngine.get_put]
  split
  · next same =>
    subst same
    refine ⟨fun fades => ?_, fun alive => ?_, fun _ => .inr ⟨rfl, rfl⟩⟩
    · rw [vacant] at fades; cases fades
    · rw [Voice.alive, vacant] at alive; exact absurd alive Bool.false_ne_true
  · exact .refl _ _ _

theorem Engine.serveOne_serves : e.2.ServesTo e.serveOne.2 := by
  cases queue : e.2.queue with
  | nil => rw [Engine.serveOne, queue]; exact .refl _
  | cons p rest =>
    have taken : e.2.ServesTo { e.2 with queue := rest } :=
      ⟨rfl, Nat.le_refl _, by rw [queue]; exact List.suffix_cons p rest, fun _ => .refl _ _ _⟩
    cases first : e.2.firstFree with
    | none => rw [Engine.serveOne, queue, first]; exact .refl _
    | some k =>
      by_cases allowed : e.2.gateAllows p.source = true
      · by_cases zones : e.2.zoneSet p.key p.source = []
        · rw [Engine.serveOne_of_noZone queue first allowed zones]; exact taken.trans (.aside rfl rfl rfl rfl)
        · rw [Engine.serveOne_of_zone queue first allowed zones]
          exact taken.trans (Engine.startIn_serves (e := (e.1, { e.2 with queue := rest })) _ _ _
            (VoiceEngine.firstFree_eq_some.mp first).1)
      · rw [Engine.serveOne_of_gated queue first (Bool.eq_false_of_not_eq_true allowed)]
        exact taken.trans (.aside rfl rfl rfl rfl)

theorem Engine.settleFor_serves (joined : Bool) (n : Nat) : e.2.ServesTo (e.settleFor joined n).2 := by
  induction n generalizing e with
  | zero => exact .refl _
  | succ n ih =>
    unfold Engine.settleFor
    split
    · exact .refl _
    · split
      · exact Engine.serveOne_serves.trans ih
      · split
        · exact .refl _
        · split
          · split
            · exact .refl _
            · next k _ =>
              have stolen : (e.cutVoice k).2.ServesTo (e.steal k).2 := .aside rfl rfl rfl rfl
              exact ((Engine.cutVoice_serves k).trans stolen).trans ih
          · exact .refl _

theorem Engine.settle_serves (joined : Bool) : e.2.ServesTo (e.settle joined).2 := Engine.settleFor_serves joined 256

/-- R64, R81: a voice that goes FREE leaves the other records, and its own is fresh. -/
theorem Engine.freeVoice_fresh (k : Fin 96) : ((e.freeVoice k).2.get k).Fresh := by
  left
  by_cases used : (e.2.get k).inUse = true
  · rw [Engine.freeVoice_of_used used]; exact VoiceEngine.freed_get_phase k e.2
  · have free := Bool.eq_false_of_not_eq_true used
    rw [Engine.freeVoice_of_free free]
    exact Voice.not_inUse_iff.mp free

/-- R66, R71: a record that was released is FREE or awaits its first fill. -/
theorem Engine.release_fresh (k : Fin 96) : ((e.release k).2.get k).Fresh := by
  have served : (e.freeVoice k).2.ServesTo (e.release k).2 := Engine.settle_serves false
  exact (served.voice k).fresh (Engine.freeVoice_fresh k)

theorem Engine.freeVoice_get_of_ne {j k : Fin 96} (other : j ≠ k) : (e.freeVoice k).2.get j = e.2.get j := by
  by_cases used : (e.2.get k).inUse = true
  · rw [Engine.freeVoice_of_used used]; exact VoiceEngine.freed_get_of_ne other e.2
  · rw [Engine.freeVoice_of_free (Bool.eq_false_of_not_eq_true used)]

theorem Engine.freeVoice_clock (k : Fin 96) :
    (e.freeVoice k).2.sampleClock = e.2.sampleClock ∧ (e.freeVoice k).2.cuts = e.2.cuts ∧ (e.freeVoice k).2.queue = e.2.queue := by
  by_cases used : (e.2.get k).inUse = true
  · rw [Engine.freeVoice_of_used used]; exact ⟨rfl, rfl, rfl⟩
  · rw [Engine.freeVoice_of_free (Bool.eq_false_of_not_eq_true used)]; exact ⟨rfl, rfl, rfl⟩

end

end Sys2Proof.Machine
end

section
/-! SUPPORT. One output sample period (R63, R66, R80, R81, R86, R88, R91): the I2S frame, the output word, and one equation for each way
in which a voice's part in the period can go. -/

namespace Sys2Proof.Machine

/-! ### The output word and its frame (R86 to R88) -/

/-- R88: the word follows the slot's edge by one bit clock, and zeros follow it. -/
theorem slotBit_of_outside (word : BitVec 24) {n : Nat} (outside : n = 0 ∨ 24 < n) : slotBit word n = false := by
  unfold slotBit
  obtain rfl | past := outside
  · rfl
  · rw [BitVec.getMsbD_of_ge word (n - 1) (by omega), Bool.and_false]

/-- R88: most significant bit first. -/
theorem slotBit_of_within (word : BitVec 24) {n : Nat} (least : 1 ≤ n) (most : n ≤ 24) : slotBit word n = word.getLsbD (24 - n) := by
  unfold slotBit
  rw [decide_eq_true least, Bool.true_and, BitVec.getMsbD, decide_eq_true (show n - 1 < 24 by omega), Bool.true_and]
  congr 1
  omega

/-- R86 step 4. -/
theorem clip16_eq (x : Int) : clip16 x = if 32767 < x then 32767 else if x < -32768 then -32768 else x := by
  unfold clip16
  split
  · omega
  · split <;> omega

theorem Output.period_eq (voices click : Int) (o : Output) : o.period voices click =
    let scaled := ((voices + click * 2 ^ 64) * o.stepVolume).tdiv (127 * 2 ^ 64)
    { o with
      current := o.stepVolume, gain := o.stepGain, i2sWord := slotWord ((clip16 scaled * o.stepGain).tdiv 960)
      clips := if clip16 scaled = scaled then o.clips else o.clips + 1 } := by
  unfold Output.period
  simp only [ite_not]

/-! ### The end of fades (R66, log 52) -/

section
variable {e : Engine} {k : Fin 96}

/-- R66: a CUTTING voice whose 240 periods are over. -/
theorem Voice.fadeOver_iff {clock : Nat} {v : Voice} : v.fadeOver clock = true ↔ v.phase = .cutting ∧ v.cutTime + 240 ≤ clock := by
  simp [Voice.fadeOver]

theorem Engine.endFades_of_none (n : Nat) (none_ : ∀ k, (e.2.get k).fadeOver e.2.sampleClock.toNat = false) : e.endFades n = e := by
  cases n with
  | zero => rfl
  | succ n =>
    have nobody : e.2.firstOver = none := (VoiceEngine.best_eq_none ranksVoices_cutNumber).mpr none_
    rw [Engine.endFades, nobody]

/-- Log 52: of the fades that are over, that of the voice cut first ends first. -/
theorem Engine.endFades_of_first (n : Nat) (over_ : (e.2.get k).fadeOver e.2.sampleClock.toNat = true)
    (first : ∀ j, (e.2.get j).fadeOver e.2.sampleClock.toNat = true → j ≠ k → (e.2.get k).cutNumber < (e.2.get j).cutNumber) :
    e.endFades (n + 1) = (e.release k).endFades n := by
  have chosen : e.2.firstOver = some k := VoiceEngine.best_eq_some ranksVoices_cutNumber over_ fun j also other =>
    decide_eq_true (first j also other)
  rw [Engine.endFades, chosen]

theorem Engine.endFade_of_over (over_ : (e.2.get k).fadeOver e.2.sampleClock.toNat = true) : e.endFade k = e.release k := by
  rw [Engine.endFade, if_pos over_]

/-! ### One voice's part (R66, R80, R81) -/

/-- R66: a voice whose cursor and level have moved on. -/
def VoiceEngine.movedVoice (k : Fin 96) (ve : VoiceEngine) : Voice :=
  { ve.get k with
    level := ve.nextLevel ve.sampleClock.toNat (ve.get k), cursor := (ve.get k).zone.wrap ((ve.get k).cursor + 2)
    playPos := (ve.get k).playPos + 2 }

/-- The engine with a voice that has moved on. -/
def Engine.moved (k : Fin 96) (e : Engine) : Engine := (e.1, e.2.put k (e.2.movedVoice k))

/-- R66: a voice plays on: its level stands above the floor, and its sample has not ended. -/
def VoiceEngine.PlaysOn (k : Fin 96) (ve : VoiceEngine) : Prop :=
  ve.nextLevel ve.sampleClock.toNat (ve.get k) < Config.levelFloor ∧
    ¬ ((ve.get k).zone.loopLength = 0 ∧ (ve.get k).zone.length ≤ (ve.get k).zone.wrap ((ve.get k).cursor + 2))

theorem Engine.moved_get : ((e.moved k).2.get k) = e.2.movedVoice k := VoiceEngine.get_put_same k _ e.2

theorem Engine.playVoice_of_silent {sum : Int} (silent : (e.2.get k).phase = .free ∨ (e.2.get k).firstFill = true) :
    Engine.playVoice k (e, sum) = (e, sum) := by
  have not : ((e.2.get k).inUse && !(e.2.get k).firstFill) = false := by
    obtain free | awaits := silent
    · rw [Voice.not_inUse_iff.mpr free, Bool.false_and]
    · rw [awaits, Bool.not_true, Bool.and_false]
  rw [Engine.playVoice]
  exact if_neg (by rw [not]; decide)

theorem Engine.playVoice_of_filled {sum : Int} (used : (e.2.get k).phase ≠ .free) (filled : (e.2.get k).firstFill = false) :
    Engine.playVoice k (e, sum) = (e.advance k, sum + (e.2.get k).sample * attenuation (e.2.get k).level) := by
  rw [Engine.playVoice]
  exact if_pos (by rw [Voice.inUse_iff.mpr used, filled]; rfl)

/-- R66: the ways in which a voice's part ends. -/
theorem Engine.advance_eq (k : Fin 96) (e : Engine) : e.advance k =
    if Config.levelFloor ≤ e.2.nextLevel e.2.sampleClock.toNat (e.2.get k) then
      (if (e.2.get k).phase = .cutting then e.moved k else (e.moved k).release k)
    else if (e.2.get k).zone.loopLength = 0 && (e.2.get k).zone.length ≤ (e.2.get k).zone.wrap ((e.2.get k).cursor + 2) then
      (e.moved k).release k
    else if (e.2.get k).playPos + 2 < (e.2.get k).halves.1.data.length then e.moved k
    else if (e.2.get k).halves.2.state = .full then (e.moved k).refill k
    else (e.moved k).underrun k := rfl

theorem Engine.advance_of_faded (cutting : (e.2.get k).phase = .cutting)
    (floor : Config.levelFloor ≤ e.2.nextLevel e.2.sampleClock.toNat (e.2.get k)) : e.advance k = e.moved k := by
  rw [Engine.advance_eq, if_pos floor, if_pos cutting]

/-- R66, R80: a voice ends at the level floor, if no fade is its end, and at the end of an unlooped sample. -/
theorem Engine.advance_of_end (ends : (e.2.get k).phase ≠ .cutting ∧
        Config.levelFloor ≤ e.2.nextLevel e.2.sampleClock.toNat (e.2.get k) ∨
      e.2.nextLevel e.2.sampleClock.toNat (e.2.get k) < Config.levelFloor ∧ (e.2.get k).zone.loopLength = 0 ∧
        (e.2.get k).zone.length ≤ (e.2.get k).zone.wrap ((e.2.get k).cursor + 2)) : e.advance k = (e.moved k).release k := by
  rw [Engine.advance_eq]
  obtain ⟨alive, floor⟩ | ⟨above, unlooped, past⟩ := ends
  · rw [if_pos floor, if_neg alive]
  · rw [if_neg (Nat.not_le.mpr above), if_pos (by simp [unlooped, past])]

/-- A voice that plays on. -/
theorem Engine.advance_of_playsOn (plays : e.2.PlaysOn k) : e.advance k =
    if (e.2.get k).playPos + 2 < (e.2.get k).halves.1.data.length then e.moved k
    else if (e.2.get k).halves.2.state = .full then (e.moved k).refill k
    else (e.moved k).underrun k := by
  obtain ⟨above, goes⟩ := plays
  rw [Engine.advance_eq, if_neg (Nat.not_le.mpr above), if_neg (by simpa using goes)]

theorem Engine.advance_of_within (plays : e.2.PlaysOn k) (within : (e.2.get k).playPos + 2 < (e.2.get k).halves.1.data.length) :
    e.advance k = e.moved k := by
  rw [Engine.advance_of_playsOn plays, if_pos within]

theorem Engine.advance_of_refill (plays : e.2.PlaysOn k) (out : (e.2.get k).halves.1.data.length ≤ (e.2.get k).playPos + 2)
    (full : (e.2.get k).halves.2.state = .full) : e.advance k = (e.moved k).refill k := by
  rw [Engine.advance_of_playsOn plays, if_neg (Nat.not_lt.mpr out), if_pos full]

theorem Engine.advance_of_underrun (plays : e.2.PlaysOn k) (out : (e.2.get k).halves.1.data.length ≤ (e.2.get k).playPos + 2)
    (empty : (e.2.get k).halves.2.state ≠ .full) : e.advance k = (e.moved k).underrun k := by
  rw [Engine.advance_of_playsOn plays, if_neg (Nat.not_lt.mpr out), if_neg empty]

/-! ### Underruns and refills (R80, R81) -/

theorem Engine.underrun_of_left (left : (e.2.get k).leftBehind = true) : e.underrun k = e.release k := by
  rw [Engine.underrun]
  exact if_pos left

theorem Engine.underrun_of_own (own : (e.2.get k).leftBehind = false) : e.underrun k = Engine.release k
    (e.1.noteVoice (e.2.get k).key (e.2.get k).velocity (e.2.get k).source 1 0, { e.2 with underruns := e.2.underruns + 1 }) := by
  rw [Engine.underrun]
  exact if_neg (by rw [own]; decide)

/-- R80: a voice that has turned to its other half. -/
def Voice.turned (v : Voice) : Voice := { v with playB := !v.playB, playPos := 0 }

/-- R80, R84: nothing is left to read, or the voice was left behind by a detach: the half just left is BLANK. -/
theorem Engine.refill_of_spent
    (spent : (e.2.get k).leftBehind = true ∨ (e.2.get k).zone.loopLength = 0 ∧ (e.2.get k).zone.length ≤ (e.2.get k).fetch) :
    e.refill k = (e.1, e.2.put k ((e.2.get k).turned.setHalf (e.2.get k).playB .blank)) := by
  rw [Engine.refill]
  exact if_pos (by simpa using spent)

/-- R80: the half just left is filled again. -/
theorem Engine.refill_of_more (own : (e.2.get k).leftBehind = false)
    (more : (e.2.get k).zone.loopLength = 0 → (e.2.get k).fetch < (e.2.get k).zone.length) :
    e.refill k =
      let v := e.2.get k
      let reads := v.zone.fillReads v.fetch 256
      (e.1.requestFill k v.startNumber (.half v.playB) (e.2.sampleClock.toNat + v.halves.2.data.length / 2) v.zone.address reads,
        e.2.put k { v.turned.setHalf v.playB (.fillingBy reads.length) with fetch := v.zone.fetchAfter v.fetch 256 }) := by
  rw [Engine.refill]
  exact if_neg (by simpa [own] using more)

/-! ### Offsets in play order (R79, R80) -/

theorem Zone.wrap_eq (z : Zone) (offset : Nat) : z.wrap offset =
    if z.loopLength ≠ 0 ∧ z.loopStart + z.loopLength ≤ offset then z.loopStart + (offset - (z.loopStart + z.loopLength)) else offset := by
  unfold Zone.wrap Zone.playEnd
  by_cases unlooped : z.loopLength = 0
  · simp [unlooped]
  · simp [unlooped]

theorem Zone.fetchAfter_eq (z : Zone) (fetch n : Nat) : z.fetchAfter fetch n =
    if z.loopLength = 0 then min z.length (fetch + n)
    else if z.loopStart + z.loopLength ≤ fetch + n then z.loopStart + (fetch + n - (z.loopStart + z.loopLength)) else fetch + n := by
  unfold Zone.fetchAfter
  split
  · rfl
  · next looped => rw [Zone.wrap_eq]; simp [looped]

end

/-! ### The click (R91) -/

theorem Metronome.clickSample_endClick (m : Metronome) : m.endClick.clickSample = m.clickSample := by
  unfold Metronome.endClick
  split
  · next c click =>
    split
    · next over_ => simp [Metronome.clickSample, click, over_]
    · rfl
  · rfl

/-- R91: a click hands over its sample and has one less to go; one with none to go ends. -/
theorem Metronome.stepClick_endClick (m : Metronome) : m.endClick.stepClick = { m with
    click := match m.click with
      | none => none
      | some c => if c.remaining = 0 then none else some { c with remaining := c.remaining - 1, elapsed := c.elapsed + 1 } } := by
  cases click : m.click with
  | none => simp [Metronome.endClick, Metronome.stepClick, click]
  | some c =>
    by_cases over_ : c.remaining = 0
    · simp [Metronome.endClick, Metronome.stepClick, click, over_]
    · simp [Metronome.endClick, Metronome.stepClick, click, over_]

end Sys2Proof.Machine
end

section
/-! SUPPORT. The rows of the output sample period, the cut fade and the click, and the statement of one output sample period (R63, R66,
R80, R81, R86, R88, R91). -/

namespace Sys2Proof.Machine

variable {s : State} {e : Engine} {k : Fin 96}

/-- R63: the sample clock counts the period. -/
theorem Engine.period_sampleClock (e : Engine) : e.period.1.2.sampleClock = e.2.sampleClock + 1 := by
  have ended : EngineReach true e.2 (e.endFades 96).2 := Engine.endFades_moves 96 (.always _)
  unfold Engine.period
  dsimp only
  generalize e.endFades 96 = e1 at ended ⊢
  generalize counted : ((e1.1, { e1.2 with sampleClock := e1.2.sampleClock + 1 }) : Engine) = u
  have clock : u.2.sampleClock = e.2.sampleClock + 1 := by
    subst counted
    exact congrArg (· + 1) ended.sampleClock
  have played := Engine.playVoices_moves (live := true) (List.finRange 96) (u, 0) (.always _)
  exact played.sampleClock.trans clock

theorem exec_samplePeriod (up : s.mainUp = true) (due : s.samplePeriodDue = true) :
    exec .outputSamplePeriod s = .next s.samplePeriod := by
  show Host.Outcome.next (s.whenUp _) = _
  rw [State.whenUp_of_up _ _ up, if_pos due]

theorem State.samplePeriod_eq (s : State) : s.samplePeriod =
    let p := Engine.period (s.hub, s.voice)
    { s with
      hub := p.1.1, voice := p.1.2, metronome := s.metronome.endClick.stepClick
      output := s.output.period p.2 s.metronome.clickSample } := by
  unfold State.samplePeriod
  dsimp only
  rw [Metronome.clickSample_endClick]

theorem exec_cutFadeEnd (up : s.mainUp = true) (faded : (s.voice.get k).fadeOver s.voice.sampleClock.toNat = true) :
    exec (.cutFadeEnd k) s = .next (s.mapVoice (Engine.release k)) := by
  have ended : s.mapVoice (Engine.endFade k) = s.mapVoice (Engine.release k) := by
    unfold State.mapVoice
    rw [Engine.endFade_of_over (e := (s.hub, s.voice)) faded]
  show Host.Outcome.next (s.whenUp _) = _
  rw [State.whenUp_of_up _ _ up, ended]

theorem exec_clickEnd (up : s.mainUp = true) : exec .clickEnd s = .next { s with metronome := s.metronome.endClick } := by
  show Host.Outcome.next (s.whenUp _) = _
  rw [State.whenUp_of_up _ _ up]

theorem Metronome.endClick_of_over {m : Metronome} {c : Click} (click : m.click = some c) (none_ : c.remaining = 0) :
    m.endClick = { m with click := none } := by
  rw [Metronome.endClick, click]
  exact if_pos none_

/-- R66: the level of a voice after a period, by its phase. -/
theorem VoiceEngine.nextLevel_eq (clock : Nat) (v : Voice) (ve : VoiceEngine) : ve.nextLevel clock v =
    let pedal := (match v.source with
      | .live => ve.livePedals
      | .playback => ve.playbackPedals).damper
    let damping :=
      if pedal ≤ ve.damperFree then ve.dampFull
      else if ve.damperHold ≤ pedal then 0
      else ve.dampFull * (ve.damperHold - pedal) / (ve.damperHold - ve.damperFree)
    match v.phase with
    | .cutting => v.cutLevel + (Config.levelFloor - v.cutLevel) * min 240 (clock - v.cutTime) / 240
    | .damping => v.level + (v.zone.decay + damping) * 240
    | .sounding => v.level + v.zone.decay * 240
    | .free => v.level := by
  unfold VoiceEngine.nextLevel
  cases v.phase with
  | damping => cases v.source <;> rfl
  | _ => rfl

theorem Voice.halves_fst (v : Voice) : v.halves.1 = if v.playB then v.halfB else v.halfA := by
  unfold Voice.halves
  split <;> rfl

theorem Voice.halves_snd (v : Voice) : v.halves.2 = if v.playB then v.halfA else v.halfB := by
  unfold Voice.halves
  split <;> rfl

end Sys2Proof.Machine

open Sys2Proof Sys2Proof.Machine

/-- Settles O30: one equation for each way in which a voice's part in the period goes, and one for each of the output's parts. -/
theorem samplePeriodsMixAndEndFades : Obligations.SamplePeriodsMixAndEndFades := by
  refine ⟨fun word t small => ?_, fun s => ?_, fun voices click o => ?_, fun k e used none_ => ?_, fun n e => ?_, fun e => ?_,
    fun k e sum => ?_, fun s up => ?_⟩
  · refine ⟨?_, ?_, ?_, fun outside => slotBit_of_outside word outside, fun least most => slotBit_of_within word least most⟩
    · simp [i2sFrame]
    · simp only [i2sFrame, beq_iff_eq]; omega
    · simp only [i2sFrame, beq_iff_eq]; omega
  · refine ⟨fun stopped => ?_, fun since running => ?_⟩
    · rw [State.i2sLevels, stopped]; rfl
    · rw [State.i2sLevels, running]
  · rw [Output.period_eq]
    simp only [clip16_eq]
    rfl
  · exact Engine.release_of_empty (Voice.inUse_iff.mpr used) none_
  · refine ⟨fun none_ => Engine.endFades_of_none n fun k => ?_, fun k faded first => ?_⟩
    · exact Bool.eq_false_of_not_eq_true fun faded => none_ k (Voice.fadeOver_iff.mp faded)
    · exact Engine.endFades_of_first n (Voice.fadeOver_iff.mpr faded) fun j also => first j (Voice.fadeOver_iff.mp also)
  · rw [Engine.period]
  · intro v zone played other pedal damping floor level loopEnd cursor moved put ends goesOn
    have levelEq : level = e.2.nextLevel e.2.sampleClock.toNat (e.2.get k) := (VoiceEngine.nextLevel_eq _ _ _).symm
    have cursorEq : cursor = (e.2.get k).zone.wrap ((e.2.get k).cursor + 2) := (Zone.wrap_eq _ _).symm
    have playedEq : played = (e.2.get k).halves.1 := (Voice.halves_fst _).symm
    have otherEq : other = (e.2.get k).halves.2 := (Voice.halves_snd _).symm
    clear_value level cursor played other
    subst levelEq cursorEq playedEq otherEq
    have same : (e.moved k).2.get k = moved := Engine.moved_get
    refine ⟨Engine.playVoice_of_silent, Engine.playVoice_of_filled, Engine.advance_of_end, Engine.advance_of_faded,
      Engine.advance_of_within, fun plays out empty => ⟨fun left => ?_, fun own => ?_⟩,
      fun plays out full => ⟨fun spent => ?_, fun own more => ?_⟩⟩
    · exact (Engine.advance_of_underrun plays out empty).trans (Engine.underrun_of_left (by rw [same]; exact left))
    · rw [Engine.advance_of_underrun plays out empty, Engine.underrun_of_own (by rw [same]; exact own), same]
      rfl
    · rw [Engine.advance_of_refill plays out full, Engine.refill_of_spent (by rw [same]; exact spent), same]
      exact congrArg (Prod.mk e.1) (VoiceEngine.put_put _ _ _ _)
    · intro stop reads fetch
      have fetchEq : fetch = (e.2.get k).zone.fetchAfter (e.2.get k).fetch 256 := (Zone.fetchAfter_eq _ _ _).symm
      clear_value fetch
      subst fetchEq
      rw [Engine.advance_of_refill plays out full, Engine.refill_of_more (by rw [same]; exact own) (by rw [same]; exact more), same]
      exact congrArg (Prod.mk _) (VoiceEngine.put_put _ _ _ _)
  · refine ⟨fun since running due => ?_, fun k cutting faded => ?_, fun c click none_ => ?_⟩
    · refine ⟨?_, Engine.period_sampleClock _⟩
      rw [exec_samplePeriod up (by rw [State.samplePeriodDue, running]; exact decide_eq_true due), State.samplePeriod_eq,
        Metronome.stepClick_endClick]
      rfl
    · refine ⟨_, exec_cutFadeEnd up (Voice.fadeOver_iff.mpr ⟨cutting, faded⟩), ?_, fun none_ => ?_⟩
      · exact (Engine.release_fresh (e := (s.hub, s.voice)) k).not_cutting
      · have used : (s.voice.get k).inUse = true := Voice.inUse_iff.mpr (by rw [VoiceEngine.get_eq, cutting]; decide)
        rw [State.mapVoice_eq (Engine.release_of_empty (e := (s.hub, s.voice)) used none_)]
        rfl
    · rw [exec_clickEnd up, Metronome.endClick_of_over click none_]
end

section
/-! SUPPORT. A note-on, one equation per case (R65, R70 to R75). -/

namespace Sys2Proof.Machine

variable {e : Engine} {ve : VoiceEngine} {k : Fin 96} {key : Fin 88} {source : Source} {velocity : Nat}

/-! ### The gate and the zones (R65, R70) -/

theorem VoiceEngine.gateAllows_iff : ve.gateAllows source = true ↔
    source = .playback ∨ ve.policy = .always ∨ (ve.policy = .silentOnly ∧ ve.atSilent = true) := by
  cases source with
  | playback => simp [VoiceEngine.gateAllows]
  | live => cases policy : ve.policy <;> simp [VoiceEngine.gateAllows, policy]

theorem VoiceEngine.zoneSet_eq (key : Fin 88) (source : Source) (ve : VoiceEngine) : ve.zoneSet key source =
    if (ve.pedalsOf source).soft = true ∧ (ve.keyMap[key]).unaCorda ≠ [] then (ve.keyMap[key]).unaCorda
    else (ve.keyMap[key]).normal := by
  unfold VoiceEngine.zoneSet
  simp

theorem Engine.noteOn_of_refused (refused : e.2.gateAllows source = false ∨ e.2.zoneSet key source = []) :
    e.noteOn key source velocity = e := by
  rw [Engine.noteOn, if_pos]
  obtain gated | none_ := refused
  · simp [gated]
  · simp [none_]

/-- R72: without a FREE record, or at the limit in force, there is no room. -/
theorem VoiceEngine.room_of_full (full : ve.firstFree = none ∨ ve.limit ≤ ve.inUse) : ve.room = false := by
  refine Bool.eq_false_of_not_eq_true fun room => ?_
  obtain ⟨⟨j, free⟩, below⟩ := VoiceEngine.room_iff.mp room
  obtain none_ | most := full
  · exact VoiceEngine.firstFree_eq_none.mp none_ j free
  · exact Nat.not_le.mpr below most

/-! ### What follows the superseding of the pair (R72) -/

section
variable (allowed : e.2.gateAllows source = true) (zones : e.2.zoneSet key source ≠ [])
include allowed zones

theorem Engine.noteOn_of_room (first : (e.supersede key source).2.firstFree = some k)
    (room : (e.supersede key source).2.inUse < (e.supersede key source).2.limit) (none_ : (e.supersede key source).2.queue = []) :
    e.noteOn key source velocity = (e.supersede key source).startIn k key source (e.2.scaleVelocity source velocity) := by
  rw [Engine.noteOn, if_neg (by simp [allowed, zones])]
  dsimp only
  rw [first]
  dsimp only
  rw [if_pos (by simp [room, none_])]

/-- R72: without room the note is dropped where eight entries wait, and joins the queue where fewer do. -/
theorem Engine.noteOn_of_full (full : (e.supersede key source).2.room = false ∨ (e.supersede key source).2.queue ≠ []) :
    e.noteOn key source velocity =
      if 8 ≤ (e.supersede key source).2.queue.length then
        (e.supersede key source).drop key source (e.2.scaleVelocity source velocity) 0
      else ((e.supersede key source).withEntry key source (e.2.scaleVelocity source velocity)).settle true := by
  rw [Engine.noteOn, if_neg (by simp [allowed, zones])]
  dsimp only
  generalize e.supersede key source = u at full ⊢
  cases first : u.2.firstFree with
  | none => rfl
  | some k =>
    dsimp only
    rw [if_neg fun room => ?_]
    · rfl
    · rw [Bool.and_eq_true, decide_eq_true_iff, List.isEmpty_iff] at room
      obtain ⟨below, none_⟩ := room
      obtain full | some_ := full
      · exact Bool.false_ne_true (full.symm.trans (VoiceEngine.room_of_firstFree first below))
      · exact some_ none_

theorem Engine.noteOn_noted : Engine.Noted key source (e.2.scaleVelocity source velocity) (e.supersede key source)
    (e.noteOn key source velocity) := by
  by_cases full : (e.supersede key source).2.room = false ∨ (e.supersede key source).2.queue ≠ []
  · rw [Engine.noteOn_of_full allowed zones full]
    split
    · next most => exact .dropped most
    · next few => exact .joins (Nat.not_le.mp few)
  · obtain ⟨room, none_⟩ := not_or.mp full
    obtain ⟨vacant, below⟩ := VoiceEngine.room_iff.mp (Bool.eq_true_of_not_eq_false room)
    cases first : (e.supersede key source).2.firstFree with
    | none =>
      obtain ⟨j, free⟩ := vacant
      exact absurd free (VoiceEngine.firstFree_eq_none.mp first j)
    | some k =>
      rw [Engine.noteOn_of_room allowed zones first below (not_not.mp none_)]
      exact .starts k first below (not_not.mp none_)

end

/-! ### A pair that has neither a voice nor an entry (R71, R72) -/

/-- R71: no voice of a pair is in use, and no entry of it waits. -/
def VoiceEngine.Absent (key : Fin 88) (source : Source) (ve : VoiceEngine) : Prop :=
  (∀ j, (ve.get j).phase ≠ .free → (ve.get j).ofPair key source = false) ∧ ve.NoEntry key source

theorem Engine.settle_of_still {joined : Bool} (full : e.2.room = false) (enough : e.2.queue.length ≤ e.2.inPhase .cutting) :
    e.settle joined = e := Engine.settleFor_of_still full (.inr (.inl enough))

theorem VoiceEngine.Absent.unqueued (absent : e.2.Absent key source) : e.unqueued key source = e := by
  have kept : e.2.queue.filter (fun p => !(p.key == key && p.source == source)) = e.2.queue := by
    rw [List.filter_eq_self]
    intro p mem
    simpa using not_and_or.mp (absent.2 p mem)
  rw [Engine.unqueued, kept]

theorem VoiceEngine.Absent.fading (absent : ve.Absent key source) : ve.fading key source = [] := by
  rw [VoiceEngine.fading, List.filter_eq_nil_iff]
  intro k _ fades
  obtain ⟨own, cutting⟩ := Bool.and_eq_true_iff.mp fades
  have phase : (ve.get k).phase = .cutting := eq_of_beq cutting
  exact Bool.false_ne_true ((absent.1 k (by rw [phase]; decide)).symm.trans own)

theorem Engine.cutAll_of_none {p : Voice → Bool} (none_ : ∀ j, p (e.2.get j) = false) : e.cutAll p = e := by
  refine List.foldlRecOn (motive := fun u : Engine => u = e) (List.finRange 96) _ rfl fun u same k _ => ?_
  subst same
  rw [if_neg (by rw [none_ k]; decide)]

theorem VoiceEngine.Absent.pairCut (absent : e.2.Absent key source) : e.pairCut key source = e := by
  rw [Engine.pairCut, Engine.unfaded, absent.fading, List.foldl_nil, absent.unqueued]
  refine Engine.cutAll_of_none fun j => ?_
  rw [Bool.and_eq_false_iff]
  by_cases alive : (e.2.get j).alive = true
  · exact .inl (absent.1 j (Voice.inUse_iff.mp (Voice.inUse_of_alive alive)))
  · exact .inr (Bool.eq_false_of_not_eq_true alive)

/-- R71: where nothing of the pair is there, and nothing can be served or stolen, a note-on supersedes nothing. -/
theorem VoiceEngine.Absent.supersede (absent : e.2.Absent key source)
    (still : e.2.queue = [] ∨ e.2.room = false ∧ e.2.queue.length ≤ e.2.inPhase .cutting) : e.supersede key source = e := by
  rw [Engine.supersede_eq, absent.pairCut]
  obtain none_ | ⟨full, enough⟩ := still
  · exact Engine.settleFor_empty none_
  · exact Engine.settle_of_still full enough

theorem VoiceEngine.firstFree_congr {a b : VoiceEngine} (same : ∀ j, (b.get j).phase = .free ↔ (a.get j).phase = .free) :
    b.firstFree = a.firstFree := by
  unfold VoiceEngine.firstFree
  congr 1
  funext j
  rw [Bool.eq_iff_iff, beq_iff_eq, beq_iff_eq]
  exact same j

/-! ### The queue and the theft (R72, R75) -/

theorem VoiceEngine.faded_phase_free_iff (alive : (ve.get k).alive = true) (j : Fin 96) :
    ((ve.faded k).get j).phase = .free ↔ (ve.get j).phase = .free := by
  have edited := (VoiceEngine.faded_edited alive).voice j
  rw [← Voice.not_inUse_iff, ← Voice.not_inUse_iff, edited.inUse]

theorem VoiceEngine.faded_room (alive : (ve.get k).alive = true) : (ve.faded k).room = ve.room := by
  have edited := VoiceEngine.faded_edited alive
  rw [VoiceEngine.room, VoiceEngine.room, edited.inUse_eq, edited.limit,
    VoiceEngine.firstFree_congr (VoiceEngine.faded_phase_free_iff alive)]

theorem VoiceEngine.faded_cutting (alive : (ve.get k).alive = true) :
    (ve.faded k).inPhase .cutting = ve.inPhase .cutting + 1 := by
  have counted := ve.count_put (fun v => v.phase == .cutting) k { ve.get k with
    phase := .cutting, keyDown := false, sostenutoHeld := false, cutTime := ve.sampleClock.toNat, cutLevel := (ve.get k).level
    cutNumber := ve.cuts }
  have before : ((ve.get k).phase == .cutting) = false := by
    rw [Voice.alive_iff] at alive
    obtain sounds | damps := alive
    · rw [sounds]; rfl
    · rw [damps]; rfl
  rw [before] at counted
  exact counted

/-- R72: where as many voices are CUTTING as entries then wait, an entry only joins the queue. -/
theorem Engine.join_of_enough (full : e.2.room = false) (enough : e.2.queue.length < e.2.inPhase .cutting) :
    (e.withEntry key source velocity).settle true = e.withEntry key source velocity :=
  Engine.settle_of_still (e := e.withEntry key source velocity) full
    (by rw [Engine.withEntry, List.length_append]; exact enough)

/-- R72, R75: where one too few is CUTTING, an entry that joins steals one voice. -/
theorem Engine.join_of_steal (full : e.2.room = false) (even : e.2.queue.length = e.2.inPhase .cutting)
    (victim : e.2.victim = some k) (filled : (e.2.get k).firstFill = false) :
    (e.withEntry key source velocity).settle true =
      (e.1, { (e.withEntry key source velocity).2.faded k with steals := e.2.steals + 1 }) := by
  have alive := VoiceEngine.victim_alive victim
  have few : (e.withEntry key source velocity).2.inPhase .cutting < (e.withEntry key source velocity).2.queue.length := by
    show e.2.inPhase .cutting < (e.2.queue ++ [_]).length
    rw [List.length_append, even]
    exact Nat.lt_succ_self _
  have cutting : ((e.withEntry key source velocity).2.faded k).inPhase .cutting = e.2.inPhase .cutting + 1 :=
    VoiceEngine.faded_cutting (ve := (e.withEntry key source velocity).2) alive
  have room : ((e.withEntry key source velocity).2.faded k).room = false :=
    (VoiceEngine.faded_room (ve := (e.withEntry key source velocity).2) alive).trans full
  have stolen := Engine.steal_of_filled (e := e.withEntry key source velocity) alive filled
  rw [Engine.settle, Engine.settleFor_of_steal (n := 255) (e := e.withEntry key source velocity) full (.inl rfl) few victim,
    stolen]
  refine Engine.settleFor_of_still (n := 254)
    (e := (e.1, { (e.withEntry key source velocity).2.faded k with steals := e.2.steals + 1 })) room (.inr (.inl ?_))
  refine Nat.le_trans ?_ cutting.ge
  rw [← even]
  exact (List.length_append ..).le

/-! ### A note-on whose pair is absent (R65, R72, R75) -/

section
variable (allowed : e.2.gateAllows source = true) (zones : e.2.zoneSet key source ≠ []) (absent : e.2.Absent key source)
include allowed zones absent

theorem Engine.noteOn_starts (none_ : e.2.queue = []) (first : e.2.firstFree = some k) (below : e.2.inUse < e.2.limit) :
    e.noteOn key source velocity = e.startIn k key source (e.2.scaleVelocity source velocity) := by
  have same := absent.supersede (.inl none_)
  have started := Engine.noteOn_of_room (velocity := velocity) (k := k) allowed zones
  rw [same] at started
  exact started first below none_

theorem Engine.noteOn_waits (full : e.2.room = false) (enough : e.2.queue.length ≤ e.2.inPhase .cutting) :
    e.noteOn key source velocity =
      if 8 ≤ e.2.queue.length then e.drop key source (e.2.scaleVelocity source velocity) 0
      else (e.withEntry key source (e.2.scaleVelocity source velocity)).settle true := by
  have same := absent.supersede (.inr ⟨full, enough⟩)
  have waits := Engine.noteOn_of_full (velocity := velocity) allowed zones
  rw [same] at waits
  exact waits (.inl full)

theorem Engine.noteOn_drops (full : e.2.room = false) (most : 8 ≤ e.2.queue.length)
    (enough : e.2.queue.length ≤ e.2.inPhase .cutting) :
    e.noteOn key source velocity = e.drop key source (e.2.scaleVelocity source velocity) 0 :=
  (Engine.noteOn_waits allowed zones absent full enough).trans (if_pos most)

theorem Engine.noteOn_joins (full : e.2.room = false) (few : e.2.queue.length < 8)
    (enough : e.2.queue.length < e.2.inPhase .cutting) :
    e.noteOn key source velocity = e.withEntry key source (e.2.scaleVelocity source velocity) :=
  (Engine.noteOn_waits allowed zones absent full enough.le).trans
    ((if_neg (Nat.not_le.mpr few)).trans (Engine.join_of_enough full enough))

theorem Engine.noteOn_steals (full : e.2.room = false) (few : e.2.queue.length < 8)
    (even : e.2.queue.length = e.2.inPhase .cutting) (victim : e.2.victim = some k) (filled : (e.2.get k).firstFill = false) :
    e.noteOn key source velocity = (e.1, { (e.withEntry key source (e.2.scaleVelocity source velocity)).2.faded k with
      steals := e.2.steals + 1 }) :=
  (Engine.noteOn_waits allowed zones absent full even.le).trans
    ((if_neg (Nat.not_le.mpr few)).trans (Engine.join_of_steal full even victim filled))

end

end Sys2Proof.Machine
end

section
/-! SUPPORT. What a note-on makes of the records of its own pair (R71). -/

namespace Sys2Proof.Machine

variable {e u t : Engine} {ve : VoiceEngine} {k : Fin 96} {key : Fin 88} {source : Source} {velocity : Nat}

/-- Reads apart, a note-on serves what follows the superseding of its pair, but for the entry that joins the queue. -/
theorem Engine.Noted.serves (x : Engine.Noted key source velocity u t) (k : Fin 96) :
    (u.2.get k).ServedTo u.2.sampleClock.toNat u.2.cuts (t.2.get k) := by
  cases x with
  | starts j first => exact (Engine.startIn_serves key source velocity (VoiceEngine.firstFree_eq_some.mp first).1).voice k
  | dropped => exact .refl _ _ _
  | joins => exact (Engine.settle_serves (e := u.withEntry key source velocity) true).voice k

/-- R64: a release leaves every other record as the serving of the queue does. -/
theorem Engine.release_voice {j : Fin 96} (other : j ≠ k) :
    (e.release k).2.sampleClock = e.2.sampleClock ∧ e.2.cuts ≤ (e.release k).2.cuts ∧
      (e.2.get j).ServedTo e.2.sampleClock.toNat e.2.cuts ((e.release k).2.get j) := by
  have served : (e.freeVoice k).2.ServesTo (e.release k).2 := Engine.settle_serves false
  obtain ⟨clock, cuts, -⟩ := e.freeVoice_clock k
  have voice := served.voice j
  rw [Engine.freeVoice_get_of_ne other, clock, cuts] at voice
  exact ⟨served.clock.trans clock, cuts ▸ served.cuts, voice⟩

/-- R71: a fading record that is released with others is FREE or awaits its first fill, and the other records are served. -/
theorem Engine.releases_voice (l : List (Fin 96)) (j : Fin 96) :
    (l.foldl (fun e k => e.release k) e).2.sampleClock = e.2.sampleClock ∧
    (j ∉ l → e.2.cuts ≤ (l.foldl (fun e k => e.release k) e).2.cuts ∧
      (e.2.get j).ServedTo e.2.sampleClock.toNat e.2.cuts ((l.foldl (fun e k => e.release k) e).2.get j)) ∧
    (j ∈ l ∨ (e.2.get j).Fresh → ((l.foldl (fun e k => e.release k) e).2.get j).Fresh) := by
  induction l generalizing e with
  | nil => exact ⟨rfl, fun _ => ⟨Nat.le_refl _, .refl _ _ _⟩, fun h => h.resolve_left List.not_mem_nil⟩
  | cons k l ih =>
    obtain ⟨clock, served, fresh⟩ := ih (e := e.release k)
    have clock' : (e.release k).2.sampleClock = e.2.sampleClock :=
      (Engine.settle_serves (e := e.freeVoice k) false).clock.trans (e.freeVoice_clock k).1
    rw [List.foldl_cons]
    refine ⟨clock.trans clock', fun out => ?_, fun h => fresh ?_⟩
    · have other : j ≠ k := List.ne_of_not_mem_cons out
      have out : j ∉ l := List.not_mem_of_not_mem_cons out
      obtain ⟨-, more, one⟩ := Engine.release_voice (e := e) (k := k) other
      obtain ⟨most, rest⟩ := served out
      rw [clock'] at rest
      exact ⟨more.trans most, one.trans rest more⟩
    · by_cases same : j = k
      · subst same; exact .inr (Engine.release_fresh j)
      · exact (h.imp_left fun mem => (List.mem_cons.mp mem).resolve_left same).imp_right
          (Engine.release_voice (e := e) (k := k) same).2.2.fresh

/-- R71: what a note-on makes of a record that is not fading in its pair, before it starts its own voice. -/
theorem Engine.supersede_voice (steady : k ∉ e.2.fading key source) :
    (e.supersede key source).2.sampleClock = e.2.sampleClock ∧ e.2.cuts ≤ (e.supersede key source).2.cuts ∧
      (e.2.get k).ServedTo e.2.sampleClock.toNat e.2.cuts ((e.supersede key source).2.get k) := by
  obtain ⟨clock, served, -⟩ := Engine.releases_voice (e := e.unqueued key source) (e.2.fading key source) k
  obtain ⟨cuts, unfaded⟩ := served steady
  have cut : (e.unfaded key source).2.ServesTo (e.pairCut key source).2 := Engine.cutAll_serves _
  have rest : (e.unfaded key source).2.ServesTo (e.supersede key source).2 := cut.trans (Engine.settle_serves false)
  have later := rest.voice k
  have clock' : (e.unfaded key source).2.sampleClock = e.2.sampleClock := clock
  rw [clock'] at later
  exact ⟨rest.clock.trans clock', cuts.trans rest.cuts, unfaded.trans later cuts⟩

/-- R71: the fading voice of the pair has ended. -/
theorem Engine.supersede_fresh (fades : k ∈ e.2.fading key source) : ((e.supersede key source).2.get k).Fresh := by
  obtain ⟨-, -, fresh⟩ := Engine.releases_voice (e := e.unqueued key source) (e.2.fading key source) k
  have cut : (e.unfaded key source).2.ServesTo (e.pairCut key source).2 := Engine.cutAll_serves _
  have rest : (e.unfaded key source).2.ServesTo (e.supersede key source).2 := cut.trans (Engine.settle_serves false)
  exact (rest.voice k).fresh (fresh (.inl fades))

section
variable (allowed : e.2.gateAllows source = true) (zones : e.2.zoneSet key source ≠ []) (own : (e.2.get k).ofPair key source = true)
include allowed zones own

/-- R71: the alive voice of the pair, past its first fill, goes to CUTTING. -/
theorem Engine.noteOn_cuts (alive : (e.2.get k).alive = true) (filled : (e.2.get k).firstFill = false) :
    ∃ n, e.2.cuts ≤ n ∧ (e.noteOn key source velocity).2.get k = (e.2.get k).cutAt e.2.sampleClock.toNat n := by
  have steady : k ∉ e.2.fading key source := fun mem => by
    obtain ⟨-, fades⟩ := Bool.and_eq_true_iff.mp (List.mem_filter.mp mem).2
    rw [Voice.alive, eq_of_beq fades] at alive
    exact absurd alive Bool.false_ne_true
  obtain ⟨-, -, served⟩ := Engine.supersede_voice steady
  obtain ⟨-, silent, -⟩ := e.supersede_pair key source
  have noted := (Engine.noteOn_noted (velocity := velocity) allowed zones).serves k
  obtain same | ⟨n, least, cut⟩ := served.filled alive filled
  · refine absurd ?_ (silent k)
    rw [VoiceEngine.PairSounds, same, alive, own]
    rfl
  · refine ⟨n, least, (noted.fading ?_).trans cut⟩
    rw [cut]
    exact Voice.cutAt_cutting filled _ _

/-- R71: the fading voice of the pair ends. -/
theorem Engine.noteOn_ends (cutting : (e.2.get k).phase = .cutting) :
    ((e.noteOn key source velocity).2.get k).phase ≠ .cutting := by
  have fades : k ∈ e.2.fading key source :=
    List.mem_filter.mpr ⟨List.mem_finRange k, by rw [own, cutting]; rfl⟩
  have noted := (Engine.noteOn_noted (velocity := velocity) allowed zones).serves k
  exact (noted.fresh (Engine.supersede_fresh fades)).not_cutting

end

end Sys2Proof.Machine
end

section
/-! SUPPORT. The rank of a voice among those to steal (R75), the excess that is cut (R76), and the first read of a note that starts
(R65). -/

namespace Sys2Proof.Machine

variable {e : Engine} {ve : VoiceEngine} {k j : Fin 96} {key : Fin 88} {source : Source} {velocity : Nat}

/-! ### The rank of a voice (R75) -/

/-- R75: the class in which a voice is stolen, the lowest first; 3 is never stolen. -/
def Voice.stealRank (v : Voice) : Nat :=
  match v.phase with
  | .damping => 0
  | .sounding => if v.keyDown then 2 else 1
  | _ => 3

/-- R75: of two records the one whose voice started earlier, ties going to the lower record number. -/
def VoiceEngine.Earlier (ve : VoiceEngine) (k j : Fin 96) : Prop :=
  (ve.get k).startTime < (ve.get j).startTime ∨ ((ve.get k).startTime = (ve.get j).startTime ∧ k ≤ j)

theorem Voice.damps_iff {v : Voice} : v.damps = true ↔ v.stealRank = 0 := by
  unfold Voice.damps Voice.stealRank
  cases v.phase <;> cases v.keyDown <;> decide

theorem Voice.rings_iff {v : Voice} : v.rings = true ↔ v.stealRank = 1 := by
  unfold Voice.rings Voice.stealRank
  cases v.phase <;> cases v.keyDown <;> decide

theorem Voice.sounds_iff {v : Voice} : (v.phase == .sounding) = true ↔ v.stealRank = 1 ∨ v.stealRank = 2 := by
  unfold Voice.stealRank
  cases v.phase <;> cases v.keyDown <;> decide

theorem Voice.stealRank_le (v : Voice) : v.stealRank ≤ 3 := by
  unfold Voice.stealRank
  cases v.phase <;> cases v.keyDown <;> decide

theorem Voice.stealRank_of_not_alive {v : Voice} (silent : v.alive = false) : v.stealRank = 3 := by
  revert silent
  unfold Voice.alive Voice.stealRank
  cases v.phase <;> cases v.keyDown <;> decide

/-- R75: the quietest of some voices, ties going to the earlier. -/
theorem VoiceEngine.Best.quietest {p : Voice → Bool} (best : ve.Best p Voice.quieter (List.finRange 96) k)
    (own : p (ve.get j) = true) :
    (ve.get j).level < (ve.get k).level ∨ ((ve.get j).level = (ve.get k).level ∧ ve.Earlier k j) := by
  have unbeaten := best.unbeaten j (List.mem_finRange j) own
  have first := best.first j (List.mem_finRange j) own
  rw [← Bool.not_eq_true, Voice.quieter_iff] at unbeaten first
  unfold VoiceEngine.Earlier
  by_cases level : (ve.get j).level = (ve.get k).level
  · by_cases start : (ve.get k).startTime = (ve.get j).startTime
    · exact .inr ⟨level, .inr ⟨start, first (by omega)⟩⟩
    · exact .inr ⟨level, .inl (by omega)⟩
  · exact .inl (by omega)

/-- R75: the oldest of some voices. -/
theorem VoiceEngine.Best.oldest {p : Voice → Bool}
    (best : ve.Best p (fun a b => a.startTime < b.startTime) (List.finRange 96) k) (own : p (ve.get j) = true) : ve.Earlier k j := by
  have unbeaten := best.unbeaten j (List.mem_finRange j) own
  have first := best.first j (List.mem_finRange j) own
  simp only [decide_eq_false_iff_not] at unbeaten first
  unfold VoiceEngine.Earlier
  by_cases start : (ve.get k).startTime = (ve.get j).startTime
  · exact .inr ⟨start, first (by omega)⟩
  · exact .inl (by omega)

theorem VoiceEngine.victim_none (none_ : ve.victim = none) (j : Fin 96) : (ve.get j).alive = false := by
  obtain ⟨k, some_, -⟩ | ⟨k, some_, -⟩ | ⟨k, some_, -⟩ | ⟨-, silent⟩ := ve.victim_cases
  · rw [some_] at none_; cases none_
  · rw [some_] at none_; cases none_
  · rw [some_] at none_; cases none_
  · exact silent j

/-- What R75 says of the voice to steal, beside any other record. -/
structure VoiceEngine.StolenFirst (ve : VoiceEngine) (k j : Fin 96) : Prop where
  rank : (ve.get k).stealRank ≤ (ve.get j).stealRank
  quieter : (ve.get j).stealRank = (ve.get k).stealRank → (ve.get k).stealRank < 2 →
    (ve.get j).level < (ve.get k).level ∨ ((ve.get j).level = (ve.get k).level ∧ ve.Earlier k j)
  older : (ve.get j).stealRank = 2 → (ve.get k).stealRank = 2 → ve.Earlier k j

theorem VoiceEngine.victim_first (stolen : ve.victim = some k) :
    (ve.get k).stealRank < 3 ∧ ∀ j, ve.StolenFirst k j := by
  obtain ⟨i, some_, best⟩ | ⟨i, some_, still, best⟩ | ⟨i, some_, still, held, best⟩ | ⟨none_, -⟩ := ve.victim_cases
  · rw [Option.some.inj (stolen.symm.trans some_)]
    have rank := Voice.damps_iff.mp best.own
    refine ⟨by omega, fun j => ⟨by omega, fun same _ => ?_, fun _ two => by omega⟩⟩
    exact best.quietest (Voice.damps_iff.mpr (same.trans rank))
  · rw [Option.some.inj (stolen.symm.trans some_)]
    have rank := Voice.rings_iff.mp best.own
    refine ⟨by omega, fun j => ⟨?_, fun same _ => ?_, fun _ two => by omega⟩⟩
    · have other := mt Voice.damps_iff.mpr (Bool.not_eq_true _ ▸ still j)
      omega
    · exact best.quietest (Voice.rings_iff.mpr (same.trans rank))
  · rw [Option.some.inj (stolen.symm.trans some_)]
    have rank := (Voice.sounds_iff.mp best.own).resolve_left (mt Voice.rings_iff.mpr (Bool.not_eq_true _ ▸ held i))
    refine ⟨by omega, fun j => ⟨?_, fun _ low => by omega, fun two _ => ?_⟩⟩
    · have other := mt Voice.damps_iff.mpr (Bool.not_eq_true _ ▸ still j)
      have other' := mt Voice.rings_iff.mpr (Bool.not_eq_true _ ▸ held j)
      omega
    · exact best.oldest (Voice.sounds_iff.mpr (.inr two))
  · rw [none_] at stolen; cases stolen

/-! ### The excess (R76) -/

theorem Engine.cutExcess_of_none (n : Nat) (none_ : e.2.victim = none) : e.cutExcess n = e := by
  cases n with
  | zero => rfl
  | succ n => rw [Engine.cutExcess, none_]

theorem Engine.cutExcess_of_some (n : Nat) (victim : e.2.victim = some k) :
    e.cutExcess (n + 1) = (e.cutVoice k).cutExcess n := by rw [Engine.cutExcess, victim]

/-- R63: every voice in use is alive or CUTTING. -/
theorem VoiceEngine.inUse_of_silent (silent : ∀ j, (ve.get j).alive = false) : ve.inPhase .cutting = ve.inUse := by
  refine VoiceEngine.count_congr fun j => ?_
  have still := silent j
  revert still
  unfold Voice.alive Voice.inUse
  cases (ve.get j).phase <;> decide

theorem VoiceEngine.cutting_le_inUse (ve : VoiceEngine) : ve.inPhase .cutting ≤ ve.inUse :=
  VoiceEngine.count_le fun j fades => Voice.inUse_iff.mpr (by rw [eq_of_beq fades]; decide)

/-- R76: the excess of voices past their first fill goes to CUTTING, as far as there are voices to cut. -/
theorem Engine.cutExcess_filled (n : Nat) (filled : ∀ j, (e.2.get j).firstFill = false) :
    (e.cutExcess n).2.limit = e.2.limit ∧ (e.cutExcess n).2.inUse = e.2.inUse ∧ (e.cutExcess n).2.queue = e.2.queue ∧
      (e.cutExcess n).2.inPhase .cutting = min e.2.inUse (e.2.inPhase .cutting + n) := by
  induction n generalizing e with
  | zero => exact ⟨rfl, rfl, rfl, (Nat.min_eq_right e.2.cutting_le_inUse).symm⟩
  | succ n ih =>
    cases victim : e.2.victim with
    | none =>
      rw [Engine.cutExcess_of_none _ victim, VoiceEngine.inUse_of_silent (VoiceEngine.victim_none victim)]
      exact ⟨rfl, rfl, rfl, by omega⟩
    | some k =>
      have alive := VoiceEngine.victim_alive victim
      have edited := VoiceEngine.faded_edited alive
      have still (j : Fin 96) : ((e.2.faded k).get j).firstFill = false := by
        by_cases same : j = k
        · rw [same, VoiceEngine.faded_get]; exact filled k
        · rw [VoiceEngine.faded_get_of_ne same]; exact filled j
      rw [Engine.cutExcess_of_some n victim, Engine.cutVoice_of_filled alive (filled k)]
      obtain ⟨limit, used, queue, cutting⟩ := ih (e := (e.1, e.2.faded k)) still
      refine ⟨limit, used.trans edited.inUse_eq, queue, cutting.trans ?_⟩
      show min (e.2.faded k).inUse ((e.2.faded k).inPhase .cutting + n) = _
      rw [edited.inUse_eq, VoiceEngine.faded_cutting alive]
      omega

/-! ### The first read of a note (R65, R79) -/

/-- R79: the first fill of a sample of 512 bytes or more is one read from its start. -/
theorem Engine.startIn_asks {z : Zone} (found : (e.2.zoneSet key source).find? (fun z => velocity ≤ z.top) = some z)
    (long : 512 ≤ z.playEnd) (numbered : e.1.readsNumbered) :
    (e.startIn k key source velocity).1.askedFor e.1.sched.nextReadId
      [(.voice k ((e.2.get k).startNumber + 1) .first 0, z.address, 512)] := by
  have zone : chooseZone (e.2.zoneSet key source) velocity = z := by rw [chooseZone, found]; rfl
  have reads : z.fillReads 0 512 = [(0, 512)] := by rw [Zone.fillReads, if_pos (by omega)]
  have asked : (e.startIn k key source velocity).1 = e.1.requestRead (.voice k ((e.2.get k).startNumber + 1) .first 0) z.address 512
      e.2.sampleClock.toNat := by
    rw [Engine.startIn]
    dsimp only
    rw [zone, reads, Hub.requestFill, BitVec.ofNat_eq_ofNat, BitVec.add_zero]
  rw [asked]
  obtain ⟨⟨r, mem, id⟩, only⟩ := Hub.requestRead_holds (.voice k ((e.2.get k).startNumber + 1) .first 0) z.address 512
    e.2.sampleClock.toNat numbered
  refine ⟨Hub.requestRead_nextReadId .., fun i small => ?_⟩
  obtain rfl : i = 0 := by simpa using small
  obtain ⟨tag, address, length, live⟩ := only r mem id
  exact ⟨r, mem, id, tag, address, length, live⟩

end Sys2Proof.Machine
end

section
/-! SUPPORT. One entry that is served last (R74), the settings of VOICE_CONFIG (R76, R77), the cut of VOICE_CUT (R78), and the answers
of both (R185). -/

namespace Sys2Proof.Machine

variable {e : Engine} {ve : VoiceEngine} {k : Fin 96} {p : PendingStart}

/-! ### One entry that waits (R74) -/

theorem Engine.settle_last {joined : Bool} (head : e.2.queue = [p]) (room : e.2.room = true) (emptied : e.serveOne.2.queue = []) :
    e.settle joined = e.serveOne :=
  (Engine.settleFor_of_room (n := 255) (by rw [head]; exact List.cons_ne_nil p []) room).trans (Engine.settleFor_empty emptied)

/-- R74: the one entry that waits starts where there is room. -/
theorem Engine.settle_last_starts {joined : Bool} (head : e.2.queue = [p]) (first : e.2.firstFree = some k)
    (below : e.2.inUse < e.2.limit) (allowed : e.2.gateAllows p.source = true) (zones : e.2.zoneSet p.key p.source ≠ []) :
    e.settle joined = Engine.startIn k p.key p.source p.velocity (e.1, { e.2 with queue := [] }) := by
  have served := Engine.serveOne_of_zone head first allowed zones
  have settled := Engine.settle_last (joined := joined) head (VoiceEngine.room_of_firstFree first below) (by rw [served]; rfl)
  exact settled.trans served

/-- R74: the one entry that waits is discarded where its gate is closed or its zones are gone. -/
theorem Engine.settle_last_drops {joined : Bool} (head : e.2.queue = [p]) (first : e.2.firstFree = some k)
    (below : e.2.inUse < e.2.limit) (refused : e.2.gateAllows p.source = false ∨ e.2.zoneSet p.key p.source = []) :
    ∃ reason, e.settle joined = Engine.drop p.key p.source p.velocity reason (e.1, { e.2 with queue := [] }) := by
  have settled (emptied : e.serveOne.2.queue = []) :=
    Engine.settle_last (joined := joined) head (VoiceEngine.room_of_firstFree first below) emptied
  by_cases allowed : e.2.gateAllows p.source = true
  · have served := Engine.serveOne_of_noZone head first allowed
      (refused.resolve_left fun gated => Bool.false_ne_true (gated.symm.trans allowed))
    exact ⟨2, (settled (by rw [served]; rfl)).trans served⟩
  · have served := Engine.serveOne_of_gated head first (Bool.eq_false_of_not_eq_true allowed)
    exact ⟨1, (settled (by rw [served]; rfl)).trans served⟩

/-- R74: a freed slot leaves room where the count was within a limit that stands at its target. -/
theorem VoiceEngine.freed_room (used : (ve.get k).inUse = true) (within : ve.inUse ≤ ve.limit) (steady : ve.target = ve.limit) :
    (∃ j, (ve.freed k).firstFree = some j ∧ (j = k ∨ (ve.get j).phase = .free)) ∧ (ve.freed k).inUse < (ve.freed k).limit := by
  have one := VoiceEngine.freed_inUse used
  have limit : (ve.freed k).limit = ve.limit := if_neg (by omega)
  refine ⟨?_, by omega⟩
  cases first : (ve.freed k).firstFree with
  | none => exact absurd (VoiceEngine.freed_get_phase k ve) (VoiceEngine.firstFree_eq_none.mp first k)
  | some j =>
    refine ⟨j, rfl, or_iff_not_imp_left.mpr fun other => ?_⟩
    have free := (VoiceEngine.firstFree_eq_some.mp first).1
    rwa [VoiceEngine.freed_get_of_ne other] at free

/-! ### A note-off (R68) -/

theorem VoiceEngine.noteOff_voice (key : Fin 88) (source : Source) (ve : VoiceEngine) (j : Fin 96) :
    (ve.noteOff key source).get j =
      if (ve.get j).phase ≠ .free ∧ (ve.get j).key = key ∧ (ve.get j).source = source then
        { ve.get j with
          keyDown := false
          phase := if (ve.get j).phase = .sounding ∧ (ve.get j).sostenutoHeld = false then .damping else (ve.get j).phase }
      else ve.get j := by
  have own : ((ve.get j).inUse && (ve.get j).ofPair key source) = true ↔
      (ve.get j).phase ≠ .free ∧ (ve.get j).key = key ∧ (ve.get j).source = source := by
    rw [Bool.and_eq_true, Voice.inUse_iff, Voice.ofPair_iff]
  rw [VoiceEngine.noteOff_get]
  simp only [own, Voice.noteOff, Bool.and_eq_true, beq_iff_eq, Bool.not_eq_true']

/-! ### The settings (R76, R77) -/

/-- R77: the settings of VOICE_CONFIG, with a limit in force. -/
def VoiceEngine.configured (policy : LivePolicy) (a : List Byte) (limit : Nat) (ve : VoiceEngine) : VoiceEngine :=
  { ve with policy := policy, target := u8At a 2, gain := u8At a 3, dampFull := u16At a 4, limit := limit }

section
variable {a : List Byte} {policy : LivePolicy}

theorem Engine.configure_of_clear (clear : bitOf (u8At a 0) 0 = false) : e.configure a = e := by
  rw [Engine.configure, if_neg (by rw [clear]; decide)]

theorem Engine.configure_of_within (set : bitOf (u8At a 0) 0 = true) (code : LivePolicy.ofCode (u8At a 1) = some policy)
    (within : e.2.inUse ≤ u8At a 2) :
    e.configure a = Engine.settle false (e.1, e.2.configured policy a (u8At a 2)) := by
  rw [Engine.configure, if_pos set, code]
  exact if_pos within

theorem Engine.configure_of_empty (set : bitOf (u8At a 0) 0 = true) (code : LivePolicy.ofCode (u8At a 1) = some policy)
    (within : e.2.inUse ≤ u8At a 2) (none_ : e.2.queue = []) : e.configure a = (e.1, e.2.configured policy a (u8At a 2)) := by
  rw [Engine.configure_of_within set code within, Engine.settle]
  exact Engine.settleFor_empty (e := (e.1, e.2.configured policy a (u8At a 2))) none_

theorem Engine.configure_of_excess (set : bitOf (u8At a 0) 0 = true) (code : LivePolicy.ofCode (u8At a 1) = some policy)
    (excess : u8At a 2 < e.2.inUse) : e.configure a =
      Engine.settle false (Engine.cutExcess (e.2.inUse - u8At a 2) (e.1, e.2.configured policy a e.2.inUse)) := by
  rw [Engine.configure, if_pos set, code]
  exact if_neg (Nat.not_le.mpr excess)

theorem EngineReach.target {live : Bool} {x y : VoiceEngine} (r : EngineReach live x y) : y.target = x.target := by
  refine r.induct (P := fun c => c.target = x.target) (fun b c m same => ?_) rfl
  cases m with
  | edit m => exact m.target.trans same
  | free => exact same
  | serve => exact same

/-- R77: what the serving and the cuts that follow leave of the settings. -/
theorem VoiceEngine.configured_kept {limit : Nat} {q : Engine} (reach : EngineReach true (ve.configured policy a limit) q.2)
    (levels : q.levels = (ve.configured policy a limit).levels) :
    q.2.policy = policy ∧ q.2.target = u8At a 2 ∧ q.2.gain = u8At a 3 ∧ q.2.dampFull = u16At a 4 :=
  ⟨reach.gate.1, reach.target, congrArg Prod.fst levels, congrArg Prod.snd levels⟩

theorem Engine.configure_settings (set : bitOf (u8At a 0) 0 = true) (code : LivePolicy.ofCode (u8At a 1) = some policy) :
    (e.configure a).2.policy = policy ∧ (e.configure a).2.target = u8At a 2 ∧ (e.configure a).2.gain = u8At a 3 ∧
      (e.configure a).2.dampFull = u16At a 4 := by
  by_cases within : e.2.inUse ≤ u8At a 2
  · rw [Engine.configure_of_within set code within]
    exact VoiceEngine.configured_kept (limit := u8At a 2) (ve := e.2)
      (Engine.settle_moves (e := (e.1, e.2.configured policy a (u8At a 2))) false (.always _)) (Engine.settle_levels false _)
  · rw [Engine.configure_of_excess set code (Nat.not_le.mp within)]
    refine VoiceEngine.configured_kept (limit := e.2.inUse) (ve := e.2)
      ((Engine.cutExcess_moves (e := (e.1, e.2.configured policy a e.2.inUse)) _).trans
        (Engine.settle_moves false (.always _))) ?_
    exact (Engine.settle_levels false _).trans (Engine.cutExcess_levels _ _)

/-- R76: with nothing waiting, a target below the count cuts its excess of voices past their first fill, and the limit in force is the
count. -/
theorem Engine.configure_cuts (set : bitOf (u8At a 0) 0 = true) (code : LivePolicy.ofCode (u8At a 1) = some policy)
    (excess : u8At a 2 < e.2.inUse) (none_ : e.2.queue = []) (filled : ∀ j, (e.2.get j).firstFill = false) :
    (e.configure a).2.limit = e.2.inUse ∧ (e.configure a).2.inUse = e.2.inUse ∧
      (e.configure a).2.inPhase .cutting = min e.2.inUse (e.2.inPhase .cutting + (e.2.inUse - u8At a 2)) := by
  obtain ⟨limit, used, queue, cutting⟩ := Engine.cutExcess_filled (e := (e.1, e.2.configured policy a e.2.inUse))
    (e.2.inUse - u8At a 2) filled
  rw [Engine.configure_of_excess set code excess, Engine.settle, Engine.settleFor_empty (queue.trans none_)]
  exact ⟨limit, used, cutting⟩

end

/-! ### The cut (R78) -/

/-- No voice of a named source is SOUNDING or DAMPING, and no entry of one waits. -/
def VoiceEngine.Silenced (mask : Nat) (ve : VoiceEngine) : Prop :=
  (∀ k, (ve.get k).alive = true → (ve.get k).source.inMask mask = false) ∧ ∀ p ∈ ve.queue, p.source.inMask mask = false

theorem EngineMove.silenced {live : Bool} {a b : VoiceEngine} {mask : Nat} (m : EngineMove live a b) (x : a.Silenced mask) :
    b.Silenced mask := by
  cases m with
  | edit m =>
    refine ⟨fun k alive => ?_, fun p mem => x.2 p (m.queue.subset mem)⟩
    rw [(m.voice k).source]
    exact x.1 k ((m.voice k).alive alive)
  | free k used =>
    refine ⟨fun j alive => ?_, x.2⟩
    have other : j ≠ k := fun same =>
      Voice.inUse_iff.mp (Voice.inUse_of_alive alive) (by rw [same, VoiceEngine.freed_get_phase])
    rw [VoiceEngine.freed_get_of_ne other] at alive ⊢
    exact x.1 j alive
  | @serve p rest k v head vacant room gate sounds key source =>
    refine ⟨fun j alive => ?_, fun q mem => x.2 q (head ▸ List.mem_cons_of_mem p mem)⟩
    by_cases same : j = k
    · rw [same, VoiceEngine.get_put_same, source]
      exact x.2 p (head ▸ List.mem_cons_self)
    · rw [VoiceEngine.get_put_of_ne same] at alive ⊢
      exact x.1 j alive

/-- R78: the entries of the sources of a mask have left the queue, and their voices are cut. -/
def Engine.sourcesCut (mask : Nat) (e : Engine) : Engine :=
  Engine.cutAll (fun v => v.source.inMask mask && v.alive)
    (e.1, { e.2 with queue := e.2.queue.filter fun p => !p.source.inMask mask })

theorem Engine.cutSources_eq (mask : Nat) (e : Engine) : e.cutSources mask = (e.sourcesCut mask).settle false := rfl

theorem Engine.sourcesCut_voice (mask : Nat) (e : Engine) :
    (∀ k, ((e.2.get k).source.inMask mask && (e.2.get k).alive) = false → (e.sourcesCut mask).2.get k = e.2.get k) ∧
    (∀ k, ((e.2.get k).source.inMask mask && (e.2.get k).alive) = true →
      ∃ n, e.2.cuts ≤ n ∧ (e.sourcesCut mask).2.get k = (e.2.get k).cutAt e.2.sampleClock.toNat n) ∧
    (e.sourcesCut mask).2.queue = e.2.queue.filter fun p => !p.source.inMask mask := by
  obtain ⟨keep, cut, -⟩ := Engine.cutFold_get (fun v => v.source.inMask mask && v.alive)
    (fun v h => (Bool.and_eq_true_iff.mp h).2) (List.finRange 96) (List.nodup_finRange 96)
    (e.1, { e.2 with queue := e.2.queue.filter fun p => !p.source.inMask mask })
  refine ⟨fun k other => keep k (.inr other), fun k own => cut k (List.mem_finRange k) own, ?_⟩
  rw [Engine.sourcesCut, Engine.cutAll_queue]

/-- R78: no voice of a named source sounds on, and none starts. -/
theorem Engine.cutSources_silenced (mask : Nat) (e : Engine) : (e.cutSources mask).2.Silenced mask := by
  obtain ⟨keep, cut, queue⟩ := e.sourcesCut_voice mask
  rw [Engine.cutSources_eq]
  refine EngineReach.induct (live := true) (P := VoiceEngine.Silenced mask) (fun _ _ m => m.silenced)
    (Engine.settle_moves (e := e.sourcesCut mask) false (.always _)) ⟨fun k alive => ?_, fun p mem => ?_⟩
  · by_cases chosen : ((e.2.get k).source.inMask mask && (e.2.get k).alive) = true
    · obtain ⟨n, -, same⟩ := cut k chosen
      rw [same, Voice.cutAt_not_alive] at alive
      exact absurd alive Bool.false_ne_true
    · have other := Bool.eq_false_of_not_eq_true chosen
      rw [keep k other] at alive ⊢
      rwa [alive, Bool.and_true] at other
  · rw [queue] at mem
    simpa using (List.mem_filter.mp mem).2

/-- R78: a voice of a named source that is past its first fill goes to CUTTING. -/
theorem Engine.cutSources_cuts {mask : Nat} (alive : (e.2.get k).alive = true) (named : (e.2.get k).source.inMask mask = true)
    (filled : (e.2.get k).firstFill = false) :
    ∃ n, e.2.cuts ≤ n ∧ (e.cutSources mask).2.get k = (e.2.get k).cutAt e.2.sampleClock.toNat n := by
  obtain ⟨-, cut, -⟩ := e.sourcesCut_voice mask
  obtain ⟨n, least, same⟩ := cut k (by rw [named, alive]; rfl)
  have served := (Engine.settle_serves (e := e.sourcesCut mask) false).voice k
  exact ⟨n, least, (served.fading (by rw [same]; exact Voice.cutAt_cutting filled _ _)).trans same⟩

theorem Engine.cutSources_queue (mask : Nat) (e : Engine) :
    (e.cutSources mask).2.queue <:+ e.2.queue.filter fun p => !p.source.inMask mask := by
  obtain ⟨-, -, queue⟩ := e.sourcesCut_voice mask
  rw [Engine.cutSources_eq, ← queue]
  exact (Engine.settle_serves (e := e.sourcesCut mask) false).queue

/-! ### The answers (R185) -/

theorem Engine.cutExcess_bystanders (n : Nat) (e : Engine) : (e.cutExcess n).bystanders = e.bystanders := by
  induction n generalizing e with
  | zero => rfl
  | succ n ih =>
    unfold Engine.cutExcess
    split
    · rfl
    · rw [ih, Engine.cutVoice_bystanders]

theorem Engine.setTarget_bystanders (target : Nat) (e : Engine) : (e.setTarget target).bystanders = e.bystanders := by
  unfold Engine.setTarget
  dsimp only
  split
  · exact Engine.settle_bystanders false _
  · rw [Engine.settle_bystanders, Engine.cutExcess_bystanders]
    rfl

theorem Engine.configure_bystanders (a : List Byte) (e : Engine) : (e.configure a).bystanders = e.bystanders := by
  unfold Engine.configure
  split
  · exact Engine.setTarget_bystanders _ _
  · rfl

theorem Engine.cutSources_bystanders (mask : Nat) (e : Engine) : (e.cutSources mask).bystanders = e.bystanders := by
  rw [Engine.cutSources_eq, Engine.settle_bystanders, Engine.sourcesCut, Engine.cutAll_bystanders]
  rfl

section
variable {slot : Fin 32} {kind : RequestKind} {tag : Word16} {a data : List Byte} {s : State} {q : Engine}

/-- R184, R185: a request is answered that the voice engine, once it has taken it, completes after work of its own. -/
theorem answered_of_engine (hands : s.hands slot = true) (reach : HubReach (s.handed slot kind tag a).hub q.1)
    (table : q.bystanders = Engine.bystanders ((s.handed slot kind tag a).hub, (s.handed slot kind tag a).voice)) :
    Answered slot tag .ok data s { s with hub := q.1.completeRequest slot .ok data, voice := q.2 } := by
  obtain ⟨-, attached, -, fresh, -⟩ := State.hands_iff.mp hands
  have entry := State.handed_entry (kind := kind) (tag := tag) (args := a) fresh
  rw [← Hub.inFlightEntry_congr (b := q.1) (congrArg Prod.fst table)] at entry
  exact answered_of_completed attached reach entry rfl rfl

/-- R77: the engine and the hub once VOICE_CONFIG is applied. -/
def State.afterConfigure (slot : Fin 32) (tag : Word16) (a : List Byte) (s : State) : Engine :=
  Engine.configure a ((s.handed slot .voiceConfig tag a).hub, (s.handed slot .voiceConfig tag a).voice)

/-- R78: the engine and the hub once VOICE_CUT is applied. -/
def State.afterCut (slot : Fin 32) (tag : Word16) (a : List Byte) (s : State) : Engine :=
  Engine.cutSources (u8At a 0) ((s.handed slot .voiceCut tag a).hub, (s.handed slot .voiceCut tag a).voice)

section
variable (slot tag a s)

theorem State.afterCut_silenced : (s.afterCut slot tag a).2.Silenced (u8At a 0) := Engine.cutSources_silenced _ _

theorem State.afterCut_queue :
    (s.afterCut slot tag a).2.queue <:+ s.voice.queue.filter fun p => !p.source.inMask (u8At a 0) := by
  unfold State.afterCut
  exact Engine.cutSources_queue (u8At a 0) (_, (s.handed slot .voiceCut tag a).voice)

theorem State.afterCut_cuts (alive : (s.voice.get k).alive = true) (named : (s.voice.get k).source.inMask (u8At a 0) = true)
    (filled : (s.voice.get k).firstFill = false) : ∃ n, s.voice.cuts ≤ n ∧
      (s.afterCut slot tag a).2.get k = (s.voice.get k).cutAt s.voice.sampleClock.toNat n := by
  unfold State.afterCut
  exact Engine.cutSources_cuts (e := (_, (s.handed slot .voiceCut tag a).voice)) alive named filled

end

theorem exec_voiceConfig (hands : s.hands slot = true) (fine : refuseVoiceConfig a = none) :
    exec (.voiceConfig slot tag a) s = .next { s with
      hub := (s.afterConfigure slot tag a).1.completeRequest slot .ok (s.afterConfigure slot tag a).2.configResult
      voice := (s.afterConfigure slot tag a).2 } :=
  exec_handed (c := .voiceConfig slot tag a) rfl hands fine

theorem actVoiceCut_eq (slot : Fin 32) (a : List Byte) (s : State) : actVoiceCut slot a s = { s with
    hub := (Engine.cutSources (u8At a 0) (s.hub, s.voice)).1.completeRequest slot .ok
      (le8 (s.voice.count fun v => v.source.inMask (u8At a 0) && v.alive) ++
        le8 (s.voice.queue.countP fun p => p.source.inMask (u8At a 0)))
    voice := (Engine.cutSources (u8At a 0) (s.hub, s.voice)).2 } := by
  unfold actVoiceCut State.mapVoice Engine.onHub
  dsimp only

theorem exec_voiceCut (hands : s.hands slot = true) (fine : refuseVoiceCut a = none) :
    exec (.voiceCut slot tag a) s = .next { s with
      hub := (s.afterCut slot tag a).1.completeRequest slot .ok
        (le8 (s.voice.count fun v => v.source.inMask (u8At a 0) && v.alive) ++
          le8 (s.voice.queue.countP fun p => p.source.inMask (u8At a 0)))
      voice := (s.afterCut slot tag a).2 } :=
  (exec_handed (c := .voiceCut slot tag a) rfl hands fine).trans (congrArg Host.Outcome.next (actVoiceCut_eq slot a _))

theorem voiceConfig_answered (hands : s.hands slot = true) : Answered slot tag .ok data s { s with
    hub := (s.afterConfigure slot tag a).1.completeRequest slot .ok data, voice := (s.afterConfigure slot tag a).2 } :=
  answered_of_engine (kind := .voiceConfig) (a := a) hands (Engine.configure_reach a (.refl _)) (Engine.configure_bystanders a _)

theorem voiceCut_answered (hands : s.hands slot = true) : Answered slot tag .ok data s { s with
    hub := (s.afterCut slot tag a).1.completeRequest slot .ok data, voice := (s.afterCut slot tag a).2 } :=
  answered_of_engine (kind := .voiceCut) (a := a) hands (Engine.cutSources_reach _ (.refl _)) (Engine.cutSources_bystanders _ _)

end

end Sys2Proof.Machine
end

section
open Sys2Proof Sys2Proof.Machine

/-- Settles O29: one equation or one rank for each clause of the note path, and the engine that a request leaves for its answer. -/
theorem voiceRequestsConfigureAndCut : Obligations.VoiceRequestsConfigureAndCut := by
  refine ⟨?noteOn, fun ve => ?victim, fun n e => ?excess, fun k e p used within steady head => ?release,
    fun key source ve => ?noteOff, fun slot tag a s hands => ⟨fun clear => ?report,
      fun policy set code low high gainLow gainHigh dampLow dampHigh => ?settings, fun least most => ?cut⟩⟩
  case noteOn =>
    intro key source velocity e ve pedals zones set allowed scaled after isPair noPair full entry
    have ruled : e.2.gateAllows source = true ↔ allowed := VoiceEngine.gateAllows_iff
    have zonesOf : e.2.zoneSet key source = set := by cases source <;> exact VoiceEngine.zoneSet_eq key _ e.2
    have velocityOf : e.2.scaleVelocity source velocity = scaled := by cases source <;> rfl
    have absentOf (h : noPair) : e.2.Absent key source :=
      ⟨fun j used => Bool.eq_false_of_not_eq_true (mt Voice.ofPair_iff.mp (h.1 j used)), h.2⟩
    clear_value allowed set scaled
    subst zonesOf velocityOf
    refine ⟨fun refused => ?_, fun gate some_ apart none_ k first below => ?_, fun gate some_ k own => ?_,
      fun gate some_ apart crowded => ?_⟩
    · exact Engine.noteOn_of_refused (refused.imp_left fun no => Bool.eq_false_of_not_eq_true (mt ruled.mp no))
    · obtain ⟨free, lower⟩ := VoiceEngine.firstFree_eq_some.mp first
      have started : after = _ := Engine.noteOn_starts (ruled.mpr gate) some_ (absentOf apart) none_ first below
      clear_value after
      subst started
      refine ⟨lower, free, e.2.startedVoice k key source (e.2.scaleVelocity source velocity), rfl, rfl, rfl, rfl, rfl, rfl, rfl,
        rfl, rfl, rfl, rfl, rfl, rfl, fun z found => ⟨?_, fun long numbered => Engine.startIn_asks found long numbered⟩⟩
      exact congrArg (fun z => z.getD .blank) found
    · have pair := Voice.ofPair_iff.mpr own
      refine ⟨fun alive filled => ?_, fun fades => Engine.noteOn_ends (ruled.mpr gate) some_ pair fades⟩
      obtain ⟨n, least, cut⟩ :=
        Engine.noteOn_cuts (velocity := velocity) (ruled.mpr gate) some_ pair ((Voice.alive_iff _).mpr alive) filled
      exact ⟨n, least, cut.trans (Voice.cutAt_of_filled filled _ _)⟩
    · have absent := absentOf apart
      have room := VoiceEngine.room_of_full crowded
      exact ⟨fun most enough => Engine.noteOn_drops (ruled.mpr gate) some_ absent room most enough,
        fun few enough => Engine.noteOn_joins (ruled.mpr gate) some_ absent room few enough,
        fun k few even victim filled => Engine.noteOn_steals (ruled.mpr gate) some_ absent room few even victim filled⟩
  case victim =>
    refine ⟨fun none_ j => Voice.stealRank_of_not_alive (VoiceEngine.victim_none none_ j), fun k stolen => ?_⟩
    obtain ⟨taken, first⟩ := VoiceEngine.victim_first stolen
    exact ⟨taken, fun j => ⟨(first j).rank, (first j).quieter, (first j).older⟩⟩
  case excess =>
    refine ⟨rfl, fun none_ => Engine.cutExcess_of_none n none_, fun k victim => ?_⟩
    have alive := VoiceEngine.victim_alive victim
    have one := Engine.cutExcess_of_some n victim
    exact ⟨fun filled => one.trans (congrArg (Engine.cutExcess n) (Engine.cutVoice_of_filled alive filled)),
      fun awaits => ⟨_, one.trans (congrArg (Engine.cutExcess n) (Engine.cutVoice_of_awaiting alive awaits))⟩⟩
  case release =>
    obtain ⟨⟨j, first, vacant⟩, below⟩ := VoiceEngine.freed_room (Voice.inUse_iff.mpr used) within steady
    have released := Engine.release_of_used (Voice.inUse_iff.mpr used)
    intro after
    refine ⟨fun allowed zones => ?_, fun refused => ?_⟩
    · have started : after = _ := released.trans (Engine.settle_last_starts (e := (_, e.2.freed k)) head first below allowed zones)
      clear_value after
      subst started
      have record := VoiceEngine.get_put_same j ({ e.2.freed k with queue := [] }.startedVoice j p.key p.source p.velocity)
        { e.2.freed k with queue := [] }
      refine ⟨rfl, j, vacant, ?_⟩
      rw [Engine.startIn_voice, ← VoiceEngine.get_eq, record]
      exact ⟨rfl, rfl, rfl, rfl, rfl⟩
    · obtain ⟨reason, dropped⟩ := Engine.settle_last_drops (joined := false)
        (e := (e.1.dropReads (ReadTag.ofVoice k), e.2.freed k)) head first below refused
      have gone : after = _ := released.trans dropped
      clear_value after
      subst gone
      exact ⟨rfl, rfl, VoiceEngine.freed_get_phase k e.2⟩
  case noteOff =>
    refine ⟨fun j => ?_, rfl, by unfold VoiceEngine.noteOff VoiceEngine.eachVoice; rfl⟩
    exact ve.noteOff_voice key source j
  case report =>
    have configured : s.afterConfigure slot tag a = _ := Engine.configure_of_clear clear
    have fine : refuseVoiceConfig a = none := if_neg (by rw [clear]; exact Bool.false_ne_true)
    have voice : (s.afterConfigure slot tag a).2 = s.voice := congrArg Prod.snd configured
    refine ⟨_, exec_voiceConfig hands fine, ?_, ?_⟩
    · rw [← voice]
      exact voiceConfig_answered hands
    · rw [voice]
  case settings =>
    have fine : refuseVoiceConfig a = none := by
      refine if_neg ?_
      simp only [code, Option.isNone_some, Bool.or_false, Bool.and_eq_true, Bool.or_eq_true, decide_eq_true_eq]
      omega
    obtain ⟨policy', target, gain, dampFull⟩ := Engine.configure_settings
      (e := ((s.handed slot .voiceConfig tag a).hub, (s.handed slot .voiceConfig tag a).voice)) set code
    have within (used : s.voice.inUse ≤ u8At a 2) : s.afterConfigure slot tag a = _ := Engine.configure_of_within set code used
    have excess (used : u8At a 2 < s.voice.inUse) : s.afterConfigure slot tag a = _ := Engine.configure_of_excess set code used
    refine ⟨_, exec_voiceConfig hands fine, voiceConfig_answered hands, policy', target, gain, dampFull, ?_⟩
    refine ⟨fun used => ⟨_, congrArg Prod.snd (within used)⟩, fun used => ⟨_, congrArg Prod.snd (excess used)⟩,
      fun none_ => ⟨fun used => ?_, fun used filled => ?_⟩⟩
    · have configured : s.afterConfigure slot tag a = _ := Engine.configure_of_empty set code used none_
      exact congrArg Prod.snd configured
    · exact Engine.configure_cuts (e := ((s.handed slot .voiceConfig tag a).hub, (s.handed slot .voiceConfig tag a).voice))
        set code used none_ filled
  case cut =>
    intro named
    have fine : refuseVoiceCut a = none := if_neg (by simp only [Bool.or_eq_true, decide_eq_true_eq]; omega)
    have taken := exec_voiceCut (tag := tag) hands fine
    have answered := voiceCut_answered (tag := tag) (a := a)
      (data := le8 (s.voice.count fun v => v.source.inMask (u8At a 0) && v.alive) ++
        le8 (s.voice.queue.countP fun p => p.source.inMask (u8At a 0))) hands
    have silenced := s.afterCut_silenced slot tag a
    have queue := s.afterCut_queue slot tag a
    have cuts (k : Fin 96) := s.afterCut_cuts slot tag a (k := k)
    generalize s.afterCut slot tag a = q at taken answered silenced queue cuts
    refine ⟨_, taken, answered, silenced.1, fun k alive own filled => ?_, queue⟩
    obtain ⟨n, least, cut⟩ := cuts k alive own filled
    exact ⟨n, least, cut.trans (Voice.cutAt_of_filled filled _ _)⟩
end
